-- ==== Sys2Proof/Word.lean ====
section
/-!
DEFINITION. Word.lean: the numbers of the block that need no more than a name.
The spec's registers hold unsigned fields of stated widths (R5, R6), so a field's value is a natural number below
`2 ^ width`; the store of `Machine/Regs.lean` keeps it there. Signed quantities (temperatures, errors of a loop,
clock offsets) are integers. What the spec fixes in number (dies, loops, lanes, queues) is a `Fin`.
-/
namespace Sys2Proof

/-- A compute die, 0 to 7 (R23). -/
abbrev Die := Fin 8
/-- A satellite S0 to S8; S8 is the one of the I/O die (R23). -/
abbrev Sat := Fin 9
/-- A regulator loop L0 to L15 (R163). -/
abbrev Loop := Fin 16
/-- A phase of a loop; a loop has at most 12 (R163). -/
abbrev Phase := Fin 12
/-- A cluster of a compute die, 0 to 15. -/
abbrev Cluster := Fin 16
/-- A cascade lane, 0 to 8 (R346). -/
abbrev Lane := Fin 9
/-- A queue pair of the host interface (R358). -/
abbrev Queue := Fin 32
/-- A mailbox (R394). -/
abbrev Mbx := Fin 8
/-- An engine site of a compute die, 0 to 575, or any other site number an operand carries. -/
abbrev Site := Nat

/-- The satellite of a compute die. -/
def Die.sat (d : Die) : Sat := ⟨d.val, by omega⟩
/-- The loop that feeds a compute die: L*n* feeds VCMP*n* (R163). -/
def Die.loop (d : Die) : Loop := ⟨d.val, by omega⟩
/-- The compute die of a satellite; none for S8. -/
def Sat.die? (x : Sat) : Option Die := if h : x.val < 8 then some ⟨x.val, h⟩ else none
/-- The compute die a loop feeds; none for L8 to L15. -/
def Loop.die? (l : Loop) : Option Die := if h : l.val < 8 then some ⟨l.val, h⟩ else none

end Sys2Proof
end

