-- ==== Sys2Proof/Syntax.lean ====
section
/-!
DEFINITION. Syntax.lean: the commands of the block, one constructor per row of the table of operations and events, and
the data their operands carry: what the outside (engines, links, pins, processors, host, BMC) brings to the block with
each of them.
-/
namespace Sys2Proof

/-- The initiators of the management fabric, in the order in which R33 applies their writes (R383: codes 0 to 3, host,
TRP, PLP, SVP). -/
inductive Init where
  | host | svp | plp | trp
  deriving DecidableEq, Repr

/-- The three processors of the management complex (R383). -/
inductive Proc where
  | trp | plp | svp
  deriving DecidableEq, Repr

/-- The block of a processor in LK_MGT_Pp and LK_UPD_Pp: its initiator code less 1 (R415). -/
def Proc.idx : Proc → Nat
  | .trp => 0 | .plp => 1 | .svp => 2
/-- The same number as an index of the three processors. -/
def Proc.fin : Proc → Fin 3
  | .trp => 0 | .plp => 1 | .svp => 2
/-- The initiator a processor is. -/
def Proc.init : Proc → Init
  | .trp => .trp | .plp => .plp | .svp => .svp
/-- The initiator code of R383. -/
def Init.code : Init → Nat
  | .host => 0 | .trp => 1 | .plp => 2 | .svp => 3

/-- The causes of a Cuff, in the order of the bits of LK_ADM_DIEn_CUFF_CAUSE (R73, R80). -/
inductive CuffCause where
  | peak | avg | droop | alert | phase
  deriving DecidableEq, Repr

def CuffCause.bit : CuffCause → Nat
  | .peak => 0 | .avg => 1 | .droop => 2 | .alert => 3 | .phase => 4

/-- A request an engine site drives at a stroke boundary (R56). -/
structure Req where
  die  : Die
  site : Site
  cls  : Nat
  fmt  : Nat
  sp   : Nat
  deriving DecidableEq, Repr

/-- A pool and operating point command the governor stamps for a satellite (R38, R42, R48). -/
structure WinCmd where
  /-- The pool the governor requests. -/
  pool  : Nat
  /-- The ratio code of the operating point the satellite should reach (R107). -/
  ratio : Nat
  /-- The share of the package slope for the window (R64). -/
  share : Nat
  /-- Fast catch is kept off (R109). -/
  noFast : Bool
  /-- The command carries the capability pool for this number of available phases (R219). -/
  capNav : Option Nat
  /-- The die is held at its present ratio: HELD is set (R145). -/
  held : Bool
  deriving DecidableEq, Repr

/-- What a Seam command from the governor to a satellite asks (R37). -/
inductive SeamBody where
  | window (c : WinCmd)
  /-- Requests placed between windows: a pool, a ratio, and the number of available phases a capability pool is marked
  with (R219, R228). -/
  | reduce (pool : Nat) (ratio : Option Nat) (capNav : Option Nat)
  /-- Cuff causes forwarded while the voltage command link is down, by the bits of CUFF_CAUSE (R194). -/
  | cuff (causes : Nat)
  | demand
  | calStep (k : Nat)
  /-- A slot leaves the scan, or joins it for class TEST (R63, R281, R288). -/
  | remove (site : Nat)
  | insert (site : Nat) (test : Bool)
  /-- A map command for the die's command processor (R280). -/
  | map (cluster logical old new : Nat) (planned : Bool)
  | freeze
  | thaw
  deriving DecidableEq, Repr

/-- A Seam command with the edge it names; none for one that acts on arrival (R38). A stroke is named by its package cycle
count, the alignment edge of a freeze or a thaw by its instant, for the count stands in a freeze. -/
structure SeamCmd where
  edge : Option Nat
  body : SeamBody
  deriving DecidableEq, Repr

/-- A flit of a Seam as it is received: which side received it, its place in the sender's flow, and its 80 bits: a 16-bit
header, a 48-bit payload and the CRC-16 (R489). -/
structure Flit where
  governor : Bool
  num      : Nat
  header   : Nat
  payload  : Nat
  crc      : Nat
  deriving DecidableEq, Repr

/-- A negative acknowledgement: which side is the sender that replays, and the flit it names (R491). -/
structure Nak where
  governor : Bool
  num      : Nat
  deriving DecidableEq, Repr

/-- A frame of a voltage command link as its six 16-bit words W0 to W5 (R189). -/
structure VclFrame where
  w0 : Nat
  w1 : Nat
  w2 : Nat
  w3 : Nat
  w4 : Nat
  w5 : Nat
  deriving DecidableEq, Repr

/-- The two sides of a voltage command link. -/
inductive VclEnd where
  | satellite | rgc
  deriving DecidableEq, Repr

/-- What the RGC samples of a loop on an alignment edge (R176, R222). -/
structure LoopSample where
  /-- Remote and local sense, in µV. -/
  remote : Nat
  loc    : Nat
  /-- Sense voltages of the phases in rotation, ascending, in µV (R167). -/
  cs     : List Int
  deriving DecidableEq, Repr

/-- What the RGC observes of a phase over a switching cycle (R178, R214). -/
structure PhaseObs where
  /-- Mean sense voltage over the cycle, in µV (R167). -/
  cs   : Int
  /-- Rise of the sense voltage from the start to the end of the HIGH time, in µV. -/
  rise : Int
  /-- HIGH time, in root cycles of 1/12 ns. -/
  high : Nat
  /-- A sample lay at an end of the range. -/
  range : Bool
  /-- The HIGH time ended at its latest end. -/
  latest : Bool
  deriving DecidableEq, Repr

/-- A run of consecutive periods measured on SYNC_IN (R171): their number, the least and the greatest and the last of them,
in ps, and how far the SYNC_IN edge lies after the edge of the switching reference, in root cycles. -/
structure SyncRun where
  n   : Nat
  lo  : Nat
  hi  : Nat
  ps  : Nat
  off : Int
  deriving DecidableEq, Repr

/-- A cascade frame as its sixteen 32-bit words W0 to W15 (R313). -/
structure CasFrame where
  w0 : Nat
  w1 : Nat
  w2 : Nat
  w3 : Nat
  w4 : Nat
  w5 : Nat
  p0 : Nat
  p1 : Nat
  p2 : Nat
  p3 : Nat
  p4 : Nat
  p5 : Nat
  p6 : Nat
  w13 : Nat
  w14 : Nat
  w15 : Nat
  deriving DecidableEq, Repr

/-- A scheduled operation of the cascade: kind 0 freeze, 1 thaw, 2 reset; scope, operation ID and instant in LK_TIME
(R334). -/
structure SchedOp where
  kind  : Nat
  scope : Nat
  id    : Nat
  at_   : Nat
  deriving DecidableEq, Repr

/-- A schedule of fixed-pace mode as a PACE frame carries it (R342). -/
structure Pace where
  tokens : Nat
  ratio  : Nat
  start  : Nat
  stop   : Nat
  deriving DecidableEq, Repr

/-- An item of the Cox's state mirrored to the standby (R321). DEDUCED, log 41. -/
inductive MirrorItem where
  | count (n term : Nat)
  | sched (o : SchedOp)
  /-- A scheduled operation has been acted on. -/
  | schedDone (id : Nat)
  | pace (p : Pace)
  | bcast (bseq : Nat) (cls req orig : Nat) (data : List Nat)
  deriving DecidableEq, Repr

/-- A frame as a lane brings it, with what its layout of R314 leaves out: the TYPE under which the sender holds the object
of an OBJ frame (R329), the members in the cascade that the Cox counts for the object of an OBJ_DOWN (R345), and the item of
a MIRROR frame. DEDUCED, log 41. -/
structure CasRx where
  frame   : CasFrame
  objType : Nat := 0
  members : Nat := 0
  item    : Option MirrorItem := none
  deriving DecidableEq, Repr

/-- A pattern of a library (R290). -/
structure Pattern where
  pid    : Nat
  cls    : Nat
  fmt    : Nat
  sp     : Nat
  type   : Nat
  len    : Nat
  seed   : Nat
  expect : Nat
  deriving DecidableEq, Repr

/-- A pattern library as a component brings it: the header's fields, the entries, whether the component has the bytes they and
the signature take, and whether the signature verifies with the key in KEY_SLOT (R290, R291). -/
structure Library where
  ver     : Nat
  count   : Nat
  libVer  : Nat
  libId   : Nat
  keySlot : Nat
  bodyLen : Nat
  pats    : List Pattern
  whole   : Bool
  signed  : Bool
  deriving DecidableEq, Repr

/-- A key slot: version, permitted uses and public key (R391). -/
structure KeySlot where
  ver : Nat
  use : Nat
  x   : Nat
  y   : Nat
  deriving DecidableEq, Repr

/-- The header of an image (R451). -/
structure ImgHdr where
  ver    : Nat
  proc   : Nat
  len    : Nat
  imgVer : Nat
  /-- Format major and minor spoken, and the majors accepted, one bit each. -/
  maj    : Nat
  min    : Nat
  accept : Nat
  setVer : Nat
  setMin : Nat
  svn    : Nat
  /-- The mailbox commands it answers beyond R398. -/
  cmds   : List Nat
  deriving DecidableEq, Repr

/-- A provisioning record as the TRP reads it (R389): version, package UID and transition count, ceilings as register offset
and value, keys, and whether its signature verifies with the vendor root key. -/
structure ProvRec where
  ver    : Nat
  uid    : Nat
  lcN    : Nat
  ceils  : List (Nat × Nat)
  keys   : List KeySlot
  /-- The counts are within their limits, and the record has the length they give. -/
  fits   : Bool
  signed : Bool
  deriving DecidableEq, Repr

/-- What the boot ROM finds in the main flash (R388, R392): the bytes of the vendor key block, whether the hash of its root
key is the fused one, and whether its signature verifies with that key; and whether the images in slots A and B verify with
the image key. DEDUCED, log 9. -/
structure BootIn where
  block  : List Nat
  rootOk : Bool
  sigOk  : Bool
  okA    : Bool
  okB    : Bool
  deriving DecidableEq, Repr

/-- A life-cycle token (R411), with whether its signature verifies with the key in KEY_SLOT. -/
structure LcToken where
  ver    : Nat
  target : Nat
  n      : Nat
  uid    : Nat
  nonce  : List Nat
  slot   : Nat
  signed : Bool
  deriving DecidableEq, Repr

/-- What a processor holds when it stops and State does not, as its crash dump shows it (R409): x0 to x31, its control and
status registers from mstatus to mtval, and its last 16 program counters. DEDUCED, log 10. -/
structure CoreDump where
  x   : List Nat
  csr : List Nat
  pcs : List Nat
  deriving DecidableEq, Repr

/-- What an instruction of a processor does on the fabric (R384–R386, R402–R405). Sizes are 0 for a byte, 1 for a half-word
and 2 for a word. DEDUCED, log 10. -/
inductive OrdOp where
  /-- FENCE or FENCE.I. -/
  | fence
  /-- A load, and whether its target, a device, answers with an error. -/
  | load (addr size : Nat) (err : Bool)
  /-- An AMO or LR/SC, and the word it leaves there; none for an LR, or an SC that fails. -/
  | amo (addr : Nat) (leaves : Option Nat)
  | store (addr data size : Nat)
  /-- The fetch of an instruction. -/
  | fetch (addr : Nat)
  /-- An exception or an interrupt enters its handler. -/
  | handler
  /-- A protection entry is written: pmpcfg and pmpaddr. -/
  | pmp (k : Fin 16) (cfg addr : Nat)
  deriving DecidableEq, Repr

/-- A descriptor of a queue (R360). -/
structure Desc where
  ver   : Nat
  opc   : Nat
  cid   : Nat
  arg0  : Nat
  addr  : Nat
  addr2 : Nat
  arg1  : Nat
  arg2  : Nat
  deriving DecidableEq, Repr

/-- A reading of a queue's doorbell line (R367): its sixteen words; none where the read fails. -/
abbrev Doorbell := Option (List Nat)

/-- What becomes of a MSG command's accesses to its host buffers: all succeed, that of the request fails, or that of the
reply (R362, R363). -/
inductive MsgAccess where
  | good | badRequest | badReply
  deriving DecidableEq, Repr

/-- A condition of the meter (R470). -/
inductive MtrCond where
  | overrange | voltOor | reverse | tamper
  deriving DecidableEq, Repr

/-- The instructions of a TAP of the package's IEEE 1149.1 chain (R503). -/
inductive TapInstr where
  | bypass | idcode | sample | extest | clamp | highz | scan | memTest | debug | meterCal
  deriving DecidableEq, Repr

/-- A self-test of the meter, as its audit entry names it (R479). -/
inductive MtrTest where
  | current | voltage | reference
  deriving DecidableEq, Repr

/-- The commands of the block: one per row of the table of operations and events. -/
inductive Instr where
  /-- WINDOW_BOUNDARY (R42). At each 2,048-cycle window boundary, satellites apply stroke-0 commands and latch and send counters, and the RGC latches its averages and peaks. The activity counts of each satellite over the window just ended: ACT1 to ACT15 of S0 to S7, ACT0 to ACT31 of S8. -/
  | windowBoundary (acts : List (List Nat))
  /-- WINDOW_DECISION (R42). At the 256 ns input deadline the governor takes in its inputs, compares estimates, shares the cap and sends the commands for the next window. -/
  | windowDecision
  /-- STROKE_BOUNDARY (R59). Each satellite issues the previous grants, samples requests, computes the allowance and scans the sites for the next grants. The requests that sites drive, and of each loop, over the four intervals of 16 ns just ended, the oldest first, the mean sense voltages of the phases in rotation in µV (R229). -/
  | strokeBoundary (reqs : List Req) (means : List (List (List Int)))
  /-- SEAM_COMMAND_ARRIVAL (R38). A stamped Seam command reaches a satellite and waits for its target edge. The one-way latency it had, in ps, with its padding and any replay (R28, R490, R491), and the command. -/
  | seamCommandArrival (x : Sat) (lat : Nat) (c : SeamCmd)
  /-- PACKAGE_FREEZE_REQUEST (R45). A freeze request makes the governor schedule the freeze on an alignment edge at least 60 ns ahead. -/
  | packageFreezeRequest
  /-- PACKAGE_FREEZE_EDGE (R45). On the scheduled edge every counter in every root island stops. -/
  | packageFreezeEdge
  /-- LATE_DIE_FREEZE (R45). A satellite that missed the freeze freezes on the first alignment edge after its Seam is up again. -/
  | lateDieFreeze (x : Sat)
  /-- PACKAGE_THAW_EDGE (R438). A package freeze ends on the first alignment edge at least 60 ns after THAW is written. -/
  | packageThawEdge
  /-- HEAVY_AHEAD (R69). A HEAVY_AHEAD hint word arrives and becomes the pending hint, or is discarded. The operand is the hint word as it crosses the hint port (R66). -/
  | heavyAhead (die : Die) (word : Nat)
  /-- OP_START (R67). An OP_START word sets the running layer and operator and may make the pending hint active. -/
  | opStart (die : Die) (word : Nat)
  /-- OP_END (R67). An OP_END word clears the running layer and operator and ends the matching active hint. -/
  | opEnd (die : Die) (word : Nat)
  /-- ARM_TIMEOUT (R69). ARM_TIMEOUT strokes after the pre-arm acknowledgement, the pending hint is disarmed and reported. -/
  | armTimeout (die : Die)
  /-- COST_SWAP (R54). Setting a die bit requests a copy of its shadow cost bank at the next window boundary. The operand is the value written to DIE. -/
  | costSwap (mask : Nat)
  /-- LT_ACC_READ (R120). Copies a learned-table entry into DATA0 to DATA11. -/
  | ltAccRead
  /-- LT_ACC_WRITE (R120). Requests that DATA0 to DATA11 be written into the entry at the next window boundary. -/
  | ltAccWrite
  /-- LT_ACC_INVAL_ALL (R120). Requests that VALID and CONF of every entry be cleared at the next window boundary. -/
  | ltAccInvalAll
  /-- JOB_START (R115). Writing START requests a job start at the next window boundary. The operand is STOP in the same write. -/
  | jobStart (alsoStop : Bool)
  /-- JOB_STOP (R115). Writing STOP requests the end of the job at the next window boundary. The operand is START in the same write. -/
  | jobStop (alsoStart : Bool)
  /-- PACE_SCHEDULE_START (R112). From the first stroke boundary at the schedule's instant, each allowance is capped at TOKENS. -/
  | paceScheduleStart
  /-- XTAL_AMPLITUDE_GOOD (R127). The crystal amplitude detector reports good, and proving begins. -/
  | xtalAmplitudeGood
  /-- SOURCE_MONITOR_GATE (R126). A source-monitor gate of 2^16 oscillator cycles ends and its count is judged. The operand is the count of the gate. -/
  | sourceMonitorGate (count : Nat)
  /-- PLL_LOCK (R127). The PLL stays in its lock window for 1,024 reference cycles, and the root islands leave reset. -/
  | pllLock
  /-- XTAL_PROOF_TIMEOUT (R127). 20 ms after start without proof, the PLL takes the internal oscillator as reference. -/
  | xtalProofTimeout
  /-- CRYSTAL_EDGE_LOSS (R130). No crystal edge for 160 ns declares the crystal failed. -/
  | crystalEdgeLoss
  /-- PLL_LOCK_LOSS (R134). The lock detector reports loss of lock with the reference present. -/
  | pllLockLoss
  /-- PLL_RELOCK_TIMEOUT (R134). Lock not regained within 50 µs requests a block reset. -/
  | pllRelockTimeout
  /-- CLK_RETURN (R135). Writing RETURN starts a proof of the crystal. -/
  | clkReturn
  /-- DIVIDER_STEP (R139). A cluster divider moves one position on an alignment edge once its hold has passed. -/
  | dividerStep (die : Die)
  /-- VCL_ACK_TIMEOUT (R145). An unacknowledged raise times out, and the satellite ends it with a VSET at V_ack. -/
  | vclAckTimeout (die : Die)
  /-- HELD_RELEASE (R145). Writing 1 to HELD releases the hold from the next window. -/
  | heldRelease (die : Die)
  /-- CLUSTER_GATE_REQUEST (R146). A write to GATE requests sleep, deep sleep or run for a cluster. -/
  | clusterGateRequest (die : Die) (cl : Cluster) (code : Nat)
  /-- CLUSTER_CLOCK_STOP (R147). After the grants run out, the cluster clock stops on the next alignment edge. -/
  | clusterClockStop (die : Die) (cl : Cluster)
  /-- CLUSTER_RESTART (R147). A cluster restarts at the die's ratio, one per alignment period. -/
  | clusterRestart (die : Die) (cl : Cluster)
  /-- DROOP_ASSERT (R152). A droop detector crosses THR1, and the die steps one ratio slower within 40 ns. The last operand is the local voltage in µV. -/
  | droopAssert (die : Die) (det : Fin 32) (uv : Nat)
  /-- DROOP_THR2_CROSS (R152). A detector crosses THR2 and requests the DROOP Cuff. -/
  | droopThr2Cross (die : Die) (det : Fin 32) (uv : Nat)
  /-- DROOP_CUFF_COUNT (R152). A detector asserted on CUFF_AP edges in a row requests the DROOP Cuff. -/
  | droopCuffCount (die : Die) (det : Fin 32)
  /-- DROOP_CLEAR (R152). Every enabled detector is clear, and the episode and the DROOP cause end. -/
  | droopClear (die : Die) (det : Fin 32) (uv : Nat)
  /-- DROOP_RECOVERY (R152). After RECOVER_AP clear periods, the die steps back toward its allowed ratio. -/
  | droopRecovery (die : Die)
  /-- DROOP_STUCK_LIMIT (R154). A detector asserted longer than LIMIT is set aside as stuck. -/
  | droopStuckLimit (die : Die) (det : Fin 32)
  /-- DROOP_READMIT (R154). Writing 1 to a DROOP_STUCK bit readmits the detector. -/
  | droopReadmit (die : Die) (mask : Nat)
  /-- FMC_START (R158). Writing START begins a frequency measurement. -/
  | fmcStart
  /-- FMC_GATE_END (R158). The measurement gate ends, and the count is stored. -/
  | fmcGateEnd (count : Nat)
  /-- SWITCHING_CYCLE (R174). A switching cycle begins, and each phase fires at its slot and ends at its peak command. The operand is what was observed of each phase in rotation over the cycle that ends, in ascending order. -/
  | switchingCycle (l : Loop) (obs : List PhaseObs)
  /-- FIRING_ROTATION (R173). After 64 switching cycles the rotation index advances, and slot 0 skips one cycle. -/
  | firingRotation (l : Loop)
  /-- SYNC_LOCK (R171). SYNC_IN is accepted after 16 consistent periods, and the reference aligns to it. The operand is the run of periods measured. -/
  | syncLock (run : SyncRun)
  /-- SYNC_IN_LOSS (R171). No SYNC_IN edge within 1.25 periods puts the reference in hold-over. -/
  | syncInLoss
  /-- SYNC_RETURN (R171). After 1,024 good periods the reference returns to SYNC_IN. The operand is the run of periods measured. -/
  | syncReturn (run : SyncRun)
  /-- UNDERSHOOT_CROSSING (R179). V_sense falls below V_ref − TH, and every phase goes HIGH. The operands are V_sense in µV and for how many root cycles the PWM of each phase in rotation has been LOW, 0 while it is not. -/
  | undershootCrossing (l : Loop) (v : Nat) (low : List Nat)
  /-- UNDERSHOOT_END (R179). The undershoot response ends on recovery or at MAX_ON, and I_int is set to I_tot. The operands are V_sense and the sense voltages of the phases in rotation at the end, in µV. -/
  | undershootEnd (l : Loop) (v : Nat) (cs : List Int)
  /-- OVERSHOOT_CROSSING (R180). V_sense rises above V_ref + NL_OV, and every phase goes to MID. The operands are those of UNDERSHOOT_CROSSING. -/
  | overshootCrossing (l : Loop) (v : Nat) (low : List Nat)
  /-- BRAKE_END (R180). The brake response ends on recovery or at OV_MAX. -/
  | brakeEnd (l : Loop) (v : Nat)
  /-- LOAD_STEP_ANNOUNCE (R182). The governor announces a predicted load step to the RGC. The operands are DI, RATE and WIN of R182. -/
  | loadStepAnnounce (l : Loop) (di : Int) (rate win : Nat)
  /-- PREARM_REACHED (R183). The raised reference holds for ACK_N samples, and a PREARM frame with ARMED 1 is sent. -/
  | prearmReached (l : Loop)
  /-- PREARM_EXPIRY (R186). PA_MAX after PREARM, the pre-arm ends. -/
  | prearmExpiry (l : Loop)
  /-- PREARM_RELEASE (R186). The governor releases a pre-arm, and the RGC returns V_ref and sends PREARM with ARMED 0. -/
  | prearmRelease (l : Loop)
  /-- VSET (R190). A VSET frame sets a loop's target, or ends a pre-arm with PA_REL. -/
  | vset (sat : Sat) (f : VclFrame)
  /-- PING (R194). A PING frame keeps the VCL alive. -/
  | ping (sat : Sat) (f : VclFrame)
  /-- VACK (R141). A VACK frame for the newest SEQ updates V_ack at the satellite. -/
  | vack (sat : Sat) (f : VclFrame)
  /-- CUFF (R75). A CUFF frame gives the satellite the active Cuff causes. -/
  | cuff (sat : Sat) (f : VclFrame)
  /-- PREARM (R70). A PREARM frame arms the die or clears the arm at the satellite. -/
  | prearm (sat : Sat) (f : VclFrame)
  /-- VNAK (R192). A VNAK frame is handled by the satellite as an acknowledgement timeout. -/
  | vnak (sat : Sat) (f : VclFrame)
  /-- VOLTAGE_REACHED (R191). V_ref reaches the target and the output holds for ACK_N samples, and the RGC sends VACK. -/
  | voltageReached (l : Loop)
  /-- VSET_REPEAT (R192). An unacknowledged raise is sent again with the same SEQ every 2 µs. -/
  | vsetRepeat (l : Loop)
  /-- VCL_IDLE_SEND (R194). Each side sends a frame at least every 1 µs, and the RGC repeats its CUFF state. -/
  | vclIdleSend (sat : Sat) (side : VclEnd)
  /-- VCL_DOWN (R194). No valid frame for 3 µs, or 8 discards in 1 µs, declares the VCL down. -/
  | vclDown (sat : Sat) (side : VclEnd)
  /-- VCL_RETRAIN (R194). A down VCL starts retraining, at once and every 10 µs. -/
  | vclRetrain (sat : Sat)
  /-- VCL_RETRAIN_END (R194). A VCL retraining ends in success or failure. -/
  | vclRetrainEnd (sat : Sat) (ok : Bool)
  /-- VCL_DEAD_CLEAR (R197). Writing 1 to a DEAD bit starts retraining again. The operand is the value written to DEAD. -/
  | vclDeadClear (mask : Nat)
  /-- LOOP_APPLY (R195). Writing APPLY requests the shadow copy at the loop's next switching cycle. -/
  | loopApply (l : Loop)
  /-- RGC_CUFF_CAUSE (R73). A Cuff cause of the RGC starts or clears, and CUFF is sent twice. -/
  | rgcCuffCause (l : Loop) (cause : CuffCause) (active : Bool)
  /-- SEQ_ON (R202). Writing ON starts the power-up sequence. The operand says that the same write sets OFF. -/
  | seqOn (alsoOff : Bool)
  /-- SOFT_START_BEGIN (R203). After ON_DLY, with its dependencies regulating, a loop begins soft start. The operand is the output measured, in µV. -/
  | softStartBegin (l : Loop) (v : Nat)
  /-- POWER_GOOD (R203). A loop is power-good, and its stage may complete. -/
  | powerGood (l : Loop)
  /-- SEQ_OFF (R205). Writing OFF starts the power-down sequence. -/
  | seqOff (alsoOn : Bool)
  /-- RAMP_DOWN_BEGIN (R205). After OFF_DLY a loop begins its ramp-down. -/
  | rampDownBegin (l : Loop)
  /-- LOOP_OFF (R205). A loop at MID reaches off, and the next stage may begin. -/
  | loopOff (l : Loop)
  /-- SS_SHORT_DETECT (R207). A short during soft start stops the loop. -/
  | ssShortDetect (l : Loop)
  /-- SS_RETRY (R208). RETRY_MS after a stop, soft start begins again. -/
  | ssRetry (l : Loop) (v : Nat)
  /-- SHORT_LATCH_CLEAR (R208). Writing 1 to SHORT_LATCH clears the latch and TRIES. -/
  | shortLatchClear (l : Loop)
  /-- FAULT_PARK (R209). Setting PARK keeps a compute loop off and fences its die. -/
  | faultPark (l : Loop)
  /-- PHASE_SHORT_TRIP (R210). A phase's sensed current crosses SHORT_A, and PWM goes LOW until the next slot. -/
  | phaseShortTrip (l : Loop) (p : Phase)
  /-- REGULATION_SHORT (R212). Short trips on more than half the phases for 8 cycles shut the loop down and latch it. -/
  | regulationShort (l : Loop)
  /-- OVL_FEATHER (R213). The overload timer reaches OVL_FEATHER, and the governor lowers the rail's load. -/
  | ovlFeather (l : Loop)
  /-- OVL_TIMER_RESET (R213). The average falls to I_ref, the timer resets and the Feather ends. -/
  | ovlTimerReset (l : Loop)
  /-- OVL_SHUTDOWN (R213). The overload timer reaches OVL_OFF, and the loop shuts down. -/
  | ovlShutdown (l : Loop)
  /-- OVL_SHUT_CLEAR (R213). Writing 1 to OVL_SHUT clears it. -/
  | ovlShutClear (l : Loop)
  /-- PHASE_REMOVAL (R215). A phase that meets a failure condition for 4 cycles is removed from rotation. -/
  | phaseRemoval (l : Loop) (p : Phase)
  /-- CAPABILITY_CHANGE (R218). The governor receives a change of N_av and places the capability pool request. -/
  | capabilityChange (l : Loop)
  /-- PHASE_READMIT (R221). Writing READMIT puts a removed phase on trial from the next cycle. -/
  | phaseReadmit (l : Loop) (p : Phase)
  /-- PHASE_TRIAL_END (R221). After 64 clean cycles the phase stays in rotation, and CAP rises. -/
  | phaseTrialEnd (l : Loop) (p : Phase)
  /-- REMOTE_SENSE_LOSS (R223). Remote sense lost for 16 samples switches the loop to local sense. -/
  | remoteSenseLoss (l : Loop)
  /-- SENSE_RETRY (R224). Writing RETRY starts a test of the remote pair. -/
  | senseRetry (l : Loop)
  /-- SENSE_RETRY_END (R224). The remote test ends, and the loop returns to remote sense if it passed. -/
  | senseRetryEnd (l : Loop)
  /-- BOTH_SENSE_LOSS (R225). Local sense also fails, and the loop shuts down. -/
  | bothSenseLoss (l : Loop)
  /-- VR_ALERT_ASSERT (R226). VR_ALERT# asserts, and the rail's load is driven to its lowest state. -/
  | vrAlertAssert (l : Loop)
  /-- VR_ALERT_DEASSERT (R226). VR_ALERT# deasserts, and its requests are withdrawn. -/
  | vrAlertDeassert (l : Loop)
  /-- HOLD_CLEAR (R229). Writing CLR resets the held telemetry at the next alignment edge. -/
  | holdClear (l : Loop)
  /-- CAL_START (R232). Writing START begins a current-sense calibration of the masked phases. -/
  | calStart (l : Loop)
  /-- CAL_PHASE_READY (R232). The load conditions allow a phase's calibration, and the loop is derated by one phase. -/
  | calPhaseReady (l : Loop)
  /-- CAL_DERATE_CONFIRMED (R232). The satellite confirms the derated pool, and the phase goes to MID. -/
  | calDerateConfirmed (l : Loop)
  /-- CAL_OFFSET_MEASURE (R232). After 20 µs and 64 cycles the phase's offset is set, and it returns to rotation. The operand is the phase's mean sense voltage over the 64 cycles, in µV. -/
  | calOffsetMeasure (l : Loop) (cs : Int)
  /-- CAL_GAIN_TRIM (R233). After 256 cycles the phase's gain is trimmed, and the derating ends. -/
  | calGainTrim (l : Loop)
  /-- CAL_PHASE_DEFER (R234). CAL_WAIT passes without the conditions, and the phase is skipped. -/
  | calPhaseDefer (l : Loop)
  /-- THERMAL_DEMAND_TIMER (R41). The free-running demand timer expires at INTERVAL. -/
  | thermalDemandTimer
  /-- DEMAND_NOW (R244). Writing DEMAND_NOW requests one demand at the next stroke boundary. -/
  | demandNow
  /-- DEMAND_ISSUE (R41). The governor issues a thermal demand to all nine satellites at the stroke boundary. -/
  | demandIssue
  /-- THERMAL_DEMAND_ARRIVAL (R245). A demand reaches a satellite, and conversion starts on the next alignment edge or is held. -/
  | thermalDemandArrival (sat : Sat)
  /-- CONVERSION_COMPLETE (R245). A 16 µs conversion ends, is cross-checked and sent on the Seam. The operand is what each site's junction reads, in 1/16 °C. -/
  | conversionComplete (sat : Sat) (read : List Int)
  /-- THM_CAL_START (R251). Writing CAL_START requests a converter calibration. -/
  | thmCalStart
  /-- THM_CAL_PERIOD (R251). PERIOD expires, and a converter calibration is requested. -/
  | thmCalPeriod
  /-- THM_CAL_STEP (R250). The governor sends a calibration step in a gap between demands. -/
  | thmCalStep
  /-- THM_CAL_STEP_END (R250). A 16 µs calibration step ends. What the channels of each die read: with their inputs shorted, in 1/16 K, or of the reference voltage, in 1/65,536 of what they should. -/
  | thmCalStepEnd (read : List (List Int))
  /-- DIODE_READMIT (R253). Writing 1 to a BROKEN bit makes the site available again. -/
  | diodeReadmit (sat : Sat) (mask : Nat)
  /-- TRIP_COMPARATOR_ASSERT (R261). A junction crosses the trip level at its comparator. The operands are a global index of R241 and the junction's temperature, in 1/16 °C. -/
  | tripComparatorAssert (site : Nat) (t : Int)
  /-- TRIP_LATCH (R261). A comparator asserted for 1 µs sets the trip latch, drives THERMTRIP# and turns off most rails. -/
  | tripLatch
  /-- TRIP_RECORD (R261). The TRP writes THM_TRIP to the recorder and sends it to the BMC. -/
  | tripRecord
  /-- TRIP_IO_RAILS_OFF (R261). 10 ms after the crossing, L9 and L10 go to MID. -/
  | tripIoRailsOff
  /-- TRIP_MASK_WRITE (R263). A TRP write to a trip mask excludes sites unless neighbour or count limits drop it. -/
  | tripMaskWrite (k : Fin 5) (v : Nat)
  /-- TRIP_TEST_START (R264). Writing START begins a comparator test of one site. -/
  | tripTestStart
  /-- TRIP_TEST_END (R264). The comparator test ends with PASS or FAIL. The operand is the level of its reference, in 1/16 °C, above which the comparator is clear. -/
  | tripTestEnd (level : Int)
  /-- ROWCOL_FAIL (R281). A failing checksum report removes the slot and maps its engine to a spare. The operands are the 128-bit words (R270) of the one report cycle, handled in ascending site order (R303). -/
  | rowcolFail (words : List Nat)
  /-- CV_MISMATCH (R297). A check-value mismatch report retracts its epoch. The operand of a report is its 128-bit word (R270). -/
  | cvMismatch (word : Nat)
  /-- POISON (R302). Consumption of poisoned data aborts the command stream and ends the job. -/
  | poison (word : Nat)
  /-- WEIGHT_CV (R293). A weight check value is folded into its die's epoch digest. -/
  | weightCv (word : Nat)
  /-- STEP_END (R297). STEP_END of a step may close an epoch and verify it. -/
  | stepEnd (word : Nat)
  /-- TEST_SIG (R288). A pattern run ends with its signature and passes or fails. -/
  | testSig (word : Nat)
  /-- SEN_QUEUE_OVF (R276). Once space frees after an overflow, a record of the unqueued count is queued. -/
  | senQueueOvf
  /-- SEN_RECORD_SEND (R275). The SVP sends a queued record to the BMC as a PLDM event. -/
  | senRecordSend
  /-- MAP_DONE (R280). The command processor reports a map change done, and the new slot enters the scan. The slot is the new one of the change. -/
  | mapDone (die : Die) (cluster : Cluster) (slot : Nat)
  /-- MAP_READY (R280). The command processor reports READY for a PLANNED change. -/
  | mapReady (die : Die) (cluster : Cluster) (slot : Nat)
  /-- MAP_TIMEOUT (R280). No MAP_DONE within 10 µs retires the new slot and repeats the change once. -/
  | mapTimeout (die : Die) (cluster : Cluster) (slot : Nat)
  /-- MARGIN_CLR_VSTEP (R286). Writing VSTEP returns the die's margin steps to 0. -/
  | marginClrVstep (die : Die)
  /-- MARGIN_CLR_CLUSTER (R286). Writing a CL bit returns a cluster to the die's ratio. -/
  | marginClrCluster (die : Die) (mask : Nat)
  /-- SELF_TEST_PERIOD (R287). PERIOD_MS expires, and the next slot's test is started or deferred. -/
  | selfTestPeriod
  /-- TEST_REQ_START (R287). Writing START requests a test of the named slot. The operands are the fields written with START. -/
  | testReqStart (die : Die) (site : Nat)
  /-- LIBRARY_COMPONENT (R291). A pattern library arrives over the service port and is checked by the TRP. The operands are its bytes and whether the signature verifies with the key in KEY_SLOT. -/
  | libraryComponent (bytes : List Nat) (sigOk : Bool)
  /-- LIBRARY_SWITCH (R291). The accepted library replaces the one in use once no run is in progress. -/
  | librarySwitch
  /-- DIGEST (R295). A DIGEST frame reaches the comparer, which forms the verdict once it holds SIZE digests. -/
  | digest (lane : Lane) (frame : CasFrame)
  /-- DIGEST_WAIT_EXPIRY (R295). DIGEST_WAIT after the first digest, the comparer forms the verdict. -/
  | digestWaitExpiry (group epoch : Nat)
  /-- VERDICT (R341). A VERDICT broadcast gives each member die PASS, SPLIT or expulsion. -/
  | verdict (lane : Lane) (frame : CasFrame)
  /-- EXPELLED_CLEAR (R296). Writing 1 to EXPELLED returns the die to its group. -/
  | expelledClear (die : Die)
  /-- RETRACT (R300). A RETRACT broadcast lowers VERIFIED and sets the pending retraction. -/
  | retract (lane : Lane) (frame : CasFrame)
  /-- RETRACT_ACK (R301). Writing 1 to RETRACT_PEND resumes step reports from the retracted epoch. -/
  | retractAck
  /-- ABORT_CLEAR (R302). Writing 1 to ABORT releases the command-stream abort. -/
  | abortClear
  /-- SLOT_RETIRE (R305). RETIRE.GO retires a slot while the block is disabled. -/
  | slotRetire (die : Die) (cluster : Cluster) (slot : Nat)
  /-- HELLO (R316). A HELLO frame updates a neighbour's candidate, and the tree roles. The operands of a frame's row are the lane it arrives on and the frame. -/
  | hello (lane : Lane) (frame : CasFrame)
  /-- ACK (R312). An ACK frame acknowledges a frame, or triggers its retransmission when negative. -/
  | ack (lane : Lane) (frame : CasFrame)
  /-- TSYNC_REQ (R327). A parent records t2 and answers with TSYNC_RSP. The last operand says that it arrived in the second half of a nanosecond. -/
  | tsyncReq (lane : Lane) (frame : CasFrame) (half : Bool)
  /-- TSYNC_RSP (R327). The child computes offset and delay and slews LK_TIME. -/
  | tsyncRsp (lane : Lane) (frame : CasFrame) (half : Bool)
  /-- TSYNC_PERIOD (R327). Every PERIOD_W windows an attached package sends TSYNC_REQ. -/
  | tsyncPeriod
  /-- TOPO (R318). A TOPO frame updates the subtree count, and the Cox counts N. -/
  | topo (lane : Lane) (frame : CasFrame)
  /-- FORMED (R318). A FORMED frame announces the formed cascade. -/
  | formed (lane : Lane) (frame : CasFrame)
  /-- FORMATION_TIMEOUT (R318). FORM_MS after the first TOPO, the Cox forms short or reports no quorum. -/
  | formationTimeout
  /-- DETACH (R323). A DETACH frame detaches the package and its subtree. -/
  | detach (lane : Lane) (frame : CasFrame)
  /-- TAKEOVER (R322). A TAKEOVER flood announces the new Cox and term. -/
  | takeover (lane : Lane) (frame : CasFrame)
  /-- PROBE (R322). A PROBE flood is forwarded and answered with COX_ALIVE by packages hearing the Cox. -/
  | probe (lane : Lane) (frame : CasFrame)
  /-- COX_ALIVE (R322). COX_ALIVE retraces the probe and stops the standby's takeover. -/
  | coxAlive (lane : Lane) (frame : CasFrame)
  /-- PROBE_TIMEOUT (R322). PROBE_US without COX_ALIVE makes the standby the Cox. -/
  | probeTimeout
  /-- MIRROR (R321). The standby stores an item of mirrored Cox state. -/
  | mirror (lane : Lane) (arrival : CasRx)
  /-- COX_BEAT (R322). A COX_BEAT is passed down every down port. -/
  | coxBeat (lane : Lane) (frame : CasFrame)
  /-- COX_BEAT_TIMER (R322). Every 1 µs the Cox originates a COX_BEAT. -/
  | coxBeatTimer
  /-- OBJ_UP (R331). An OBJ_UP frame updates a child's aggregate or arrivals of a sync object. -/
  | objUp (lane : Lane) (arrival : CasRx)
  /-- OBJ_DOWN (R330). An OBJ_DOWN frame releases a barrier generation or gives a result. -/
  | objDown (lane : Lane) (arrival : CasRx)
  /-- OBJ_BULK (R323). OBJ_BULK entries restore subtree aggregates after re-attachment. -/
  | objBulk (lane : Lane) (frame : CasFrame)
  /-- OBJ_CFG_WRITE (R329). A write to OBJ_CFG takes effect only while the object is idle. The operands are the fields written. -/
  | objCfgWrite (type : Nat) (member notify errClear : Bool)
  /-- BARRIER_ARRIVE (R330). ARRIVE.GO records the package's arrival at a barrier. -/
  | barrierArrive (obj : Nat)
  /-- OBJ_VAL_WRITE (R331). A write to OBJ_VAL replaces the package's contribution. -/
  | objValWrite (v : Nat)
  /-- OBJ_UPDATE_INTERVAL (R331). At the end of a 256 ns interval the latest object value is sent. -/
  | objUpdateInterval (obj : Nat)
  /-- BCAST_UP (R332). The Cox gives a broadcast the next BSEQ and sends it down. -/
  | bcastUp (lane : Lane) (frame : CasFrame)
  /-- HOST_BROADCAST (R333). A HOST broadcast is placed in the receive ring. -/
  | hostBroadcast (lane : Lane) (frame : CasFrame)
  /-- HOST_BROADCAST_SEND (R333). BC_CTL.SEND sends a HOST broadcast. -/
  | hostBroadcastSend
  /-- BROADCAST_RESEND (R332). A request not seen back within 10 µs is sent again. The operand is the request number. -/
  | broadcastResend (req : Nat)
  /-- PKG_LOST (R324). PKG_LOST aborts pending barriers and signals the host. -/
  | pkgLost (lane : Lane) (frame : CasFrame)
  /-- LANE_DOWN (R312). A lane is declared down, and its package detaches or the standby probes. -/
  | laneDown (lane : Lane)
  /-- LANE_RETRAIN (R312). A down lane retrains, at once and every 10 µs. -/
  | laneRetrain (lane : Lane)
  /-- LANE_IDLE_SEND (R312). A side with nothing to send sends HELLO at least every 1 µs. -/
  | laneIdleSend (lane : Lane)
  /-- SCHED_REQ (R334). The Cox receives a scheduled-operation request and chooses its instant. -/
  | schedReq (lane : Lane) (frame : CasFrame)
  /-- SCHED (R334). A SCHED frame records the instant of a freeze, thaw or reset. -/
  | sched (lane : Lane) (frame : CasFrame)
  /-- CASCADE_FREEZE_REQUEST (R334). LK_CAS_SCHED.FREEZE requests a cascade freeze. -/
  | cascadeFreezeRequest
  /-- CASCADE_THAW_REQUEST (R334). LK_CAS_SCHED.THAW requests a cascade thaw. -/
  | cascadeThawRequest
  /-- CASCADE_RESET_REQUEST (R334). LK_CAS_SCHED.RESET requests a cascade reset. -/
  | cascadeResetRequest (scope : Nat)
  /-- CASCADE_FREEZE_EDGE (R335). On its freeze edge a package records its cut and holds arriving frames. -/
  | cascadeFreezeEdge
  /-- CASCADE_THAW_EDGE (R337). On the thaw edge held frames are delivered, and counters resume. The operand is the order in which the lanes deliver what they held. -/
  | cascadeThawEdge (order : List Lane)
  /-- CASCADE_RESET_EDGE (R338). On the reset edge sync objects and logs reset, and with SCOPE 1 the tree re-forms. -/
  | cascadeResetEdge
  /-- FROZEN_FRAME_ARRIVAL (R335). A frame arriving during a freeze is held in order. -/
  | frozenFrameArrival (lane : Lane) (arrival : CasRx)
  /-- PACE_UP (R342). A PACE_UP frame updates the least PACE_CAP in the subtree. -/
  | paceUp (lane : Lane) (frame : CasFrame)
  /-- PACE (R112). A PACE schedule arrives, and the governor moves every die to its ratio. -/
  | pace (lane : Lane) (frame : CasFrame)
  /-- PACE_PERIOD (R342). The Cox sends the PACE frame of each period. -/
  | pacePeriod
  /-- PACE_END (R343). A schedule reaches its end instant without a successor. -/
  | paceEnd
  /-- GOV_ENABLE (R351). Writing ENABLE = 1 locks RWL fields and starts the enable check. -/
  | govEnable
  /-- GOV_DISABLE (R353). Writing ENABLE = 0 requests the block to disable, or abandons the check. -/
  | govDisable
  /-- QUEUE_ENABLE (R359). EN = 1 starts a queue pair and reads its doorbell line. The doorbell line is read with it. -/
  | queueEnable (q : Queue) (db : Doorbell)
  /-- QUEUE_DISABLE (R359). EN = 0 stops fetching and begins draining. -/
  | queueDisable (q : Queue)
  /-- QUEUE_DRAINED (R359). The last command in progress completes, and STATE becomes 0. -/
  | queueDrained (q : Queue)
  /-- DOORBELL_WATCH (R368). An invalidated doorbell copy is read again, and changes are acted on. The line is read again with it. -/
  | doorbellWatch (q : Queue) (db : Doorbell)
  /-- DOORBELL_POLL (R369). Every 10 µs each enabled queue's doorbell line is read. The lines of the queues, by number. -/
  | doorbellPoll (dbs : List Doorbell)
  /-- DESCRIPTOR_FETCH (R364). A fetched descriptor is checked and its command started. The fetch brings a descriptor, or fails. -/
  | descriptorFetch (q : Queue) (d : Option (List Nat))
  /-- NOP (R362). NOP completes at once. The command each of NOP to METER_READ names is the one its queue runs. -/
  | nop (q : Queue)
  /-- SNAPSHOT (R362). Samples up to 512 registers in one governor cycle. The buffer's words; `ok`: every access to host buffers succeeds. -/
  | snapshot (q : Queue) (offs : List Nat) (ok : Bool)
  /-- WRITE_SET (R362). Applies a list of register writes in one cycle, at once or at the next window. The buffer's pairs of offset and value. -/
  | writeSet (q : Queue) (pairs : List (Nat × Nat)) (ok : Bool)
  /-- LT_READ (R362). Copies learned-table entries to host memory. -/
  | ltRead (q : Queue) (ok : Bool)
  /-- LT_WRITE (R362). Writes learned-table entries at the next window boundary. The buffer's entries of twelve words. -/
  | ltWrite (q : Queue) (entries : List (List Nat)) (ok : Bool)
  /-- COST_LOAD (R362). Writes shadow cost banks and optionally swaps them. The buffer's 128 words. -/
  | costLoad (q : Queue) (words : List Nat) (ok : Bool)
  /-- JOB_CMD_START (R362). The JOB command with ARG0 1 starts a job. -/
  | jobCmdStart (q : Queue)
  /-- JOB_CMD_STOP (R362). The JOB command with ARG0 2 stops a job. -/
  | jobCmdStop (q : Queue)
  /-- MSG (R401). Passes a mailbox message to the PLP or the SVP and returns its reply. The words of the request. -/
  | msg (q : Queue) (words : List Nat) (acc : MsgAccess)
  /-- REC_READ (R433). Copies recorder records in SEQ order. -/
  | recRead (q : Queue) (ok : Bool)
  /-- METER_READ (R484). Copies the latest reading and the newest stamps from the meter mirror. -/
  | meterRead (q : Queue) (ok : Bool)
  /-- COMPLETION_WRITE (R365). A finished command's completion is written once the CQ has room. The write to host memory succeeds or fails. -/
  | completionWrite (q : Queue) (ok : Bool)
  /-- COALESCE_TIMEOUT (R373). COAL_US after the oldest unsignalled completion, the queue vector owes a message. -/
  | coalesceTimeout (q : Queue)
  /-- VECTOR_UNMASK (R372). Writing MASK 0 sends a pending message. -/
  | vectorUnmask (v : Fin 42)
  /-- FUNCTION_EVT_CLEAR (R372). Writing 1 to EVT acknowledges a function's events. -/
  | functionEvtClear (k : Fin 10)
  /-- BAD_ACCESS (R375). A misaligned or wrongly sized host access is refused and recorded. The host accesses some bytes at an offset of the window. -/
  | badAccess (off size : Nat) (write : Bool)
  /-- REGISTER_WRITE (R7). A write to a field without a row of its own, under its access code and ceiling. The writes of one cycle of the management fabric to a register (R33), by initiator and value: a word, or with `wide` two, at an aligned offset. -/
  | registerWrite (ws : List (Init × Nat)) (off : Nat) (wide : Bool)
  /-- BLOCK_RESET_GO (R377). GO with KEY 0xC0DE requests a block reset. The initiator writes 1 to GO. -/
  | blockResetGo (who : Init)
  /-- BLOCK_RESET (R499). A block reset holds every engine, steps dies to ÷16 and resets the root islands. The operand is the cause of LK_GLB_RST_INFO; 5 for RST_BLK#. -/
  | blockReset (cause : Fin 6)
  /-- BLOCK_RESET_RELEASE (R499). The wipe ends, and the parts leave reset. -/
  | blockResetRelease
  /-- TRP_BOOT (R388). The TRP leaves reset and its boot ROM loads keys and verifies the TRP image. -/
  | trpBoot (boot : BootIn)
  /-- KEY_BLOCK_RETRY (R392). Every 1 s the boot ROM reads the vendor key block again. -/
  | keyBlockRetry (boot : BootIn)
  /-- TRP_IMAGE_VERIFIED (R388). The TRP image runs, verifies provisioning and writes the ceilings. The operands are the bytes of the provisioning record in the main flash, and whether its signature verifies with the vendor root key. -/
  | trpImageVerified (prov : List Nat) (sigOk : Bool)
  /-- IMAGE_RELEASE (R388). The TRP verifies and releases a processor's image. The last operands say whether the images in slots A and B verify. -/
  | imageRelease (p : Proc) (okA okB : Bool)
  /-- STARTED_WRITE (R387). STARTED is accepted only with the PMP entries locked as required. The operands after the processor are the bytes pmpcfg of its entries 0 to 3. -/
  | startedWrite (p : Proc) (c0 c1 c2 c3 : Nat)
  /-- PLP_READY (R388). The PLP sets READY after loading characterisation and migrating settings. The operands are what the characterisation record gives: weights, and leakage points by rail. -/
  | plpReady (weights : List (Loop × Fin 16 × Nat)) (leak : List (Loop × Nat × Nat × Nat × Nat))
  /-- MAILBOX_GO (R395). GO checks the header and passes a request to the responder. The last operand is the request half of the long-message buffer, in words. -/
  | mailboxGo (k : Mbx) (who : Init) (long : List Nat)
  /-- MAILBOX_DONE (R395). DONE passes the reply and clears GO. The last operand is the reply half of the long-message buffer, in words. -/
  | mailboxDone (k : Mbx) (who : Init) (long : List Nat)
  /-- MAILBOX_ABORT (R396). ABORT ends a request early. -/
  | mailboxAbort (k : Mbx) (who : Init)
  /-- MAILBOX_NOTE (R396). NOTE signals the host vector without data. -/
  | mailboxNote (k : Mbx) (who : Init)
  /-- MAILBOX_TIMEOUT (R396). GO held for TMO.MS ends the request. -/
  | mailboxTimeout (k : Mbx)
  /-- GET_VERSION (R398). Returns the image version and its spoken and accepted majors. -/
  | getVersion (k : Mbx)
  /-- ECHO (R398). Returns the request bytes. -/
  | echo (k : Mbx)
  /-- GET_STATE (R398). Returns the state of each processor. -/
  | getState (k : Mbx)
  /-- LC_NONCE (R411). Returns the TRP's present nonce. The operand is the mailbox, none for the trusted endpoint. -/
  | lcNonce (via : Option Mbx)
  /-- LC_TOKEN (R411). A life-cycle token is checked and, if accepted, blows a fuse bit and requests a reset. The operands are the mailbox, none for the trusted endpoint; the bytes that arrive there, those of a mailbox lying in its buffer; and whether the signature verifies with the key in KEY_SLOT. -/
  | lcToken (via : Option Mbx) (bytes : List Nat) (sigOk : Bool)
  /-- TRUSTED_RESTART_REQUEST (R393). A restart request for the PLP or SVP arrives on the trusted endpoint. -/
  | trustedRestartRequest (p : Proc) (core : CoreDump)
  /-- STORE_FAILURE (R403). A buffered store fails, and the failure awaits the next ordering point. The operands are the processor, the address of the store, what fails it, by the kinds of LK_MGT_BUSERR_INFO, and for a program or erase request the main flash's offset. -/
  | storeFailure (p : Proc) (addr kind : Nat) (flash : Option Nat)
  /-- ORDERING_POINT (R402). The processor waits for its store buffer to empty and takes any store fault. The operands are the address of the instruction and what it does; the stores that fill the buffer, and what else a processor does on the fabric, come by this command too. -/
  | orderingPoint (p : Proc) (pc : Nat) (op : OrdOp)
  /-- WATCHDOG_EXPIRY (R406). PERIOD without a KICK restarts the processor. -/
  | watchdogExpiry (p : Proc) (core : CoreDump)
  /-- WATCHDOG_KICK (R406). KICK restarts the watchdog period. -/
  | watchdogKick (p : Proc)
  /-- PROCESSOR_RESTART_GO (R406). A restart request stops the processor and writes its crash dump. -/
  | processorRestartGo (p : Proc) (who : Init) (core : CoreDump)
  /-- STORE_DRAIN_END (R406). The store buffer drains or its entries are discarded, and the SRAM wipe and image load follow. The operand is the final state of each store, by R409. -/
  | storeDrainEnd (p : Proc) (states : List Nat)
  /-- RESTART_RELEASE (R406). The verified image is released at its reset address. -/
  | restartRelease (p : Proc) (boot : BootIn)
  /-- EVENT_STAGE (R425). A raised event enters the staging RAM and takes the next SEQ. -/
  | eventStage
  /-- RECORD_PROGRAM (R424). A staged record is programmed to flash in two steps. The operand says that power fails between the two steps. -/
  | recordProgram (cut : Bool)
  /-- STAGE_LOST_RECORD (R426). Once space frees, a record of the dropped count is staged. -/
  | stageLostRecord
  /-- OPSEC_ALIVE (R428). OPSEC passes a multiple of 900 s. -/
  | opsecAlive
  /-- RECORDER_MOUNT (R429). At PLP start the partition is mounted, torn slots marked and HEAD restored. The operand says that the flash answers and reads. -/
  | recorderMount (answers : Bool)
  /-- RECORDER_ERASE (R431). KEY then GO from the SVP or TRP starts erasing the partition. The operand is the initiator that writes GO. -/
  | recorderErase (who : Init)
  /-- RECORDER_ERASE_END (R431). The erase ends and the PLP formats the partition. -/
  | recorderEraseEnd
  /-- FULL_ACK (R432). FULL_ACK sets ACKED. -/
  | fullAck
  /-- RING_SELECT (R436). Writing RING_SEL starts a copy of a unit ring. The operands are the fields written. -/
  | ringSelect (unit : Nat) (chan : Bool)
  /-- RING_COPY_DONE (R436). The ring copy is complete, and BUSY clears. -/
  | ringCopyDone
  /-- TRIGGER_FIRE (R438). Writing FIRE fires the armed trigger. -/
  | triggerFire
  /-- TRIGGER_POST_EXPIRY (R438). POST windows after firing, the freeze of SCOPE is requested. -/
  | triggerPostExpiry
  /-- TRIGGER_THAW (R438). Writing THAW requests the end of a package freeze. -/
  | triggerThaw
  /-- TRACE_LANE_UP (R439). A trace lane has trained. -/
  | traceLaneUp (k : Fin 4)
  /-- TRACE_LANE_DOWN (R439). A trace lane goes down, and the port stops sending. -/
  | traceLaneDown (k : Fin 4)
  /-- TRACE_ALIGNMENT (R439). Every 16,384 blocks all lanes carry an alignment block. -/
  | traceAlignment
  /-- TRACE_LOST_PACKET (R443). Once 64 words are free, a LOST packet carries the drop counts. -/
  | traceLostPacket
  /-- QUERY_DEVICE_IDENTIFIERS (R450). PLDM QueryDeviceIdentifiers. -/
  | queryDeviceIdentifiers
  /-- GET_FIRMWARE_PARAMETERS (R450). PLDM GetFirmwareParameters. -/
  | getFirmwareParameters
  /-- REQUEST_UPDATE (R450). PLDM RequestUpdate, refused in BLANK or SCRAPPED or during an update. -/
  | requestUpdate
  /-- PASS_COMPONENT_TABLE (R450). PLDM PassComponentTable, refusing unknown components. -/
  | passComponentTable (id : Nat)
  /-- UPDATE_COMPONENT (R450). PLDM UpdateComponent starts the transfer of a component. -/
  | updateComponent (id size : Nat)
  /-- REQUEST_FIRMWARE_DATA (R450). Firmware data of at most 512 bytes arrives into the receive area. The operand is what comes after the bytes already received. -/
  | requestFirmwareData (bytes : List Nat)
  /-- TRANSFER_COMPLETE (R450). PLDM TransferComplete ends a component's transfer. -/
  | transferComplete
  /-- VERIFY_COMPLETE (R453). The TRP builds and checks each image component into the non-confirmed slot. The operands are whether BASE_HASH is the base image's hash and whether the signature verifies. -/
  | verifyComplete (hashOk sigOk : Bool)
  /-- APPLY_COMPLETE (R450). PLDM ApplyComplete. -/
  | applyComplete
  /-- ACTIVATE_FIRMWARE (R454). ActivateFirmware schedules the staged processors in the order SVP, PLP, TRP. -/
  | activateFirmware
  /-- GET_STATUS (R450). PLDM GetStatus. -/
  | getStatus
  /-- CANCEL_UPDATE_COMPONENT (R450). PLDM CancelUpdateComponent. -/
  | cancelUpdateComponent
  /-- CANCEL_UPDATE (R460). CancelUpdate marks staged slots BAD unless activation is in progress. -/
  | cancelUpdate
  /-- SET_REGATTA (R454). The BMC's SET_REGATTA message sets the Regatta instant. -/
  | setRegatta (t : Nat)
  /-- REGATTA_STEP (R454). A due step programs the processor's new slot TRIAL and restarts it. -/
  | regattaStep (core : CoreDump)
  /-- UPDATE_CONFIRM (R456). A trial image's CONFIRM makes its slot CONFIRMED. -/
  | updateConfirm (p : Proc)
  /-- TRIAL_TIMEOUT (R457). 300 s without confirmation make the processor fall back to its previous slot. -/
  | trialTimeout (p : Proc) (core : CoreDump)
  /-- MIRROR_COPY (R473). Every 1 ms the meter copies energy, time and instant values into the mirror. -/
  | mirrorCopy
  /-- METER_PERIODIC_READING (R473). Every 1 s the meter signs a periodic reading. The operand is the signature, in words. -/
  | meterPeriodicReading (sig : List Nat)
  /-- METER_SAVE (R471). Every 60 s the meter saves its counters to its flash. -/
  | meterSave
  /-- METER_POWER_FAIL_SAVE (R471). VMSTBY below 3.0 V saves the meter counters. -/
  | meterPowerFailSave
  /-- METER_POWER_UP (R471). The meter restores its counters, checks its firmware and makes a POWER_UP entry. The operands are whether the power-fail save is valid, and the first four bytes of the firmware's hash where it is not the fused one. -/
  | meterPowerUp (saveOk : Bool) (badHash : Option Nat)
  /-- METER_CONDITION_CHANGE (R470). An overrange, voltage, reverse or tamper condition begins or ends. The last operand is whether the tamper loop is open; the other conditions are those of the last product. -/
  | meterConditionChange (c : MtrCond) (open_ : Bool)
  /-- METER_XTAL_FAIL (R481). A meter crystal failure sets FAULT and stops counting. -/
  | meterXtalFail
  /-- SELFTEST_FAIL (R481). A failed meter self-test sets FAULT and stops counting. -/
  | selftestFail (t : MtrTest)
  /-- STAMP_REQUEST (R475). The PLP's GO passes a stamp request, and the meter accepts or refuses it. The last operand is whether the meter answers the handshake. -/
  | stampRequest (who : Init) (kind : Nat) (answers : Bool)
  /-- STAMP_SIGNED (R476). An accepted stamp is signed and published in the stamp ring. The operand is the signature, in words. -/
  | stampSigned (sig : List Nat)
  /-- SEAL_COMMAND (R482). The seal command stores calibration, generates the key and blows the seal fuse. The operands are k_V in millionths and R_sh in nΩ, the temperature corrections of each in millionths per °C with the temperature in 1/16 °C at which there is none, and the vendor's signature of the certificate, in words. -/
  | sealCommand (kv rsh : Nat) (tc : Int × Int × Int) (sig : List Nat)
  /-- TRAIN_FLIT (R492). A TRAIN flit exchanges versions, widths and lane masks, and a disagreement narrows the width. The operands are what the satellite offers, and the lanes on which the governor's and the satellite's side did not receive the training pattern. -/
  | trainFlit (sat : Sat) (ver feat type gBad sBad : Nat)
  /-- SEAM_TRAINING_END (R490). A Seam training ends, up or failed. The operand is the raw one-way latency in ns. -/
  | seamTrainingEnd (sat : Sat) (raw : Nat)
  /-- SEAM_DOWN (R491). Missing or failing flits, or latency drift, declare the Seam down. The last operand is whether no valid flit has arrived at a side for 500 ns. -/
  | seamDown (sat : Sat) (silent : Bool)
  /-- SEAM_RETRAIN_TIMER (R491). A down Seam retrains again every 10 µs. -/
  | seamRetrainTimer (sat : Sat)
  /-- SEAM_IDLE_SEND (R491). Each side sends a flit at least every 100 ns. The operand says which side it is. -/
  | seamIdleSend (sat : Sat) (governor : Bool)
  /-- SEAM_NAK (R491). A negative acknowledgement makes the sender replay the flit. The operand says which side is the sender, and names the flit. -/
  | seamNak (sat : Sat) (nak : Nak)
  /-- SEAM_RETRAIN_WRITE (R492). RETRAIN retrains as after a reset of both sides. -/
  | seamRetrainWrite (sat : Sat)
  /-- MIN_VER_WRITE (R495). A write of MIN_VER re-evaluates the safe tier. -/
  | minVerWrite (ver : Nat)
  /-- FENCE_REQUEST (R496). Setting a REQ bit, or another fence cause, fences a compute die. The operand is the value written to REQ. -/
  | fenceRequest (mask : Nat)
  /-- FENCE_LIFT (R498). LIFT lifts a fence once no cause holds. -/
  | fenceLift (mask : Nat)
  /-- STANDBY_RESET_RELEASE (R505). Release of RST_STBY# starts the crystal proof and the cold start-up. -/
  | standbyResetRelease
  /-- STARTUP_ON_WRITE (R504). 100 µs after the RGC leaves reset, with P12V_OK high, the start-up controller writes ON. -/
  | startupOnWrite
  /-- P12V_OK_LOSS (R504). P12V_OK low for 1 µs acts as VR_ALERT# on every loop. -/
  | p12vOkLoss
  /-- SCAN_EXIT (R503). Leaving a scan instruction performs the wipe before RST_BLK# is honoured. The instructions that the ten devices of the chain leave, the I/O die first (R502). -/
  | scanExit (ir : List TapInstr)
  /-- ALIGNMENT_EDGE (R176). On each alignment edge the RGC samples each loop's output, updates its command and moves V_ref toward the target by SLEW × 20 ns. The operand is what is sampled of each loop, L0 first. -/
  | alignmentEdge (samples : List LoopSample)
  /-- TMON_SAMPLE (R167). Every 10 µs the RGC samples each stage's TMON input, updating its temperature and fault flag. The operand is the level in mV of each stage channel's TMON input. -/
  | tmonSample (mv : List Nat)
  /-- TRIP_COMPARATOR_CLEAR (R261). A trip comparator deasserts before it has been asserted for 1 µs, so no latch follows. -/
  | tripComparatorClear (site : Nat) (t : Int)
  /-- STANDBY_POWER_LOSS (R262). The block's standby power is removed, clearing the trip latch and all volatile state. -/
  | standbyPowerLoss
  /-- P12V_OK_RETURN (R504). P12V_OK rises again after a loss, ending the VR_ALERT# treatment of every loop. -/
  | p12vOkReturn
  /-- METER_PRODUCT (R468). Every 1 µs the meter forms one power product and adds it to ENERGY. The operands are the voltages of divider and shunt in nV, and the temperature of the meter's diode in °C and sixteenths. -/
  | meterProduct (vdiv vsh deg frac : Int)
  /-- FLIT_CRC_FAIL (R491). A Seam receiver gets a flit whose CRC fails and answers it with a negative acknowledgement. The operand says which side is the receiver. -/
  | flitCrcFail (sat : Sat) (flit : Flit)
  /-- FRAME_DISCARD (R313). A cascade receiver discards a frame with a bad CRC, wrong VER or reserved TYPE, answering a CRC failure with a negative ACK and counting it. -/
  | frameDiscard (lane : Lane) (frame : CasFrame)
  /-- ENTDAA (R449). The BMC assigns the service port's two I3C dynamic addresses in ENTDAA. The operands are the two addresses assigned. -/
  | entdaa (svp trp : Nat)
  /-- SET_ENDPOINT_ID (R449). The BMC, as bus owner, assigns an MCTP endpoint its EID with Set Endpoint ID. The first operand is true for the trusted endpoint. -/
  | setEndpointId (trp : Bool) (eid : Nat)
  /-- SNAPSHOT_LATCH_READ (R405). A processor's read of the lower word of a 64-bit register loads its snapshot latch, and a following read at offset + 4 returns the latch. A processor reads the word at an offset. -/
  | snapshotLatchRead (p : Proc) (off : Nat)
  /-- MSG_TIMEOUT (R401). A MSG command that gets no reply within its own 100 ms completes with PEER_UNAVAIL. -/
  | msgTimeout (q : Queue)
  deriving DecidableEq, Repr

end Sys2Proof
end

