-- ==== Sys2Proof/Decode.lean ====
section
/-!
DEFINITION. Decode.lean: the command that a word spells. The table of operations and events gives no row any bits, since
the block takes commands and decodes no instruction words, so no word spells one.
-/
namespace Sys2Proof

/-- The command an instruction word spells by the bits of the table: none, since no row has bits.
DESIGN CHOICE, log 2. -/
def decodeTableWord (nbits w : Nat) : Option Instr :=
  match nbits, w with
  | _, _ => none

end Sys2Proof
end

