-- ==== Sys2Proof/Machine/Events.lean ====
section
/-!
DEFINITION. Machine/Events.lean: the event codes of the chapters' event tables (R19, R82, R123, R161, R200, R239, R268,
R308, R347, R382, R417, R446, R463, R488, R510, R513).
-/
namespace Sys2Proof.Machine.Ev

abbrev HIF_ENABLE_REFUSED : Nat := 0x1001
abbrev HIF_ENABLED : Nat := 0x1002
abbrev HIF_DISABLED : Nat := 0x1003
abbrev HIF_QUEUE_ERR : Nat := 0x1004
abbrev HIF_POLL_HIT : Nat := 0x1005
abbrev HIF_ACCESS_BAD : Nat := 0x1006
abbrev HIF_BLOCK_RESET : Nat := 0x1007
abbrev ADM_COST_ZERO : Nat := 0x2001
abbrev ADM_CUFF : Nat := 0x2002
abbrev ADM_CUFF_STORM : Nat := 0x2003
abbrev ADM_HINT_LATE : Nat := 0x2004
abbrev ADM_PREARM_TIMEOUT : Nat := 0x2005
abbrev ADM_UNFIT : Nat := 0x2006
abbrev ADM_HINT_BAD : Nat := 0x2007
abbrev ADM_HINT_REPLACED : Nat := 0x2008
abbrev SEAM_RETRAIN : Nat := 0x2009
abbrev SEAM_WIDTH : Nat := 0x200a
abbrev SEAM_ONE_LANE : Nat := 0x200b
abbrev SEAM_DEAD : Nat := 0x200c
abbrev DIE_SAFE_TIER : Nat := 0x200d
abbrev DIE_FENCED : Nat := 0x200e
abbrev DIE_FENCE_LIFTED : Nat := 0x200f
abbrev SEAM_FREEZE_MISS : Nat := 0x2010
abbrev MODEL_MISMATCH : Nat := 0x3001
abbrev MODEL_AGREE : Nat := 0x3002
abbrev BUD_RAIL_OVER : Nat := 0x3003
abbrev BUD_CAP_UNMET : Nat := 0x3004
abbrev BUD_BURST_START : Nat := 0x3005
abbrev BUD_BURST_END : Nat := 0x3006
abbrev BUD_PACE_SHORT : Nat := 0x3007
abbrev BUD_JOB_ERR : Nat := 0x3008
abbrev BUD_JOB_LOST : Nat := 0x3009
abbrev CLK_SRC_FAIL : Nat := 0x4001
abbrev CLK_SRC_RESTORED : Nat := 0x4002
abbrev CLK_PLL_UNLOCK : Nat := 0x4003
abbrev CLK_VCL_ACK_TIMEOUT : Nat := 0x4004
abbrev CLK_OP_HELD : Nat := 0x4005
abbrev CLK_DROOP : Nat := 0x4006
abbrev CLK_DROOP_STUCK : Nat := 0x4007
abbrev RGC_ALLPH_UNDER : Nat := 0x5001
abbrev RGC_ALLPH_OVER : Nat := 0x5002
abbrev RGC_SYNC_LOST : Nat := 0x5003
abbrev RGC_SYNC_RESTORED : Nat := 0x5004
abbrev RGC_VCL_DOWN : Nat := 0x5005
abbrev RGC_VCL_UP : Nat := 0x5006
abbrev RGC_VCL_DEAD : Nat := 0x5007
abbrev RGC_PREARM_EXPIRED : Nat := 0x5008
abbrev RGC_SINK_LIMIT : Nat := 0x5009
abbrev RGC_SS_SHORT : Nat := 0x500a
abbrev RGC_SHORT_LATCH : Nat := 0x500b
abbrev RGC_OVL_FEATHER : Nat := 0x500c
abbrev RGC_OVL_SHUTDOWN : Nat := 0x500d
abbrev RGC_PHASE_LOST : Nat := 0x500e
abbrev RGC_PHASE_FENCE : Nat := 0x500f
abbrev RGC_PHASE_READMIT_FAIL : Nat := 0x5010
abbrev RGC_DEP_OFF : Nat := 0x5011
abbrev RGC_SENSE_LOCAL : Nat := 0x5012
abbrev RGC_SENSE_REMOTE : Nat := 0x5013
abbrev RGC_SENSE_BOTH : Nat := 0x5014
abbrev RGC_ALERT : Nat := 0x5015
abbrev RGC_ALERT_CLEAR : Nat := 0x5016
abbrev RGC_CAL_DONE : Nat := 0x5017
abbrev RGC_CAL_DEFERRED : Nat := 0x5018
abbrev RGC_SEQ_HALT : Nat := 0x5019
abbrev RGC_SEQ_DONE : Nat := 0x501a
abbrev THM_SOFT : Nat := 0x6001
abbrev THM_SOFT_END : Nat := 0x6002
abbrev THM_HARD : Nat := 0x6003
abbrev THM_HARD_END : Nat := 0x6004
abbrev THM_SUSPECT : Nat := 0x6005
abbrev THM_DIODE_BROKEN : Nat := 0x6006
abbrev THM_STALE : Nat := 0x6007
abbrev THM_TRIP : Nat := 0x6008
abbrev THM_TRIP_TEST_FAIL : Nat := 0x6009
abbrev THM_DEMAND_OVERRUN : Nat := 0x600a
abbrev THM_CAL_DONE : Nat := 0x600b
abbrev SEN_ROWCOL_FAIL : Nat := 0x7001
abbrev SEN_SPARED : Nat := 0x7002
abbrev SEN_NO_SPARE : Nat := 0x7003
abbrev SEN_RETIRED : Nat := 0x7004
abbrev SEN_MARGIN : Nat := 0x7005
abbrev SEN_MARGIN_EXHAUSTED : Nat := 0x7006
abbrev SEN_CV_MISMATCH : Nat := 0x7007
abbrev SEN_POISON : Nat := 0x7008
abbrev SEN_RETRACT : Nat := 0x7009
abbrev SEN_DIGEST_SPLIT : Nat := 0x700a
abbrev SEN_EXPELLED : Nat := 0x700b
abbrev SEN_DIGEST_MISSING : Nat := 0x700c
abbrev SEN_TEST_FAIL : Nat := 0x700d
abbrev SEN_TEST_DEFERRED : Nat := 0x700e
abbrev SEN_LIB_LOADED : Nat := 0x700f
abbrev SEN_LIB_REJECTED : Nat := 0x7010
abbrev SEN_MAP_TIMEOUT : Nat := 0x7011
abbrev SEN_QUEUE_OVF : Nat := 0x7012
abbrev SEN_EPOCH_SKEW : Nat := 0x7013
abbrev SEN_REPORT_BAD : Nat := 0x7014
abbrev CAS_FORMED : Nat := 0x8001
abbrev CAS_FORM_SHORT : Nat := 0x8002
abbrev CAS_NO_QUORUM : Nat := 0x8003
abbrev CAS_DEPTH : Nat := 0x8004
abbrev CAS_VERSION_REFUSED : Nat := 0x8005
abbrev CAS_JOIN_REFUSED : Nat := 0x8006
abbrev CAS_LINK_DOWN : Nat := 0x8007
abbrev CAS_DETACHED : Nat := 0x8008
abbrev CAS_REATTACHED : Nat := 0x8009
abbrev CAS_TAKEOVER : Nat := 0x800a
abbrev CAS_STANDBY : Nat := 0x800b
abbrev CAS_PKG_LOST : Nat := 0x800c
abbrev CAS_TIME_DEGRADED : Nat := 0x800d
abbrev CAS_OBJ_ERR : Nat := 0x800e
abbrev CAS_FREEZE : Nat := 0x800f
abbrev CAS_THAW : Nat := 0x8010
abbrev CAS_RESET : Nat := 0x8011
abbrev CAS_PACE_GAP : Nat := 0x8012
abbrev CAS_HELD_OVF : Nat := 0x8013
abbrev MGT_RESTART : Nat := 0x9001
abbrev MGT_STORE_DISCARD : Nat := 0x9002
abbrev MGT_BUSERR : Nat := 0x9003
abbrev MGT_MBX_TIMEOUT : Nat := 0x9004
abbrev MGT_MBX_BAD_VER : Nat := 0x9005
abbrev MGT_IMAGE_REJECTED : Nat := 0x9006
abbrev MGT_PEER_VERSION : Nat := 0x9007
abbrev MGT_PROV_INVALID : Nat := 0x9008
abbrev MGT_PROV_CLAMP : Nat := 0x9009
abbrev MGT_LC_CHANGE : Nat := 0x900a
abbrev MGT_LC_TOKEN_BAD : Nat := 0x900b
abbrev UPD_STAGED : Nat := 0x900c
abbrev UPD_VERIFY_FAIL : Nat := 0x900d
abbrev UPD_ACTIVATED : Nat := 0x900e
abbrev UPD_CONFIRMED : Nat := 0x900f
abbrev UPD_FALLBACK : Nat := 0x9010
abbrev UPD_ABORTED : Nat := 0x9011
abbrev MTR_STAMP : Nat := 0x9012
abbrev MTR_REFUSED : Nat := 0x9013
abbrev MTR_FAULT : Nat := 0x9014
abbrev MTR_RANGE : Nat := 0x9015
abbrev MTR_LOG : Nat := 0x9016
abbrev MTR_ABSENT : Nat := 0x9017
abbrev REC_POWER_ON : Nat := 0xa001
abbrev REC_FORMAT : Nat := 0xa002
abbrev REC_TORN : Nat := 0xa003
abbrev REC_FULL : Nat := 0xa004
abbrev REC_ALIVE : Nat := 0xa005
abbrev REC_STAGE_LOST : Nat := 0xa006
abbrev REC_FREEZE : Nat := 0xa007
abbrev REC_THAW : Nat := 0xa008
abbrev REC_ERASE_START : Nat := 0xa009
abbrev REC_NMI_FULL : Nat := 0xa00a
abbrev TRC_LOST : Nat := 0xa00b
abbrev TRC_LANE_DOWN : Nat := 0xa00c

end Sys2Proof.Machine.Ev
end

