-- ==== Sys2Proof/Config.lean ====
section
/-!
DEFINITION. Config.lean: what one package fixes, and the free values.
An opaque constant stands for a value the spec does not state: nothing can be proved of it, so a statement holds
whatever it is.
-/
namespace Sys2Proof.Config

/-- The fused package UID of LK_ID_UID and LK_CAS_UID; the spec gives no value, and 0 is not one a fused part has. -/
opaque uidSeed : Nat
/-- The UID itself, never 0. DESIGN CHOICE, log 8. -/
def uid : Nat := uidSeed % (2 ^ 64 - 1) + 1

/-- A free value: a value the spec leaves open, the `k`-th one the machine draws. DESIGN CHOICE, log 7. -/
opaque freeValue : Nat → Nat

/-- The image of a processor in slot A as the package left the factory, byte by byte; the spec gives no image.
DESIGN CHOICE, log 8. -/
opaque factoryImage : Nat → List Nat

/-- mcycle (0) and minstret (1) of a processor after it has run for some time, which a package freeze holds (R413); the spec
runs no instructions. DESIGN CHOICE, log 8. -/
opaque coreCount : Nat → Nat → Nat → Nat

/-- The settings a new image of a processor makes, for its SET_VER, from those in force (R459); the spec gives no conversion.
DESIGN CHOICE, log 8. -/
opaque converted : Nat → Nat → List Nat → List Nat

/-- The part number of a compute die in its IDCODE, and the low 12 bits, with the maker, of every IDCODE (R502); the spec
gives no values. DESIGN CHOICE, log 8. -/
opaque diePart : Nat
opaque idMaker : Nat

/-- The meter's serial number (R472, R486); the spec gives no value. DESIGN CHOICE, log 8. -/
opaque meterSn : Nat
/-- The meter's firmware version (R472, R486); the spec gives no value. DESIGN CHOICE, log 8. -/
opaque meterFwVer : Nat
/-- The twelve words of the meter's firmware hash (R472, R486); the spec gives no values. DESIGN CHOICE, log 8. -/
opaque meterFwHash : Nat → Nat

/-- The bytes of the meter's calibration constants, k_V, R_sh, their corrections and the temperature they hold at, whose CRC-32C
is CAL_ID (R474); the spec gives no layout. DESIGN CHOICE, log 8. -/
opaque calBytes : Nat → Nat → Int → Int → Int → List Nat
/-- How long a copy into the meter's mirror takes, by the SEQ it begins at; the spec bounds it by 20 µs (R473). DESIGN CHOICE,
log 8. -/
opaque copyTime : Nat → Nat
/-- How long the handshake of a stamp request takes, by its instant; the spec bounds it by 250 ns (R475). DESIGN CHOICE, log 8. -/
opaque ackTime : Nat → Nat

end Sys2Proof.Config
end

