-- ==== Sys2Proof/Machine/Bits.lean ====
section
/-!
DEFINITION. Machine/Bits.lean: bit fields, sign extension and the CRC-16 of the voltage command link.
-/
namespace Sys2Proof.Machine

/-- Bit `k` of a register value. -/
def bit (v k : Nat) : Bool := v.testBit k
/-- `w` bits of `v` from bit `lo`. -/
def bits (v lo w : Nat) : Nat := v / 2 ^ lo % 2 ^ w
/-- One if true. -/
def b2n (b : Bool) : Nat := if b then 1 else 0
/-- `v` with bit `k` set or cleared. -/
def withBit (v k : Nat) (b : Bool) : Nat :=
  if b then (if bit v k then v else v + 2 ^ k) else (if bit v k then v - 2 ^ k else v)
/-- The mask's bits that are set, ascending, among the lowest `n`. -/
def setBits (n v : Nat) : List Nat := (List.range n).filter (bit v ·)
/-- Number of set bits among the lowest `n`. -/
def popCount (n v : Nat) : Nat := (setBits n v).length
/-- A mask of the listed bits. -/
def maskOf (l : List Nat) : Nat := l.eraseDups.foldl (fun m k => m + 2 ^ k) 0
/-- The two's-complement reading of a `w`-bit value. -/
def signed (w v : Nat) : Int := if v % 2 ^ w < 2 ^ (w - 1) then (v % 2 ^ w : Nat) else (v % 2 ^ w : Nat) - (2 ^ w : Nat)
/-- The `w`-bit two's-complement pattern of an integer, saturated to the range the width encodes. -/
def unsigned (w : Nat) (i : Int) : Nat :=
  let hi : Int := (2 ^ (w - 1) : Nat) - 1
  let lo : Int := -((2 ^ (w - 1) : Nat) : Int)
  ((max lo (min hi i)) % ((2 ^ w : Nat) : Int)).toNat
/-- The greatest value a `w`-bit field holds; registers saturate there where the spec says so. -/
def sat (w v : Nat) : Nat := min v (2 ^ w - 1)
/-- Division rounded up. -/
def cdiv (a b : Nat) : Nat := (a + b - 1) / b
/-- Element `k` of a list of numbers, 0 beyond its end. -/
def nth (l : List Nat) (k : Nat) : Nat := l.getD k 0

/-- One byte into a CRC-16 of polynomial 0x1021, most significant bit first. -/
def crc16Byte (c b : Nat) : Nat :=
  (List.range 8).foldl (fun c _ => if c ≥ 0x8000 then ((c * 2) % 0x10000) ^^^ 0x1021 else (c * 2) % 0x10000) (c ^^^ (b * 256))
/-- CRC-16 with polynomial 0x1021 and initial value 0xFFFF over 16-bit words, each most significant byte first. -/
def crc16 (ws : List Nat) : Nat :=
  ws.foldl (fun c w => crc16Byte (crc16Byte c (w / 256 % 256)) (w % 256)) 0xFFFF

/-- One byte into a CRC-32C, least significant bit first. -/
def crc32cByte (c b : Nat) : Nat :=
  (List.range 8).foldl (fun c _ => if c % 2 = 1 then (c / 2) ^^^ 0x82F63B78 else c / 2) (c ^^^ b)
/-- The bytes of a number, the least significant first. -/
def bytesOf (n v : Nat) : List Nat := (List.range n).map fun k => bits v (8 * k) 8
/-- `w` bits of `v` from bit `lo` replaced. -/
def putBits (v lo w x : Nat) : Nat := v - bits v lo w * 2 ^ lo + x % 2 ^ w * 2 ^ lo
/-- A number from bytes, the least significant first, `n` of them from a place on. -/
def numAt (b : List Nat) (k n : Nat) : Nat := ((b.drop k).take n).foldr (fun x v => x % 256 + 256 * v) 0
/-- CRC-32C of a string of bytes (R313, R420, R465). -/
def crc32c (bs : List Nat) : Nat := (bs.foldl crc32cByte 0xFFFFFFFF) ^^^ 0xFFFFFFFF
/-- The CRC-32C of a boot-control entry, over its first 28 bytes with STATE as it is before that is programmed, so that it
stands when STATE changes in place (R448). DEDUCED, log 51. -/
def bootSum (proc slot ver svn : Nat) : Nat :=
  crc32c ([1] ++ bytesOf 1 proc ++ bytesOf 1 slot ++ [0xFF] ++ bytesOf 8 ver ++ bytesOf 4 svn ++ List.replicate 12 0)
/-- The CRC-32C of a settings copy, over its header before it and its settings (R459). -/
def setSum (setVer gen : Nat) (data : List Nat) : Nat :=
  crc32c ([1, 0] ++ bytesOf 2 setVer ++ bytesOf 4 gen ++ List.replicate 4 0 ++ data)

end Sys2Proof.Machine
end

