-- ==== Sys2Proof/Machine/Tab.lean ====
section
/-!
DEFINITION. Machine/Tab.lean: tables with numbers for keys, held in one canonical form: entries by strictly rising key.
-/
namespace Sys2Proof.Machine

/-- Entries by strictly rising key. DESIGN CHOICE, log 11. -/
abbrev Tab (α : Type) := List (Nat × α)

/-- The entry at a key. -/
def Tab.find {α : Type} : Tab α → Nat → Option α
  | [], _ => none
  | (k, v) :: t, q => if k = q then some v else Tab.find t q

/-- The table without an entry at a key. -/
def Tab.del {α : Type} : Tab α → Nat → Tab α
  | [], _ => []
  | (k, v) :: t, q => if k = q then Tab.del t q else (k, v) :: Tab.del t q

/-- The table with an entry at a key, in its place. -/
def Tab.put {α : Type} : Tab α → Nat → α → Tab α
  | [], q, x => [(q, x)]
  | (k, v) :: t, q, x =>
    if q < k then (q, x) :: (k, v) :: t
    else if q = k then (q, x) :: t
    else (k, v) :: Tab.put t q x

/-- The canonical form: strictly rising keys. -/
def Tab.wf {α : Type} : Tab α → Bool
  | [] => true
  | [_] => true
  | (k, _) :: (k', v') :: t => decide (k < k') && Tab.wf ((k', v') :: t)

end Sys2Proof.Machine
end

