-- ==== Sys2Proof/Machine/Regs.lean ====
section
/-!
DEFINITION. Machine/Regs.lean: the register window as a store of fields.
A register of the window (R5, R6) is a list of fields; a field is its offset, its lowest bit, its width, its access
code (R7) and its reset value. The store lists, by rising key, only the fields whose value differs from their reset
value, so equal windows are equal data. One home per field: every unit of the block reads and writes its own fields
here, and a bus access assembles a register from the same fields.
-/
namespace Sys2Proof.Machine

/-- The access codes of R7. -/
inductive Acc where
  | rw | ro | w1c | w1s | rwl | rwt | ros
  deriving DecidableEq, Repr

/-- A field of a register of the window: offset, lowest bit, width, access code and reset value. -/
structure Fld where
  off : Nat
  lo  : Nat
  w   : Nat
  acc : Acc
  rst : Nat
  deriving DecidableEq, Repr

/-- The key of a field in the store. -/
def Fld.key (f : Fld) : Nat := f.off * 64 + f.lo

/-- The window's fields that differ from their reset value, by strictly rising key. DESIGN CHOICE, log 11. -/
abbrev Regs := Tab Nat

/-- A field's value: its entry, or its reset value where it has none; it never exceeds the field's width. -/
def Regs.get (r : Regs) (f : Fld) : Nat := (Tab.find r f.key).getD f.rst % 2 ^ f.w

/-- A field takes a value, cut to its width; writing the reset value removes the entry. -/
def Regs.set (r : Regs) (f : Fld) (v : Nat) : Regs :=
  if v % 2 ^ f.w = f.rst then Tab.del r f.key else Tab.put r f.key (v % 2 ^ f.w)

end Sys2Proof.Machine
end

