-- ==== Sys2Proof/Machine/RegDefs.lean ====
section
/-!
DEFINITION. Machine/RegDefs.lean: every field of every register the spec's register tables give, with its offset, bits,
access code and reset value as the table states them. A field's name is its register's name and its own, the index of
an array of registers is the first argument, that of an array within it the second.
-/
namespace Sys2Proof.Machine.R

/-- Reset of LK_BUD_RAILn_LIM.LIMIT and of its ceiling, in 1/16 A (R121). -/
def limReset (n : Nat) : Nat :=
  if n < 8 then 0x2300 else if n = 8 then 0x1900 else if n = 9 then 0x12C0 else if n = 10 then 0x0640
  else if n < 15 then 0x05A0 else 0x0500
/-- Reset of PH_BASE (R163). -/
def phBaseReset (n : Nat) : Nat :=
  if n < 8 then 12 * n else if n = 8 then 96 else if n = 9 then 104 else if n = 10 then 110
  else if n < 15 then 112 + 2 * (n - 11) else 120
/-- Reset of NPH (R163). -/
def nphReset (n : Nat) : Nat := if n < 8 then 12 else if n = 8 then 8 else if n = 9 then 6 else 2
/-- Reset of VNOM, in mV (R198). -/
def vnomReset (n : Nat) : Nat :=
  if n < 8 then 0x226 else if n = 8 then 0x352 else if n = 9 then 0x2EE else if n = 10 then 0x320
  else if n < 15 then 0x44C else 0x320
/-- Reset of VMAX and of its ceiling, in mV (R198). -/
def vmaxReset (n : Nat) : Nat :=
  if n < 8 then 0x384 else if n = 8 then 0x3E8 else if n = 9 then 0x352 else if n = 10 then 0x3B6
  else if n < 15 then 0x4B0 else 0x384
/-- Resets of LK_RGC_Ln_SEQ by R204: stage, ramp in mV/us, and the two delays in units of 10 us (R237). -/
def stageReset (n : Nat) : Nat := if n = 9 then 0 else if n = 8 then 1 else if n = 10 then 1 else if n = 15 then 1 else if n < 8 then 3 else 2
def ssSlewReset (n : Nat) : Nat := if 11 ≤ n ∧ n ≤ 14 then 2 else 1
def onDlyReset (n : Nat) : Nat :=
  if n = 9 then 0 else if n < 8 then 5 * n else if 11 ≤ n ∧ n ≤ 14 then 20 else 10
def offDlyReset (n : Nat) : Nat := if n = 9 then 0 else if n < 8 then 0 else 10
/-- Requester of a mailbox, by the initiator codes of STS.REQ (R394, R414). -/
def mbxReq (n : Nat) : Nat := [0, 0, 0, 2, 3, 3, 2, 1].getD n 0
/-- Responder of a mailbox (R394, R414). -/
def mbxRsp (n : Nat) : Nat := [1, 2, 3, 1, 1, 2, 3, 2].getD n 0
/-- Reset of the cost entry of a class, format and sparsity code (R53); 0 for every reserved code (R52). -/
def costReset (cls fmt sp : Nat) : Nat :=
  if fmt > 5 ∨ sp > 2 then 0
  else if cls ≤ 1 then
    (if sp = 0 then [7, 7, 8, 8, 6, 7].getD fmt 0
     else if sp = 1 then [5, 5, 6, 6, 4, 5].getD fmt 0
     else [4, 4, 5, 5, 3, 4].getD fmt 0)
  else [3, 3, 2, 4, 8].getD (cls - 2) 0

/- LK_ADM_CTL -/
def ADM_CTL_FAST_EN : Fld := ⟨0x10000, 0, 1, .rwl, 0x1⟩
def ADM_CTL_HINT_EN : Fld := ⟨0x10000, 1, 1, .rwl, 0x1⟩
def ADM_CTL_STRIDE : Fld := ⟨0x10000, 16, 10, .rwl, 0x25⟩

/- LK_ADM_RAMP -/
def ADM_RAMP_STEP : Fld := ⟨0x10004, 0, 10, .rw, 0x1c⟩
def ADM_RAMP_FAST_STEP : Fld := ⟨0x10004, 16, 10, .rw, 0x71⟩

/- LK_ADM_RAMP_CEIL -/
def ADM_RAMP_CEIL_STEP_CEIL : Fld := ⟨0x10008, 0, 10, .rwt, 0x1c⟩
def ADM_RAMP_CEIL_FAST_CEIL : Fld := ⟨0x10008, 16, 10, .rwt, 0x71⟩

/- LK_ADM_PKG_SLOPE -/
def ADM_PKG_SLOPE_STEP : Fld := ⟨0x1000c, 0, 12, .rw, 0x1aa⟩
def ADM_PKG_SLOPE_STEP_CEIL : Fld := ⟨0x1000c, 16, 12, .rwt, 0x1aa⟩

/- LK_ADM_UNCORE -/
def ADM_UNCORE_ALLOW : Fld := ⟨0x10010, 0, 10, .rwl, 0x6e⟩
def ADM_UNCORE_ALLOW_FLOOR : Fld := ⟨0x10010, 16, 10, .rwt, 0x6e⟩

/- LK_ADM_HINT -/
def ADM_HINT_MIN_LEAD : Fld := ⟨0x10014, 0, 12, .rw, 0x50⟩
def ADM_HINT_ARM_TIMEOUT : Fld := ⟨0x10014, 16, 12, .rw, 0x400⟩

/- LK_ADM_CUFF_CFG -/
def ADM_CUFF_CFG_PEAK_PCT : Fld := ⟨0x10018, 0, 8, .rwl, 0x78⟩
def ADM_CUFF_CFG_AVG_PCT : Fld := ⟨0x10018, 8, 8, .rwl, 0x5f⟩
def ADM_CUFF_CFG_REL_PCT : Fld := ⟨0x10018, 16, 8, .rwl, 0x55⟩
def ADM_CUFF_CFG_MIN_HOLD : Fld := ⟨0x10018, 24, 8, .rwl, 0x8⟩

/- LK_ADM_CUFF_LVL -/
def ADM_CUFF_LVL_LEVEL_PCT : Fld := ⟨0x1001c, 0, 8, .rwl, 0x32⟩
def ADM_CUFF_LVL_ALERT_PCT : Fld := ⟨0x1001c, 8, 8, .rwl, 0x0⟩
def ADM_CUFF_LVL_STORM_COUNT : Fld := ⟨0x1001c, 16, 4, .rwl, 0x4⟩
def ADM_CUFF_LVL_STORM_WIN : Fld := ⟨0x1001c, 24, 8, .rwl, 0x10⟩

/- LK_ADM_OPSCALE0 -/
def ADM_OPSCALE0_DIV4 : Fld := ⟨0x10020, 0, 8, .rwl, 0x17⟩
def ADM_OPSCALE0_DIV5 : Fld := ⟨0x10020, 8, 8, .rwl, 0x10⟩
def ADM_OPSCALE0_DIV6 : Fld := ⟨0x10020, 16, 8, .rwl, 0xd⟩
def ADM_OPSCALE0_DIV8 : Fld := ⟨0x10020, 24, 8, .rwl, 0x9⟩

/- LK_ADM_OPSCALE1 -/
def ADM_OPSCALE1_DIV10 : Fld := ⟨0x10024, 0, 8, .rwl, 0x7⟩
def ADM_OPSCALE1_DIV12 : Fld := ⟨0x10024, 8, 8, .rwl, 0x5⟩
def ADM_OPSCALE1_DIV16 : Fld := ⟨0x10024, 16, 8, .rwl, 0x4⟩

/- LK_ADM_COST_SWAP -/
def ADM_COST_SWAP_DIE : Fld := ⟨0x10028, 0, 8, .w1s, 0x0⟩

/- LK_ADM_DIEn_STATUS, R80 -/
def ADM_DIE_STATUS_POOL (n : Nat) : Fld := ⟨0x10100 + n * 0x100, 0, 13, .ro, 0x0⟩
def ADM_DIE_STATUS_FAST_ARMED (n : Nat) : Fld := ⟨0x10100 + n * 0x100, 16, 1, .ro, 0x0⟩
def ADM_DIE_STATUS_FAST_ACTIVE (n : Nat) : Fld := ⟨0x10100 + n * 0x100, 17, 1, .ro, 0x0⟩
def ADM_DIE_STATUS_CUFF (n : Nat) : Fld := ⟨0x10100 + n * 0x100, 18, 1, .ro, 0x0⟩
def ADM_DIE_STATUS_SEAM_HOLD (n : Nat) : Fld := ⟨0x10100 + n * 0x100, 19, 1, .ro, 0x0⟩
def ADM_DIE_STATUS_SAFE_TIER (n : Nat) : Fld := ⟨0x10100 + n * 0x100, 20, 1, .ro, 0x0⟩
def ADM_DIE_STATUS_FENCED (n : Nat) : Fld := ⟨0x10100 + n * 0x100, 21, 1, .ro, 0x0⟩

/- LK_ADM_DIEn_STROKE, R80 -/
def ADM_DIE_STROKE_GRANTED (n : Nat) : Fld := ⟨0x10104 + n * 0x100, 0, 13, .ro, 0x0⟩
def ADM_DIE_STROKE_ALLOW (n : Nat) : Fld := ⟨0x10104 + n * 0x100, 16, 13, .ro, 0x0⟩

/- LK_ADM_DIEn_RAMP, R80 -/
def ADM_DIE_RAMP_START (n : Nat) : Fld := ⟨0x10108 + n * 0x100, 0, 10, .ro, 0x0⟩
def ADM_DIE_RAMP_SHARE (n : Nat) : Fld := ⟨0x10108 + n * 0x100, 16, 10, .ro, 0x1c⟩

/- LK_ADM_DIEn_POOL_CAP, R80 -/
def ADM_DIE_POOL_CAP_CAP (n : Nat) : Fld := ⟨0x1010c + n * 0x100, 0, 13, .rw, 0x1fff⟩

/- LK_ADM_DIEn_CUFF_CAUSE, R80 -/
def ADM_DIE_CUFF_CAUSE_PEAK (n : Nat) : Fld := ⟨0x10110 + n * 0x100, 0, 1, .w1c, 0x0⟩
def ADM_DIE_CUFF_CAUSE_AVG (n : Nat) : Fld := ⟨0x10110 + n * 0x100, 1, 1, .w1c, 0x0⟩
def ADM_DIE_CUFF_CAUSE_DROOP (n : Nat) : Fld := ⟨0x10110 + n * 0x100, 2, 1, .w1c, 0x0⟩
def ADM_DIE_CUFF_CAUSE_ALERT (n : Nat) : Fld := ⟨0x10110 + n * 0x100, 3, 1, .w1c, 0x0⟩
def ADM_DIE_CUFF_CAUSE_PHASE (n : Nat) : Fld := ⟨0x10110 + n * 0x100, 4, 1, .w1c, 0x0⟩
def ADM_DIE_CUFF_CAUSE_STORM (n : Nat) : Fld := ⟨0x10110 + n * 0x100, 8, 1, .w1c, 0x0⟩

/- LK_ADM_DIEn_CNT_CUFF, R80 -/
def ADM_DIE_CNT_CUFF_COUNT (n : Nat) : Fld := ⟨0x10118 + n * 0x100, 0, 64, .ro, 0x0⟩

/- LK_ADM_DIEn_CNT_UNMET, R80 -/
def ADM_DIE_CNT_UNMET_COUNT (n : Nat) : Fld := ⟨0x10120 + n * 0x100, 0, 64, .ro, 0x0⟩

/- LK_ADM_DIEn_CNT_TOKENS, R80 -/
def ADM_DIE_CNT_TOKENS_COUNT (n : Nat) : Fld := ⟨0x10128 + n * 0x100, 0, 64, .ro, 0x0⟩

/- LK_ADM_DIEn_HINT, R80 -/
def ADM_DIE_HINT_LAYER (n : Nat) : Fld := ⟨0x10130 + n * 0x100, 0, 16, .ro, 0x0⟩
def ADM_DIE_HINT_OPERATOR (n : Nat) : Fld := ⟨0x10130 + n * 0x100, 16, 12, .ro, 0x0⟩
def ADM_DIE_HINT_VALID (n : Nat) : Fld := ⟨0x10130 + n * 0x100, 31, 1, .ro, 0x0⟩

/- LK_BUD_CTL -/
def BUD_CTL_LT_EN : Fld := ⟨0x20000, 0, 1, .rwl, 0x1⟩
def BUD_CTL_LT_LEARN : Fld := ⟨0x20000, 1, 1, .rwl, 0x1⟩
def BUD_CTL_BURST_EN : Fld := ⟨0x20000, 3, 1, .rwl, 0x1⟩
def BUD_CTL_USE_CONF : Fld := ⟨0x20000, 8, 4, .rwl, 0x4⟩
def BUD_CTL_REPLACE_CONF : Fld := ⟨0x20000, 12, 4, .rwl, 0x2⟩
def BUD_CTL_DECAY_SHIFT : Fld := ⟨0x20000, 16, 3, .rwl, 0x3⟩
def BUD_CTL_TOL_PCT : Fld := ⟨0x20000, 24, 8, .rwl, 0xc⟩

/- LK_BUD_LT_CFG -/
def BUD_LT_CFG_BIN_WIN : Fld := ⟨0x20004, 0, 8, .rwl, 0x8⟩
def BUD_LT_CFG_STEP_MIN : Fld := ⟨0x20004, 16, 8, .rwl, 0x14⟩

/- LK_BUD_PKG_CAP -/
def BUD_PKG_CAP_SUST : Fld := ⟨0x20008, 0, 13, .rw, 0xc80⟩
def BUD_PKG_CAP_PEAK : Fld := ⟨0x20008, 16, 13, .rw, 0xfa0⟩

/- LK_BUD_PKG_CEIL -/
def BUD_PKG_CEIL_SUST_CEIL : Fld := ⟨0x2000c, 0, 13, .rwt, 0xc80⟩
def BUD_PKG_CEIL_PEAK_CEIL : Fld := ⟨0x2000c, 16, 13, .rwt, 0xfa0⟩
def BUD_PKG_CEIL_PROV : Fld := ⟨0x2000c, 31, 1, .rwt, 0x0⟩

/- LK_BUD_BURST -/
def BUD_BURST_MAX : Fld := ⟨0x20010, 0, 10, .rw, 0x1e8⟩
def BUD_BURST_REFILL : Fld := ⟨0x20010, 12, 4, .rwl, 0xa⟩
def BUD_BURST_MAX_CEIL : Fld := ⟨0x20010, 16, 10, .rwt, 0x1e8⟩

/- LK_BUD_MISMATCH -/
def BUD_MISMATCH_PCT : Fld := ⟨0x20014, 0, 8, .rwl, 0xf⟩
def BUD_MISMATCH_WIN : Fld := ⟨0x20014, 8, 8, .rwl, 0x40⟩
def BUD_MISMATCH_GUARD_PCT : Fld := ⟨0x20014, 16, 8, .rwl, 0xa⟩
def BUD_MISMATCH_SLOPE : Fld := ⟨0x20014, 24, 8, .rwl, 0x14⟩

/- LK_BUD_RES -/
def BUD_RES_RES_GUARD : Fld := ⟨0x20018, 0, 8, .rwl, 0xa⟩

/- LK_BUD_OPSEL -/
def BUD_OPSEL_HYST_PCT : Fld := ⟨0x2001c, 0, 8, .rwl, 0x3⟩
def BUD_OPSEL_HOLD : Fld := ⟨0x2001c, 8, 8, .rwl, 0x10⟩
def BUD_OPSEL_OPMAX : Fld := ⟨0x2001c, 16, 3, .rwl, 0x0⟩

/- LK_BUD_STATUS -/
def BUD_STATUS_BURST_LEFT : Fld := ⟨0x20020, 0, 10, .ro, 0x1e8⟩
def BUD_STATUS_BURST_ACTIVE : Fld := ⟨0x20020, 12, 1, .ro, 0x0⟩
def BUD_STATUS_CAP_BOUND : Fld := ⟨0x20020, 13, 1, .ro, 0x0⟩

/- LK_BUD_PIN -/
def BUD_PIN_WATTS : Fld := ⟨0x20024, 0, 13, .ro, 0x0⟩

/- LK_BUD_PACE, R120 -/
def BUD_PACE_TOKENS : Fld := ⟨0x20030, 0, 13, .ro, 0x0⟩
def BUD_PACE_RATIO : Fld := ⟨0x20030, 16, 3, .ro, 0x0⟩
def BUD_PACE_ACTIVE : Fld := ⟨0x20030, 24, 1, .ro, 0x0⟩

/- LK_BUD_PACE_CAP, R120 -/
def BUD_PACE_CAP_CAP : Fld := ⟨0x20034, 0, 13, .ro, 0x0⟩

/- LK_BUD_PACE_CNT_SHORT, R120 -/
def BUD_PACE_CNT_SHORT_COUNT : Fld := ⟨0x20038, 0, 64, .ro, 0x0⟩

/- LK_BUD_BWAIT_LAST, R120 -/
def BUD_BWAIT_LAST_NS : Fld := ⟨0x20040, 0, 32, .ro, 0x0⟩

/- LK_BUD_BWAIT_MAX, R120 -/
def BUD_BWAIT_MAX_NS : Fld := ⟨0x20044, 0, 32, .ro, 0x0⟩

/- LK_BUD_BWAIT_SUM, R120 -/
def BUD_BWAIT_SUM_NS : Fld := ⟨0x20048, 0, 64, .ro, 0x0⟩

/- LK_BUD_BWAIT_COUNT, R120 -/
def BUD_BWAIT_COUNT_COUNT : Fld := ⟨0x20050, 0, 64, .ro, 0x0⟩

/- LK_BUD_JOB_CTL, R120 -/
def BUD_JOB_CTL_START : Fld := ⟨0x20060, 0, 1, .w1s, 0x0⟩
def BUD_JOB_CTL_STOP : Fld := ⟨0x20060, 1, 1, .w1s, 0x0⟩
def BUD_JOB_CTL_RUNNING : Fld := ⟨0x20060, 4, 1, .ro, 0x0⟩
def BUD_JOB_CTL_ERR : Fld := ⟨0x20060, 8, 1, .w1c, 0x0⟩

/- LK_BUD_JOB_ID, R120 -/
def BUD_JOB_ID_ID : Fld := ⟨0x20064, 0, 32, .rw, 0x0⟩

/- LK_BUD_JOB_T_START, R120 -/
def BUD_JOB_T_START_TIME : Fld := ⟨0x20068, 0, 64, .ro, 0x0⟩

/- LK_BUD_JOB_T_STOP, R120 -/
def BUD_JOB_T_STOP_TIME : Fld := ⟨0x20070, 0, 64, .ro, 0x0⟩

/- LK_BUD_JOB_E_IN, R120 -/
def BUD_JOB_E_IN_UJ : Fld := ⟨0x20078, 0, 64, .ro, 0x0⟩

/- LK_BUD_JOB_E_OUT, R120 -/
def BUD_JOB_E_OUT_UJ : Fld := ⟨0x20080, 0, 64, .ro, 0x0⟩

/- LK_BUD_LT_ACC, R120 -/
def BUD_LT_ACC_INDEX : Fld := ⟨0x20090, 0, 12, .rw, 0x0⟩
def BUD_LT_ACC_READ : Fld := ⟨0x20090, 16, 1, .w1s, 0x0⟩
def BUD_LT_ACC_WRITE : Fld := ⟨0x20090, 17, 1, .w1s, 0x0⟩
def BUD_LT_ACC_INVAL_ALL : Fld := ⟨0x20090, 18, 1, .w1s, 0x0⟩
def BUD_LT_ACC_BUSY : Fld := ⟨0x20090, 24, 1, .ro, 0x0⟩

/- LK_BUD_LT_DATAk, R120 -/
def BUD_LT_DATA_WORD (n : Nat) : Fld := ⟨0x200a0 + n * 0x4, 0, 32, .rw, 0x0⟩

/- LK_BUD_RAILn_LIM, R121 -/
def BUD_RAIL_LIM_LIMIT (n : Nat) : Fld := ⟨0x20100 + n * 0x40, 0, 14, .rw, limReset n⟩

/- LK_BUD_RAILn_CEIL, R121 -/
def BUD_RAIL_CEIL_CEIL (n : Nat) : Fld := ⟨0x20104 + n * 0x40, 0, 14, .rwt, limReset n⟩

/- LK_BUD_RAILn_EFF, R121 -/
def BUD_RAIL_EFF_EFF (n : Nat) : Fld := ⟨0x20108 + n * 0x40, 0, 10, .rwl, 0x3a2⟩

/- LK_BUD_RAILn_LEAK, R121 -/
def BUD_RAIL_LEAK_P45 (n : Nat) : Fld := ⟨0x2010c + n * 0x40, 0, 8, .rwl, (if n < 8 then 20 else 0)⟩
def BUD_RAIL_LEAK_P65 (n : Nat) : Fld := ⟨0x2010c + n * 0x40, 8, 8, .rwl, (if n < 8 then 32 else 0)⟩
def BUD_RAIL_LEAK_P85 (n : Nat) : Fld := ⟨0x2010c + n * 0x40, 16, 8, .rwl, (if n < 8 then 52 else 0)⟩
def BUD_RAIL_LEAK_P105 (n : Nat) : Fld := ⟨0x2010c + n * 0x40, 24, 8, .rwl, (if n < 8 then 85 else 0)⟩

/- LK_BUD_RAILn_STATUS, R121 -/
def BUD_RAIL_STATUS_LIM_EFF (n : Nat) : Fld := ⟨0x20110 + n * 0x40, 0, 14, .ro, 0x0⟩
def BUD_RAIL_STATUS_RUN (n : Nat) : Fld := ⟨0x20110 + n * 0x40, 16, 9, .ro, 0x0⟩
def BUD_RAIL_STATUS_MEASURED (n : Nat) : Fld := ⟨0x20110 + n * 0x40, 31, 1, .ro, 0x0⟩

/- LK_BUD_RAILn_EST, R121 -/
def BUD_RAIL_EST_EST (n : Nat) : Fld := ⟨0x20114 + n * 0x40, 0, 14, .ro, 0x0⟩
def BUD_RAIL_EST_MEAS (n : Nat) : Fld := ⟨0x20114 + n * 0x40, 16, 14, .ro, 0x0⟩

/- LK_BUD_RAILn_E_OUT, R121 -/
def BUD_RAIL_E_OUT_UJ (n : Nat) : Fld := ⟨0x20118 + n * 0x40, 0, 64, .ro, 0x0⟩

/- LK_BUD_RAILn_CNT_MEASURED, R121 -/
def BUD_RAIL_CNT_MEASURED_COUNT (n : Nat) : Fld := ⟨0x20120 + n * 0x40, 0, 64, .ro, 0x0⟩

/- LK_BUD_RAILn_CNT_OVER, R121 -/
def BUD_RAIL_CNT_OVER_COUNT (n : Nat) : Fld := ⟨0x20128 + n * 0x40, 0, 64, .ro, 0x0⟩

/- LK_CLK_SRC -/
def CLK_SRC_ACTIVE : Fld := ⟨0x30000, 0, 2, .ro, 0x0⟩
def CLK_SRC_XTAL_PROVEN : Fld := ⟨0x30000, 4, 1, .ro, 0x0⟩
def CLK_SRC_PLL_LOCK : Fld := ⟨0x30000, 5, 1, .ro, 0x0⟩
def CLK_SRC_HOLDOVER : Fld := ⟨0x30000, 6, 1, .ro, 0x0⟩
def CLK_SRC_FAIL_CAUSE : Fld := ⟨0x30000, 8, 3, .ro, 0x0⟩

/- LK_CLK_SRC_CTL -/
def CLK_SRC_CTL_INT_OK : Fld := ⟨0x30004, 0, 1, .rwl, 0x0⟩
def CLK_SRC_CTL_RETURN : Fld := ⟨0x30004, 1, 1, .w1s, 0x0⟩
def CLK_SRC_CTL_INT_OPMAX : Fld := ⟨0x30004, 4, 3, .rwl, 0x1⟩

/- LK_CLK_RAMP -/
def CLK_RAMP_HOLD_AP : Fld := ⟨0x30008, 0, 4, .rwl, 0x1⟩
def CLK_RAMP_ACK_GRACE : Fld := ⟨0x30008, 8, 8, .rwl, 0x14⟩
def CLK_RAMP_ACK_RETRY : Fld := ⟨0x30008, 16, 4, .rwl, 0x3⟩

/- LK_CLK_OPV0 -/
def CLK_OPV0_DIV4 : Fld := ⟨0x3000c, 0, 8, .rwl, 0x46⟩
def CLK_OPV0_DIV5 : Fld := ⟨0x3000c, 8, 8, .rwl, 0x32⟩
def CLK_OPV0_DIV6 : Fld := ⟨0x3000c, 16, 8, .rwl, 0x28⟩
def CLK_OPV0_DIV8 : Fld := ⟨0x3000c, 24, 8, .rwl, 0x18⟩

/- LK_CLK_OPV1 -/
def CLK_OPV1_DIV10 : Fld := ⟨0x30010, 0, 8, .rwl, 0x10⟩
def CLK_OPV1_DIV12 : Fld := ⟨0x30010, 8, 8, .rwl, 0xa⟩
def CLK_OPV1_DIV16 : Fld := ⟨0x30010, 16, 8, .rwl, 0xa⟩

/- LK_CLK_DROOP_CFG -/
def CLK_DROOP_CFG_THR1 : Fld := ⟨0x30014, 0, 7, .rwl, 0x1e⟩
def CLK_DROOP_CFG_THR2 : Fld := ⟨0x30014, 8, 7, .rwl, 0x32⟩
def CLK_DROOP_CFG_CUFF_AP : Fld := ⟨0x30014, 16, 4, .rwl, 0x4⟩
def CLK_DROOP_CFG_RECOVER_AP : Fld := ⟨0x30014, 20, 8, .rwl, 0x10⟩
def CLK_DROOP_CFG_FLOOR : Fld := ⟨0x30014, 28, 3, .rwl, 0x3⟩

/- LK_CLK_DROOP_STUCK -/
def CLK_DROOP_STUCK_LIMIT : Fld := ⟨0x30018, 0, 16, .rwl, 0x3e8⟩

/- LK_CLK_FMC_CTL -/
def CLK_FMC_CTL_SRC : Fld := ⟨0x30020, 0, 5, .rw, 0x0⟩
def CLK_FMC_CTL_REF : Fld := ⟨0x30020, 8, 2, .rw, 0x0⟩
def CLK_FMC_CTL_GATE : Fld := ⟨0x30020, 12, 4, .rw, 0x8⟩
def CLK_FMC_CTL_START : Fld := ⟨0x30020, 16, 1, .w1s, 0x0⟩
def CLK_FMC_CTL_BUSY : Fld := ⟨0x30020, 17, 1, .ro, 0x0⟩
def CLK_FMC_CTL_OVF : Fld := ⟨0x30020, 18, 1, .ro, 0x0⟩
def CLK_FMC_CTL_CLUSTER : Fld := ⟨0x30020, 20, 4, .rw, 0x0⟩

/- LK_CLK_FMC_COUNT -/
def CLK_FMC_COUNT_COUNT : Fld := ⟨0x30028, 0, 64, .ro, 0x0⟩

/- LK_CLK_DIEn_DIV, R160 -/
def CLK_DIE_DIV_TARGET (n : Nat) : Fld := ⟨0x30100 + n * 0x100, 0, 3, .ro, 0x6⟩
def CLK_DIE_DIV_NOW (n : Nat) : Fld := ⟨0x30100 + n * 0x100, 4, 3, .ro, 0x6⟩
def CLK_DIE_DIV_ACK_WAIT (n : Nat) : Fld := ⟨0x30100 + n * 0x100, 8, 1, .ro, 0x0⟩
def CLK_DIE_DIV_HELD (n : Nat) : Fld := ⟨0x30100 + n * 0x100, 9, 1, .w1c, 0x0⟩
def CLK_DIE_DIV_DROOP_ACTIVE (n : Nat) : Fld := ⟨0x30100 + n * 0x100, 10, 1, .ro, 0x0⟩
def CLK_DIE_DIV_V_ACK (n : Nat) : Fld := ⟨0x30100 + n * 0x100, 16, 8, .ro, 0x0⟩

/- LK_CLK_DIEn_GATE, R160 -/
def CLK_DIE_GATE_CL (n c : Nat) : Fld := ⟨0x30104 + n * 0x100, 2*c, 2, .rw, 0⟩

/- LK_CLK_DIEn_GATE_STS, R160 -/
def CLK_DIE_GATE_STS_CL (n c : Nat) : Fld := ⟨0x30108 + n * 0x100, 2*c, 2, .ro, 0⟩

/- LK_CLK_DIEn_CMARGIN, R160 -/
def CLK_DIE_CMARGIN_CLUSTER (n : Nat) : Fld := ⟨0x3010c + n * 0x100, 0, 16, .ro, 0x0⟩

/- LK_CLK_DIEn_DROOP_EN, R160 -/
def CLK_DIE_DROOP_EN_DET (n : Nat) : Fld := ⟨0x30110 + n * 0x100, 0, 32, .rw, 0xffffffff⟩

/- LK_CLK_DIEn_DROOP_NOW, R160 -/
def CLK_DIE_DROOP_NOW_DET (n : Nat) : Fld := ⟨0x30114 + n * 0x100, 0, 32, .ro, 0x0⟩

/- LK_CLK_DIEn_DROOP_SEEN, R160 -/
def CLK_DIE_DROOP_SEEN_DET (n : Nat) : Fld := ⟨0x30118 + n * 0x100, 0, 32, .w1c, 0x0⟩

/- LK_CLK_DIEn_DROOP_STUCK, R160 -/
def CLK_DIE_DROOP_STUCK_DET (n : Nat) : Fld := ⟨0x3011c + n * 0x100, 0, 32, .w1c, 0x0⟩

/- LK_CLK_DIEn_CNT_DROOP, R160 -/
def CLK_DIE_CNT_DROOP_COUNT (n : Nat) : Fld := ⟨0x30120 + n * 0x100, 0, 64, .ro, 0x0⟩

/- LK_CLK_DIEn_CNT_ACK_TO, R160 -/
def CLK_DIE_CNT_ACK_TO_COUNT (n : Nat) : Fld := ⟨0x30128 + n * 0x100, 0, 64, .ro, 0x0⟩

/- LK_RGC_SW_CTL -/
def RGC_SW_CTL_SRC : Fld := ⟨0x44000, 0, 1, .rwl, 0x0⟩
def RGC_SW_CTL_SOUT_EN : Fld := ⟨0x44000, 1, 1, .rwl, 0x0⟩
def RGC_SW_CTL_SOUT_DLY : Fld := ⟨0x44000, 4, 8, .rwl, 0x0⟩
def RGC_SW_CTL_INT_KHZ : Fld := ⟨0x44000, 16, 12, .rwl, 0x7d0⟩

/- LK_RGC_SW_STATUS -/
def RGC_SW_STATUS_REF_NOW : Fld := ⟨0x44004, 0, 1, .ro, 0x0⟩
def RGC_SW_STATUS_SYNC_LOCK : Fld := ⟨0x44004, 1, 1, .ro, 0x0⟩
def RGC_SW_STATUS_SYNC_HOLD : Fld := ⟨0x44004, 2, 1, .ro, 0x0⟩
def RGC_SW_STATUS_SYNC_KHZ : Fld := ⟨0x44004, 16, 12, .ro, 0x0⟩

/- LK_RGC_PREARM -/
def RGC_PREARM_PA_MV : Fld := ⟨0x44008, 0, 6, .rw, 0xa⟩
def RGC_PREARM_PA_SLEW : Fld := ⟨0x44008, 8, 6, .rw, 0x19⟩
def RGC_PREARM_MIN_A : Fld := ⟨0x44008, 16, 8, .rw, 0x14⟩
def RGC_PREARM_FF_PCT : Fld := ⟨0x44008, 24, 7, .rw, 0x4b⟩

/- LK_RGC_VCL_CFG -/
def RGC_VCL_CFG_ACK_N : Fld := ⟨0x4400c, 0, 4, .rwl, 0x5⟩
def RGC_VCL_CFG_PA_MAX : Fld := ⟨0x4400c, 8, 8, .rwl, 0x80⟩

/- LK_RGC_VCL_STATUS -/
def RGC_VCL_STATUS_UP : Fld := ⟨0x44010, 0, 9, .ro, 0x0⟩
def RGC_VCL_STATUS_DEAD : Fld := ⟨0x44010, 16, 9, .w1c, 0x0⟩

/- LK_RGC_VCL_CNT_CRC -/
def RGC_VCL_CNT_CRC_COUNT : Fld := ⟨0x44018, 0, 64, .ro, 0x0⟩

/- LK_RGC_VCL_CNT_DOWN -/
def RGC_VCL_CNT_DOWN_COUNT : Fld := ⟨0x44020, 0, 64, .ro, 0x0⟩

/- LK_RGC_Ln_CFG, R198 -/
def RGC_L_CFG_PH_BASE (n : Nat) : Fld := ⟨0x40000 + n * 0x400, 0, 7, .rwl, phBaseReset n⟩
def RGC_L_CFG_NPH (n : Nat) : Fld := ⟨0x40000 + n * 0x400, 8, 4, .rwl, nphReset n⟩
def RGC_L_CFG_DIV (n : Nat) : Fld := ⟨0x40000 + n * 0x400, 12, 2, .rwl, 0x1⟩
def RGC_L_CFG_NL_EN (n : Nat) : Fld := ⟨0x40000 + n * 0x400, 14, 1, .rwl, 0x1⟩
def RGC_L_CFG_ROT_EN (n : Nat) : Fld := ⟨0x40000 + n * 0x400, 15, 1, .rwl, 0x1⟩
def RGC_L_CFG_OFFSET (n : Nat) : Fld := ⟨0x40000 + n * 0x400, 16, 8, if n = 0 then .ro else .rwl, (n * 16)⟩

/- LK_RGC_Ln_VNOM, R198 -/
def RGC_L_VNOM_VNOM (n : Nat) : Fld := ⟨0x40004 + n * 0x400, 0, 11, .rwl, vnomReset n⟩

/- LK_RGC_Ln_VMAX, R198 -/
def RGC_L_VMAX_VMAX (n : Nat) : Fld := ⟨0x40008 + n * 0x400, 0, 11, .rw, vmaxReset n⟩
def RGC_L_VMAX_VMAX_CEIL (n : Nat) : Fld := ⟨0x40008 + n * 0x400, 16, 11, .rwt, vmaxReset n⟩

/- LK_RGC_Ln_SLEW, R198 -/
def RGC_L_SLEW_SLEW (n : Nat) : Fld := ⟨0x4000c + n * 0x400, 0, 6, .rw, 0x19⟩
def RGC_L_SLEW_SLEW_CEIL (n : Nat) : Fld := ⟨0x4000c + n * 0x400, 8, 6, .rwt, 0x32⟩

/- LK_RGC_Ln_TGT, R198 -/
def RGC_L_TGT_TARGET (n : Nat) : Fld := ⟨0x40010 + n * 0x400, 0, 11, .ro, vnomReset n⟩
def RGC_L_TGT_REF (n : Nat) : Fld := ⟨0x40010 + n * 0x400, 16, 11, .ro, vnomReset n⟩
def RGC_L_TGT_RAMP (n : Nat) : Fld := ⟨0x40010 + n * 0x400, 28, 1, .ro, 0x0⟩
def RGC_L_TGT_ACKED (n : Nat) : Fld := ⟨0x40010 + n * 0x400, 29, 1, .ro, 0x0⟩
def RGC_L_TGT_PREARMED (n : Nat) : Fld := ⟨0x40010 + n * 0x400, 30, 1, .ro, 0x0⟩

/- LK_RGC_Ln_COMP0, R198 -/
def RGC_L_COMP0_KP (n : Nat) : Fld := ⟨0x40014 + n * 0x400, 0, 16, .rw, 0x800⟩
def RGC_L_COMP0_KI (n : Nat) : Fld := ⟨0x40014 + n * 0x400, 16, 16, .rw, 0x199⟩

/- LK_RGC_Ln_COMP1, R198 -/
def RGC_L_COMP1_KD (n : Nat) : Fld := ⟨0x40018 + n * 0x400, 0, 16, .rw, 0x100⟩
def RGC_L_COMP1_LL (n : Nat) : Fld := ⟨0x40018 + n * 0x400, 16, 16, .rw, 0x0⟩

/- LK_RGC_Ln_SLOPE, R198 -/
def RGC_L_SLOPE_LPH (n : Nat) : Fld := ⟨0x4001c + n * 0x400, 0, 10, .rw, 0x64⟩
def RGC_L_SLOPE_SC_PCT (n : Nat) : Fld := ⟨0x4001c + n * 0x400, 16, 8, .rw, 0x4b⟩

/- LK_RGC_Ln_NL, R198 -/
def RGC_L_NL_NL_TH (n : Nat) : Fld := ⟨0x40020 + n * 0x400, 0, 6, .rw, 0xc⟩
def RGC_L_NL_NL_TH_ARM (n : Nat) : Fld := ⟨0x40020 + n * 0x400, 8, 6, .rw, 0x6⟩
def RGC_L_NL_NL_REL (n : Nat) : Fld := ⟨0x40020 + n * 0x400, 16, 6, .rw, 0x4⟩
def RGC_L_NL_NL_OV (n : Nat) : Fld := ⟨0x40020 + n * 0x400, 24, 6, .rw, 0x10⟩

/- LK_RGC_Ln_NLT, R198 -/
def RGC_L_NLT_MAX_ON (n : Nat) : Fld := ⟨0x40024 + n * 0x400, 0, 8, .rw, 0x1e⟩
def RGC_L_NLT_OV_MAX (n : Nat) : Fld := ⟨0x40024 + n * 0x400, 8, 8, .rw, 0x32⟩

/- LK_RGC_Ln_BAL, R198 -/
def RGC_L_BAL_BAL_MAX (n : Nat) : Fld := ⟨0x40028 + n * 0x400, 0, 8, .rw, 0x18⟩
def RGC_L_BAL_BAL_SHIFT (n : Nat) : Fld := ⟨0x40028 + n * 0x400, 8, 3, .rw, 0x3⟩
def RGC_L_BAL_THM_GAIN (n : Nat) : Fld := ⟨0x40028 + n * 0x400, 16, 8, .rw, 0x10⟩
def RGC_L_BAL_SINK_MAX (n : Nat) : Fld := ⟨0x40028 + n * 0x400, 24, 8, .rw, 0xa⟩

/- LK_RGC_Ln_APPLY, R198 -/
def RGC_L_APPLY_APPLY (n : Nat) : Fld := ⟨0x4002c + n * 0x400, 0, 1, .w1s, 0x0⟩

/- LK_RGC_Ln_STATUS, R198 -/
def RGC_L_STATUS_MODE (n : Nat) : Fld := ⟨0x40030 + n * 0x400, 0, 3, .ro, 0x0⟩
def RGC_L_STATUS_NROT (n : Nat) : Fld := ⟨0x40030 + n * 0x400, 8, 4, .ro, 0x0⟩
def RGC_L_STATUS_ROT (n : Nat) : Fld := ⟨0x40030 + n * 0x400, 12, 4, .ro, 0x0⟩
def RGC_L_STATUS_FF (n : Nat) : Fld := ⟨0x40030 + n * 0x400, 16, 1, .ro, 0x0⟩
def RGC_L_STATUS_REL_ARM (n : Nat) : Fld := ⟨0x40030 + n * 0x400, 17, 1, .ro, 0x0⟩

/- LK_RGC_Ln_STEP, R198 -/
def RGC_L_STEP_DI (n : Nat) : Fld := ⟨0x40034 + n * 0x400, 0, 16, .ro, 0x0⟩
def RGC_L_STEP_RATE (n : Nat) : Fld := ⟨0x40034 + n * 0x400, 16, 8, .ro, 0x0⟩
def RGC_L_STEP_WIN (n : Nat) : Fld := ⟨0x40034 + n * 0x400, 24, 8, .ro, 0x0⟩

/- LK_RGC_Ln_CNT_ALLPH, R198 -/
def RGC_L_CNT_ALLPH_COUNT (n : Nat) : Fld := ⟨0x40038 + n * 0x400, 0, 64, .ro, 0x0⟩

/- LK_RGC_Ln_CNT_BRAKE, R198 -/
def RGC_L_CNT_BRAKE_COUNT (n : Nat) : Fld := ⟨0x40040 + n * 0x400, 0, 64, .ro, 0x0⟩

/- LK_RGC_Ln_CNT_PREARM, R198 -/
def RGC_L_CNT_PREARM_COUNT (n : Nat) : Fld := ⟨0x40048 + n * 0x400, 0, 64, .ro, 0x0⟩

/- LK_RGC_Ln_PHi_CS, R199 -/
def RGC_PH_CS_GAIN (n i : Nat) : Fld := ⟨0x40100 + n * 0x400 + i * 0x40, 0, 16, .rw, 0x1388⟩
def RGC_PH_CS_OFS (n i : Nat) : Fld := ⟨0x40100 + n * 0x400 + i * 0x40, 16, 16, .rw, 0x0⟩

/- LK_RGC_Ln_PHi_STS, R199 -/
def RGC_PH_STS_IAVG (n i : Nat) : Fld := ⟨0x40104 + n * 0x400 + i * 0x40, 0, 16, .ro, 0x0⟩
def RGC_PH_STS_SLOT (n i : Nat) : Fld := ⟨0x40104 + n * 0x400 + i * 0x40, 16, 4, .ro, 0x0⟩
def RGC_PH_STS_INROT (n i : Nat) : Fld := ⟨0x40104 + n * 0x400 + i * 0x40, 20, 1, .ro, 0x0⟩
def RGC_PH_STS_BAL (n i : Nat) : Fld := ⟨0x40104 + n * 0x400 + i * 0x40, 24, 8, .ro, 0x0⟩

/- LK_RGC_Ln_PHi_TEMP, R199 -/
def RGC_PH_TEMP_TEMP (n i : Nat) : Fld := ⟨0x40108 + n * 0x400 + i * 0x40, 0, 12, .ro, 0x0⟩
def RGC_PH_TEMP_FLAG (n i : Nat) : Fld := ⟨0x40108 + n * 0x400 + i * 0x40, 16, 1, .ro, 0x0⟩

/- LK_RGC_SEQ_CTL -/
def RGC_SEQ_CTL_ON : Fld := ⟨0x44040, 0, 1, .w1s, 0x0⟩
def RGC_SEQ_CTL_OFF : Fld := ⟨0x44040, 1, 1, .w1s, 0x0⟩
def RGC_SEQ_CTL_RETRY_MS : Fld := ⟨0x44040, 8, 8, .rwl, 0x14⟩
def RGC_SEQ_CTL_RETRY_MAX : Fld := ⟨0x44040, 16, 2, .rwl, 0x3⟩
def RGC_SEQ_CTL_PG_US : Fld := ⟨0x44040, 24, 8, .rwl, 0xa⟩

/- LK_RGC_SEQ_STATUS -/
def RGC_SEQ_STATUS_STAGE : Fld := ⟨0x44044, 0, 2, .ro, 0x0⟩
def RGC_SEQ_STATUS_DONE : Fld := ⟨0x44044, 4, 1, .ro, 0x0⟩
def RGC_SEQ_STATUS_HALT : Fld := ⟨0x44044, 5, 1, .ro, 0x0⟩
def RGC_SEQ_STATUS_OFF_DONE : Fld := ⟨0x44044, 6, 1, .ro, 0x1⟩
def RGC_SEQ_STATUS_REG : Fld := ⟨0x44044, 16, 16, .ro, 0x0⟩

/- LK_RGC_CAL_CFG -/
def RGC_CAL_CFG_CAL_WAIT : Fld := ⟨0x44048, 0, 8, .rw, 0x64⟩

/- LK_RGC_Ln_SEQ, R237 -/
def RGC_L_SEQ_STAGE (n : Nat) : Fld := ⟨0x40060 + n * 0x400, 0, 2, .rwl, (stageReset n)⟩
def RGC_L_SEQ_SS_SLEW (n : Nat) : Fld := ⟨0x40060 + n * 0x400, 8, 6, .rwl, (ssSlewReset n)⟩
def RGC_L_SEQ_ON_DLY (n : Nat) : Fld := ⟨0x40060 + n * 0x400, 16, 8, .rwl, (onDlyReset n)⟩
def RGC_L_SEQ_OFF_DLY (n : Nat) : Fld := ⟨0x40060 + n * 0x400, 24, 8, .rwl, (offDlyReset n)⟩

/- LK_RGC_Ln_DEP, R237 -/
def RGC_L_DEP_DEP (n : Nat) : Fld := ⟨0x40064 + n * 0x400, 0, 16, .rwl, (if n = 9 then 0 else 0x200)⟩

/- LK_RGC_Ln_PROT, R237 -/
def RGC_L_PROT_SHORT_A (n : Nat) : Fld := ⟨0x40068 + n * 0x400, 0, 8, .rwl, 0x5a⟩
def RGC_L_PROT_OVL_PCT (n : Nat) : Fld := ⟨0x40068 + n * 0x400, 8, 8, .rwl, 0x73⟩
def RGC_L_PROT_OVL_FEATHER (n : Nat) : Fld := ⟨0x40068 + n * 0x400, 16, 8, .rwl, 0x32⟩
def RGC_L_PROT_OVL_OFF (n : Nat) : Fld := ⟨0x40068 + n * 0x400, 24, 8, .rwl, 0x14⟩

/- LK_RGC_Ln_SENSE, R237 -/
def RGC_L_SENSE_SD_MV (n : Nat) : Fld := ⟨0x4006c + n * 0x400, 0, 8, .rwl, 0x3c⟩
def RGC_L_SENSE_LS_COMP (n : Nat) : Fld := ⟨0x4006c + n * 0x400, 8, 8, .rwl, 0x1e⟩
def RGC_L_SENSE_LOCAL (n : Nat) : Fld := ⟨0x4006c + n * 0x400, 16, 1, .ro, 0x0⟩
def RGC_L_SENSE_RETRY (n : Nat) : Fld := ⟨0x4006c + n * 0x400, 17, 1, .w1s, 0x0⟩
def RGC_L_SENSE_CAUSE (n : Nat) : Fld := ⟨0x4006c + n * 0x400, 18, 2, .ro, 0x0⟩

/- LK_RGC_Ln_PHLOSS, R237 -/
def RGC_L_PHLOSS_DEV_A (n : Nat) : Fld := ⟨0x40070 + n * 0x400, 0, 8, .rwl, 0x14⟩
def RGC_L_PHLOSS_LOST (n : Nat) : Fld := ⟨0x40070 + n * 0x400, 8, 4, .ro, 0x0⟩
def RGC_L_PHLOSS_CAP (n : Nat) : Fld := ⟨0x40070 + n * 0x400, 16, 14, .ro, limReset n⟩

/- LK_RGC_Ln_FAULT, R237 -/
def RGC_L_FAULT_SHORT_LATCH (n : Nat) : Fld := ⟨0x40074 + n * 0x400, 0, 1, .w1c, 0x0⟩
def RGC_L_FAULT_SS_CAUSE (n : Nat) : Fld := ⟨0x40074 + n * 0x400, 1, 3, .ro, 0x0⟩
def RGC_L_FAULT_TRIES (n : Nat) : Fld := ⟨0x40074 + n * 0x400, 4, 2, .ro, 0x0⟩
def RGC_L_FAULT_OVL_SHUT (n : Nat) : Fld := ⟨0x40074 + n * 0x400, 8, 1, .w1c, 0x0⟩
def RGC_L_FAULT_DEP_OFF (n : Nat) : Fld := ⟨0x40074 + n * 0x400, 9, 1, .ro, 0x0⟩
def RGC_L_FAULT_FENCED (n : Nat) : Fld := ⟨0x40074 + n * 0x400, 10, 1, .ro, 0x0⟩
def RGC_L_FAULT_PARK (n : Nat) : Fld := ⟨0x40074 + n * 0x400, 16, 1, .rwl, 0x0⟩

/- LK_RGC_Ln_ALERT, R237 -/
def RGC_L_ALERT_EN (n : Nat) : Fld := ⟨0x40078 + n * 0x400, 0, 1, .rwl, 0x1⟩
def RGC_L_ALERT_NOW (n : Nat) : Fld := ⟨0x40078 + n * 0x400, 1, 1, .ro, 0x0⟩
def RGC_L_ALERT_SEEN (n : Nat) : Fld := ⟨0x40078 + n * 0x400, 2, 1, .w1c, 0x0⟩

/- LK_RGC_Ln_CAL, R237 -/
def RGC_L_CAL_START (n : Nat) : Fld := ⟨0x4007c + n * 0x400, 0, 1, .w1s, 0x0⟩
def RGC_L_CAL_BUSY (n : Nat) : Fld := ⟨0x4007c + n * 0x400, 1, 1, .ro, 0x0⟩
def RGC_L_CAL_PHASE (n : Nat) : Fld := ⟨0x4007c + n * 0x400, 4, 4, .ro, 0x0⟩
def RGC_L_CAL_REASON (n : Nat) : Fld := ⟨0x4007c + n * 0x400, 8, 4, .ro, 0x0⟩
def RGC_L_CAL_MASK (n : Nat) : Fld := ⟨0x4007c + n * 0x400, 16, 12, .rw, 0xfff⟩

/- LK_RGC_Ln_OVL, R237 -/
def RGC_L_OVL_TIMER (n : Nat) : Fld := ⟨0x40080 + n * 0x400, 0, 16, .ro, 0x0⟩
def RGC_L_OVL_FEATHER (n : Nat) : Fld := ⟨0x40080 + n * 0x400, 16, 1, .ro, 0x0⟩

/- LK_RGC_Ln_TEL_I, R237 -/
def RGC_L_TEL_I_AVG (n : Nat) : Fld := ⟨0x40090 + n * 0x400, 0, 14, .ro, 0x0⟩
def RGC_L_TEL_I_PK64 (n : Nat) : Fld := ⟨0x40090 + n * 0x400, 16, 14, .ro, 0x0⟩

/- LK_RGC_Ln_TEL_V, R237 -/
def RGC_L_TEL_V_MEAN (n : Nat) : Fld := ⟨0x40094 + n * 0x400, 0, 13, .ro, 0x0⟩

/- LK_RGC_Ln_TEL_VX, R237 -/
def RGC_L_TEL_VX_VMIN (n : Nat) : Fld := ⟨0x40098 + n * 0x400, 0, 13, .ro, 0x0⟩
def RGC_L_TEL_VX_VMAX (n : Nat) : Fld := ⟨0x40098 + n * 0x400, 16, 13, .ro, 0x0⟩

/- LK_RGC_Ln_HOLD_I, R237 -/
def RGC_L_HOLD_I_PK (n : Nat) : Fld := ⟨0x4009c + n * 0x400, 0, 14, .ro, 0x0⟩

/- LK_RGC_Ln_HOLD_V, R237 -/
def RGC_L_HOLD_V_VMIN (n : Nat) : Fld := ⟨0x400a0 + n * 0x400, 0, 13, .ro, 0x1fff⟩
def RGC_L_HOLD_V_VMAX (n : Nat) : Fld := ⟨0x400a0 + n * 0x400, 16, 13, .ro, 0x0⟩

/- LK_RGC_Ln_HOLD_CTL, R237 -/
def RGC_L_HOLD_CTL_CLR (n : Nat) : Fld := ⟨0x400a4 + n * 0x400, 0, 1, .w1s, 0x0⟩

/- LK_RGC_Ln_HOLD_T, R237 -/
def RGC_L_HOLD_T_TIME (n : Nat) : Fld := ⟨0x400a8 + n * 0x400, 0, 64, .ro, 0x0⟩

/- LK_RGC_Ln_CNT_SHORT, R237 -/
def RGC_L_CNT_SHORT_COUNT (n : Nat) : Fld := ⟨0x400b0 + n * 0x400, 0, 64, .ro, 0x0⟩

/- LK_RGC_Ln_CNT_PHLOSS, R237 -/
def RGC_L_CNT_PHLOSS_COUNT (n : Nat) : Fld := ⟨0x400b8 + n * 0x400, 0, 64, .ro, 0x0⟩

/- LK_RGC_Ln_CNT_OVL, R237 -/
def RGC_L_CNT_OVL_COUNT (n : Nat) : Fld := ⟨0x400c0 + n * 0x400, 0, 64, .ro, 0x0⟩

/- LK_RGC_Ln_PHi_LOSS, R238 -/
def RGC_PH_LOSS_CAUSE (n i : Nat) : Fld := ⟨0x4010c + n * 0x400 + i * 0x40, 0, 4, .ro, 0x0⟩
def RGC_PH_LOSS_OUT (n i : Nat) : Fld := ⟨0x4010c + n * 0x400 + i * 0x40, 8, 1, .ro, 0x0⟩
def RGC_PH_LOSS_TRIAL (n i : Nat) : Fld := ⟨0x4010c + n * 0x400 + i * 0x40, 9, 1, .ro, 0x0⟩
def RGC_PH_LOSS_READMIT (n i : Nat) : Fld := ⟨0x4010c + n * 0x400 + i * 0x40, 10, 1, .w1s, 0x0⟩

/- LK_RGC_Ln_PHi_CNT_SHORT, R238 -/
def RGC_PH_CNT_SHORT_COUNT (n i : Nat) : Fld := ⟨0x40110 + n * 0x400 + i * 0x40, 0, 64, .ro, 0x0⟩

/- LK_THM_CTL -/
def THM_CTL_INTERVAL : Fld := ⟨0x60000, 0, 16, .rw, 0xfa⟩
def THM_CTL_DEMAND_NOW : Fld := ⟨0x60000, 16, 1, .w1s, 0x0⟩
def THM_CTL_CAL_START : Fld := ⟨0x60000, 17, 1, .w1s, 0x0⟩
def THM_CTL_MISS_N : Fld := ⟨0x60000, 20, 4, .rwl, 0x2⟩
def THM_CTL_SUSPECT_N : Fld := ⟨0x60000, 24, 4, .rwl, 0x4⟩

/- LK_THM_THR -/
def THM_THR_SOFT : Fld := ⟨0x60004, 0, 8, .rw, 0x64⟩
def THM_THR_HARD : Fld := ⟨0x60004, 8, 8, .rw, 0x6e⟩
def THM_THR_HYST : Fld := ⟨0x60004, 16, 4, .rw, 0x5⟩

/- LK_THM_THROT -/
def THM_THROT_SOFT_MIN_PCT : Fld := ⟨0x60008, 0, 8, .rwl, 0x32⟩
def THM_THROT_REL_PCT : Fld := ⟨0x60008, 8, 8, .rwl, 0xa⟩
def THM_THROT_HARD_PCT : Fld := ⟨0x60008, 16, 8, .rwl, 0x19⟩
def THM_THROT_HARD_RATIO : Fld := ⟨0x60008, 24, 3, .rwl, 0x6⟩

/- LK_THM_TRIP -/
def THM_TRIP_TRIP : Fld := ⟨0x6000c, 0, 8, .rw, 0x78⟩
def THM_TRIP_TRIP_CEIL : Fld := ⟨0x6000c, 8, 8, .rwt, 0x78⟩
def THM_TRIP_FUSE : Fld := ⟨0x6000c, 16, 8, .ro, 0x78⟩

/- LK_THM_TRIP_STS -/
def THM_TRIP_STS_LATCHED : Fld := ⟨0x60010, 0, 1, .ro, 0x0⟩
def THM_TRIP_STS_MULTI : Fld := ⟨0x60010, 1, 1, .ro, 0x0⟩
def THM_TRIP_STS_SITE : Fld := ⟨0x60010, 8, 8, .ro, 0x0⟩

/- LK_THM_TRIP_TEST -/
def THM_TRIP_TEST_SITE : Fld := ⟨0x60014, 0, 8, .rw, 0x0⟩
def THM_TRIP_TEST_START : Fld := ⟨0x60014, 8, 1, .w1s, 0x0⟩
def THM_TRIP_TEST_BUSY : Fld := ⟨0x60014, 9, 1, .ro, 0x0⟩
def THM_TRIP_TEST_PASS : Fld := ⟨0x60014, 10, 1, .ro, 0x0⟩
def THM_TRIP_TEST_FAIL : Fld := ⟨0x60014, 11, 1, .ro, 0x0⟩

/- LK_THM_CAL -/
def THM_CAL_PERIOD : Fld := ⟨0x60018, 0, 16, .rw, 0x3e8⟩
def THM_CAL_BUSY : Fld := ⟨0x60018, 16, 1, .ro, 0x0⟩

/- LK_THM_STATUS -/
def THM_STATUS_T_PKG : Fld := ⟨0x6001c, 0, 16, .ro, 0x8000⟩
def THM_STATUS_SOFT_ANY : Fld := ⟨0x6001c, 16, 1, .ro, 0x0⟩
def THM_STATUS_HARD_ANY : Fld := ⟨0x6001c, 17, 1, .ro, 0x0⟩
def THM_STATUS_STALE_ANY : Fld := ⟨0x6001c, 18, 1, .ro, 0x0⟩

/- LK_THM_TRIP_MASKk, R266 -/
def THM_TRIP_MASK_SITE (n : Nat) : Fld := ⟨0x60020 + n * 0x4, 0, 32, .rwt, 0⟩

/- LK_THM_CNT_DEMAND -/
def THM_CNT_DEMAND_COUNT : Fld := ⟨0x60038, 0, 64, .ro, 0x0⟩

/- LK_THM_DIEn_STATUS, R267 -/
def THM_DIE_STATUS_T_DIE (n : Nat) : Fld := ⟨0x60100 + n * 0x100, 0, 16, .ro, 0x8000⟩
def THM_DIE_STATUS_FRAC (n : Nat) : Fld := ⟨0x60100 + n * 0x100, 16, 7, .ro, 0x64⟩
def THM_DIE_STATUS_HARD (n : Nat) : Fld := ⟨0x60100 + n * 0x100, 24, 1, .ro, 0x0⟩
def THM_DIE_STATUS_STALE (n : Nat) : Fld := ⟨0x60100 + n * 0x100, 25, 1, .ro, 0x0⟩
def THM_DIE_STATUS_SOFT (n : Nat) : Fld := ⟨0x60100 + n * 0x100, 26, 1, .ro, 0x0⟩

/- LK_THM_DIEn_SUSPECT, R267 -/
def THM_DIE_SUSPECT_SITE (n : Nat) : Fld := ⟨0x60104 + n * 0x100, 0, 16, .w1c, 0x0⟩

/- LK_THM_DIEn_BROKEN, R267 -/
def THM_DIE_BROKEN_SITE (n : Nat) : Fld := ⟨0x60108 + n * 0x100, 0, 16, .w1c, 0x0⟩

/- LK_THM_DIEn_FAILED, R267 -/
def THM_DIE_FAILED_SITE (n : Nat) : Fld := ⟨0x6010c + n * 0x100, 0, 16, .ro, 0x0⟩

/- LK_THM_DIEn_SEQ, R267 -/
def THM_DIE_SEQ_COUNT (n : Nat) : Fld := ⟨0x60110 + n * 0x100, 0, 32, .ro, 0x0⟩

/- LK_THM_DIEn_CNT_SOFT, R267 -/
def THM_DIE_CNT_SOFT_COUNT (n : Nat) : Fld := ⟨0x60118 + n * 0x100, 0, 64, .ro, 0x0⟩

/- LK_THM_DIEn_CNT_HARD, R267 -/
def THM_DIE_CNT_HARD_COUNT (n : Nat) : Fld := ⟨0x60120 + n * 0x100, 0, 64, .ro, 0x0⟩

/- LK_THM_DIEn_Tc, R267 -/
def THM_DIE_T_VALUE (n i : Nat) : Fld := ⟨0x60140 + n * 0x100 + i * 0x4, 0, 16, .ro, 0x8000⟩
def THM_DIE_T_STAT (n i : Nat) : Fld := ⟨0x60140 + n * 0x100 + i * 0x4, 16, 2, .ro, 0x3⟩

/- LK_THM_DIEn_RAWc, R267 -/
def THM_DIE_RAW_RAW (n i : Nat) : Fld := ⟨0x60180 + n * 0x100 + i * 0x4, 0, 16, .ro, 0x8000⟩

/- LK_SEN_CTL -/
def SEN_CTL_VERDICT_EN : Fld := ⟨0x70000, 0, 1, .rwl, 0x1⟩
def SEN_CTL_DIGEST_EN : Fld := ⟨0x70000, 1, 1, .rwl, 0x1⟩
def SEN_CTL_TEST_EN : Fld := ⟨0x70000, 2, 1, .rwl, 0x1⟩
def SEN_CTL_POISON_RETRACT : Fld := ⟨0x70000, 3, 1, .rwl, 0x1⟩
def SEN_CTL_MARGIN_POLICY : Fld := ⟨0x70000, 4, 1, .rwl, 0x0⟩
def SEN_CTL_DIGEST_STEPS : Fld := ⟨0x70000, 8, 9, .rwl, 0x10⟩

/- LK_SEN_MARGIN_CFG -/
def SEN_MARGIN_CFG_CL_N : Fld := ⟨0x70004, 0, 4, .rwl, 0x2⟩
def SEN_MARGIN_CFG_VSTEP_MAX : Fld := ⟨0x70004, 4, 2, .rwl, 0x3⟩
def SEN_MARGIN_CFG_WIN_S : Fld := ⟨0x70004, 8, 8, .rwl, 0x3c⟩

/- LK_SEN_TEST -/
def SEN_TEST_PERIOD_MS : Fld := ⟨0x70008, 0, 16, .rw, 0x3e8⟩

/- LK_SEN_TEST_REQ -/
def SEN_TEST_REQ_SITE : Fld := ⟨0x7000c, 0, 10, .rw, 0x0⟩
def SEN_TEST_REQ_DIE : Fld := ⟨0x7000c, 12, 3, .rw, 0x0⟩
def SEN_TEST_REQ_START : Fld := ⟨0x7000c, 16, 1, .w1s, 0x0⟩
def SEN_TEST_REQ_BUSY : Fld := ⟨0x7000c, 17, 1, .ro, 0x0⟩
def SEN_TEST_REQ_RESULT : Fld := ⟨0x7000c, 18, 2, .ro, 0x0⟩
def SEN_TEST_REQ_REASON : Fld := ⟨0x7000c, 20, 4, .ro, 0x0⟩

/- LK_SEN_EPOCH_CFG -/
def SEN_EPOCH_CFG_OBJ : Fld := ⟨0x70010, 0, 14, .rwl, 0x0⟩
def SEN_EPOCH_CFG_PUBLISH : Fld := ⟨0x70010, 16, 1, .rwl, 0x0⟩
def SEN_EPOCH_CFG_DIGEST_WAIT : Fld := ⟨0x70010, 24, 8, .rwl, 0x14⟩

/- LK_SEN_EPOCH, R304 -/
def SEN_EPOCH_CUR : Fld := ⟨0x70014, 0, 32, .ro, 0⟩

/- LK_SEN_VERIFIED, R304 -/
def SEN_VERIFIED_EPOCH : Fld := ⟨0x70018, 0, 32, .ro, 0xFFFFFFFF⟩

/- LK_SEN_RETRACT, R304 -/
def SEN_RETRACT_EPOCH : Fld := ⟨0x7001c, 0, 32, .ro, 0⟩

/- LK_SEN_STATUS -/
def SEN_STATUS_RETRACT_PEND : Fld := ⟨0x70020, 0, 1, .w1c, 0x0⟩
def SEN_STATUS_ABORT : Fld := ⟨0x70020, 1, 1, .w1c, 0x0⟩
def SEN_STATUS_QUEUE_OVF : Fld := ⟨0x70020, 2, 1, .w1c, 0x0⟩
def SEN_STATUS_LIB_VALID : Fld := ⟨0x70020, 3, 1, .ro, 0x0⟩
def SEN_STATUS_QUEUE : Fld := ⟨0x70020, 16, 9, .ro, 0x0⟩

/- LK_SEN_FLEET -/
def SEN_FLEET_PUSH : Fld := ⟨0x70024, 0, 2, .rwt, 0x0⟩
def SEN_FLEET_EXPORT : Fld := ⟨0x70024, 2, 2, .rwl, 0x1⟩

/- LK_SEN_LIB, R304 -/
def SEN_LIB_LIB_ID : Fld := ⟨0x70028, 0, 16, .ro, 0x0⟩
def SEN_LIB_COUNT : Fld := ⟨0x70028, 16, 9, .ro, 0x0⟩

/- LK_SEN_LIB_VER, R304 -/
def SEN_LIB_VER_VER : Fld := ⟨0x7002c, 0, 32, .ro, 0x0⟩

/- LK_SEN_LOG_HEAD, R304 -/
def SEN_LOG_HEAD_SEQ : Fld := ⟨0x70030, 0, 32, .ro, 0x0⟩

/- LK_SEN_CNT_RECORDS, R304 -/
def SEN_CNT_RECORDS_COUNT : Fld := ⟨0x70040, 0, 64, .ro, 0x0⟩

/- LK_SEN_CNT_RETRACT, R304 -/
def SEN_CNT_RETRACT_COUNT : Fld := ⟨0x70048, 0, 64, .ro, 0x0⟩

/- LK_SEN_CNT_TESTS, R304 -/
def SEN_CNT_TESTS_COUNT : Fld := ⟨0x70050, 0, 64, .ro, 0x0⟩

/- LK_SEN_DIEn_STATUS, R305 -/
def SEN_DIE_STATUS_FREE (n : Nat) : Fld := ⟨0x70100 + n * 0x100, 0, 7, .ro, 0x40⟩
def SEN_DIE_STATUS_RETIRED (n : Nat) : Fld := ⟨0x70100 + n * 0x100, 8, 7, .ro, 0x0⟩
def SEN_DIE_STATUS_VSTEP (n : Nat) : Fld := ⟨0x70100 + n * 0x100, 16, 2, .ro, 0x0⟩
def SEN_DIE_STATUS_DEGRADED (n : Nat) : Fld := ⟨0x70100 + n * 0x100, 18, 1, .ro, 0x0⟩
def SEN_DIE_STATUS_EXPELLED (n : Nat) : Fld := ⟨0x70100 + n * 0x100, 19, 1, .w1c, 0x0⟩

/- LK_SEN_DIEn_GROUP, R305 -/
def SEN_DIE_GROUP_GROUP (n : Nat) : Fld := ⟨0x70104 + n * 0x100, 0, 16, .rwl, 0x0⟩
def SEN_DIE_GROUP_SIZE (n : Nat) : Fld := ⟨0x70104 + n * 0x100, 16, 5, .rwl, 0x0⟩

/- LK_SEN_DIEn_GCMP, R305 -/
def SEN_DIE_GCMP_PKG (n : Nat) : Fld := ⟨0x70108 + n * 0x100, 0, 14, .rwl, 0x0⟩
def SEN_DIE_GCMP_DIE (n : Nat) : Fld := ⟨0x70108 + n * 0x100, 16, 3, .rwl, 0x0⟩

/- LK_SEN_DIEn_MARGIN_CLR, R305 -/
def SEN_DIE_MARGIN_CLR_VSTEP (n : Nat) : Fld := ⟨0x7010c + n * 0x100, 0, 1, .w1s, 0x0⟩
def SEN_DIE_MARGIN_CLR_CL (n : Nat) : Fld := ⟨0x7010c + n * 0x100, 16, 16, .w1s, 0x0⟩

/- LK_SEN_DIEn_CLFAULT, R305 -/
def SEN_DIE_CLFAULT_CL (n c : Nat) : Fld := ⟨0x70110 + n * 0x100, 4*c, 4, .ro, 0⟩

/- LK_SEN_DIEn_DIGEST, R305 -/
def SEN_DIE_DIGEST_DIGEST (n : Nat) : Fld := ⟨0x70118 + n * 0x100, 0, 64, .ro, 0x0⟩

/- LK_SEN_DIEn_DIGEST_EPOCH, R305 -/
def SEN_DIE_DIGEST_EPOCH_EPOCH (n : Nat) : Fld := ⟨0x70120 + n * 0x100, 0, 32, .ro, 0x0⟩

/- LK_SEN_DIEn_CNT_FAIL, R305 -/
def SEN_DIE_CNT_FAIL_COUNT (n : Nat) : Fld := ⟨0x70128 + n * 0x100, 0, 64, .ro, 0x0⟩

/- LK_SEN_DIEn_CNT_SWAP, R305 -/
def SEN_DIE_CNT_SWAP_COUNT (n : Nat) : Fld := ⟨0x70130 + n * 0x100, 0, 64, .ro, 0x0⟩

/- LK_SEN_DIEn_RETIRE, R305 -/
def SEN_DIE_RETIRE_SLOT (n : Nat) : Fld := ⟨0x70140 + n * 0x100, 0, 6, .rwl, 0x0⟩
def SEN_DIE_RETIRE_CLUSTER (n : Nat) : Fld := ⟨0x70140 + n * 0x100, 8, 4, .rwl, 0x0⟩
def SEN_DIE_RETIRE_GO (n : Nat) : Fld := ⟨0x70140 + n * 0x100, 16, 1, .w1s, 0x0⟩

/- LK_CAS_CTL, R345 -/
def CAS_CTL_JOIN : Fld := ⟨0x80000, 0, 1, .rwl, 0x0⟩
def CAS_CTL_COX_ELIG : Fld := ⟨0x80000, 1, 1, .rwl, 0x1⟩
def CAS_CTL_TRACE_EN : Fld := ⟨0x80000, 2, 1, .rw, 0x0⟩
def CAS_CTL_PRIO : Fld := ⟨0x80000, 8, 8, .rwl, 0x0⟩
def CAS_CTL_LANE_EN : Fld := ⟨0x80000, 16, 9, .rwl, 0x0⟩

/- LK_CAS_ID, R345 -/
def CAS_ID_INDEX : Fld := ⟨0x80004, 0, 14, .rwl, 0x0⟩

/- LK_CAS_UID, R345 -/
def CAS_UID_UID : Fld := ⟨0x80008, 0, 64, .ro, Config.uid⟩

/- LK_CAS_CFG, R345 -/
def CAS_CFG_EXPECT : Fld := ⟨0x80010, 0, 15, .rwl, 0x1⟩
def CAS_CFG_FORM_MS : Fld := ⟨0x80010, 16, 8, .rwl, 0x64⟩
def CAS_CFG_PROBE_US : Fld := ⟨0x80010, 24, 8, .rwl, 0x6⟩

/- LK_CAS_STATUS, R345 -/
def CAS_STATUS_STATE : Fld := ⟨0x80014, 0, 3, .ro, 0x0⟩
def CAS_STATUS_ROLE : Fld := ⟨0x80014, 4, 2, .ro, 0x0⟩
def CAS_STATUS_DIST : Fld := ⟨0x80014, 8, 4, .ro, 0xf⟩
def CAS_STATUS_DEPTH : Fld := ⟨0x80014, 12, 4, .ro, 0x0⟩
def CAS_STATUS_N : Fld := ⟨0x80014, 16, 15, .ro, 0x1⟩

/- LK_CAS_VER, R345 -/
def CAS_VER_MAJ : Fld := ⟨0x80018, 0, 4, .ro, 0x1⟩
def CAS_VER_MIN : Fld := ⟨0x80018, 4, 4, .ro, 0x0⟩
def CAS_VER_CMIN : Fld := ⟨0x80018, 8, 4, .ro, 0x0⟩
def CAS_VER_FEAT : Fld := ⟨0x80018, 16, 8, .ro, 0xf⟩
def CAS_VER_CFEAT : Fld := ⟨0x80018, 24, 8, .ro, 0x0⟩

/- LK_CAS_COX, R345 -/
def CAS_COX_COX : Fld := ⟨0x8001c, 0, 14, .ro, 0x0⟩
def CAS_COX_STBY : Fld := ⟨0x8001c, 16, 14, .ro, 0x0⟩

/- LK_CAS_TERM, R345 -/
def CAS_TERM_TERM : Fld := ⟨0x80020, 0, 32, .ro, 0x0⟩

/- LK_CAS_TIME, R345 -/
def CAS_TIME_TIME : Fld := ⟨0x80028, 0, 64, .ro, 0x0⟩

/- LK_CAS_TSYNC, R345 -/
def CAS_TSYNC_OFS : Fld := ⟨0x80030, 0, 16, .ro, 0x0⟩
def CAS_TSYNC_PERIOD_W : Fld := ⟨0x80030, 16, 4, .rwl, 0x4⟩
def CAS_TSYNC_LOCKED : Fld := ⟨0x80030, 24, 1, .ro, 0x0⟩
def CAS_TSYNC_DEGRADED : Fld := ⟨0x80030, 25, 1, .ro, 0x0⟩

/- LK_CAS_STEER, R345 -/
def CAS_STEER_PPM : Fld := ⟨0x80034, 0, 16, .rw, 0x0⟩

/- LK_CAS_SCHED, R345 -/
def CAS_SCHED_FREEZE : Fld := ⟨0x80038, 0, 1, .w1s, 0x0⟩
def CAS_SCHED_THAW : Fld := ⟨0x80038, 1, 1, .w1s, 0x0⟩
def CAS_SCHED_RESET : Fld := ⟨0x80038, 2, 1, .w1s, 0x0⟩
def CAS_SCHED_SCOPE : Fld := ⟨0x80038, 4, 2, .rw, 0x0⟩
def CAS_SCHED_FROZEN : Fld := ⟨0x80038, 8, 1, .ro, 0x0⟩
def CAS_SCHED_PEND : Fld := ⟨0x80038, 9, 1, .ro, 0x0⟩

/- LK_CAS_SCHED_AT, R345 -/
def CAS_SCHED_AT_TIME : Fld := ⟨0x80040, 0, 64, .ro, 0x0⟩

/- LK_CAS_PACE_CFG, R345 -/
def CAS_PACE_CFG_EN : Fld := ⟨0x80048, 0, 1, .rwl, 0x0⟩
def CAS_PACE_CFG_RATIO : Fld := ⟨0x80048, 4, 3, .rw, 0x1⟩
def CAS_PACE_CFG_PCT : Fld := ⟨0x80048, 8, 8, .rw, 0x64⟩
def CAS_PACE_CFG_PERIOD_W : Fld := ⟨0x80048, 16, 12, .rw, 0x200⟩

/- LK_CAS_OBJ_SEL, R345 -/
def CAS_OBJ_SEL_INDEX : Fld := ⟨0x80050, 0, 14, .rw, 0x0⟩

/- LK_CAS_OBJ_CFG, R345 -/
def CAS_OBJ_CFG_TYPE : Fld := ⟨0x80054, 0, 3, .rw, 0x0⟩
def CAS_OBJ_CFG_MEMBER : Fld := ⟨0x80054, 4, 1, .rw, 0x0⟩
def CAS_OBJ_CFG_NOTIFY : Fld := ⟨0x80054, 5, 1, .rw, 0x0⟩
def CAS_OBJ_CFG_READY : Fld := ⟨0x80054, 8, 1, .ro, 0x0⟩
def CAS_OBJ_CFG_ERR : Fld := ⟨0x80054, 9, 1, .w1c, 0x0⟩

/- LK_CAS_OBJ_VAL, R345 -/
def CAS_OBJ_VAL_VALUE : Fld := ⟨0x80058, 0, 32, .rw, 0x0⟩

/- LK_CAS_OBJ_RES, R345 -/
def CAS_OBJ_RES_RESULT : Fld := ⟨0x8005c, 0, 32, .ro, 0x0⟩

/- LK_CAS_OBJ_GEN, R345 -/
def CAS_OBJ_GEN_GEN : Fld := ⟨0x80060, 0, 8, .ro, 0x0⟩
def CAS_OBJ_GEN_ARRIVED : Fld := ⟨0x80060, 8, 1, .ro, 0x0⟩
def CAS_OBJ_GEN_ABORTED : Fld := ⟨0x80060, 9, 1, .ro, 0x0⟩
def CAS_OBJ_GEN_MEMBERS : Fld := ⟨0x80060, 16, 15, .ro, 0x0⟩

/- LK_CAS_ARRIVE, R345 -/
def CAS_ARRIVE_INDEX : Fld := ⟨0x80064, 0, 14, .rw, 0x0⟩
def CAS_ARRIVE_GO : Fld := ⟨0x80064, 16, 1, .w1s, 0x0⟩

/- LK_CAS_BC_TXj, R345 -/
def CAS_BC_TX_DATA (n : Nat) : Fld := ⟨0x80070 + n * 0x4, 0, 32, .rw, 0x0⟩

/- LK_CAS_BC_CTL, R345 -/
def CAS_BC_CTL_SEND : Fld := ⟨0x80080, 0, 1, .w1s, 0x0⟩
def CAS_BC_CTL_BUSY : Fld := ⟨0x80080, 1, 1, .ro, 0x0⟩
def CAS_BC_CTL_RX_HEAD : Fld := ⟨0x80080, 16, 16, .ro, 0x0⟩

/- LK_CAS_REL_HEAD, R345 -/
def CAS_REL_HEAD_SEQ : Fld := ⟨0x80084, 0, 32, .ro, 0x0⟩

/- LK_CAS_CNT_RETX, R345 -/
def CAS_CNT_RETX_COUNT : Fld := ⟨0x80088, 0, 64, .ro, 0x0⟩

/- LK_CAS_CNT_UNROUTED, R345 -/
def CAS_CNT_UNROUTED_COUNT : Fld := ⟨0x80090, 0, 64, .ro, 0x0⟩

/- LK_CAS_HELD_SEL, R345 -/
def CAS_HELD_SEL_LANE : Fld := ⟨0x80098, 0, 4, .rw, 0x0⟩
def CAS_HELD_SEL_ENTRY : Fld := ⟨0x80098, 8, 8, .rw, 0x0⟩

/- LK_CAS_LANEk_STS, R346 -/
def CAS_LANE_STS_UP (n : Nat) : Fld := ⟨0x80100 + n * 0x10, 0, 1, .ro, 0x0⟩
def CAS_LANE_STS_ROLE (n : Nat) : Fld := ⟨0x80100 + n * 0x10, 1, 2, .ro, 0x0⟩
def CAS_LANE_STS_HELD (n : Nat) : Fld := ⟨0x80100 + n * 0x10, 8, 8, .ro, 0x0⟩
def CAS_LANE_STS_PEER (n : Nat) : Fld := ⟨0x80100 + n * 0x10, 16, 14, .ro, 0x0⟩

/- LK_CAS_LANEk_CUT_TX, R346 -/
def CAS_LANE_CUT_TX_LSEQ (n : Nat) : Fld := ⟨0x80104 + n * 0x10, 0, 32, .ro, 0x0⟩

/- LK_CAS_LANEk_CUT_RX, R346 -/
def CAS_LANE_CUT_RX_LSEQ (n : Nat) : Fld := ⟨0x80108 + n * 0x10, 0, 32, .ro, 0x0⟩

/- LK_CAS_LANEk_DELAY, R346 -/
def CAS_LANE_DELAY_DELAY (n : Nat) : Fld := ⟨0x8010c + n * 0x10, 0, 16, .ro, 0x0⟩

/- LK_ID_VENDOR, R349 -/
def ID_VENDOR_VENDOR : Fld := ⟨0x0, 0, 16, .ro, 0x5652⟩
def ID_VENDOR_BLOCK : Fld := ⟨0x0, 16, 16, .ro, 0x4c33⟩

/- LK_ID_VERSION, R349 -/
def ID_VERSION_STEPPING : Fld := ⟨0x4, 0, 8, .ro, 0xb0⟩
def ID_VERSION_PACKAGE : Fld := ⟨0x4, 8, 8, .ro, 0xe3⟩
def ID_VERSION_MSG_MAJ : Fld := ⟨0x4, 16, 4, .ro, 0x3⟩
def ID_VERSION_MAP : Fld := ⟨0x4, 24, 4, .ro, 0x1⟩

/- LK_ID_DIM, R349 -/
def ID_DIM_NQ : Fld := ⟨0x8, 0, 8, .ro, 0x20⟩
def ID_DIM_NVEC : Fld := ⟨0x8, 8, 8, .ro, 0x40⟩
def ID_DIM_NDIE : Fld := ⟨0x8, 16, 4, .ro, 0x8⟩
def ID_DIM_NLOOP : Fld := ⟨0x8, 24, 5, .ro, 0x10⟩

/- LK_ID_UID, R349 -/
def ID_UID_UID : Fld := ⟨0x10, 0, 64, .ro, Config.uid⟩

/- LK_ID_CAPn, R349 -/
def ID_CAP_CAP (n : Nat) : Fld := ⟨0x20 + n * 0x4, 0, 32, .ro, (if n = 0 then 0x3FFF else 0)⟩

/- LK_HIF_Qn_SQ_BASE, R358 -/
def HIF_Q_SQ_BASE_ADDR (n : Nat) : Fld := ⟨0x2000 + n * 0x40, 0, 64, .rw, 0x0⟩

/- LK_HIF_Qn_CQ_BASE, R358 -/
def HIF_Q_CQ_BASE_ADDR (n : Nat) : Fld := ⟨0x2008 + n * 0x40, 0, 64, .rw, 0x0⟩

/- LK_HIF_Qn_DB_ADDR, R358 -/
def HIF_Q_DB_ADDR_ADDR (n : Nat) : Fld := ⟨0x2010 + n * 0x40, 0, 64, .rw, 0x0⟩

/- LK_HIF_Qn_CFG, R358 -/
def HIF_Q_CFG_SQ_LOG (n : Nat) : Fld := ⟨0x2018 + n * 0x40, 0, 4, .rw, 0x6⟩
def HIF_Q_CFG_CQ_LOG (n : Nat) : Fld := ⟨0x2018 + n * 0x40, 4, 4, .rw, 0x6⟩
def HIF_Q_CFG_EN (n : Nat) : Fld := ⟨0x2018 + n * 0x40, 8, 1, .rw, 0x0⟩
def HIF_Q_CFG_COAL_N (n : Nat) : Fld := ⟨0x2018 + n * 0x40, 16, 8, .rw, 0x1⟩
def HIF_Q_CFG_COAL_US (n : Nat) : Fld := ⟨0x2018 + n * 0x40, 24, 8, .rw, 0x0⟩

/- LK_HIF_Qn_STS, R358 -/
def HIF_Q_STS_SQ_HEAD (n : Nat) : Fld := ⟨0x201c + n * 0x40, 0, 12, .ro, 0x0⟩
def HIF_Q_STS_STATE (n : Nat) : Fld := ⟨0x201c + n * 0x40, 16, 3, .ro, 0x0⟩
def HIF_Q_STS_ERR (n : Nat) : Fld := ⟨0x201c + n * 0x40, 20, 4, .ro, 0x0⟩

/- LK_HIF_Qn_CQ, R358 -/
def HIF_Q_CQ_CQ_TAIL (n : Nat) : Fld := ⟨0x2020 + n * 0x40, 0, 12, .ro, 0x0⟩
def HIF_Q_CQ_PHASE (n : Nat) : Fld := ⟨0x2020 + n * 0x40, 16, 1, .ro, 0x1⟩

/- LK_HIF_Qn_CNT_CMD, R358 -/
def HIF_Q_CNT_CMD_COUNT (n : Nat) : Fld := ⟨0x2028 + n * 0x40, 0, 64, .ro, 0x0⟩

/- LK_GLB_GOV_CTL, R376 -/
def GLB_GOV_CTL_ENABLE : Fld := ⟨0x1000, 0, 1, .rw, 0x0⟩

/- LK_GLB_STATUS, R376 -/
def GLB_STATUS_ENABLED : Fld := ⟨0x1004, 0, 1, .ro, 0x0⟩
def GLB_STATUS_CHECKING : Fld := ⟨0x1004, 1, 1, .ro, 0x0⟩
def GLB_STATUS_REFUSE_CODE : Fld := ⟨0x1004, 8, 8, .ro, 0x0⟩
def GLB_STATUS_REFUSE_ARG : Fld := ⟨0x1004, 16, 16, .ro, 0xffff⟩

/- LK_GLB_RESET, R376 -/
def GLB_RESET_KEY : Fld := ⟨0x1008, 0, 16, .rw, 0x0⟩
def GLB_RESET_GO : Fld := ⟨0x1008, 16, 1, .w1s, 0x0⟩

/- LK_GLB_RST_INFO, R376 -/
def GLB_RST_INFO_CAUSE : Fld := ⟨0x100c, 0, 4, .ro, 0x0⟩
def GLB_RST_INFO_COUNT : Fld := ⟨0x100c, 16, 16, .ro, 0x0⟩

/- LK_GLB_SCRATCH, R376 -/
def GLB_SCRATCH_DATA : Fld := ⟨0x1010, 0, 32, .rw, 0x0⟩

/- LK_GLB_ACCESS_ERR, R376 -/
def GLB_ACCESS_ERR_OFFSET : Fld := ⟨0x1014, 0, 20, .ro, 0x0⟩
def GLB_ACCESS_ERR_KIND : Fld := ⟨0x1014, 24, 3, .ro, 0x0⟩
def GLB_ACCESS_ERR_VALID : Fld := ⟨0x1014, 31, 1, .w1c, 0x0⟩

/- LK_MBX_k_DATAj, R414 -/
def MBX_DATA_DATA (n i : Nat) : Fld := ⟨0x90000 + n * 0x80 + i * 0x4, 0, 32, .rw, 0x0⟩

/- LK_MBX_k_CTL, R414 -/
def MBX_CTL_GO (n : Nat) : Fld := ⟨0x90040 + n * 0x80, 0, 1, .w1s, 0x0⟩
def MBX_CTL_DONE (n : Nat) : Fld := ⟨0x90040 + n * 0x80, 1, 1, .w1s, 0x0⟩
def MBX_CTL_ABORT (n : Nat) : Fld := ⟨0x90040 + n * 0x80, 2, 1, .w1s, 0x0⟩
def MBX_CTL_NOTE (n : Nat) : Fld := ⟨0x90040 + n * 0x80, 3, 1, .w1s, 0x0⟩

/- LK_MBX_k_STS, R414 -/
def MBX_STS_REPLY (n : Nat) : Fld := ⟨0x90044 + n * 0x80, 0, 1, .w1c, 0x0⟩
def MBX_STS_TIMEOUT (n : Nat) : Fld := ⟨0x90044 + n * 0x80, 1, 1, .w1c, 0x0⟩
def MBX_STS_ABORTED (n : Nat) : Fld := ⟨0x90044 + n * 0x80, 2, 1, .w1c, 0x0⟩
def MBX_STS_BAD_VER (n : Nat) : Fld := ⟨0x90044 + n * 0x80, 3, 1, .w1c, 0x0⟩
def MBX_STS_NOTE (n : Nat) : Fld := ⟨0x90044 + n * 0x80, 4, 1, .w1c, 0x0⟩
def MBX_STS_QUEUE (n : Nat) : Fld := ⟨0x90044 + n * 0x80, 5, 1, .ro, 0x0⟩
def MBX_STS_REQ (n : Nat) : Fld := ⟨0x90044 + n * 0x80, 8, 3, .ro, (mbxReq n)⟩
def MBX_STS_RSP (n : Nat) : Fld := ⟨0x90044 + n * 0x80, 12, 3, .ro, (mbxRsp n)⟩

/- LK_MBX_k_TMO, R414 -/
def MBX_TMO_MS (n : Nat) : Fld := ⟨0x90048 + n * 0x80, 0, 16, .rw, 0x64⟩

/- LK_MGT_Pp_STATE, R415 -/
def MGT_P_STATE_STATE (n : Nat) : Fld := ⟨0x90800 + n * 0x100, 0, 3, .ro, 0x0⟩
def MGT_P_STATE_STARTED (n : Nat) : Fld := ⟨0x90800 + n * 0x100, 4, 1, .w1s, 0x0⟩
def MGT_P_STATE_READY (n : Nat) : Fld := ⟨0x90800 + n * 0x100, 5, 1, .w1s, 0x0⟩
def MGT_P_STATE_PEER_BAD (n : Nat) : Fld := ⟨0x90800 + n * 0x100, 6, 1, .ro, 0x0⟩
def MGT_P_STATE_CAUSE (n : Nat) : Fld := ⟨0x90800 + n * 0x100, 8, 4, .ro, 0x0⟩

/- LK_MGT_Pp_RESTART, R415 -/
def MGT_P_RESTART_KEY (n : Nat) : Fld := ⟨0x90804 + n * 0x100, 0, 16, .rw, 0x0⟩
def MGT_P_RESTART_GO (n : Nat) : Fld := ⟨0x90804 + n * 0x100, 16, 1, .w1s, 0x0⟩

/- LK_MGT_Pp_WDT, R415 -/
def MGT_P_WDT_PERIOD (n : Nat) : Fld := ⟨0x90808 + n * 0x100, 0, 16, .rw, 0x32⟩
def MGT_P_WDT_KICK (n : Nat) : Fld := ⟨0x90808 + n * 0x100, 16, 1, .w1s, 0x0⟩

/- LK_MGT_Pp_IMAGE, R415 -/
def MGT_P_IMAGE_MIN (n : Nat) : Fld := ⟨0x9080c + n * 0x100, 0, 4, .ro, 0x0⟩
def MGT_P_IMAGE_MAJ (n : Nat) : Fld := ⟨0x9080c + n * 0x100, 4, 4, .ro, 0x0⟩
def MGT_P_IMAGE_ACCEPT (n : Nat) : Fld := ⟨0x9080c + n * 0x100, 8, 16, .ro, 0x0⟩
def MGT_P_IMAGE_SLOT (n : Nat) : Fld := ⟨0x9080c + n * 0x100, 24, 1, .ro, 0x0⟩

/- LK_MGT_Pp_IRQ, R415 -/
def MGT_P_IRQ_MBX (n : Nat) : Fld := ⟨0x90810 + n * 0x100, 0, 8, .ro, 0x0⟩
def MGT_P_IRQ_NMI (n : Nat) : Fld := ⟨0x90810 + n * 0x100, 8, 1, .w1c, 0x0⟩
def MGT_P_IRQ_BUSERR (n : Nat) : Fld := ⟨0x90810 + n * 0x100, 9, 1, .ro, 0x0⟩

/- LK_MGT_Pp_CNT_RESTART, R415 -/
def MGT_P_CNT_RESTART_COUNT (n : Nat) : Fld := ⟨0x90818 + n * 0x100, 0, 64, .ro, 0x0⟩

/- LK_MGT_BUSERR_ADDR, R416 -/
def MGT_BUSERR_ADDR_ADDR : Fld := ⟨0x90f00, 0, 32, .ro, 0x0⟩

/- LK_MGT_BUSERR_INFO, R416 -/
def MGT_BUSERR_INFO_KIND : Fld := ⟨0x90f04, 0, 3, .ro, 0x0⟩
def MGT_BUSERR_INFO_STORE : Fld := ⟨0x90f04, 3, 1, .ro, 0x0⟩
def MGT_BUSERR_INFO_MORE : Fld := ⟨0x90f04, 8, 8, .ro, 0x0⟩

/- LK_MGT_LC, R416 -/
def MGT_LC_STATE : Fld := ⟨0x90f10, 0, 3, .ro, 0⟩
def MGT_LC_N : Fld := ⟨0x90f10, 8, 5, .ro, 0⟩
def MGT_LC_WIPING : Fld := ⟨0x90f10, 16, 1, .ro, 0x0⟩

/- LK_MGT_LC_NONCEj, R416 -/
def MGT_LC_NONCE_NONCE (n : Nat) : Fld := ⟨0x90f20 + n * 0x4, 0, 32, .ro, 0x0⟩

/- LK_REC_CTL, R445 -/
def REC_CTL_FILTER : Fld := ⟨0xa0000, 0, 10, .rw, 0x3ff⟩
def REC_CTL_FULL_ACK : Fld := ⟨0xa0000, 16, 1, .w1s, 0x0⟩

/- LK_REC_STATUS, R445 -/
def REC_STATUS_MOUNTED : Fld := ⟨0xa0004, 0, 1, .ro, 0x0⟩
def REC_STATUS_FORMAT_BAD : Fld := ⟨0xa0004, 1, 1, .ro, 0x0⟩
def REC_STATUS_UNREADABLE : Fld := ⟨0xa0004, 2, 1, .ro, 0x0⟩
def REC_STATUS_FULL : Fld := ⟨0xa0004, 3, 1, .ro, 0x0⟩
def REC_STATUS_NMI_FULL : Fld := ⟨0xa0004, 4, 1, .ro, 0x0⟩
def REC_STATUS_ACKED : Fld := ⟨0xa0004, 5, 1, .ro, 0x0⟩
def REC_STATUS_ERASING : Fld := ⟨0xa0004, 6, 1, .ro, 0x0⟩
def REC_STATUS_STAGED : Fld := ⟨0xa0004, 16, 9, .ro, 0x0⟩

/- LK_REC_HEAD, R445 -/
def REC_HEAD_SEQ : Fld := ⟨0xa0008, 0, 32, .ro, 0x0⟩

/- LK_REC_WP, R445 -/
def REC_WP_SLOT : Fld := ⟨0xa000c, 0, 16, .ro, 0x0⟩

/- LK_REC_POWER, R445 -/
def REC_POWER_PCYC : Fld := ⟨0xa0010, 0, 24, .ro, 0x0⟩

/- LK_REC_RESET_LOST, R445 -/
def REC_RESET_LOST_COUNT : Fld := ⟨0xa0014, 0, 9, .ro, 0x0⟩

/- LK_REC_OPSEC, R445 -/
def REC_OPSEC_SEC : Fld := ⟨0xa0018, 0, 40, .ro, 0x0⟩

/- LK_REC_ERASE, R445 -/
def REC_ERASE_KEY : Fld := ⟨0xa0020, 0, 16, .rw, 0x0⟩
def REC_ERASE_GO : Fld := ⟨0xa0020, 16, 1, .w1s, 0x0⟩

/- LK_REC_CNT_WRITTEN, R445 -/
def REC_CNT_WRITTEN_COUNT : Fld := ⟨0xa0028, 0, 64, .ro, 0x0⟩

/- LK_REC_CNT_LOST, R445 -/
def REC_CNT_LOST_COUNT : Fld := ⟨0xa0030, 0, 64, .ro, 0x0⟩

/- LK_REC_TRIG, R445 -/
def REC_TRIG_SCOPE : Fld := ⟨0xa0040, 0, 2, .rw, 0x0⟩
def REC_TRIG_ARMED : Fld := ⟨0xa0040, 4, 1, .rw, 0x0⟩
def REC_TRIG_FIRE : Fld := ⟨0xa0040, 5, 1, .w1s, 0x0⟩
def REC_TRIG_FIRED : Fld := ⟨0xa0040, 6, 1, .w1c, 0x0⟩
def REC_TRIG_FROZEN : Fld := ⟨0xa0040, 7, 1, .ro, 0x0⟩
def REC_TRIG_POST : Fld := ⟨0xa0040, 8, 8, .rw, 0x0⟩
def REC_TRIG_THAW : Fld := ⟨0xa0040, 16, 1, .w1s, 0x0⟩

/- LK_REC_TRIG_CODEj, R445 -/
def REC_TRIG_CODE_CODE (n : Nat) : Fld := ⟨0xa0044 + n * 0x4, 0, 16, .rw, 0x0⟩
def REC_TRIG_CODE_MASK (n : Nat) : Fld := ⟨0xa0044 + n * 0x4, 16, 16, .rw, 0x0⟩

/- LK_REC_RING_SEL, R445 -/
def REC_RING_SEL_UNIT : Fld := ⟨0xa0200, 0, 13, .rw, 0x0⟩
def REC_RING_SEL_CHAN : Fld := ⟨0xa0200, 16, 1, .rw, 0x0⟩
def REC_RING_SEL_BUSY : Fld := ⟨0xa0200, 24, 1, .ro, 0x0⟩

/- LK_REC_RING_HEAD, R445 -/
def REC_RING_HEAD_COUNT : Fld := ⟨0xa0204, 0, 32, .ro, 0x0⟩

/- LK_TRC_CTL, R445 -/
def TRC_CTL_EN : Fld := ⟨0xa0300, 0, 1, .rw, 0x0⟩
def TRC_CTL_SRC : Fld := ⟨0xa0300, 4, 5, .rw, 0x0⟩
def TRC_CTL_PCT : Fld := ⟨0xa0300, 16, 2, .rw, 0x3⟩

/- LK_TRC_STATUS, R445 -/
def TRC_STATUS_LANE_UP : Fld := ⟨0xa0304, 0, 4, .ro, 0x0⟩
def TRC_STATUS_FIFO : Fld := ⟨0xa0304, 16, 14, .ro, 0x0⟩

/- LK_TRC_FILTER, R445 -/
def TRC_FILTER_LAYER : Fld := ⟨0xa0308, 0, 16, .rw, 0x0⟩
def TRC_FILTER_LMASK : Fld := ⟨0xa0308, 16, 16, .rw, 0x0⟩

/- LK_TRC_FILTER_OP, R445 -/
def TRC_FILTER_OP_OPERATOR : Fld := ⟨0xa030c, 0, 12, .rw, 0x0⟩
def TRC_FILTER_OP_OMASK : Fld := ⟨0xa030c, 16, 12, .rw, 0x0⟩

/- LK_TRC_CNT_LOST, R445 -/
def TRC_CNT_LOST_COUNT : Fld := ⟨0xa0310, 0, 64, .ro, 0x0⟩

/- LK_REC_RINGj, R445 -/
def REC_RING_ENTRY (n : Nat) : Fld := ⟨0xa0400 + n * 0x8, 0, 64, .ro, 0x0⟩

/- LK_REC_LISTk_j, R445 -/
def REC_LIST_OFFSET (n i : Nat) : Fld := ⟨0xa1000 + n * 0x100 + i * 0x4, 0, 20, .rw, 0x0⟩

/- LK_UPD_STATUS, R461 -/
def UPD_STATUS_STATE : Fld := ⟨0xb0000, 0, 3, .ro, 0x0⟩
def UPD_STATUS_STEP : Fld := ⟨0xb0000, 4, 2, .ro, 0x0⟩
def UPD_STATUS_ERR : Fld := ⟨0xb0000, 8, 8, .ro, 0x0⟩

/- LK_UPD_REGATTA, R461 -/
def UPD_REGATTA_TIME : Fld := ⟨0xb0008, 0, 64, .rw, 0x0⟩

/- LK_UPD_REGATTA_CFG, R461 -/
def UPD_REGATTA_CFG_STEP_S : Fld := ⟨0xb0010, 0, 16, .rw, 0x136⟩

/- LK_UPD_SVC, R461 -/
def UPD_SVC_DA_SVP : Fld := ⟨0xb0014, 0, 7, .ro, 0x0⟩
def UPD_SVC_DA_TRP : Fld := ⟨0xb0014, 8, 7, .ro, 0x0⟩
def UPD_SVC_EID_SVP : Fld := ⟨0xb0014, 16, 8, .ro, 0x0⟩
def UPD_SVC_EID_TRP : Fld := ⟨0xb0014, 24, 8, .ro, 0x0⟩

/- LK_UPD_CNT_FALLBACK, R461 -/
def UPD_CNT_FALLBACK_COUNT : Fld := ⟨0xb0018, 0, 64, .ro, 0x0⟩

/- LK_UPD_Pp_SLOT, R462 -/
def UPD_P_SLOT_ACTIVE (n : Nat) : Fld := ⟨0xb0100 + n * 0x20, 0, 1, .ro, 0⟩
def UPD_P_SLOT_A_STATE (n : Nat) : Fld := ⟨0xb0100 + n * 0x20, 4, 3, .ro, 3⟩
def UPD_P_SLOT_B_STATE (n : Nat) : Fld := ⟨0xb0100 + n * 0x20, 8, 3, .ro, 4⟩
def UPD_P_SLOT_TRIAL (n : Nat) : Fld := ⟨0xb0100 + n * 0x20, 16, 1, .ro, 0x0⟩
def UPD_P_SLOT_CONFIRM (n : Nat) : Fld := ⟨0xb0100 + n * 0x20, 17, 1, .w1s, 0x0⟩
def UPD_P_SLOT_LEFT (n : Nat) : Fld := ⟨0xb0100 + n * 0x20, 20, 9, .ro, 0x0⟩

/- LK_UPD_Pp_VER_A, R462 -/
def UPD_P_VER_A_VER (n : Nat) : Fld := ⟨0xb0108 + n * 0x20, 0, 64, .ro, 0⟩

/- LK_UPD_Pp_VER_B, R462 -/
def UPD_P_VER_B_VER (n : Nat) : Fld := ⟨0xb0110 + n * 0x20, 0, 64, .ro, 0⟩

/- LK_MTR_STATUS, R486 -/
def MTR_STATUS_MEASURING : Fld := ⟨0xf0000, 0, 1, .ros, 0x0⟩
def MTR_STATUS_SEALED : Fld := ⟨0xf0000, 1, 1, .ros, 0x0⟩
def MTR_STATUS_FAULT : Fld := ⟨0xf0000, 2, 1, .ros, 0x0⟩
def MTR_STATUS_OVERRANGE : Fld := ⟨0xf0000, 3, 1, .ros, 0x0⟩
def MTR_STATUS_VOLT_OOR : Fld := ⟨0xf0000, 4, 1, .ros, 0x0⟩
def MTR_STATUS_REVERSE : Fld := ⟨0xf0000, 5, 1, .ros, 0x0⟩
def MTR_STATUS_TAMPER : Fld := ⟨0xf0000, 6, 1, .ros, 0x0⟩
def MTR_STATUS_UNSIGNED : Fld := ⟨0xf0000, 8, 3, .ros, 0x0⟩

/- LK_MTR_SN, R486 -/
def MTR_SN_SN : Fld := ⟨0xf0008, 0, 64, .ros, 0x0⟩

/- LK_MTR_FW_VER, R486 -/
def MTR_FW_VER_VER : Fld := ⟨0xf0010, 0, 32, .ros, 0x0⟩

/- LK_MTR_MPCYC, R486 -/
def MTR_MPCYC_COUNT : Fld := ⟨0xf0014, 0, 32, .ros, 0x0⟩

/- LK_MTR_ENERGY, R486 -/
def MTR_ENERGY_MJ : Fld := ⟨0xf0018, 0, 64, .ros, 0x0⟩

/- LK_MTR_MUS, R486 -/
def MTR_MUS_US : Fld := ⟨0xf0020, 0, 64, .ros, 0x0⟩

/- LK_MTR_INST, R486 -/
def MTR_INST_V_MV : Fld := ⟨0xf0028, 0, 16, .ros, 0x0⟩
def MTR_INST_I_CA : Fld := ⟨0xf0028, 16, 16, .ros, 0x0⟩

/- LK_MTR_LOG, R486 -/
def MTR_LOG_LOG_SEQ : Fld := ⟨0xf002c, 0, 32, .ros, 0x0⟩

/- LK_MTR_STAMP_HEAD, R486 -/
def MTR_STAMP_HEAD_STAMP_COUNT : Fld := ⟨0xf0030, 0, 32, .ros, 0x0⟩

/- LK_MTR_COPY, R486 -/
def MTR_COPY_SEQ : Fld := ⟨0xf0038, 0, 32, .ros, 0x0⟩

/- LK_MTR_CNTt, R486 -/
def MTR_CNT_COUNT (n : Nat) : Fld := ⟨0xf0044 + n * 0x4, 0, 32, .ros, 0x0⟩

/- LK_MGT_MTR_REQ, R487 -/
def MGT_MTR_REQ_KIND : Fld := ⟨0x90f40, 0, 2, .rw, 0x0⟩
def MGT_MTR_REQ_GO : Fld := ⟨0x90f40, 8, 1, .w1s, 0x0⟩
def MGT_MTR_REQ_PEND : Fld := ⟨0x90f40, 9, 1, .ro, 0x0⟩
def MGT_MTR_REQ_RESULT : Fld := ⟨0x90f40, 12, 2, .ro, 0x0⟩

/- LK_MGT_MTR_JOB, R487 -/
def MGT_MTR_JOB_ID : Fld := ⟨0x90f44, 0, 32, .rw, 0x0⟩

/- LK_MGT_MTR_NONCE, R487 -/
def MGT_MTR_NONCE_VALUE : Fld := ⟨0x90f48, 0, 32, .rw, 0x0⟩

/- LK_ADM_SEAM_CFG -/
def ADM_SEAM_CFG_MIN_VER : Fld := ⟨0x13000, 0, 8, .rwl, 0x20⟩
def ADM_SEAM_CFG_SAFE_RATIO : Fld := ⟨0x13000, 8, 3, .rwl, 0x3⟩
def ADM_SEAM_CFG_SAFE_POOL : Fld := ⟨0x13000, 16, 13, .rwl, 0x800⟩

/- LK_ADM_FENCE -/
def ADM_FENCE_REQ : Fld := ⟨0x13004, 0, 8, .rw, 0x0⟩
def ADM_FENCE_LIFT : Fld := ⟨0x13004, 16, 8, .w1s, 0x0⟩

/- LK_ADM_SEAMn_STS, R512 -/
def ADM_SEAM_STS_UP (n : Nat) : Fld := ⟨0x13100 + n * 0x40, 0, 1, .ro, 0x0⟩
def ADM_SEAM_STS_WIDTH (n : Nat) : Fld := ⟨0x13100 + n * 0x40, 1, 2, .ro, 0x0⟩
def ADM_SEAM_STS_LANES (n : Nat) : Fld := ⟨0x13100 + n * 0x40, 4, 4, .ro, 0x0⟩
def ADM_SEAM_STS_VER (n : Nat) : Fld := ⟨0x13100 + n * 0x40, 8, 8, .ro, 0x0⟩
def ADM_SEAM_STS_FEAT (n : Nat) : Fld := ⟨0x13100 + n * 0x40, 16, 8, .ro, 0x0⟩
def ADM_SEAM_STS_DIE_TYPE (n : Nat) : Fld := ⟨0x13100 + n * 0x40, 24, 4, .ro, 0x0⟩
def ADM_SEAM_STS_SAFE (n : Nat) : Fld := ⟨0x13100 + n * 0x40, 28, 1, .ro, 0x0⟩
def ADM_SEAM_STS_FENCED (n : Nat) : Fld := ⟨0x13100 + n * 0x40, 29, 1, .ro, 0x0⟩
def ADM_SEAM_STS_ONE_LANE (n : Nat) : Fld := ⟨0x13100 + n * 0x40, 30, 1, .ro, 0x0⟩
def ADM_SEAM_STS_DEAD (n : Nat) : Fld := ⟨0x13100 + n * 0x40, 31, 1, .ro, 0x0⟩

/- LK_ADM_SEAMn_CTL, R512 -/
def ADM_SEAM_CTL_RETRAIN (n : Nat) : Fld := ⟨0x13104 + n * 0x40, 0, 1, .w1s, 0x0⟩
def ADM_SEAM_CTL_CAUSE (n : Nat) : Fld := ⟨0x13104 + n * 0x40, 8, 4, .ro, 0x0⟩
def ADM_SEAM_CTL_RAW (n : Nat) : Fld := ⟨0x13104 + n * 0x40, 16, 6, .ro, 0x0⟩
def ADM_SEAM_CTL_DISAGREE (n : Nat) : Fld := ⟨0x13104 + n * 0x40, 24, 2, .ro, 0x0⟩

/- LK_ADM_SEAMn_CNT_RETRY, R512 -/
def ADM_SEAM_CNT_RETRY_COUNT (n : Nat) : Fld := ⟨0x13108 + n * 0x40, 0, 64, .ro, 0x0⟩

/- LK_ADM_SEAMn_CNT_TRAIN, R512 -/
def ADM_SEAM_CNT_TRAIN_COUNT (n : Nat) : Fld := ⟨0x13110 + n * 0x40, 0, 64, .ro, 0x0⟩

/- LK_ADM_SHADOW_COST, R81 -/
def ADM_SHADOW_COST_E0 (n i : Nat) : Fld := ⟨0x11000 + n * 0x200 + i * 0x4, 0, 6, .rw, (costReset (i / 8) (i % 8) 0)⟩
def ADM_SHADOW_COST_E1 (n i : Nat) : Fld := ⟨0x11000 + n * 0x200 + i * 0x4, 8, 6, .rw, (costReset (i / 8) (i % 8) 1)⟩
def ADM_SHADOW_COST_E2 (n i : Nat) : Fld := ⟨0x11000 + n * 0x200 + i * 0x4, 16, 6, .rw, (costReset (i / 8) (i % 8) 2)⟩
def ADM_SHADOW_COST_E3 (n i : Nat) : Fld := ⟨0x11000 + n * 0x200 + i * 0x4, 24, 6, .rw, (costReset (i / 8) (i % 8) 3)⟩

/- LK_ADM_ACTIVE_COST, R81 -/
def ADM_ACTIVE_COST_E0 (n i : Nat) : Fld := ⟨0x12000 + n * 0x200 + i * 0x4, 0, 6, .ro, (costReset (i / 8) (i % 8) 0)⟩
def ADM_ACTIVE_COST_E1 (n i : Nat) : Fld := ⟨0x12000 + n * 0x200 + i * 0x4, 8, 6, .ro, (costReset (i / 8) (i % 8) 1)⟩
def ADM_ACTIVE_COST_E2 (n i : Nat) : Fld := ⟨0x12000 + n * 0x200 + i * 0x4, 16, 6, .ro, (costReset (i / 8) (i % 8) 2)⟩
def ADM_ACTIVE_COST_E3 (n i : Nat) : Fld := ⟨0x12000 + n * 0x200 + i * 0x4, 24, 6, .ro, (costReset (i / 8) (i % 8) 3)⟩

/- LK_BUD_WGT, R122 -/
def BUD_WGT_W (n i : Nat) : Fld := ⟨0x20800 + n * 0x40 + i * 0x4, 0, 12, .rwl, 0⟩

/- LK_SEN_MAP, R306 -/
def SEN_MAP_LOG (n i c : Nat) : Fld := ⟨0x72000 + n * 0x400 + i * 0x40 + c / 4 * 4, 8 * (c % 4), 6, .ro, c⟩

/- LK_SEN_STATE, R306 -/
def SEN_STATE_SLOT (n i c : Nat) : Fld := ⟨0x72020 + n * 0x400 + i * 0x40 + c / 16 * 4, 2 * (c % 16), 2, .ro, (if c < 32 then 1 else 0)⟩

/- LK_SEN_LOG, R307 -/
def SEN_LOG_WORD (n i : Nat) : Fld := ⟨0x78000 + n * 0x40 + i * 0x4, 0, 32, .ro, 0⟩

/- LK_CAS_BC_RX, R346 -/
def CAS_BC_RX_WORD (n i : Nat) : Fld := ⟨0x80200 + n * 0x20 + i * 0x4, 0, 32, .ro, 0⟩

/- LK_CAS_HELD_W, R346 -/
def CAS_HELD_W_WORD (n : Nat) : Fld := ⟨0x80600 + n * 0x4, 0, 32, .ro, 0⟩

/- LK_CAS_REL, R346 -/
def CAS_REL_OBJ (n : Nat) : Fld := ⟨0x80400 + n * 0x8, 0, 14, .ro, 0⟩
def CAS_REL_GEN (n : Nat) : Fld := ⟨0x80400 + n * 0x8, 16, 8, .ro, 0⟩
def CAS_REL_ABORTED (n : Nat) : Fld := ⟨0x80400 + n * 0x8, 24, 1, .ro, 0⟩
def CAS_REL_TIME (n : Nat) : Fld := ⟨0x80400 + n * 0x8, 32, 32, .ro, 0⟩

/- LK_HIF_ACTIVE, R358 -/
def HIF_ACTIVE_Q : Fld := ⟨0x3000, 0, 32, .ro, 0⟩

/- LK_HIF_CNT_POLL_HIT, R358 -/
def HIF_CNT_POLL_HIT_COUNT : Fld := ⟨0x3008, 0, 64, .ro, 0⟩

/- LK_HIF_CNT_CMD, R358 -/
def HIF_CNT_CMD_COUNT : Fld := ⟨0x3010, 0, 64, .ro, 0⟩

/- LK_INT_Vn_ADDR, R371 -/
def INT_V_ADDR_ADDR (n : Nat) : Fld := ⟨0x4000 + n * 0x10, 0, 64, .rw, 0⟩

/- LK_INT_Vn_DATA, R371 -/
def INT_V_DATA_DATA (n : Nat) : Fld := ⟨0x4008 + n * 0x10, 0, 32, .rw, 0⟩

/- LK_INT_Vn_CTL, R371 -/
def INT_V_CTL_MASK (n : Nat) : Fld := ⟨0x400c + n * 0x10, 0, 1, .rw, 1⟩
def INT_V_CTL_PEND (n : Nat) : Fld := ⟨0x400c + n * 0x10, 1, 1, .ro, 0⟩

/- LK_INT_Fk_CAUSE, R371 -/
def INT_F_CAUSE_EVT (n : Nat) : Fld := ⟨0x4800 + n * 0x10, 0, 1, .w1c, 0⟩
def INT_F_CAUSE_NMI (n : Nat) : Fld := ⟨0x4800 + n * 0x10, 1, 1, .w1c, 0⟩
def INT_F_CAUSE_COUNT (n : Nat) : Fld := ⟨0x4800 + n * 0x10, 16, 16, .ro, 0⟩

/- LK_INT_Fk_LAST, R371 -/
def INT_F_LAST_CODE (n : Nat) : Fld := ⟨0x4804 + n * 0x10, 0, 16, .ro, 0⟩

/- LK_MBX_GLB, R414 -/
def MBX_GLB_V2_EN : Fld := ⟨0x90400, 0, 1, .rwl, 0⟩

/- LK_MGT_DUMP, R416 -/
def MGT_DUMP_WORD (n i : Nat) : Fld := ⟨0x91000 + n * 0x200 + i * 0x4, 0, 32, .ro, 0⟩

/- LK_REC_AO, R437 -/
def REC_AO_COUNT (n : Nat) : Fld := ⟨0xa0100 + n * 0x8, 0, 64, .ro, 0⟩

/- LK_MTR_FW_HASH, R486 -/
def MTR_FW_HASH_WORD (n : Nat) : Fld := ⟨0xf0080 + n * 0x4, 0, 32, .ros, 0⟩

/- LK_MTR_CERT, R486 -/
def MTR_CERT_WORD (n : Nat) : Fld := ⟨0xf0200 + n * 0x4, 0, 32, .ros, 0⟩

/- LK_MTR_READING, R486 -/
def MTR_READING_WORD (n : Nat) : Fld := ⟨0xf0400 + n * 0x4, 0, 32, .ros, 0⟩

/- LK_MTR_STAMP, R486 -/
def MTR_STAMP_WORD (n i : Nat) : Fld := ⟨0xf1000 + n * 0x100 + i * 0x4, 0, 32, .ros, 0⟩

/- LK_MTR_AUDIT, R486 -/
def MTR_AUDIT_WORD (n i : Nat) : Fld := ⟨0xf4000 + n * 0x30 + i * 0x4, 0, 32, .ros, 0⟩

end Sys2Proof.Machine.R
end

