-- ==== Sys2Proof/Machine/RegTable.lean ====
section
/-!
DEFINITION. Machine/RegTable.lean: the register map of R18, one row per register or array of registers, and the
decoding of a window offset to a register and its fields. An offset no row gives is unassigned (R10).
-/
namespace Sys2Proof.Machine
open R

/-- The register at a word of the window: its name, its own offset, whether it is 64 bits wide, and its fields. -/
structure RegHit where
  name : String
  base : Nat
  wide : Bool
  n    : Nat
  i    : Nat
  flds : List Fld
  deriving DecidableEq, Repr

/-- One row: `c1` blocks `s1` bytes apart, each of `c2` registers `s2` bytes apart, against a word offset. -/
def row (name : String) (base c1 s1 c2 s2 : Nat) (wide : Bool) (flds : Nat → Nat → List Fld) (off : Nat) : Option RegHit :=
  if off < base then none else
  let rel := off - base
  let n := if s1 = 0 then 0 else min (rel / s1) (c1 - 1)
  let r1 := rel - n * s1
  let i := if s2 = 0 then 0 else min (r1 / s2) (c2 - 1)
  let r2 := r1 - i * s2
  if r2 = 0 ∨ (wide ∧ r2 = 4) then some ⟨name, off - r2, wide, n, i, flds n i⟩ else none

/-- The first row that answers. -/
def firstHit : List (Nat → Option RegHit) → Nat → Option RegHit
  | [], _ => none
  | f :: t, off => (f off).orElse fun _ => firstHit t off

/-- The identity and capabilities area (R349). -/
def rowsId : List (Nat → Option RegHit) := [
  row "LK_ID_VENDOR" 0x0 1 0x0 1 0x0 false (fun _ _ => [ID_VENDOR_VENDOR, ID_VENDOR_BLOCK]),
  row "LK_ID_VERSION" 0x4 1 0x0 1 0x0 false (fun _ _ => [ID_VERSION_STEPPING, ID_VERSION_PACKAGE, ID_VERSION_MSG_MAJ, ID_VERSION_MAP]),
  row "LK_ID_DIM" 0x8 1 0x0 1 0x0 false (fun _ _ => [ID_DIM_NQ, ID_DIM_NVEC, ID_DIM_NDIE, ID_DIM_NLOOP]),
  row "LK_ID_UID" 0x10 1 0x0 1 0x0 true (fun _ _ => [ID_UID_UID]),
  row "LK_ID_CAPn" 0x20 4 0x4 1 0x0 false (fun n _ => [ID_CAP_CAP n])]

/-- The global control and status area (R376). -/
def rowsGlb : List (Nat → Option RegHit) := [
  row "LK_GLB_GOV_CTL" 0x1000 1 0x0 1 0x0 false (fun _ _ => [GLB_GOV_CTL_ENABLE]),
  row "LK_GLB_STATUS" 0x1004 1 0x0 1 0x0 false (fun _ _ => [GLB_STATUS_ENABLED, GLB_STATUS_CHECKING, GLB_STATUS_REFUSE_CODE, GLB_STATUS_REFUSE_ARG]),
  row "LK_GLB_RESET" 0x1008 1 0x0 1 0x0 false (fun _ _ => [GLB_RESET_KEY, GLB_RESET_GO]),
  row "LK_GLB_RST_INFO" 0x100c 1 0x0 1 0x0 false (fun _ _ => [GLB_RST_INFO_CAUSE, GLB_RST_INFO_COUNT]),
  row "LK_GLB_SCRATCH" 0x1010 1 0x0 1 0x0 false (fun _ _ => [GLB_SCRATCH_DATA]),
  row "LK_GLB_ACCESS_ERR" 0x1014 1 0x0 1 0x0 false (fun _ _ => [GLB_ACCESS_ERR_OFFSET, GLB_ACCESS_ERR_KIND, GLB_ACCESS_ERR_VALID])]

/-- The queues area (R358). -/
def rowsHif : List (Nat → Option RegHit) := [
  row "LK_HIF_Qn_SQ_BASE" 0x2000 32 0x40 1 0x0 true (fun n _ => [HIF_Q_SQ_BASE_ADDR n]),
  row "LK_HIF_Qn_CQ_BASE" 0x2008 32 0x40 1 0x0 true (fun n _ => [HIF_Q_CQ_BASE_ADDR n]),
  row "LK_HIF_Qn_DB_ADDR" 0x2010 32 0x40 1 0x0 true (fun n _ => [HIF_Q_DB_ADDR_ADDR n]),
  row "LK_HIF_Qn_CFG" 0x2018 32 0x40 1 0x0 false (fun n _ => [HIF_Q_CFG_SQ_LOG n, HIF_Q_CFG_CQ_LOG n, HIF_Q_CFG_EN n, HIF_Q_CFG_COAL_N n, HIF_Q_CFG_COAL_US n]),
  row "LK_HIF_Qn_STS" 0x201c 32 0x40 1 0x0 false (fun n _ => [HIF_Q_STS_SQ_HEAD n, HIF_Q_STS_STATE n, HIF_Q_STS_ERR n]),
  row "LK_HIF_Qn_CQ" 0x2020 32 0x40 1 0x0 false (fun n _ => [HIF_Q_CQ_CQ_TAIL n, HIF_Q_CQ_PHASE n]),
  row "LK_HIF_Qn_CNT_CMD" 0x2028 32 0x40 1 0x0 true (fun n _ => [HIF_Q_CNT_CMD_COUNT n]),
  row "LK_HIF_ACTIVE" 0x3000 1 0x0 1 0x0 false (fun _ _ => [HIF_ACTIVE_Q]),
  row "LK_HIF_CNT_POLL_HIT" 0x3008 1 0x0 1 0x0 true (fun _ _ => [HIF_CNT_POLL_HIT_COUNT]),
  row "LK_HIF_CNT_CMD" 0x3010 1 0x0 1 0x0 true (fun _ _ => [HIF_CNT_CMD_COUNT])]

/-- The interrupt vectors area (R371). -/
def rowsInt : List (Nat → Option RegHit) := [
  row "LK_INT_Vn_ADDR" 0x4000 42 0x10 1 0x0 true (fun n _ => [INT_V_ADDR_ADDR n]),
  row "LK_INT_Vn_DATA" 0x4008 42 0x10 1 0x0 false (fun n _ => [INT_V_DATA_DATA n]),
  row "LK_INT_Vn_CTL" 0x400c 42 0x10 1 0x0 false (fun n _ => [INT_V_CTL_MASK n, INT_V_CTL_PEND n]),
  row "LK_INT_Fk_CAUSE" 0x4800 10 0x10 1 0x0 false (fun n _ => [INT_F_CAUSE_EVT n, INT_F_CAUSE_NMI n, INT_F_CAUSE_COUNT n]),
  row "LK_INT_Fk_LAST" 0x4804 10 0x10 1 0x0 false (fun n _ => [INT_F_LAST_CODE n])]

/-- The admission area (R79, R80, R81, R511, R512). -/
def rowsAdm : List (Nat → Option RegHit) := [
  row "LK_ADM_CTL" 0x10000 1 0x0 1 0x0 false (fun _ _ => [ADM_CTL_FAST_EN, ADM_CTL_HINT_EN, ADM_CTL_STRIDE]),
  row "LK_ADM_RAMP" 0x10004 1 0x0 1 0x0 false (fun _ _ => [ADM_RAMP_STEP, ADM_RAMP_FAST_STEP]),
  row "LK_ADM_RAMP_CEIL" 0x10008 1 0x0 1 0x0 false (fun _ _ => [ADM_RAMP_CEIL_STEP_CEIL, ADM_RAMP_CEIL_FAST_CEIL]),
  row "LK_ADM_PKG_SLOPE" 0x1000c 1 0x0 1 0x0 false (fun _ _ => [ADM_PKG_SLOPE_STEP, ADM_PKG_SLOPE_STEP_CEIL]),
  row "LK_ADM_UNCORE" 0x10010 1 0x0 1 0x0 false (fun _ _ => [ADM_UNCORE_ALLOW, ADM_UNCORE_ALLOW_FLOOR]),
  row "LK_ADM_HINT" 0x10014 1 0x0 1 0x0 false (fun _ _ => [ADM_HINT_MIN_LEAD, ADM_HINT_ARM_TIMEOUT]),
  row "LK_ADM_CUFF_CFG" 0x10018 1 0x0 1 0x0 false (fun _ _ => [ADM_CUFF_CFG_PEAK_PCT, ADM_CUFF_CFG_AVG_PCT, ADM_CUFF_CFG_REL_PCT, ADM_CUFF_CFG_MIN_HOLD]),
  row "LK_ADM_CUFF_LVL" 0x1001c 1 0x0 1 0x0 false (fun _ _ => [ADM_CUFF_LVL_LEVEL_PCT, ADM_CUFF_LVL_ALERT_PCT, ADM_CUFF_LVL_STORM_COUNT, ADM_CUFF_LVL_STORM_WIN]),
  row "LK_ADM_OPSCALE0" 0x10020 1 0x0 1 0x0 false (fun _ _ => [ADM_OPSCALE0_DIV4, ADM_OPSCALE0_DIV5, ADM_OPSCALE0_DIV6, ADM_OPSCALE0_DIV8]),
  row "LK_ADM_OPSCALE1" 0x10024 1 0x0 1 0x0 false (fun _ _ => [ADM_OPSCALE1_DIV10, ADM_OPSCALE1_DIV12, ADM_OPSCALE1_DIV16]),
  row "LK_ADM_COST_SWAP" 0x10028 1 0x0 1 0x0 false (fun _ _ => [ADM_COST_SWAP_DIE]),
  row "LK_ADM_DIEn_STATUS" 0x10100 8 0x100 1 0x0 false (fun n _ => [ADM_DIE_STATUS_POOL n, ADM_DIE_STATUS_FAST_ARMED n, ADM_DIE_STATUS_FAST_ACTIVE n, ADM_DIE_STATUS_CUFF n, ADM_DIE_STATUS_SEAM_HOLD n, ADM_DIE_STATUS_SAFE_TIER n, ADM_DIE_STATUS_FENCED n]),
  row "LK_ADM_DIEn_STROKE" 0x10104 8 0x100 1 0x0 false (fun n _ => [ADM_DIE_STROKE_GRANTED n, ADM_DIE_STROKE_ALLOW n]),
  row "LK_ADM_DIEn_RAMP" 0x10108 8 0x100 1 0x0 false (fun n _ => [ADM_DIE_RAMP_START n, ADM_DIE_RAMP_SHARE n]),
  row "LK_ADM_DIEn_POOL_CAP" 0x1010c 8 0x100 1 0x0 false (fun n _ => [ADM_DIE_POOL_CAP_CAP n]),
  row "LK_ADM_DIEn_CUFF_CAUSE" 0x10110 8 0x100 1 0x0 false (fun n _ => [ADM_DIE_CUFF_CAUSE_PEAK n, ADM_DIE_CUFF_CAUSE_AVG n, ADM_DIE_CUFF_CAUSE_DROOP n, ADM_DIE_CUFF_CAUSE_ALERT n, ADM_DIE_CUFF_CAUSE_PHASE n, ADM_DIE_CUFF_CAUSE_STORM n]),
  row "LK_ADM_DIEn_CNT_CUFF" 0x10118 8 0x100 1 0x0 true (fun n _ => [ADM_DIE_CNT_CUFF_COUNT n]),
  row "LK_ADM_DIEn_CNT_UNMET" 0x10120 8 0x100 1 0x0 true (fun n _ => [ADM_DIE_CNT_UNMET_COUNT n]),
  row "LK_ADM_DIEn_CNT_TOKENS" 0x10128 8 0x100 1 0x0 true (fun n _ => [ADM_DIE_CNT_TOKENS_COUNT n]),
  row "LK_ADM_DIEn_HINT" 0x10130 8 0x100 1 0x0 false (fun n _ => [ADM_DIE_HINT_LAYER n, ADM_DIE_HINT_OPERATOR n, ADM_DIE_HINT_VALID n]),
  row "LK_ADM_SEAM_CFG" 0x13000 1 0x0 1 0x0 false (fun _ _ => [ADM_SEAM_CFG_MIN_VER, ADM_SEAM_CFG_SAFE_RATIO, ADM_SEAM_CFG_SAFE_POOL]),
  row "LK_ADM_FENCE" 0x13004 1 0x0 1 0x0 false (fun _ _ => [ADM_FENCE_REQ, ADM_FENCE_LIFT]),
  row "LK_ADM_SEAMn_STS" 0x13100 9 0x40 1 0x0 false (fun n _ => [ADM_SEAM_STS_UP n, ADM_SEAM_STS_WIDTH n, ADM_SEAM_STS_LANES n, ADM_SEAM_STS_VER n, ADM_SEAM_STS_FEAT n, ADM_SEAM_STS_DIE_TYPE n, ADM_SEAM_STS_SAFE n, ADM_SEAM_STS_FENCED n, ADM_SEAM_STS_ONE_LANE n, ADM_SEAM_STS_DEAD n]),
  row "LK_ADM_SEAMn_CTL" 0x13104 9 0x40 1 0x0 false (fun n _ => [ADM_SEAM_CTL_RETRAIN n, ADM_SEAM_CTL_CAUSE n, ADM_SEAM_CTL_RAW n, ADM_SEAM_CTL_DISAGREE n]),
  row "LK_ADM_SEAMn_CNT_RETRY" 0x13108 9 0x40 1 0x0 true (fun n _ => [ADM_SEAM_CNT_RETRY_COUNT n]),
  row "LK_ADM_SEAMn_CNT_TRAIN" 0x13110 9 0x40 1 0x0 true (fun n _ => [ADM_SEAM_CNT_TRAIN_COUNT n]),
  row "LK_ADM_SHADOW_COST" 0x11000 8 0x200 128 0x4 false (fun n i => [ADM_SHADOW_COST_E0 n i, ADM_SHADOW_COST_E1 n i, ADM_SHADOW_COST_E2 n i, ADM_SHADOW_COST_E3 n i]),
  row "LK_ADM_ACTIVE_COST" 0x12000 8 0x200 128 0x4 false (fun n i => [ADM_ACTIVE_COST_E0 n i, ADM_ACTIVE_COST_E1 n i, ADM_ACTIVE_COST_E2 n i, ADM_ACTIVE_COST_E3 n i])]

/-- The budget area (R119 to R122). -/
def rowsBud : List (Nat → Option RegHit) := [
  row "LK_BUD_CTL" 0x20000 1 0x0 1 0x0 false (fun _ _ => [BUD_CTL_LT_EN, BUD_CTL_LT_LEARN, BUD_CTL_BURST_EN, BUD_CTL_USE_CONF, BUD_CTL_REPLACE_CONF, BUD_CTL_DECAY_SHIFT, BUD_CTL_TOL_PCT]),
  row "LK_BUD_LT_CFG" 0x20004 1 0x0 1 0x0 false (fun _ _ => [BUD_LT_CFG_BIN_WIN, BUD_LT_CFG_STEP_MIN]),
  row "LK_BUD_PKG_CAP" 0x20008 1 0x0 1 0x0 false (fun _ _ => [BUD_PKG_CAP_SUST, BUD_PKG_CAP_PEAK]),
  row "LK_BUD_PKG_CEIL" 0x2000c 1 0x0 1 0x0 false (fun _ _ => [BUD_PKG_CEIL_SUST_CEIL, BUD_PKG_CEIL_PEAK_CEIL, BUD_PKG_CEIL_PROV]),
  row "LK_BUD_BURST" 0x20010 1 0x0 1 0x0 false (fun _ _ => [BUD_BURST_MAX, BUD_BURST_REFILL, BUD_BURST_MAX_CEIL]),
  row "LK_BUD_MISMATCH" 0x20014 1 0x0 1 0x0 false (fun _ _ => [BUD_MISMATCH_PCT, BUD_MISMATCH_WIN, BUD_MISMATCH_GUARD_PCT, BUD_MISMATCH_SLOPE]),
  row "LK_BUD_RES" 0x20018 1 0x0 1 0x0 false (fun _ _ => [BUD_RES_RES_GUARD]),
  row "LK_BUD_OPSEL" 0x2001c 1 0x0 1 0x0 false (fun _ _ => [BUD_OPSEL_HYST_PCT, BUD_OPSEL_HOLD, BUD_OPSEL_OPMAX]),
  row "LK_BUD_STATUS" 0x20020 1 0x0 1 0x0 false (fun _ _ => [BUD_STATUS_BURST_LEFT, BUD_STATUS_BURST_ACTIVE, BUD_STATUS_CAP_BOUND]),
  row "LK_BUD_PIN" 0x20024 1 0x0 1 0x0 false (fun _ _ => [BUD_PIN_WATTS]),
  row "LK_BUD_PACE" 0x20030 1 0x0 1 0x0 false (fun _ _ => [BUD_PACE_TOKENS, BUD_PACE_RATIO, BUD_PACE_ACTIVE]),
  row "LK_BUD_PACE_CAP" 0x20034 1 0x0 1 0x0 false (fun _ _ => [BUD_PACE_CAP_CAP]),
  row "LK_BUD_PACE_CNT_SHORT" 0x20038 1 0x0 1 0x0 true (fun _ _ => [BUD_PACE_CNT_SHORT_COUNT]),
  row "LK_BUD_BWAIT_LAST" 0x20040 1 0x0 1 0x0 false (fun _ _ => [BUD_BWAIT_LAST_NS]),
  row "LK_BUD_BWAIT_MAX" 0x20044 1 0x0 1 0x0 false (fun _ _ => [BUD_BWAIT_MAX_NS]),
  row "LK_BUD_BWAIT_SUM" 0x20048 1 0x0 1 0x0 true (fun _ _ => [BUD_BWAIT_SUM_NS]),
  row "LK_BUD_BWAIT_COUNT" 0x20050 1 0x0 1 0x0 true (fun _ _ => [BUD_BWAIT_COUNT_COUNT]),
  row "LK_BUD_JOB_CTL" 0x20060 1 0x0 1 0x0 false (fun _ _ => [BUD_JOB_CTL_START, BUD_JOB_CTL_STOP, BUD_JOB_CTL_RUNNING, BUD_JOB_CTL_ERR]),
  row "LK_BUD_JOB_ID" 0x20064 1 0x0 1 0x0 false (fun _ _ => [BUD_JOB_ID_ID]),
  row "LK_BUD_JOB_T_START" 0x20068 1 0x0 1 0x0 true (fun _ _ => [BUD_JOB_T_START_TIME]),
  row "LK_BUD_JOB_T_STOP" 0x20070 1 0x0 1 0x0 true (fun _ _ => [BUD_JOB_T_STOP_TIME]),
  row "LK_BUD_JOB_E_IN" 0x20078 1 0x0 1 0x0 true (fun _ _ => [BUD_JOB_E_IN_UJ]),
  row "LK_BUD_JOB_E_OUT" 0x20080 1 0x0 1 0x0 true (fun _ _ => [BUD_JOB_E_OUT_UJ]),
  row "LK_BUD_LT_ACC" 0x20090 1 0x0 1 0x0 false (fun _ _ => [BUD_LT_ACC_INDEX, BUD_LT_ACC_READ, BUD_LT_ACC_WRITE, BUD_LT_ACC_INVAL_ALL, BUD_LT_ACC_BUSY]),
  row "LK_BUD_LT_DATAk" 0x200a0 12 0x4 1 0x0 false (fun n _ => [BUD_LT_DATA_WORD n]),
  row "LK_BUD_RAILn_LIM" 0x20100 16 0x40 1 0x0 false (fun n _ => [BUD_RAIL_LIM_LIMIT n]),
  row "LK_BUD_RAILn_CEIL" 0x20104 16 0x40 1 0x0 false (fun n _ => [BUD_RAIL_CEIL_CEIL n]),
  row "LK_BUD_RAILn_EFF" 0x20108 16 0x40 1 0x0 false (fun n _ => [BUD_RAIL_EFF_EFF n]),
  row "LK_BUD_RAILn_LEAK" 0x2010c 16 0x40 1 0x0 false (fun n _ => [BUD_RAIL_LEAK_P45 n, BUD_RAIL_LEAK_P65 n, BUD_RAIL_LEAK_P85 n, BUD_RAIL_LEAK_P105 n]),
  row "LK_BUD_RAILn_STATUS" 0x20110 16 0x40 1 0x0 false (fun n _ => [BUD_RAIL_STATUS_LIM_EFF n, BUD_RAIL_STATUS_RUN n, BUD_RAIL_STATUS_MEASURED n])]

/-- The budget area (R119 to R122), continued. -/
def rowsBud1 : List (Nat → Option RegHit) := [
  row "LK_BUD_RAILn_EST" 0x20114 16 0x40 1 0x0 false (fun n _ => [BUD_RAIL_EST_EST n, BUD_RAIL_EST_MEAS n]),
  row "LK_BUD_RAILn_E_OUT" 0x20118 16 0x40 1 0x0 true (fun n _ => [BUD_RAIL_E_OUT_UJ n]),
  row "LK_BUD_RAILn_CNT_MEASURED" 0x20120 16 0x40 1 0x0 true (fun n _ => [BUD_RAIL_CNT_MEASURED_COUNT n]),
  row "LK_BUD_RAILn_CNT_OVER" 0x20128 16 0x40 1 0x0 true (fun n _ => [BUD_RAIL_CNT_OVER_COUNT n]),
  row "LK_BUD_WGT" 0x20800 16 0x40 16 0x4 false (fun n i => [BUD_WGT_W n i])]

/-- The clocks and droop area (R159, R160). -/
def rowsClk : List (Nat → Option RegHit) := [
  row "LK_CLK_SRC" 0x30000 1 0x0 1 0x0 false (fun _ _ => [CLK_SRC_ACTIVE, CLK_SRC_XTAL_PROVEN, CLK_SRC_PLL_LOCK, CLK_SRC_HOLDOVER, CLK_SRC_FAIL_CAUSE]),
  row "LK_CLK_SRC_CTL" 0x30004 1 0x0 1 0x0 false (fun _ _ => [CLK_SRC_CTL_INT_OK, CLK_SRC_CTL_RETURN, CLK_SRC_CTL_INT_OPMAX]),
  row "LK_CLK_RAMP" 0x30008 1 0x0 1 0x0 false (fun _ _ => [CLK_RAMP_HOLD_AP, CLK_RAMP_ACK_GRACE, CLK_RAMP_ACK_RETRY]),
  row "LK_CLK_OPV0" 0x3000c 1 0x0 1 0x0 false (fun _ _ => [CLK_OPV0_DIV4, CLK_OPV0_DIV5, CLK_OPV0_DIV6, CLK_OPV0_DIV8]),
  row "LK_CLK_OPV1" 0x30010 1 0x0 1 0x0 false (fun _ _ => [CLK_OPV1_DIV10, CLK_OPV1_DIV12, CLK_OPV1_DIV16]),
  row "LK_CLK_DROOP_CFG" 0x30014 1 0x0 1 0x0 false (fun _ _ => [CLK_DROOP_CFG_THR1, CLK_DROOP_CFG_THR2, CLK_DROOP_CFG_CUFF_AP, CLK_DROOP_CFG_RECOVER_AP, CLK_DROOP_CFG_FLOOR]),
  row "LK_CLK_DROOP_STUCK" 0x30018 1 0x0 1 0x0 false (fun _ _ => [CLK_DROOP_STUCK_LIMIT]),
  row "LK_CLK_FMC_CTL" 0x30020 1 0x0 1 0x0 false (fun _ _ => [CLK_FMC_CTL_SRC, CLK_FMC_CTL_REF, CLK_FMC_CTL_GATE, CLK_FMC_CTL_START, CLK_FMC_CTL_BUSY, CLK_FMC_CTL_OVF, CLK_FMC_CTL_CLUSTER]),
  row "LK_CLK_FMC_COUNT" 0x30028 1 0x0 1 0x0 true (fun _ _ => [CLK_FMC_COUNT_COUNT]),
  row "LK_CLK_DIEn_DIV" 0x30100 8 0x100 1 0x0 false (fun n _ => [CLK_DIE_DIV_TARGET n, CLK_DIE_DIV_NOW n, CLK_DIE_DIV_ACK_WAIT n, CLK_DIE_DIV_HELD n, CLK_DIE_DIV_DROOP_ACTIVE n, CLK_DIE_DIV_V_ACK n]),
  row "LK_CLK_DIEn_GATE" 0x30104 8 0x100 1 0x0 false (fun n _ => (List.range 16).map (CLK_DIE_GATE_CL n)),
  row "LK_CLK_DIEn_GATE_STS" 0x30108 8 0x100 1 0x0 false (fun n _ => (List.range 16).map (CLK_DIE_GATE_STS_CL n)),
  row "LK_CLK_DIEn_CMARGIN" 0x3010c 8 0x100 1 0x0 false (fun n _ => [CLK_DIE_CMARGIN_CLUSTER n]),
  row "LK_CLK_DIEn_DROOP_EN" 0x30110 8 0x100 1 0x0 false (fun n _ => [CLK_DIE_DROOP_EN_DET n]),
  row "LK_CLK_DIEn_DROOP_NOW" 0x30114 8 0x100 1 0x0 false (fun n _ => [CLK_DIE_DROOP_NOW_DET n]),
  row "LK_CLK_DIEn_DROOP_SEEN" 0x30118 8 0x100 1 0x0 false (fun n _ => [CLK_DIE_DROOP_SEEN_DET n]),
  row "LK_CLK_DIEn_DROOP_STUCK" 0x3011c 8 0x100 1 0x0 false (fun n _ => [CLK_DIE_DROOP_STUCK_DET n]),
  row "LK_CLK_DIEn_CNT_DROOP" 0x30120 8 0x100 1 0x0 true (fun n _ => [CLK_DIE_CNT_DROOP_COUNT n]),
  row "LK_CLK_DIEn_CNT_ACK_TO" 0x30128 8 0x100 1 0x0 true (fun n _ => [CLK_DIE_CNT_ACK_TO_COUNT n])]

/-- The regulator area (R197 to R199, R236 to R238). -/
def rowsRgc : List (Nat → Option RegHit) := [
  row "LK_RGC_SW_CTL" 0x44000 1 0x0 1 0x0 false (fun _ _ => [RGC_SW_CTL_SRC, RGC_SW_CTL_SOUT_EN, RGC_SW_CTL_SOUT_DLY, RGC_SW_CTL_INT_KHZ]),
  row "LK_RGC_SW_STATUS" 0x44004 1 0x0 1 0x0 false (fun _ _ => [RGC_SW_STATUS_REF_NOW, RGC_SW_STATUS_SYNC_LOCK, RGC_SW_STATUS_SYNC_HOLD, RGC_SW_STATUS_SYNC_KHZ]),
  row "LK_RGC_PREARM" 0x44008 1 0x0 1 0x0 false (fun _ _ => [RGC_PREARM_PA_MV, RGC_PREARM_PA_SLEW, RGC_PREARM_MIN_A, RGC_PREARM_FF_PCT]),
  row "LK_RGC_VCL_CFG" 0x4400c 1 0x0 1 0x0 false (fun _ _ => [RGC_VCL_CFG_ACK_N, RGC_VCL_CFG_PA_MAX]),
  row "LK_RGC_VCL_STATUS" 0x44010 1 0x0 1 0x0 false (fun _ _ => [RGC_VCL_STATUS_UP, RGC_VCL_STATUS_DEAD]),
  row "LK_RGC_VCL_CNT_CRC" 0x44018 1 0x0 1 0x0 true (fun _ _ => [RGC_VCL_CNT_CRC_COUNT]),
  row "LK_RGC_VCL_CNT_DOWN" 0x44020 1 0x0 1 0x0 true (fun _ _ => [RGC_VCL_CNT_DOWN_COUNT]),
  row "LK_RGC_Ln_CFG" 0x40000 16 0x400 1 0x0 false (fun n _ => [RGC_L_CFG_PH_BASE n, RGC_L_CFG_NPH n, RGC_L_CFG_DIV n, RGC_L_CFG_NL_EN n, RGC_L_CFG_ROT_EN n, RGC_L_CFG_OFFSET n]),
  row "LK_RGC_Ln_VNOM" 0x40004 16 0x400 1 0x0 false (fun n _ => [RGC_L_VNOM_VNOM n]),
  row "LK_RGC_Ln_VMAX" 0x40008 16 0x400 1 0x0 false (fun n _ => [RGC_L_VMAX_VMAX n, RGC_L_VMAX_VMAX_CEIL n]),
  row "LK_RGC_Ln_SLEW" 0x4000c 16 0x400 1 0x0 false (fun n _ => [RGC_L_SLEW_SLEW n, RGC_L_SLEW_SLEW_CEIL n]),
  row "LK_RGC_Ln_TGT" 0x40010 16 0x400 1 0x0 false (fun n _ => [RGC_L_TGT_TARGET n, RGC_L_TGT_REF n, RGC_L_TGT_RAMP n, RGC_L_TGT_ACKED n, RGC_L_TGT_PREARMED n]),
  row "LK_RGC_Ln_COMP0" 0x40014 16 0x400 1 0x0 false (fun n _ => [RGC_L_COMP0_KP n, RGC_L_COMP0_KI n]),
  row "LK_RGC_Ln_COMP1" 0x40018 16 0x400 1 0x0 false (fun n _ => [RGC_L_COMP1_KD n, RGC_L_COMP1_LL n]),
  row "LK_RGC_Ln_SLOPE" 0x4001c 16 0x400 1 0x0 false (fun n _ => [RGC_L_SLOPE_LPH n, RGC_L_SLOPE_SC_PCT n]),
  row "LK_RGC_Ln_NL" 0x40020 16 0x400 1 0x0 false (fun n _ => [RGC_L_NL_NL_TH n, RGC_L_NL_NL_TH_ARM n, RGC_L_NL_NL_REL n, RGC_L_NL_NL_OV n]),
  row "LK_RGC_Ln_NLT" 0x40024 16 0x400 1 0x0 false (fun n _ => [RGC_L_NLT_MAX_ON n, RGC_L_NLT_OV_MAX n]),
  row "LK_RGC_Ln_BAL" 0x40028 16 0x400 1 0x0 false (fun n _ => [RGC_L_BAL_BAL_MAX n, RGC_L_BAL_BAL_SHIFT n, RGC_L_BAL_THM_GAIN n, RGC_L_BAL_SINK_MAX n]),
  row "LK_RGC_Ln_APPLY" 0x4002c 16 0x400 1 0x0 false (fun n _ => [RGC_L_APPLY_APPLY n]),
  row "LK_RGC_Ln_STATUS" 0x40030 16 0x400 1 0x0 false (fun n _ => [RGC_L_STATUS_MODE n, RGC_L_STATUS_NROT n, RGC_L_STATUS_ROT n, RGC_L_STATUS_FF n, RGC_L_STATUS_REL_ARM n]),
  row "LK_RGC_Ln_STEP" 0x40034 16 0x400 1 0x0 false (fun n _ => [RGC_L_STEP_DI n, RGC_L_STEP_RATE n, RGC_L_STEP_WIN n]),
  row "LK_RGC_Ln_CNT_ALLPH" 0x40038 16 0x400 1 0x0 true (fun n _ => [RGC_L_CNT_ALLPH_COUNT n]),
  row "LK_RGC_Ln_CNT_BRAKE" 0x40040 16 0x400 1 0x0 true (fun n _ => [RGC_L_CNT_BRAKE_COUNT n]),
  row "LK_RGC_Ln_CNT_PREARM" 0x40048 16 0x400 1 0x0 true (fun n _ => [RGC_L_CNT_PREARM_COUNT n]),
  row "LK_RGC_Ln_PHi_CS" 0x40100 16 0x400 12 0x40 false (fun n i => [RGC_PH_CS_GAIN n i, RGC_PH_CS_OFS n i]),
  row "LK_RGC_Ln_PHi_STS" 0x40104 16 0x400 12 0x40 false (fun n i => [RGC_PH_STS_IAVG n i, RGC_PH_STS_SLOT n i, RGC_PH_STS_INROT n i, RGC_PH_STS_BAL n i]),
  row "LK_RGC_Ln_PHi_TEMP" 0x40108 16 0x400 12 0x40 false (fun n i => [RGC_PH_TEMP_TEMP n i, RGC_PH_TEMP_FLAG n i]),
  row "LK_RGC_SEQ_CTL" 0x44040 1 0x0 1 0x0 false (fun _ _ => [RGC_SEQ_CTL_ON, RGC_SEQ_CTL_OFF, RGC_SEQ_CTL_RETRY_MS, RGC_SEQ_CTL_RETRY_MAX, RGC_SEQ_CTL_PG_US]),
  row "LK_RGC_SEQ_STATUS" 0x44044 1 0x0 1 0x0 false (fun _ _ => [RGC_SEQ_STATUS_STAGE, RGC_SEQ_STATUS_DONE, RGC_SEQ_STATUS_HALT, RGC_SEQ_STATUS_OFF_DONE, RGC_SEQ_STATUS_REG]),
  row "LK_RGC_CAL_CFG" 0x44048 1 0x0 1 0x0 false (fun _ _ => [RGC_CAL_CFG_CAL_WAIT])]

/-- The regulator area (R197 to R199, R236 to R238), continued. -/
def rowsRgc1 : List (Nat → Option RegHit) := [
  row "LK_RGC_Ln_SEQ" 0x40060 16 0x400 1 0x0 false (fun n _ => [RGC_L_SEQ_STAGE n, RGC_L_SEQ_SS_SLEW n, RGC_L_SEQ_ON_DLY n, RGC_L_SEQ_OFF_DLY n]),
  row "LK_RGC_Ln_DEP" 0x40064 16 0x400 1 0x0 false (fun n _ => [RGC_L_DEP_DEP n]),
  row "LK_RGC_Ln_PROT" 0x40068 16 0x400 1 0x0 false (fun n _ => [RGC_L_PROT_SHORT_A n, RGC_L_PROT_OVL_PCT n, RGC_L_PROT_OVL_FEATHER n, RGC_L_PROT_OVL_OFF n]),
  row "LK_RGC_Ln_SENSE" 0x4006c 16 0x400 1 0x0 false (fun n _ => [RGC_L_SENSE_SD_MV n, RGC_L_SENSE_LS_COMP n, RGC_L_SENSE_LOCAL n, RGC_L_SENSE_RETRY n, RGC_L_SENSE_CAUSE n]),
  row "LK_RGC_Ln_PHLOSS" 0x40070 16 0x400 1 0x0 false (fun n _ => [RGC_L_PHLOSS_DEV_A n, RGC_L_PHLOSS_LOST n, RGC_L_PHLOSS_CAP n]),
  row "LK_RGC_Ln_FAULT" 0x40074 16 0x400 1 0x0 false (fun n _ => [RGC_L_FAULT_SHORT_LATCH n, RGC_L_FAULT_SS_CAUSE n, RGC_L_FAULT_TRIES n, RGC_L_FAULT_OVL_SHUT n, RGC_L_FAULT_DEP_OFF n, RGC_L_FAULT_FENCED n, RGC_L_FAULT_PARK n]),
  row "LK_RGC_Ln_ALERT" 0x40078 16 0x400 1 0x0 false (fun n _ => [RGC_L_ALERT_EN n, RGC_L_ALERT_NOW n, RGC_L_ALERT_SEEN n]),
  row "LK_RGC_Ln_CAL" 0x4007c 16 0x400 1 0x0 false (fun n _ => [RGC_L_CAL_START n, RGC_L_CAL_BUSY n, RGC_L_CAL_PHASE n, RGC_L_CAL_REASON n, RGC_L_CAL_MASK n]),
  row "LK_RGC_Ln_OVL" 0x40080 16 0x400 1 0x0 false (fun n _ => [RGC_L_OVL_TIMER n, RGC_L_OVL_FEATHER n]),
  row "LK_RGC_Ln_TEL_I" 0x40090 16 0x400 1 0x0 false (fun n _ => [RGC_L_TEL_I_AVG n, RGC_L_TEL_I_PK64 n]),
  row "LK_RGC_Ln_TEL_V" 0x40094 16 0x400 1 0x0 false (fun n _ => [RGC_L_TEL_V_MEAN n]),
  row "LK_RGC_Ln_TEL_VX" 0x40098 16 0x400 1 0x0 false (fun n _ => [RGC_L_TEL_VX_VMIN n, RGC_L_TEL_VX_VMAX n]),
  row "LK_RGC_Ln_HOLD_I" 0x4009c 16 0x400 1 0x0 false (fun n _ => [RGC_L_HOLD_I_PK n]),
  row "LK_RGC_Ln_HOLD_V" 0x400a0 16 0x400 1 0x0 false (fun n _ => [RGC_L_HOLD_V_VMIN n, RGC_L_HOLD_V_VMAX n]),
  row "LK_RGC_Ln_HOLD_CTL" 0x400a4 16 0x400 1 0x0 false (fun n _ => [RGC_L_HOLD_CTL_CLR n]),
  row "LK_RGC_Ln_HOLD_T" 0x400a8 16 0x400 1 0x0 true (fun n _ => [RGC_L_HOLD_T_TIME n]),
  row "LK_RGC_Ln_CNT_SHORT" 0x400b0 16 0x400 1 0x0 true (fun n _ => [RGC_L_CNT_SHORT_COUNT n]),
  row "LK_RGC_Ln_CNT_PHLOSS" 0x400b8 16 0x400 1 0x0 true (fun n _ => [RGC_L_CNT_PHLOSS_COUNT n]),
  row "LK_RGC_Ln_CNT_OVL" 0x400c0 16 0x400 1 0x0 true (fun n _ => [RGC_L_CNT_OVL_COUNT n]),
  row "LK_RGC_Ln_PHi_LOSS" 0x4010c 16 0x400 12 0x40 false (fun n i => [RGC_PH_LOSS_CAUSE n i, RGC_PH_LOSS_OUT n i, RGC_PH_LOSS_TRIAL n i, RGC_PH_LOSS_READMIT n i]),
  row "LK_RGC_Ln_PHi_CNT_SHORT" 0x40110 16 0x400 12 0x40 true (fun n i => [RGC_PH_CNT_SHORT_COUNT n i])]

/-- The thermal area (R266, R267). -/
def rowsThm : List (Nat → Option RegHit) := [
  row "LK_THM_CTL" 0x60000 1 0x0 1 0x0 false (fun _ _ => [THM_CTL_INTERVAL, THM_CTL_DEMAND_NOW, THM_CTL_CAL_START, THM_CTL_MISS_N, THM_CTL_SUSPECT_N]),
  row "LK_THM_THR" 0x60004 1 0x0 1 0x0 false (fun _ _ => [THM_THR_SOFT, THM_THR_HARD, THM_THR_HYST]),
  row "LK_THM_THROT" 0x60008 1 0x0 1 0x0 false (fun _ _ => [THM_THROT_SOFT_MIN_PCT, THM_THROT_REL_PCT, THM_THROT_HARD_PCT, THM_THROT_HARD_RATIO]),
  row "LK_THM_TRIP" 0x6000c 1 0x0 1 0x0 false (fun _ _ => [THM_TRIP_TRIP, THM_TRIP_TRIP_CEIL, THM_TRIP_FUSE]),
  row "LK_THM_TRIP_STS" 0x60010 1 0x0 1 0x0 false (fun _ _ => [THM_TRIP_STS_LATCHED, THM_TRIP_STS_MULTI, THM_TRIP_STS_SITE]),
  row "LK_THM_TRIP_TEST" 0x60014 1 0x0 1 0x0 false (fun _ _ => [THM_TRIP_TEST_SITE, THM_TRIP_TEST_START, THM_TRIP_TEST_BUSY, THM_TRIP_TEST_PASS, THM_TRIP_TEST_FAIL]),
  row "LK_THM_CAL" 0x60018 1 0x0 1 0x0 false (fun _ _ => [THM_CAL_PERIOD, THM_CAL_BUSY]),
  row "LK_THM_STATUS" 0x6001c 1 0x0 1 0x0 false (fun _ _ => [THM_STATUS_T_PKG, THM_STATUS_SOFT_ANY, THM_STATUS_HARD_ANY, THM_STATUS_STALE_ANY]),
  row "LK_THM_TRIP_MASKk" 0x60020 5 0x4 1 0x0 false (fun n _ => [THM_TRIP_MASK_SITE n]),
  row "LK_THM_CNT_DEMAND" 0x60038 1 0x0 1 0x0 true (fun _ _ => [THM_CNT_DEMAND_COUNT]),
  row "LK_THM_DIEn_STATUS" 0x60100 9 0x100 1 0x0 false (fun n _ => [THM_DIE_STATUS_T_DIE n, THM_DIE_STATUS_FRAC n, THM_DIE_STATUS_HARD n, THM_DIE_STATUS_STALE n, THM_DIE_STATUS_SOFT n]),
  row "LK_THM_DIEn_SUSPECT" 0x60104 9 0x100 1 0x0 false (fun n _ => [THM_DIE_SUSPECT_SITE n]),
  row "LK_THM_DIEn_BROKEN" 0x60108 9 0x100 1 0x0 false (fun n _ => [THM_DIE_BROKEN_SITE n]),
  row "LK_THM_DIEn_FAILED" 0x6010c 9 0x100 1 0x0 false (fun n _ => [THM_DIE_FAILED_SITE n]),
  row "LK_THM_DIEn_SEQ" 0x60110 9 0x100 1 0x0 false (fun n _ => [THM_DIE_SEQ_COUNT n]),
  row "LK_THM_DIEn_CNT_SOFT" 0x60118 9 0x100 1 0x0 true (fun n _ => [THM_DIE_CNT_SOFT_COUNT n]),
  row "LK_THM_DIEn_CNT_HARD" 0x60120 9 0x100 1 0x0 true (fun n _ => [THM_DIE_CNT_HARD_COUNT n]),
  row "LK_THM_DIEn_Tc" 0x60140 9 0x100 16 0x4 false (fun n i => [THM_DIE_T_VALUE n i, THM_DIE_T_STAT n i]),
  row "LK_THM_DIEn_RAWc" 0x60180 9 0x100 16 0x4 false (fun n i => [THM_DIE_RAW_RAW n i])]

/-- The sentinel area (R304 to R307). -/
def rowsSen : List (Nat → Option RegHit) := [
  row "LK_SEN_CTL" 0x70000 1 0x0 1 0x0 false (fun _ _ => [SEN_CTL_VERDICT_EN, SEN_CTL_DIGEST_EN, SEN_CTL_TEST_EN, SEN_CTL_POISON_RETRACT, SEN_CTL_MARGIN_POLICY, SEN_CTL_DIGEST_STEPS]),
  row "LK_SEN_MARGIN_CFG" 0x70004 1 0x0 1 0x0 false (fun _ _ => [SEN_MARGIN_CFG_CL_N, SEN_MARGIN_CFG_VSTEP_MAX, SEN_MARGIN_CFG_WIN_S]),
  row "LK_SEN_TEST" 0x70008 1 0x0 1 0x0 false (fun _ _ => [SEN_TEST_PERIOD_MS]),
  row "LK_SEN_TEST_REQ" 0x7000c 1 0x0 1 0x0 false (fun _ _ => [SEN_TEST_REQ_SITE, SEN_TEST_REQ_DIE, SEN_TEST_REQ_START, SEN_TEST_REQ_BUSY, SEN_TEST_REQ_RESULT, SEN_TEST_REQ_REASON]),
  row "LK_SEN_EPOCH_CFG" 0x70010 1 0x0 1 0x0 false (fun _ _ => [SEN_EPOCH_CFG_OBJ, SEN_EPOCH_CFG_PUBLISH, SEN_EPOCH_CFG_DIGEST_WAIT]),
  row "LK_SEN_EPOCH" 0x70014 1 0x0 1 0x0 false (fun _ _ => [SEN_EPOCH_CUR]),
  row "LK_SEN_VERIFIED" 0x70018 1 0x0 1 0x0 false (fun _ _ => [SEN_VERIFIED_EPOCH]),
  row "LK_SEN_RETRACT" 0x7001c 1 0x0 1 0x0 false (fun _ _ => [SEN_RETRACT_EPOCH]),
  row "LK_SEN_STATUS" 0x70020 1 0x0 1 0x0 false (fun _ _ => [SEN_STATUS_RETRACT_PEND, SEN_STATUS_ABORT, SEN_STATUS_QUEUE_OVF, SEN_STATUS_LIB_VALID, SEN_STATUS_QUEUE]),
  row "LK_SEN_FLEET" 0x70024 1 0x0 1 0x0 false (fun _ _ => [SEN_FLEET_PUSH, SEN_FLEET_EXPORT]),
  row "LK_SEN_LIB" 0x70028 1 0x0 1 0x0 false (fun _ _ => [SEN_LIB_LIB_ID, SEN_LIB_COUNT]),
  row "LK_SEN_LIB_VER" 0x7002c 1 0x0 1 0x0 false (fun _ _ => [SEN_LIB_VER_VER]),
  row "LK_SEN_LOG_HEAD" 0x70030 1 0x0 1 0x0 false (fun _ _ => [SEN_LOG_HEAD_SEQ]),
  row "LK_SEN_CNT_RECORDS" 0x70040 1 0x0 1 0x0 true (fun _ _ => [SEN_CNT_RECORDS_COUNT]),
  row "LK_SEN_CNT_RETRACT" 0x70048 1 0x0 1 0x0 true (fun _ _ => [SEN_CNT_RETRACT_COUNT]),
  row "LK_SEN_CNT_TESTS" 0x70050 1 0x0 1 0x0 true (fun _ _ => [SEN_CNT_TESTS_COUNT]),
  row "LK_SEN_DIEn_STATUS" 0x70100 8 0x100 1 0x0 false (fun n _ => [SEN_DIE_STATUS_FREE n, SEN_DIE_STATUS_RETIRED n, SEN_DIE_STATUS_VSTEP n, SEN_DIE_STATUS_DEGRADED n, SEN_DIE_STATUS_EXPELLED n]),
  row "LK_SEN_DIEn_GROUP" 0x70104 8 0x100 1 0x0 false (fun n _ => [SEN_DIE_GROUP_GROUP n, SEN_DIE_GROUP_SIZE n]),
  row "LK_SEN_DIEn_GCMP" 0x70108 8 0x100 1 0x0 false (fun n _ => [SEN_DIE_GCMP_PKG n, SEN_DIE_GCMP_DIE n]),
  row "LK_SEN_DIEn_MARGIN_CLR" 0x7010c 8 0x100 1 0x0 false (fun n _ => [SEN_DIE_MARGIN_CLR_VSTEP n, SEN_DIE_MARGIN_CLR_CL n]),
  row "LK_SEN_DIEn_CLFAULT" 0x70110 8 0x100 1 0x0 true (fun n _ => (List.range 16).map (SEN_DIE_CLFAULT_CL n)),
  row "LK_SEN_DIEn_DIGEST" 0x70118 8 0x100 1 0x0 true (fun n _ => [SEN_DIE_DIGEST_DIGEST n]),
  row "LK_SEN_DIEn_DIGEST_EPOCH" 0x70120 8 0x100 1 0x0 false (fun n _ => [SEN_DIE_DIGEST_EPOCH_EPOCH n]),
  row "LK_SEN_DIEn_CNT_FAIL" 0x70128 8 0x100 1 0x0 true (fun n _ => [SEN_DIE_CNT_FAIL_COUNT n]),
  row "LK_SEN_DIEn_CNT_SWAP" 0x70130 8 0x100 1 0x0 true (fun n _ => [SEN_DIE_CNT_SWAP_COUNT n]),
  row "LK_SEN_DIEn_RETIRE" 0x70140 8 0x100 1 0x0 false (fun n _ => [SEN_DIE_RETIRE_SLOT n, SEN_DIE_RETIRE_CLUSTER n, SEN_DIE_RETIRE_GO n]),
  row "LK_SEN_LOG" 0x78000 64 0x40 16 0x4 false (fun n i => [SEN_LOG_WORD n i]),
  row "LK_SEN_DIEn_CLc_MAPj" 0x72000 128 0x40 8 0x4 false (fun n i => (List.range 4).map fun k => SEN_MAP_LOG (n / 16) (n % 16) (4 * i + k)),
  row "LK_SEN_DIEn_CLc_STATEj" 0x72020 128 0x40 3 0x4 false (fun n i => (List.range (if i < 2 then 16 else 4)).map fun k => SEN_STATE_SLOT (n / 16) (n % 16) (16 * i + k))]

/-- The cascade area (R345, R346). -/
def rowsCas : List (Nat → Option RegHit) := [
  row "LK_CAS_CTL" 0x80000 1 0x0 1 0x0 false (fun _ _ => [CAS_CTL_JOIN, CAS_CTL_COX_ELIG, CAS_CTL_TRACE_EN, CAS_CTL_PRIO, CAS_CTL_LANE_EN]),
  row "LK_CAS_ID" 0x80004 1 0x0 1 0x0 false (fun _ _ => [CAS_ID_INDEX]),
  row "LK_CAS_UID" 0x80008 1 0x0 1 0x0 true (fun _ _ => [CAS_UID_UID]),
  row "LK_CAS_CFG" 0x80010 1 0x0 1 0x0 false (fun _ _ => [CAS_CFG_EXPECT, CAS_CFG_FORM_MS, CAS_CFG_PROBE_US]),
  row "LK_CAS_STATUS" 0x80014 1 0x0 1 0x0 false (fun _ _ => [CAS_STATUS_STATE, CAS_STATUS_ROLE, CAS_STATUS_DIST, CAS_STATUS_DEPTH, CAS_STATUS_N]),
  row "LK_CAS_VER" 0x80018 1 0x0 1 0x0 false (fun _ _ => [CAS_VER_MAJ, CAS_VER_MIN, CAS_VER_CMIN, CAS_VER_FEAT, CAS_VER_CFEAT]),
  row "LK_CAS_COX" 0x8001c 1 0x0 1 0x0 false (fun _ _ => [CAS_COX_COX, CAS_COX_STBY]),
  row "LK_CAS_TERM" 0x80020 1 0x0 1 0x0 false (fun _ _ => [CAS_TERM_TERM]),
  row "LK_CAS_TIME" 0x80028 1 0x0 1 0x0 true (fun _ _ => [CAS_TIME_TIME]),
  row "LK_CAS_TSYNC" 0x80030 1 0x0 1 0x0 false (fun _ _ => [CAS_TSYNC_OFS, CAS_TSYNC_PERIOD_W, CAS_TSYNC_LOCKED, CAS_TSYNC_DEGRADED]),
  row "LK_CAS_STEER" 0x80034 1 0x0 1 0x0 false (fun _ _ => [CAS_STEER_PPM]),
  row "LK_CAS_SCHED" 0x80038 1 0x0 1 0x0 false (fun _ _ => [CAS_SCHED_FREEZE, CAS_SCHED_THAW, CAS_SCHED_RESET, CAS_SCHED_SCOPE, CAS_SCHED_FROZEN, CAS_SCHED_PEND]),
  row "LK_CAS_SCHED_AT" 0x80040 1 0x0 1 0x0 true (fun _ _ => [CAS_SCHED_AT_TIME]),
  row "LK_CAS_PACE_CFG" 0x80048 1 0x0 1 0x0 false (fun _ _ => [CAS_PACE_CFG_EN, CAS_PACE_CFG_RATIO, CAS_PACE_CFG_PCT, CAS_PACE_CFG_PERIOD_W]),
  row "LK_CAS_OBJ_SEL" 0x80050 1 0x0 1 0x0 false (fun _ _ => [CAS_OBJ_SEL_INDEX]),
  row "LK_CAS_OBJ_CFG" 0x80054 1 0x0 1 0x0 false (fun _ _ => [CAS_OBJ_CFG_TYPE, CAS_OBJ_CFG_MEMBER, CAS_OBJ_CFG_NOTIFY, CAS_OBJ_CFG_READY, CAS_OBJ_CFG_ERR]),
  row "LK_CAS_OBJ_VAL" 0x80058 1 0x0 1 0x0 false (fun _ _ => [CAS_OBJ_VAL_VALUE]),
  row "LK_CAS_OBJ_RES" 0x8005c 1 0x0 1 0x0 false (fun _ _ => [CAS_OBJ_RES_RESULT]),
  row "LK_CAS_OBJ_GEN" 0x80060 1 0x0 1 0x0 false (fun _ _ => [CAS_OBJ_GEN_GEN, CAS_OBJ_GEN_ARRIVED, CAS_OBJ_GEN_ABORTED, CAS_OBJ_GEN_MEMBERS]),
  row "LK_CAS_ARRIVE" 0x80064 1 0x0 1 0x0 false (fun _ _ => [CAS_ARRIVE_INDEX, CAS_ARRIVE_GO]),
  row "LK_CAS_BC_TXj" 0x80070 4 0x4 1 0x0 false (fun n _ => [CAS_BC_TX_DATA n]),
  row "LK_CAS_BC_CTL" 0x80080 1 0x0 1 0x0 false (fun _ _ => [CAS_BC_CTL_SEND, CAS_BC_CTL_BUSY, CAS_BC_CTL_RX_HEAD]),
  row "LK_CAS_REL_HEAD" 0x80084 1 0x0 1 0x0 false (fun _ _ => [CAS_REL_HEAD_SEQ]),
  row "LK_CAS_CNT_RETX" 0x80088 1 0x0 1 0x0 true (fun _ _ => [CAS_CNT_RETX_COUNT]),
  row "LK_CAS_CNT_UNROUTED" 0x80090 1 0x0 1 0x0 true (fun _ _ => [CAS_CNT_UNROUTED_COUNT]),
  row "LK_CAS_HELD_SEL" 0x80098 1 0x0 1 0x0 false (fun _ _ => [CAS_HELD_SEL_LANE, CAS_HELD_SEL_ENTRY]),
  row "LK_CAS_LANEk_STS" 0x80100 9 0x10 1 0x0 false (fun n _ => [CAS_LANE_STS_UP n, CAS_LANE_STS_ROLE n, CAS_LANE_STS_HELD n, CAS_LANE_STS_PEER n]),
  row "LK_CAS_LANEk_CUT_TX" 0x80104 9 0x10 1 0x0 false (fun n _ => [CAS_LANE_CUT_TX_LSEQ n]),
  row "LK_CAS_LANEk_CUT_RX" 0x80108 9 0x10 1 0x0 false (fun n _ => [CAS_LANE_CUT_RX_LSEQ n]),
  row "LK_CAS_LANEk_DELAY" 0x8010c 9 0x10 1 0x0 false (fun n _ => [CAS_LANE_DELAY_DELAY n])]

/-- The cascade area (R345, R346), continued. -/
def rowsCas1 : List (Nat → Option RegHit) := [
  row "LK_CAS_BC_RX" 0x80200 16 0x20 7 0x4 false (fun n i => [CAS_BC_RX_WORD n i]),
  row "LK_CAS_HELD_W" 0x80600 16 0x4 1 0x0 false (fun n _ => [CAS_HELD_W_WORD n]),
  row "LK_CAS_REL" 0x80400 64 0x8 1 0x0 true (fun n _ => [CAS_REL_OBJ n, CAS_REL_GEN n, CAS_REL_ABORTED n, CAS_REL_TIME n])]

/-- The mailboxes and management area (R414 to R416, R487). -/
def rowsMbx : List (Nat → Option RegHit) := [
  row "LK_MBX_k_DATAj" 0x90000 8 0x80 16 0x4 false (fun n i => [MBX_DATA_DATA n i]),
  row "LK_MBX_k_CTL" 0x90040 8 0x80 1 0x0 false (fun n _ => [MBX_CTL_GO n, MBX_CTL_DONE n, MBX_CTL_ABORT n, MBX_CTL_NOTE n]),
  row "LK_MBX_k_STS" 0x90044 8 0x80 1 0x0 false (fun n _ => [MBX_STS_REPLY n, MBX_STS_TIMEOUT n, MBX_STS_ABORTED n, MBX_STS_BAD_VER n, MBX_STS_NOTE n, MBX_STS_QUEUE n, MBX_STS_REQ n, MBX_STS_RSP n]),
  row "LK_MBX_k_TMO" 0x90048 8 0x80 1 0x0 false (fun n _ => [MBX_TMO_MS n]),
  row "LK_MGT_Pp_STATE" 0x90800 3 0x100 1 0x0 false (fun n _ => [MGT_P_STATE_STATE n, MGT_P_STATE_STARTED n, MGT_P_STATE_READY n, MGT_P_STATE_PEER_BAD n, MGT_P_STATE_CAUSE n]),
  row "LK_MGT_Pp_RESTART" 0x90804 3 0x100 1 0x0 false (fun n _ => [MGT_P_RESTART_KEY n, MGT_P_RESTART_GO n]),
  row "LK_MGT_Pp_WDT" 0x90808 3 0x100 1 0x0 false (fun n _ => [MGT_P_WDT_PERIOD n, MGT_P_WDT_KICK n]),
  row "LK_MGT_Pp_IMAGE" 0x9080c 3 0x100 1 0x0 false (fun n _ => [MGT_P_IMAGE_MIN n, MGT_P_IMAGE_MAJ n, MGT_P_IMAGE_ACCEPT n, MGT_P_IMAGE_SLOT n]),
  row "LK_MGT_Pp_IRQ" 0x90810 3 0x100 1 0x0 false (fun n _ => [MGT_P_IRQ_MBX n, MGT_P_IRQ_NMI n, MGT_P_IRQ_BUSERR n]),
  row "LK_MGT_Pp_CNT_RESTART" 0x90818 3 0x100 1 0x0 true (fun n _ => [MGT_P_CNT_RESTART_COUNT n]),
  row "LK_MGT_BUSERR_ADDR" 0x90f00 1 0x0 1 0x0 false (fun _ _ => [MGT_BUSERR_ADDR_ADDR]),
  row "LK_MGT_BUSERR_INFO" 0x90f04 1 0x0 1 0x0 false (fun _ _ => [MGT_BUSERR_INFO_KIND, MGT_BUSERR_INFO_STORE, MGT_BUSERR_INFO_MORE]),
  row "LK_MGT_LC" 0x90f10 1 0x0 1 0x0 false (fun _ _ => [MGT_LC_STATE, MGT_LC_N, MGT_LC_WIPING]),
  row "LK_MGT_LC_NONCEj" 0x90f20 4 0x4 1 0x0 false (fun n _ => [MGT_LC_NONCE_NONCE n]),
  row "LK_MGT_MTR_REQ" 0x90f40 1 0x0 1 0x0 false (fun _ _ => [MGT_MTR_REQ_KIND, MGT_MTR_REQ_GO, MGT_MTR_REQ_PEND, MGT_MTR_REQ_RESULT]),
  row "LK_MGT_MTR_JOB" 0x90f44 1 0x0 1 0x0 false (fun _ _ => [MGT_MTR_JOB_ID]),
  row "LK_MGT_MTR_NONCE" 0x90f48 1 0x0 1 0x0 false (fun _ _ => [MGT_MTR_NONCE_VALUE]),
  row "LK_MBX_GLB" 0x90400 1 0x0 1 0x0 false (fun _ _ => [MBX_GLB_V2_EN]),
  row "LK_MGT_DUMP" 0x91000 3 0x200 128 0x4 false (fun n i => [MGT_DUMP_WORD n i])]

/-- The recorder, counters and trace area (R445). -/
def rowsRec : List (Nat → Option RegHit) := [
  row "LK_REC_CTL" 0xa0000 1 0x0 1 0x0 false (fun _ _ => [REC_CTL_FILTER, REC_CTL_FULL_ACK]),
  row "LK_REC_STATUS" 0xa0004 1 0x0 1 0x0 false (fun _ _ => [REC_STATUS_MOUNTED, REC_STATUS_FORMAT_BAD, REC_STATUS_UNREADABLE, REC_STATUS_FULL, REC_STATUS_NMI_FULL, REC_STATUS_ACKED, REC_STATUS_ERASING, REC_STATUS_STAGED]),
  row "LK_REC_HEAD" 0xa0008 1 0x0 1 0x0 false (fun _ _ => [REC_HEAD_SEQ]),
  row "LK_REC_WP" 0xa000c 1 0x0 1 0x0 false (fun _ _ => [REC_WP_SLOT]),
  row "LK_REC_POWER" 0xa0010 1 0x0 1 0x0 false (fun _ _ => [REC_POWER_PCYC]),
  row "LK_REC_RESET_LOST" 0xa0014 1 0x0 1 0x0 false (fun _ _ => [REC_RESET_LOST_COUNT]),
  row "LK_REC_OPSEC" 0xa0018 1 0x0 1 0x0 true (fun _ _ => [REC_OPSEC_SEC]),
  row "LK_REC_ERASE" 0xa0020 1 0x0 1 0x0 false (fun _ _ => [REC_ERASE_KEY, REC_ERASE_GO]),
  row "LK_REC_CNT_WRITTEN" 0xa0028 1 0x0 1 0x0 true (fun _ _ => [REC_CNT_WRITTEN_COUNT]),
  row "LK_REC_CNT_LOST" 0xa0030 1 0x0 1 0x0 true (fun _ _ => [REC_CNT_LOST_COUNT]),
  row "LK_REC_TRIG" 0xa0040 1 0x0 1 0x0 false (fun _ _ => [REC_TRIG_SCOPE, REC_TRIG_ARMED, REC_TRIG_FIRE, REC_TRIG_FIRED, REC_TRIG_FROZEN, REC_TRIG_POST, REC_TRIG_THAW]),
  row "LK_REC_TRIG_CODEj" 0xa0044 8 0x4 1 0x0 false (fun n _ => [REC_TRIG_CODE_CODE n, REC_TRIG_CODE_MASK n]),
  row "LK_REC_RING_SEL" 0xa0200 1 0x0 1 0x0 false (fun _ _ => [REC_RING_SEL_UNIT, REC_RING_SEL_CHAN, REC_RING_SEL_BUSY]),
  row "LK_REC_RING_HEAD" 0xa0204 1 0x0 1 0x0 false (fun _ _ => [REC_RING_HEAD_COUNT]),
  row "LK_TRC_CTL" 0xa0300 1 0x0 1 0x0 false (fun _ _ => [TRC_CTL_EN, TRC_CTL_SRC, TRC_CTL_PCT]),
  row "LK_TRC_STATUS" 0xa0304 1 0x0 1 0x0 false (fun _ _ => [TRC_STATUS_LANE_UP, TRC_STATUS_FIFO]),
  row "LK_TRC_FILTER" 0xa0308 1 0x0 1 0x0 false (fun _ _ => [TRC_FILTER_LAYER, TRC_FILTER_LMASK]),
  row "LK_TRC_FILTER_OP" 0xa030c 1 0x0 1 0x0 false (fun _ _ => [TRC_FILTER_OP_OPERATOR, TRC_FILTER_OP_OMASK]),
  row "LK_TRC_CNT_LOST" 0xa0310 1 0x0 1 0x0 true (fun _ _ => [TRC_CNT_LOST_COUNT]),
  row "LK_REC_RINGj" 0xa0400 64 0x8 1 0x0 true (fun n _ => [REC_RING_ENTRY n]),
  row "LK_REC_LISTk_j" 0xa1000 10 0x100 48 0x4 false (fun n i => [REC_LIST_OFFSET n i]),
  row "LK_REC_AO" 0xa0100 12 0x8 1 0x0 true (fun n _ => [REC_AO_COUNT n])]

/-- The update and service port area (R461, R462). -/
def rowsUpd : List (Nat → Option RegHit) := [
  row "LK_UPD_STATUS" 0xb0000 1 0x0 1 0x0 false (fun _ _ => [UPD_STATUS_STATE, UPD_STATUS_STEP, UPD_STATUS_ERR]),
  row "LK_UPD_REGATTA" 0xb0008 1 0x0 1 0x0 true (fun _ _ => [UPD_REGATTA_TIME]),
  row "LK_UPD_REGATTA_CFG" 0xb0010 1 0x0 1 0x0 false (fun _ _ => [UPD_REGATTA_CFG_STEP_S]),
  row "LK_UPD_SVC" 0xb0014 1 0x0 1 0x0 false (fun _ _ => [UPD_SVC_DA_SVP, UPD_SVC_DA_TRP, UPD_SVC_EID_SVP, UPD_SVC_EID_TRP]),
  row "LK_UPD_CNT_FALLBACK" 0xb0018 1 0x0 1 0x0 true (fun _ _ => [UPD_CNT_FALLBACK_COUNT]),
  row "LK_UPD_Pp_SLOT" 0xb0100 3 0x20 1 0x0 false (fun n _ => [UPD_P_SLOT_ACTIVE n, UPD_P_SLOT_A_STATE n, UPD_P_SLOT_B_STATE n, UPD_P_SLOT_TRIAL n, UPD_P_SLOT_CONFIRM n, UPD_P_SLOT_LEFT n]),
  row "LK_UPD_Pp_VER_A" 0xb0108 3 0x20 1 0x0 true (fun n _ => [UPD_P_VER_A_VER n]),
  row "LK_UPD_Pp_VER_B" 0xb0110 3 0x20 1 0x0 true (fun n _ => [UPD_P_VER_B_VER n])]

/-- The meter window area (R486). -/
def rowsMtr : List (Nat → Option RegHit) := [
  row "LK_MTR_STATUS" 0xf0000 1 0x0 1 0x0 false (fun _ _ => [MTR_STATUS_MEASURING, MTR_STATUS_SEALED, MTR_STATUS_FAULT, MTR_STATUS_OVERRANGE, MTR_STATUS_VOLT_OOR, MTR_STATUS_REVERSE, MTR_STATUS_TAMPER, MTR_STATUS_UNSIGNED]),
  row "LK_MTR_SN" 0xf0008 1 0x0 1 0x0 true (fun _ _ => [MTR_SN_SN]),
  row "LK_MTR_FW_VER" 0xf0010 1 0x0 1 0x0 false (fun _ _ => [MTR_FW_VER_VER]),
  row "LK_MTR_MPCYC" 0xf0014 1 0x0 1 0x0 false (fun _ _ => [MTR_MPCYC_COUNT]),
  row "LK_MTR_ENERGY" 0xf0018 1 0x0 1 0x0 true (fun _ _ => [MTR_ENERGY_MJ]),
  row "LK_MTR_MUS" 0xf0020 1 0x0 1 0x0 true (fun _ _ => [MTR_MUS_US]),
  row "LK_MTR_INST" 0xf0028 1 0x0 1 0x0 false (fun _ _ => [MTR_INST_V_MV, MTR_INST_I_CA]),
  row "LK_MTR_LOG" 0xf002c 1 0x0 1 0x0 false (fun _ _ => [MTR_LOG_LOG_SEQ]),
  row "LK_MTR_STAMP_HEAD" 0xf0030 1 0x0 1 0x0 false (fun _ _ => [MTR_STAMP_HEAD_STAMP_COUNT]),
  row "LK_MTR_COPY" 0xf0038 1 0x0 1 0x0 false (fun _ _ => [MTR_COPY_SEQ]),
  row "LK_MTR_CNTt" 0xf0044 11 0x4 1 0x0 false (fun n _ => [MTR_CNT_COUNT n]),
  row "LK_MTR_FW_HASH" 0xf0080 12 0x4 1 0x0 false (fun n _ => [MTR_FW_HASH_WORD n]),
  row "LK_MTR_CERT" 0xf0200 72 0x4 1 0x0 false (fun n _ => [MTR_CERT_WORD n]),
  row "LK_MTR_READING" 0xf0400 56 0x4 1 0x0 false (fun n _ => [MTR_READING_WORD n]),
  row "LK_MTR_STAMP" 0xf1000 16 0x100 56 0x4 false (fun n i => [MTR_STAMP_WORD n i]),
  row "LK_MTR_AUDIT" 0xf4000 1024 0x30 12 0x4 false (fun n i => [MTR_AUDIT_WORD n i])]

/-- The register at a word offset of the 1 MiB window, if any (R10, R18). -/
def regAt (off : Nat) : Option RegHit :=
  if off < 0x1000 then firstHit (rowsId) off else
  if off < 0x2000 then firstHit (rowsGlb) off else
  if off < 0x4000 then firstHit (rowsHif) off else
  if off < 0x10000 then firstHit (rowsInt) off else
  if off < 0x20000 then firstHit (rowsAdm) off else
  if off < 0x30000 then firstHit (rowsBud ++ rowsBud1) off else
  if off < 0x40000 then firstHit (rowsClk) off else
  if off < 0x60000 then firstHit (rowsRgc ++ rowsRgc1) off else
  if off < 0x70000 then firstHit (rowsThm) off else
  if off < 0x80000 then firstHit (rowsSen) off else
  if off < 0x90000 then firstHit (rowsCas ++ rowsCas1) off else
  if off < 0xa0000 then firstHit (rowsMbx) off else
  if off < 0xb0000 then firstHit (rowsRec) off else
  if off < 0xf0000 then firstHit (rowsUpd) off else
  firstHit (rowsMtr) off

end Sys2Proof.Machine
end

