-- ==== Sys2Proof/Machine/State.lean ====
section
/-!
DEFINITION. Machine/State.lean: the state of the block, as plain data: the register window as a store of fields, the
state of each unit that the spec gives beside its registers, the queue of waiting commands, and State.reset.
-/
namespace Sys2Proof.Machine

/-- An event raised and not yet taken by the recorder (R420, R425). -/
structure Event where
  code   : Nat
  /-- Die, loop, site, queue, lane or processor named; 0xFFFF for none. -/
  unit   : Nat := 0xFFFF
  detail : Nat := 0
  /-- Words the record carries in its body before the snapshot list: a sentinel record or a part of a dump (R422). -/
  body   : List Nat := []
  deriving DecidableEq, Repr

/-- The phases of the root islands (R23, R25, R499). -/
inductive Phase0 where
  /-- Held until the root PLL locks. -/
  | held
  /-- Running on the root grid. -/
  | running
  /-- In a block reset. -/
  | blockReset
  deriving DecidableEq, Repr

/-- Counts of a satellite over the window in progress (R92). -/
structure WinCount where
  gWin     : Nat := 0
  reqPeak  : Nat := 0
  sitePeak : Nat := 0
  baseSum  : Nat := 0
  reqCount : Nat := 0
  scale    : Nat := 0
  cuffs    : Nat := 0
  deriving DecidableEq, Repr

/-- A satellite's report of the window just ended (R92). -/
structure WinRpt where
  win  : WinCount
  /-- ACT0 and on, in governor cycles. -/
  act  : List Nat
  /-- T_MAX, in 1/16 °C. -/
  tMax : Int
  /-- Acknowledgement timeouts in a row on the die, where one has come since the last report (R145). -/
  timeouts : Option Nat := none
  deriving DecidableEq, Repr

/-- A message from a satellite to the governor on its Seam (R37). -/
inductive Report where
  | opStart (layer op : Nat)
  | opEnd
  | hint (id layer op lead : Nat)
  /-- A hint ended: replaced or consumed; or disarmed or dropped, on which the governor releases the pre-arm (R69, R70). -/
  | hintEnded (id : Nat) (disarmed : Bool)
  /-- The results of a conversion: T_MAX in 1/16 °C, none where no site has a value (R245, R254). -/
  | temps (t : Option Int)
  /-- A command that came after its edge was discarded (R38). -/
  | late
  /-- The report of the window just ended (R92). -/
  | window (r : WinRpt)
  deriving DecidableEq, Repr
/-- A site granted, with its effective cost, in scan order (R59). -/
structure Grant where
  site : Site
  cost : Nat
  deriving DecidableEq, Repr

/-- A HEAVY_AHEAD hint a die holds (R69). -/
structure Hint where
  id    : Nat
  layer : Nat
  op    : Nat
  lead  : Nat
  /-- The pre-arm for it has been acknowledged (R68). -/
  armed : Bool := false
  /-- The satellite's count of the stroke at which it is disarmed if its operator has not started (R69). -/
  deadline : Option Nat := none
  deriving DecidableEq, Repr

/-- Admission state of a compute die beside its registers of R80. -/
structure AdmDie where
  /-- A request went unmet at the last boundary (R59). -/
  unmet  : Bool := false
  /-- Sites chosen at the last boundary, not yet issued. -/
  chosen : List Grant := []
  /-- Sites granted in the present stroke. -/
  issued : List Grant := []
  /-- Sites on which HOLD is asserted (R58, R75). -/
  held   : List Site := []
  /-- Running layer and operator (R67). -/
  run    : Option (Nat × Nat) := none
  hintSeq : Nat := 0
  /-- The pending hint, without its mirror in LK_ADM_DIEn_HINT, and the active one. -/
  pend   : Option Hint := none
  act    : Option Hint := none
  /-- Active Cuff causes by the bits of CUFF_CAUSE (R75); HOLD level in tokens (R76). -/
  causes : Nat := 0
  level  : Nat := 0
  /-- ALERT and DROOP have been active together, and one of them still is (R78). -/
  both   : Bool := false
  /-- First stroke boundary since the Cuff arrived (R75). -/
  cuffFirst : Option Nat := none
  /-- A Cuff has been released since the last window boundary (R68). -/
  fastOff : Bool := false
  /-- Windows in which the latest Cuffs fell, newest first (R77). -/
  cuffWins : List Nat := []
  /-- The pool request of a storm and the quiet windows passed (R77). -/
  storm  : Option (Nat × Nat) := none
  /-- A Cuff has been in effect in the present window (R77). -/
  cuffWin : Bool := false
  /-- Strokes waited by sites whose requests go unmet (R435). -/
  waits  : Tab Nat := []
  /-- The settings of the governor's last applied command. -/
  cmdPool : Nat := 0
  noFast  : Bool := false
  /-- Commands waiting for their edge (R38). -/
  cmds   : List (Nat × SeamBody) := []
  /-- Sites whose part in the scan is not the one at reset: 0 none, 1 every class, 2 class TEST only (R63); the changes
  that wait for the next stroke boundary, with whether the site is then considered first; and those sites (R279). -/
  slots : Tab Nat := []
  slotNext : List (Site × Nat × Bool) := []
  first : List Site := []
  /-- Counts of the window in progress. -/
  win    : WinCount := {}
  deriving DecidableEq, Repr
/-- What the governor holds of a hint it has taken in (R64, R69). -/
structure GovHint where
  id    : Nat
  layer : Nat
  op    : Nat
  lead  : Nat
  /-- Its load step has still to be decided. -/
  fresh : Bool := true
  deriving DecidableEq, Repr

/-- A run of an operator on a die as the governor learns from it (R98–R102). -/
structure RunSt where
  layer : Nat
  op    : Nat
  /-- Window of its start; none until the first boundary after the OP_START was taken in. -/
  start : Option Nat := none
  /-- Largest observation of the open bin; none where no window of the bin gave one. -/
  obs   : Option Nat := none
  /-- The run matched its entry, was marked as missed, or is not learned. -/
  matched : Bool := false
  missed  : Bool := false
  dead    : Bool := false
  deriving DecidableEq, Repr

/-- What the governor keeps of a compute die. -/
structure GovDie where
  run    : Option RunSt := none
  hints  : List GovHint := []
  /-- Hints whose load step has been announced and whose end has not been reported (R64). -/
  announced : List Nat := []
  /-- The report latched at the last boundary, where the Seam carried it: its bins close on it (R101). DEDUCED, log 21. -/
  closing : Option WinRpt := none
  /-- Report of the last window, if it arrived, and the last one that did. -/
  rpt    : Option WinRpt := none
  lastRpt : Option WinRpt := none
  /-- The operating point chosen under R107, and the window of its last change. -/
  ratio  : Nat := 6
  changed : Nat := 0
  /-- Outstanding pool requests of the governor under R32, by source. -/
  poolReq : Tab Nat := []
  /-- Outstanding ratio requests, by source. -/
  ratioReq : Tab Nat := []
  /-- Pool last commanded. -/
  pool   : Nat := 0
  deriving DecidableEq, Repr

/-- What the governor keeps of a rail beside its registers of R121. -/
structure RailSt where
  /-- Estimate of the last window, in 1/2,457,600,000 A (R94, R118). -/
  est   : Nat := 0
  /-- Fraction of the rail's output energy below 1 µJ, in 1/125,000 µJ (R116). -/
  eRem  : Nat := 0
  /-- Enters measured mode at the next boundary; leaves it at the next boundary. -/
  enter : Bool := false
  leave : Bool := false
  /-- Limit in effect of the window that ended last, and the one decided for the next window, in 1/16 A (R85, R104). -/
  lim : Nat := 0
  limNext : Option Nat := none
  deriving DecidableEq, Repr

/-- What the governor keeps beside its registers of R119 and R120. -/
structure GovSt where
  /-- Windows at or below SUST counted toward the next credit (R91). -/
  refill : Nat := 0
  burst  : Bool := false
  /-- The window before the present one was one of a burst (R91). -/
  burstWas : Bool := false
  /-- Job totals' fractions (R116): output in 1/125,000 µJ, input in 1/LCM of the rails' efficiencies. -/
  jobOutRem : Nat := 0
  jobInRem : Nat × Nat := (0, 1)
  /-- LK_BUD_JOB_ID as latched at the last job's start (R115). -/
  jobId : Nat := 0
  /-- The last change of RUNNING: 1 set, 2 cleared at the end of a job, 0 none since reset (R477). -/
  jobKind : Nat := 0
  /-- Learned-table entries that are not all zero: twelve words by index (R97). -/
  table : Tab (List Nat) := []
  /-- A schedule of fixed-pace mode: ratio, tokens, start and end instant in LK_TIME, as it stands (R112). -/
  pace  : Option (Nat × Nat × Nat × Nat) := none
  /-- Schedules that have arrived and wait for their start, in the order of arrival (R112, R342). -/
  paceNext : List (Nat × Nat × Nat × Nat) := []
  /-- Ratio of the last schedule (R111); ratio code 1 before the first (R342). -/
  paceRatio : Nat := 1
  /-- The window whose decision is taken. -/
  decided : Option Nat := none
  /-- Waits of barriers released while the package is frozen, which the thaw adds (R114, R118). -/
  waits : List Nat := []
  /-- Burst in the next window, as decided (R90, R91). -/
  burstNext : Bool := false
  /-- The enable check once its first boundary has come: the reason code and the unit it refuses with, if any (R351). -/
  check : Option (Option (Nat × Nat)) := none
  /-- ENABLE has been written 0, and the block is disabled at the next boundary (R353). -/
  offAsked : Bool := false
  deriving DecidableEq, Repr
/-- A proof of the crystal in progress (R126): good counts in a row and the last count; a return (R135) or the
start-up (R127). -/
structure Proof where
  ret  : Bool
  good : Nat := 0
  last : Option Nat := none
  deriving DecidableEq, Repr

/-- State of the clock generator control beside LK_CLK_SRC and LK_CLK_SRC_CTL. -/
structure ClkSt where
  /-- RST_STBY# has been released. -/
  started : Bool := false
  proof   : Option Proof := none
  /-- The reference the PLL is taking, as coded in SRC.ACTIVE, until it locks. -/
  taking  : Option Nat := none
  /-- The PLL follows the switch of a return to the crystal (R135). -/
  returning : Bool := false
  /-- Instant by which lock must be regained (R134). -/
  relockBy : Option Nat := none
  /-- Source and reference codes of the measurement in progress (R157). -/
  fmcSrc : Nat := 0
  fmcRef : Nat := 0
  deriving DecidableEq, Repr

/-- Stage of a cluster's entry into or return from a clock state (R147). -/
inductive GateStage where
  | settled
  /-- The request waits for the stroke boundary at which the sites leave the scan. -/
  | leaving
  /-- The grants of the stroke in progress run out. -/
  | draining
  /-- The clock stops on the next alignment edge. -/
  | stopping
  /-- The cluster restarts once the instant is reached. -/
  | waking (at_ : Nat)
  /-- Restarted; its sites rejoin the scan at the next stroke boundary. -/
  | rejoining
  deriving DecidableEq, Repr

/-- A cluster's divider: the ratio code in effect, and the first alignment edge, by index, on which it may move again
(R139, R140). -/
structure ClusterClk where
  ratio : Nat := 6
  hold  : Nat := 0
  deriving DecidableEq, Repr

/-- Divider and droop state of a compute die beside its registers of R160. -/
structure ClkDie where
  /-- V_ack in mV (R141); the register shows it in steps of 5 mV. -/
  vAck : Nat := 500
  /-- Ratio code the governor commanded. -/
  cmdRatio : Nat := 6
  /-- First alignment edge, by index, on which the next move may take effect (R139). -/
  holdUntil : Nat := 0
  /-- A VR_ALERT# asks the slowest ratio for the die (R227). -/
  alertSlow : Bool := false
  /-- Acknowledgement timeouts in a row, and whether the next window report is to tell them (R145). -/
  timeouts : Nat := 0
  toTell : Bool := false
  /-- The largest scale among the ratios by which the grants of the present stroke were computed, and of the next one; none
  before the first (R51). DEDUCED, log 16. -/
  scaleNow  : Option Nat := none
  scaleNext : Option Nat := none
  /-- The dividers of the die's clusters (R140). -/
  cluster : Vector ClusterClk 16 := Vector.replicate 16 {}
  /-- The alignment edge, by index, that the report of a new episode reaches, until the episode's first step is taken
  (R152, R153). -/
  slowAt : Option Nat := none
  /-- When each asserted detector asserted (R154). -/
  since : Tab Nat := []
  /-- Alignment edges in a row on which each detector has been seen asserted (R152). -/
  apRun : Tab Nat := []
  /-- When the die last became clear of droop, while recovery is pending (R152). -/
  clearAt : Option Nat := none
  /-- Detectors asserted in the window, and the slowest ratio droop steps reached in it (R155). -/
  winDet  : Nat := 0
  winSlow : Nat := 0
  /-- Margin steps that count for the cost of grants (R51). -/
  mCost : Nat := 0
  /-- Clock state of each cluster's transition. -/
  gate : Vector GateStage 16 := Vector.replicate 16 .settled
  /-- Alignment edge of the latest restart of a cluster (R147). -/
  wokeAt : Option Nat := none
  deriving DecidableEq, Repr

/-- What the governor remembers of a die's hold of R145. -/
structure HoldSt where
  held : Bool := false
  /-- The hold was released; it ends with the next window the governor computes. -/
  released : Bool := false
  deriving DecidableEq, Repr
/-- The newest VSET a satellite has sent for a loop (R141, R190, R192). -/
structure VsetTx where
  seq    : Nat := 0
  /-- Target and margin steps as sent. -/
  a      : Nat := 0
  m      : Nat := 0
  /-- The raise it asks awaits acknowledgement until this instant (R145). -/
  due    : Option Nat := none
  /-- Next repeat (R192). -/
  again  : Option Nat := none
  deriving DecidableEq, Repr

/-- A frame that a side of a voltage command link sends: when its sending begins, and the frame. It takes 12 ns to send and
arrives 16 ns after its sending begins (R188, R193). DEDUCED, log 30. -/
structure VclSent where
  start : Nat
  frame : VclFrame
  deriving DecidableEq, Repr

/-- One side of a voltage command link (R194). -/
structure VclSide where
  up   : Bool := false
  /-- Frames sent, or to be sent, that have not arrived, in order (R37, R193). -/
  flight : List VclSent := []
  /-- When the last valid frame arrived and when the last one was sent. -/
  last : Nat := 0
  sent : Nat := 0
  /-- Frames discarded, newest first. -/
  discards : List Nat := []
  deriving DecidableEq, Repr

/-- A voltage command link: its sides, the attempt in progress and the failures in a row (R194). DEDUCED, log 30. -/
structure VclSt where
  sat  : VclSide := {}
  rgc  : VclSide := {}
  /-- When the attempt in progress began. -/
  training : Option Nat := none
  failed : Nat := 0
  nextTry : Nat := 0
  /-- The pool cap of R194 holds until the next window boundary after the link is up. -/
  capHeld : Bool := false
  /-- The link has not been up since the last reset of its logic. -/
  fresh : Bool := true
  deriving DecidableEq, Repr

/-- The VSET a loop serves or holds (R191, R203). -/
structure Vset where
  seq    : Nat
  target : Nat
  deriving DecidableEq, Repr

/-- A pre-arm of a loop (R183, R186). -/
structure PreArm where
  /-- Offset in µV above the target. -/
  offs : Nat
  /-- When the PREARM frame was sent. -/
  sent : Option Nat := none
  deriving DecidableEq, Repr

/-- A pulse of a phase: the reference edge of its switching cycle, by its index; its instant t_s and that at which its PWM
goes HIGH, in root cycles; the longest HIGH time; blanking and least HIGH time; its peak command in 1/16384 A and its slope
compensation in mA/µs as they stand at the start of the cycle (R168, R170, R173–R176, R216). DEDUCED, log 31. -/
structure Fire where
  phase : Phase
  cycle : Nat
  slot  : Nat
  at_   : Nat
  most  : Nat
  blank : Nat := 144
  least : Nat := 240
  cmd   : Int
  slope : Nat
  deriving DecidableEq, Repr

/-- What a sample of a loop says: both sense lines in µV, I_tot in 1/16 A, and whether every phase is at its sink limit. -/
structure Sampled where
  remote : Nat
  loc    : Nat
  iTot   : Int
  sunk   : Bool
  deriving DecidableEq, Repr

/-- State of a phase beside its registers of R199 and R238. -/
structure PhaseSt where
  /-- Balancing term, in 1/1024 A (R178). -/
  b : Int := 0
  /-- Mean current of the last cycle in 1/16 A, stage temperature in 1/16 °C and fault flag, as sampled: their
  registers hold while the package is frozen (R231). -/
  iavg : Int := 0
  temp : Nat := 0
  flag : Bool := false
  /-- Cycles in a row in which a condition of R214 held, and the lowest code met in the last of them. -/
  run   : Nat := 0
  cause : Nat := 0
  /-- Cycles left of a trial (R221). -/
  trial : Nat := 0
  /-- The fast short limit has tripped in the present cycle (R210). -/
  tripped : Bool := false
  /-- Level of its PWM, 0 MID, 1 LOW, 2 HIGH, the root cycle from which it stands, which may be still to come, and that of
  its last HIGH, counted from the root's first lock (R168, R216); and the same before the last change. -/
  level : Nat := 0
  at_ : Nat := 0
  lastHigh : Option Nat := none
  wasLevel : Nat := 0
  wasAt : Nat := 0
  wasHigh : Option Nat := none
  /-- Longest HIGH time while MAXON holds, in root cycles (R215). -/
  cut : Option Nat := none
  /-- Gain and offset in use (R195): the shadows are the register's fields. -/
  gain : Nat := 0x1388
  ofs  : Nat := 0
  /-- Gain and offset that a calibration puts into use at the next cycle (R233). -/
  csNext : Option (Nat × Nat) := none
  deriving DecidableEq, Repr

/-- The double-buffered settings of a loop that are in use (R195), by the names of R198. -/
structure LoopCfg where
  kp : Nat := 0x0800
  ki : Nat := 0x0199
  kd : Nat := 0x0100
  ll : Nat := 0
  lph : Nat := 0x64
  scPct : Nat := 0x4B
  nlTh : Nat := 0x0C
  nlThArm : Nat := 6
  nlRel : Nat := 4
  nlOv : Nat := 0x10
  maxOn : Nat := 0x1E
  ovMax : Nat := 0x32
  balMax : Nat := 0x18
  balShift : Nat := 3
  thmGain : Nat := 0x10
  sinkMax : Nat := 0x0A
  deriving DecidableEq, Repr

/-- A calibration of a loop's current sense in progress (R232). -/
inductive CalStep where
  /-- Step 1: waiting for the conditions since an instant. -/
  | waiting (since : Nat)
  /-- Step 2: derated, waiting for the satellite's confirmation, or confirmed and paused (R235). -/
  | derated (ok : Bool)
  /-- Steps 3 and 4: at MID since an instant. -/
  | offset (since : Nat)
  /-- Step 5: in rotation, with the cycles counted, the sum of its IAVG and that of the other phases' IAVG. -/
  | gain (cycles : Nat) (mine others : Int)
  deriving DecidableEq, Repr

/-- State of a loop beside its registers of R198 and R237. -/
structure LoopSt where
  cfg  : LoopCfg := {}
  /-- V_ref in µV. -/
  vref : Nat := 0
  /-- Integral term and command, in 1/16384 A; the last error in 1/4 mV (R176). -/
  iInt : Int := 0
  iCmd : Int := 0
  ePrev : Int := 0
  /-- Latest output sample in µV and sum of sensed currents in 1/16 A. -/
  vSense : Nat := 0
  iTot : Int := 0
  vset : Option Vset := none
  held : Option Vset := none
  lastAck : Option Vset := none
  /-- Samples in a row within ±5 mV (R183, R191). -/
  okRun : Nat := 0
  pre  : Option PreArm := none
  /-- The part of V_ref, in µV, that is pre-arm offset at present. -/
  vofs : Nat := 0
  /-- Feed-forward total still to add, in 1/16384 A (R185). -/
  ffLeft : Nat := 0
  /-- V_ref is held at the sink limit (R177). -/
  sinkHold : Bool := false
  /-- The all-phase response in progress: true for undershoot, and when it began (R179, R180). -/
  resp : Option (Bool × Nat) := none
  /-- A response of a direction waits until V_sense has stayed in the band (R181); alignment edges spent in it. -/
  blockU : Bool := false
  blockO : Bool := false
  bandRun : Nat := 0
  /-- Window from which the loop is armed for release (R187). -/
  relFrom : Option Nat := none
  /-- Switching cycles since the last rotation (R173). -/
  cycles : Nat := 0
  /-- Slot 0 does not fire in the coming cycle, or in the present one (R173). -/
  skip0 : Bool := false
  skipNow : Bool := false
  /-- The phases in rotation have been renumbered since the last cycle began (R216). -/
  renum : Bool := false
  /-- The reference edge that began the present cycle, by its index, and its root cycle; the phases in the cycle; and the
  pulses, of this cycle or of the one before, whose PWM has not gone HIGH yet (R170, R174). -/
  cycEdge : Option Nat := none
  cycAt : Nat := 0
  cyclePs : List Phase := []
  slots : List Fire := []
  /-- A response acted in the present cycle (R214). -/
  respCycle : Bool := false
  /-- Cuff causes active at the RGC for the loop, by the bits of CUFF_CAUSE (R73). -/
  cuff : Nat := 0
  /-- When soft start begins: at first, or as a retry (R202, R208). -/
  startAt : Option Nat := none
  retryAt : Option Nat := none
  /-- Its latch has halted the power-up sequence, and it has not come up since (R209). -/
  halted : Bool := false
  /-- Alignment edges in a row with a low output, cycles in a row with most phases tripped, and alignment edges in a row
  within ±10 mV of VNOM (R203, R207, R212). -/
  ssLow : Nat := 0
  shortRun : Nat := 0
  pgRun : Nat := 0
  /-- The loop is in ramp-down; when every phase went to MID (R205). -/
  down : Bool := false
  midAt : Option Nat := none
  /-- Overload timer in ns (R213). -/
  ovlNs : Nat := 0
  /-- Samples in a row in which the remote or the local sense fails, and the test that failed (R222, R225). -/
  remoteBad : Nat := 0
  localBad : Nat := 0
  badCause : Nat := 0
  /-- Samples passed of a remote test, and whether one failed (R224). -/
  retryOk : Nat := 0
  retryBad : Bool := false
  /-- The latest 16 ns means of I_tot, newest first, in 1/16 A: 64 of them make the sliding 1.024 µs average, and three
  more those of the 16 ns steps before (R229). -/
  means : List Nat := []
  pk64 : Nat := 0
  /-- Sum, number, least and greatest of the window's V_sense samples, in 1/4 mV. -/
  vSum : Nat := 0
  vCnt : Nat := 0
  vMin : Nat := 0x1FFF
  vMax : Nat := 0
  cal  : Option CalStep := none
  /-- Phases still to calibrate, the present one first; those out of tolerance; when the next may begin (R232). -/
  calLeft : List Phase := []
  calBad : List Phase := []
  calNext : Nat := 0
  /-- Phases held out of N_av by a calibration (R217). -/
  derate : Nat := 0
  phases : Vector PhaseSt 12 := Vector.replicate 12 {}
  deriving DecidableEq, Repr

/-- The power-down or power-up sequence in progress (R202, R205). -/
inductive SeqSt where
  | idle
  /-- Powering up: the stage in progress began at an instant. -/
  | up (stage at_ : Nat)
  /-- Powering down: the stage in progress; none until it is known to have begun (R501). -/
  | down (stage at_ : Nat)
  deriving DecidableEq, Repr

/-- State of the regulator common to its loops. -/
structure RgcSt where
  seq : SeqSt := .idle
  /-- Locked period of SYNC_IN, in ps, for the hold-over (R171). -/
  syncPs : Nat := 0
  /-- The common reference counter: index and root cycle of the latest reference edge counted, with its fraction in 1/1000,
  and how far the edges are still to move toward those of SYNC_IN, in 1/1000 root cycle (R170, R171). -/
  refIdx : Nat := 0
  refAt  : Nat := 0
  refRem : Nat := 0
  slip   : Int := 0
  /-- What the start-up controller waits for (R504): when the RGC left reset. -/
  leftReset : Option Nat := none
  startupDone : Bool := false
  p12v : Bool := false
  /-- P12V_OK is lost: every loop is treated as with VR_ALERT# asserted. -/
  p12vLost : Bool := false
  deriving DecidableEq, Repr
/-- Thermal state of a satellite's sites and of the governor's view of its die, beside the registers of R267. -/
structure ThmDie where
  /-- End of the conversion in progress, whether its result is lost with the Seam (R265), and end of the calibration step in
  progress; a demand is held (R246). -/
  conv : Option Nat := none
  lost : Bool := false
  cal  : Option Nat := none
  held : Bool := false
  /-- Trims of the converter channels that are not as at reset: what a channel reads with its input shorted, in 1/16 K, and
  its reading of the reference, in 1/65,536 of the right one (R250). -/
  trims : Tab (Int × Int) := []
  /-- Conversions in a row in which each site was suspect (R253). -/
  susRun : Tab Nat := []
  /-- T_MAX of the last conversion, in 1/16 °C; none where no site had a value. -/
  tMax : Option Int := none
  /-- A demand has been issued and no complete result taken in since; demands so missed in a row (R259). -/
  expect : Bool := false
  missed : Nat := 0
  deriving DecidableEq, Repr

/-- Thermal state common to the dies. -/
structure ThmSt where
  /-- Next expiry of the demand timer, and an expiry that waits for its stroke boundary (R41). -/
  nextDemand : Nat := 250000
  due : Bool := false
  /-- The results of the last demand have been taken in (R250). -/
  taken : Bool := false
  /-- Next expiry of the calibration period; a periodic run is asked for (R251). -/
  nextCal : Nat := 10000000000
  calAsked : Bool := false
  /-- The step to send next or in progress, 0 for none, and when the one in progress ends. -/
  step : Nat := 0
  stepEnd : Option Nat := none
  /-- The comparator under test, and the last converted value of its site, in 1/16 °C (R264). -/
  test : Option (Nat × Int) := none
  deriving DecidableEq, Repr

/-- State of the trip comparators, on standby power (R260–R262). -/
structure TripSt where
  /-- When the latch is armed: 1 ms after the release of RST_STBY# (R505). -/
  armed : Option Nat := none
  /-- Comparators asserted, with the time, oldest first. -/
  asserted : List (Nat × Nat) := []
  /-- What each junction last stood at, in 1/16 °C, by global index. -/
  junction : Tab Int := []
  /-- The TRP has still to write the record; when L9 and L10 go to MID. -/
  record : Bool := false
  ioOff : Option Nat := none
  deriving DecidableEq, Repr
/-- An item of the service port transmit queue (R275, R292): its OEM event class and its bytes. -/
structure SenTx where
  cls   : Nat
  bytes : List Nat
  deriving DecidableEq, Repr

/-- A map change in progress (R280). -/
structure MapChange where
  die     : Die
  cluster : Nat
  logical : Nat
  old     : Nat
  new     : Nat
  planned : Bool
  /-- The command processor has reported READY. -/
  ready   : Bool := false
  /-- It is the repeat. -/
  again   : Bool := false
  due     : Nat
  deriving DecidableEq, Repr

/-- A test of a slot (R287, R288): it waits for its move, or the patterns still to run. -/
structure SenTest where
  die     : Die
  cluster : Nat
  slot    : Nat
  /-- Asked by TEST_REQ. -/
  asked   : Bool
  /-- None while it waits for MAP_DONE. -/
  left    : Option (List Pattern) := none
  run     : Nat := 0
  deriving DecidableEq, Repr

/-- A comparison at the comparer (R295): group, epoch, the comparer's die, the digests held with package and die, and when
DIGEST_WAIT ends. -/
structure DigestCmp where
  group : Nat
  epoch : Nat
  die   : Nat
  size  : Nat
  held  : List (Nat × Nat × Nat)
  due   : Nat
  deriving DecidableEq, Repr

/-- What the sentinel keeps of a die's epochs: SUM and N by epoch, digests of closed epochs, and the epochs of a PASS
verdict (R293, R297). -/
structure SenDie where
  fold   : Tab (Nat × Nat) := []
  closed : Tab Nat := []
  pass   : List Nat := []
  /-- The epoch from which the die is in its group again after an expulsion (R296). -/
  rejoin : Nat := 0
  /-- Epochs in which its group's verdict found it in the minority; each is not verified until it is retracted (R297). -/
  bad    : List Nat := []
  deriving DecidableEq, Repr

/-- State of the sentinel beside its registers of R304 to R307. -/
structure SenSt where
  /-- SEQ of the next record. -/
  seq : Nat := 0
  txq : List SenTx := []
  /-- Records not queued since the overflow (R276). -/
  unqueued : Nat := 0
  /-- Times of the failures counted in each cluster, by 16·die + cluster, newest first, less the time frozen (R284). -/
  fails : Tab (List Nat) := []
  /-- Clusters whose ladder is exhausted (R285). -/
  exhausted : List Nat := []
  changes : List MapChange := []
  tests : List SenTest := []
  /-- The next slot of the periodic tests, by 576·die + site, and the next expiry of PERIOD_MS. -/
  nextSlot : Nat := 0
  nextTest : Nat := 0
  /-- The slot that the TEST_REQ in progress named, as 1,024·die + site; SITE and DIE may be written meanwhile. -/
  askFor   : Nat := 0
  /-- Library in use, and the one that replaces it once no run is in progress (R291). -/
  lib     : Option Library := none
  libNext : Option Library := none
  die : Vector SenDie 8 := Vector.replicate 8 {}
  cmps : List DigestCmp := []
  /-- Verdicts received: group, epoch, outcome and majority digest (R341). -/
  verdicts : List (Nat × Nat × Nat × Nat) := []
  /-- Steps below this one are ignored after a retraction (R301). -/
  fromStep : Nat := 0
  /-- Epochs for which a pending retraction was sent, and whether POISON (true) or ROWCOL_FAIL sent it (R303). -/
  sentFor : Tab Bool := []
  deriving DecidableEq, Repr
/-- What a HELLO says of a neighbour (R314). -/
structure Hello where
  uid   : Nat
  prio  : Nat
  elig  : Bool
  major : Nat
  minor : Nat
  feat  : Nat
  term  : Nat
  /-- The best candidate it knows of: index, priority and UID, and its distance, 15 for none. -/
  cand     : Nat
  candPrio : Nat
  candUid  : Nat
  dist     : Nat
  detached : Bool
  full     : Bool
  deriving DecidableEq, Repr

/-- What a TOPO says of a child's subtree (R314). -/
structure Subtree where
  n     : Nat
  below : Nat
  minor : Nat
  feat  : Nat
  deriving DecidableEq, Repr

/-- A frame to be sent: type, direction, hops taken, originator, destination, payload, its own TSTAMP where it keeps one,
and the item of a MIRROR. -/
structure CasSend where
  type : Nat
  dir  : Nat
  hops : Nat := 0
  src  : Nat
  dst  : Nat := 0
  p    : List Nat := []
  stamp : Option Nat := none
  item : Option MirrorItem := none
  deriving DecidableEq, Repr

/-- State of a cascade lane beside its registers of R346. DEDUCED, log 38. -/
structure CasLane where
  /-- LSEQ of the frame last sent, and of the one last received (R335). -/
  tx : Nat := 0
  rx : Nat := 0
  /-- Frames not yet acknowledged, oldest first, at most 64, and those that wait for room (R312). -/
  replay : List CasFrame := []
  queue  : List CasSend := []
  /-- When the latest valid frame came, and the times of the latest CRC failures, newest first (R312). -/
  last  : Nat := 0
  fails : List Nat := []
  /-- When a frame was last sent; when the lane may retrain next. -/
  sent    : Nat := 0
  nextTry : Nat := 0
  hello : Option Hello := none
  /-- A neighbour of another protocol major has been refused (R319). -/
  refused : Bool := false
  /-- The subtree of the child on the lane, and the least PACE_CAP it sent up (R318, R342). -/
  sub  : Option Subtree := none
  pace : Option Nat := none
  /-- Frames held during a freeze, in arrival order (R335). -/
  held : List CasRx := []
  /-- Indices heard on the lane that are attached elsewhere: the Cox does not count them (R318). -/
  dups : List Nat := []
  deriving DecidableEq, Repr

/-- A child's part of a sync object: its aggregate or arrivals, the members in its subtree, and whether it has said how many
they are, which an OBJ_BULK entry does not (R323, R330, R331). -/
structure CasKid where
  value   : Nat
  members : Nat
  known   : Bool := true
  deriving DecidableEq, Repr

/-- A cascade sync object (R328–R331); the registers of R345 at OBJ_SEL show it. DEDUCED, log 41. -/
structure CasObj where
  type    : Nat := 0
  member  : Bool := false
  notify  : Bool := false
  ready   : Bool := false
  err     : Bool := false
  val     : Nat := 0
  res     : Nat := 0
  gen     : Nat := 0
  arrived : Bool := false
  aborted : Bool := false
  members : Nat := 0
  /-- Parts of the children, by lane. -/
  kids    : Tab CasKid := []
  /-- What was last sent: value and members; when, and whether an update waits for the end of the interval. -/
  sent    : Option (Nat × Nat) := none
  sentAt  : Option Nat := none
  due     : Bool := false
  /-- A change of MEMBER below awaits its OBJ_UP, and at the root its echo, whether or not the combination has changed
  (R329). -/
  echo    : Bool := false
  /-- TSTAMP and index of the latest write of a SET object known here, as the root orders them, and its value; a value that
  came as a result has no TSTAMP. -/
  stamp   : Nat × Nat := (0, 0)
  latest  : Nat := 0
  /-- When the package's own contribution arrived, and the time it had then spent frozen (R114). -/
  arrAt   : Nat := 0
  arrFrz  : Nat := 0
  deriving DecidableEq, Repr

/-- A broadcast: class, request number, originator and its four words of data (R332). DEDUCED, log 41. -/
structure Bcast where
  cls  : Nat
  req  : Nat
  orig : Nat
  data : List Nat
  deriving DecidableEq, Repr

/-- LK_TIME as it runs: in 1/2 ns, `off` ahead of the package cycle count at instant `t0`, at a rate off by `rate` in
1/16 ppm, slewed by `slew` half nanoseconds over the `len` ns after `t0`, and on the Cox steered by `steer` in 1/16 ppm
(R326, R327). DEDUCED, log 40. -/
structure LkClk where
  t0   : Nat := 0
  off  : Int := 0
  rate : Int := 0
  slew : Int := 0
  len  : Nat := 0
  steer : Int := 0
  deriving DecidableEq, Repr

/-- The standby's mirror of the Cox (R321). -/
structure Mirror where
  n     : Nat := 0
  term  : Nat := 0
  sched : List SchedOp := []
  pace  : Option Pace := none
  log   : List (Nat × Bcast) := []
  deriving DecidableEq, Repr

/-- State of the cascade protocol layer beside its registers of R345 and R346. DEDUCED, log 39. -/
structure CasSt where
  lane : Vector CasLane 9 := Vector.replicate 9 {}
  /-- Sync objects that are not as reset, by index. -/
  obj  : Tab CasObj := []
  /-- The port table: lane by index (R320). -/
  ports : Tab Nat := []
  /-- The package has yielded to the Cox of a higher term; it would lie deeper than 5 hops (R316, R322). -/
  yielded : Bool := false
  deep : Bool := false
  /-- The instant of the Cox's first TOPO; it has expired (R318). -/
  firstTopo : Option Nat := none
  /-- After a takeover: the index of the lost Cox and the packages to count before FORMED. -/
  recover : Option (Nat × Nat) := none
  /-- The highest BSEQ given or received and every one received, the Cox's log of broadcasts, and those that wait for a
  quorum or a thaw (R332). -/
  bseq : Nat := 0
  bseen : List Nat := []
  blog : List (Nat × Bcast) := []
  bwait : List Bcast := []
  /-- Own requests not yet seen back: request number, class, data and when each is sent again (R332). -/
  req  : Nat := 0
  mine : List (Bcast × Nat) := []
  /-- The request number of the HOST broadcast whose SEND is pending (R333). -/
  host : Option Nat := none
  /-- Scheduled operations pending, the IDs seen, and requests that wait for a quorum (R334). -/
  opId : Nat := 0
  sched : List SchedOp := []
  opSeen : List Nat := []
  swait : List (Nat × Nat) := []
  /-- Requests counted and ignored because one of their kind was pending or in effect (R334, R344). -/
  ignored : Nat := 0
  /-- The alignment edges, as instants, of the cascade freeze and thaw pending, as the governor schedules them (R45). -/
  freezeAt : Option Nat := none
  thawAt   : Option Nat := none
  /-- A reset reached its instant during a freeze (R338): its scope. -/
  resetHeld : Option Nat := none
  /-- The probe in progress: its number and the end of the window; the number of the next (R322). -/
  probe : Option (Nat × Nat) := none
  probes : Nat := 0
  /-- Floods acted on: originator and term of TAKEOVERs; the lane of first receipt of PROBEs, by originator × 2³² and
  number, the newest first (R315). -/
  takeovers : List (Nat × Nat) := []
  probed : List (Nat × Nat) := []
  /-- When the newest COX_BEAT came, and its term; the Cox's next one (R322). -/
  beat : Option (Nat × Nat) := none
  nextBeat : Nat := 0
  mirror : Mirror := {}
  /-- N and the term as last mirrored to the standby (R321). -/
  told : Option (Nat × Nat) := none
  /-- LK_TIME has been loaded from a parent; window of the next exchange; exchanges in a row within 5 ns; t1 of the
  exchange in progress (R326, R327). -/
  joined : Bool := false
  /-- The package has joined since its last exchange (R326). -/
  fresh  : Bool := false
  nextSync : Nat := 0
  syncGood : Nat := 0
  /-- The PACE_CAP last sent up; the Cox's newest schedule and the ratio of the one before it (R342). -/
  paceUp : Option Nat := none
  pace : Option Pace := none
  /-- Frames the package would originate, kept back by a freeze: lane and frame (R335). -/
  later : List (Lane × CasSend) := []
  deriving DecidableEq, Repr
/-- A finished command whose completion has not been written (R361). -/
structure Cpl where
  cid    : Nat
  sqHead : Nat
  status : Nat
  result : Nat := 0
  detail : Nat := 0
  deriving DecidableEq, Repr

/-- What a command waits for, or does, at a window boundary or at a processor (R362, R401). -/
inductive HostWork where
  /-- Writes of a WRITE_SET, by offset and value. -/
  | writes (l : List (Nat × Nat))
  | ltRead (first n : Nat)
  | ltWrite (first : Nat) (entries : List (List Nat))
  /-- A COST_LOAD waits for the COST_SWAP bits of its mask. -/
  | swap (mask : Nat)
  | jobStart
  | jobStop
  /-- A MSG waits for its mailbox with the words of its request, or for the reply, until an instant. -/
  | msgWait (k : Mbx) (words : List Nat) (till : Nat) (ok : Bool)
  | msgSent (k : Mbx) (till : Nat) (ok : Bool)
  deriving DecidableEq, Repr

/-- State of a queue pair beside its registers of R358. -/
structure QueueSt where
  /-- SQ_TAIL and CQ_HEAD last acted on. -/
  tail : Nat := 0
  head : Nat := 0
  /-- The command fetched, with SQ_HEAD after it; it executes. -/
  cmd  : Option (Desc × Nat) := none
  started : Bool := false
  work : Option HostWork := none
  fin  : Option Cpl := none
  /-- Completions written since the last message, and when the oldest of them was (R373). -/
  unsig  : Nat := 0
  oldest : Nat := 0
  deriving DecidableEq, Repr
/-- A restart of a processor in progress (R406). -/
inductive RestartStage where
  /-- Stopped; its store buffer drains. -/
  | draining
  /-- Its SRAM is wiped and its image is read and verified; released once the image verifies. -/
  | loading
  deriving DecidableEq, Repr

/-- A failed store that the next ordering point reports (R403): address, kind and whether it was a store, with the number
of further failures. -/
structure StoreFail where
  addr : Nat
  kind : Nat
  more : Nat := 0
  deriving DecidableEq, Repr

/-- An entry of a store buffer (R402, R409): its size is 0 for a byte, 1 for a half-word and 2 for a word. -/
structure BufStore where
  addr : Nat
  data : Nat
  size : Nat
  deriving DecidableEq, Repr

/-- State of a processor beside its registers of R415. -/
structure ProcSt where
  /-- The sixteen bytes pmpcfg of its protection entries (R386, R387). -/
  pmp : Vector Nat 16 := Vector.replicate 16 0
  /-- The sixteen words pmpaddr of those entries. -/
  pmpAddr : Vector Nat 16 := Vector.replicate 16 0
  fail : Option StoreFail := none
  /-- Its bank of LK_MGT_BUSERR_ADDR and LK_MGT_BUSERR_INFO. -/
  busAddr : Nat := 0
  busInfo : Nat := 0
  /-- The registers in which it finds its last access fault (R403). -/
  mepc   : Nat := 0
  mcause : Nat := 0
  mtval  : Nat := 0
  /-- The snapshot latch: the offset whose upper word it holds, and that word (R405). -/
  latch : Option (Nat × Nat) := none
  /-- When the watchdog's period began, less the time frozen until then (R406, R413). -/
  kicked : Nat := 0
  /-- The restart in progress and its cause. -/
  restart : Option (RestartStage × Nat) := none
  /-- Its store buffer, oldest first: 8 entries at most (R402). -/
  buf : List BufStore := []
  /-- Its services pause: it has restarted and has not set STARTED since (R407). -/
  paused : Bool := false
  /-- The header of the image it runs. -/
  image : Option ImgHdr := none
  /-- The image has run on trial since its release: when that began (R456, R457). -/
  trial : Option Nat := none
  /-- A settings copy written by a trial image waits for confirmation (R459). -/
  migrated : Bool := false
  deriving DecidableEq, Repr

/-- A mailbox beside its registers of R414. -/
structure MbxSt where
  /-- When GO was set (R396). -/
  goAt : Nat := 0
  /-- Words in the request half and the reply half of its long-message buffer (R384, R397). -/
  req : List Nat := []
  rsp : List Nat := []
  /-- The queue whose MSG command holds it (R401). -/
  held : Option Queue := none
  deriving DecidableEq, Repr

/-- State of the management complex common to its processors. -/
structure MgtSt where
  proc : Vector ProcSt 3 := Vector.replicate 3 {}
  mbx  : Vector MbxSt 8 := Vector.replicate 8 {}
  keys : Vector (Option KeySlot) 16 := Vector.replicate 16 none
  /-- The boot ROM found no valid key block and reads it again at this instant (R392). -/
  keyRetry : Option Nat := none
  /-- The words of the processor SRAMs and the shared SRAM that are not zero, by a quarter of their address (R384). -/
  sram : Tab Nat := []
  /-- The TRP has verified provisioning and written the ceilings since its start (R388). -/
  ceilDone : Bool := false
  /-- Until when the handshake of the last stamp request runs, and the RESULT it then sets (R475). -/
  stampAck : Option (Nat × Nat) := none
  /-- Non-maskable events, by code and detail, held while the TRP does not run (R407). -/
  nmiHeld : List (Nat × Nat) := []
  deriving DecidableEq, Repr
/-- The ring of the newest unit events of an engine site or stage channel (R435): entries written, and the newest 64,
newest first. -/
structure RingSt where
  count   : Nat
  entries : List Nat
  deriving DecidableEq, Repr

/-- A packet waiting in the FIFO of the trace port (R440): type, unit, the cycle count of its making and its words. -/
structure TrcPkt where
  type  : Nat
  unit  : Nat
  stamp : Nat
  words : List Nat
  deriving DecidableEq, Repr
/-- A record of the recorder (R420); REPEAT as its 64-bit thermometer code, BODY as its 48 words. -/
structure FlashRec where
  mark   : Nat := 0xFF
  code   : Nat
  seq    : Nat
  pcyc   : Nat
  opsec  : Nat
  time   : Nat
  cyc    : Nat
  unit   : Nat
  nreg   : Nat
  flags  : Nat
  layer  : Nat
  tag    : Nat
  detail : Nat
  crc    : Nat := 0
  rep    : Nat := 2 ^ 64 - 1
  body   : List Nat
  deriving DecidableEq, Repr

/-- State of the recorder beside its registers of R445. -/
structure RecSt where
  /-- The staging RAM, oldest first. -/
  staged : List FlashRec := []
  /-- Slots of the partition that are not erased. -/
  slots  : Tab FlashRec := []
  /-- Records dropped since the last REC_STAGE_LOST; they wait to be told (R426). -/
  dropped : Nat := 0
  /-- Next free reserved slot, from 65,472 (R418). -/
  nmiSlot : Nat := 65472
  /-- The partition has been scanned since the last reset, so that its free slots are known: the TRP goes on programming while the
  PLP restarts (R430). -/
  scanned : Bool := false
  /-- The last SEQ before the erase in progress (R431). -/
  eraseSeq : Nat := 0
  /-- The block has been powered on since the last mount (R429). -/
  powered : Bool := true
  /-- OPSEC stood at the first number at the second, an instant (R428). -/
  opBase : Nat := 0
  opAt   : Nat := 0
  /-- The copy of a ring in progress: entries written, and the entries, newest first (R436). -/
  copy : Option (Nat × List Nat) := none
  /-- When a fired trigger requests its freeze (R438). -/
  post : Option Nat := none
  /-- The alignment edges, as instants, of a scheduled package freeze, with whether the trigger asked for it, and of a
  scheduled thaw (R45, R438). -/
  freezeAt : Option (Nat × Bool) := none
  thawAt   : Option Nat := none
  /-- End of the alignment blocks after EN was set (R439). -/
  alignTill : Option Nat := none
  /-- Alignment blocks sent since then, and the lane of the next trace word (R439). -/
  alignN : Nat := 0
  lane   : Nat := 0
  deriving DecidableEq, Repr
/-- A boot-control entry: processor, slot (0 A, 1 B), state byte, image version and security version, with the version of its
own layout and its CRC (R448). -/
structure BootEntry where
  proc  : Proc
  slot  : Nat
  state : Nat
  ver   : Nat
  svn   : Nat
  fmt   : Nat := 1
  crc   : Nat := bootSum proc.init.code slot ver svn
  deriving DecidableEq, Repr

/-- A component of an update (R450): identifier, size, bytes received, and whether its transfer has completed. -/
structure UpdComp where
  id    : Nat
  size  : Nat
  bytes : List Nat := []
  whole : Bool := false
  /-- Verified, or failed with a code of R453. -/
  result : Option Nat := none
  deriving DecidableEq, Repr

/-- A settings copy of a processor: SET_VER, the generation and the settings, whether it has been marked in force, and the
version of its own layout with its CRC (R459). -/
structure SetCopy where
  setVer : Nat
  gen    : Nat
  data   : List Nat
  inForce : Bool
  fmt    : Nat := 1
  crc    : Nat := setSum setVer gen data
  deriving DecidableEq, Repr

/-- State of the update beside its registers of R461 and R462. -/
structure UpdSt where
  /-- The update in progress: components announced, in order, and the one being transferred. -/
  active : Bool := false
  comps  : List UpdComp := []
  cur    : Option Nat := none
  /-- Processors with a staged image, and those still to be activated, in order. -/
  staged : List Proc := []
  steps  : List Proc := []
  /-- A step has been taken; the processor activated in it, until its image confirms; LK_TIME at which the next is due. -/
  taken  : Bool := false
  last   : Option Proc := none
  due    : Nat := 0
  /-- A step that came due in a freeze waits for the thaw edge, with what its processor holds when it stops (R460). -/
  held   : Option CoreDump := none
  deriving DecidableEq, Repr

/-- What the main flash holds beside the recorder's partition and the pattern library: boot control, images by
2 × processor + slot, and settings copies X and Y by processor (R447, R448, R459). DEDUCED, log 10. -/
structure FlashSt where
  boot   : List BootEntry := [.trp, .plp, .svp].map fun p => { proc := p, slot := 0, state := 0x1F, ver := 0, svn := 0 }
  /-- Entries used of the boot-control sector in use, and which sector that is. -/
  used   : Nat := 3
  sector : Nat := 0
  image  : Tab (List Nat) := []
  sets   : Vector (Option SetCopy × Option SetCopy) 3 := Vector.replicate 3 (none, none)
  deriving DecidableEq, Repr
/-- What an accepted stamp request carries (R475): kind, job, nonce, LK_TIME, with ENERGY and MUS as latched. -/
structure StampReq where
  kind   : Nat
  job    : Nat
  nonce  : Nat
  time   : Nat
  energy : Nat
  mus    : Nat
  /-- FLAGS as latched (R472). -/
  flags  : Nat
  deriving DecidableEq, Repr

/-- What the meter saves in its flash (R471). -/
structure MtrSave where
  energy : Nat
  rseq   : Nat
  mpcyc  : Nat
  stamps : Nat
  logSeq : Nat
  /-- It was made at a power failure; the µs the meter had been powered in all. -/
  atFail : Bool
  up     : Nat
  deriving DecidableEq, Repr

/-- Sealed calibration: k_V in millionths and R_sh in nΩ, the correction of each in millionths per °C, and the temperature in
1/16 °C at which there is none (R468, R482). -/
structure MtrCal where
  kv   : Nat
  rsh  : Nat
  tkv  : Int := 0
  trsh : Int := 0
  t0   : Int := 0
  deriving DecidableEq, Repr

/-- The meter island beside what its mirror in the window shows (R464–R483). -/
structure MtrSt where
  /-- VMSTBY is present and the meter has powered up. -/
  powered : Bool := false
  /-- It measures; it does not once FAULT is set. -/
  running : Bool := false
  fault   : Bool := false
  sealed  : Bool := false
  /-- ENERGY in mJ, and the remainder in pJ. -/
  energy : Nat := 0
  rem    : Nat := 0
  mus    : Nat := 0
  /-- µs it has been powered in all. -/
  up     : Nat := 0
  rseq   : Nat := 0
  mpcyc  : Nat := 0
  stamps : Nat := 0
  logSeq : Nat := 0
  counts : Vector Nat 11 := Vector.replicate 11 0
  /-- The audit log, newest first, at most 1,024 entries of 48 bytes. -/
  audit  : List (List Nat) := []
  /-- Conditions present now, by the bits of FLAGS: 0 OVERRANGE, 1 VOLT_OOR, 2 REVERSE, 5 TAMPER. -/
  now    : Nat := 0
  /-- Flags that have held since the last periodic reading and since the last stamp (R472). -/
  sincePer : Nat := 0
  sinceStp : Nat := 0
  /-- What the last product found: whether each condition of R470 but TAMPER holds; and the peak current in 10 mA and the
  extreme voltage in mV since its condition began. -/
  lastNow : Nat := 0
  peak    : Nat := 0
  extreme : Nat := 0
  /-- Stamps accepted and not yet signed, oldest first. -/
  queue  : List StampReq := []
  saves  : List MtrSave := []
  cal    : MtrCal := { kv := 12000000, rsh := 50000 }
  /-- Products, terminal voltage in mV and current in 10 mA, summed over the present ms and the present second. -/
  accMs  : Nat × Nat × Nat := (0, 0, 0)
  accSec : Nat × Nat × Nat := (0, 0, 0)
  /-- Mean voltage and current over the last second. -/
  mean   : Nat × Nat := (0, 0)
  /-- The key pair generated at sealing: the private key, and X and Y of the public key (R474). -/
  key    : Option (Nat × Nat × Nat) := none
  /-- Until when the last copy into the mirror runs (R473, R484). -/
  copyTill : Nat := 0
  /-- The certificate's words; none before sealing (R474). -/
  cert   : List Nat := []
  /-- LOG_SEQ last told to the block by MTR_LOG. -/
  told   : Nat := 0
  deriving DecidableEq, Repr
/-- What a TRAIN exchange settled (R490, R494): lanes used, and the satellite's version, features and die type. -/
structure Trained where
  lanes : Nat
  ver   : Nat
  feat  : Nat
  type  : Nat
  deriving DecidableEq, Repr

/-- A command on its way to a satellite: when it was sent, the number that its two copies share (R491), and what it
says. -/
structure SeamFlit where
  sent : Nat
  id  : Nat
  cmd : SeamCmd
  deriving DecidableEq, Repr

/-- What a flit in a replay buffer carries: nothing, a command, or a report with its instant of arrival. -/
inductive FlitLoad where
  | idle
  | cmd (f : SeamFlit)
  | report (due : Nat) (r : Report)
  deriving DecidableEq, Repr

/-- A flit in the replay buffer of the side that sent it: its place in that side's flow, what it carries, and whether it has
failed its CRC and waits to be replayed (R491). -/
structure KeptFlit where
  num  : Nat
  load : FlitLoad
  lost : Bool := false
  deriving DecidableEq, Repr

/-- State of a Seam beside its registers of R512. -/
structure SeamSt where
  /-- Commands on their way to the satellite, oldest first, and the number of the next one (R37). -/
  flits  : List SeamFlit := []
  nextId : Nat := 0
  /-- The replay buffers of the governor's side and of the satellite's, newest first, at most 32 flits each, and the number
  of the next flit of each side (R491). -/
  gBuf : List KeptFlit := []
  sBuf : List KeptFlit := []
  gNum : Nat := 0
  sNum : Nat := 0
  /-- Numbers of the newest commands received: a second copy is not acted on again (R491). -/
  acted : List Nat := []
  /-- The satellite's copy of the package cycle count, as it stood at the instant `copyAt`; none before a training has set
  it (R29, R490). -/
  copy : Option Nat := none
  copyAt : Nat := 0
  /-- The satellite has stopped on a freeze edge: its copy and its counters stand (R45). -/
  stopped : Bool := false
  /-- Round trips in a row that differ from 40 ns by more than 1 ns (R490). -/
  drift : Nat := 0
  /-- The alignment edges, as instants, on which the satellite is to stop and to go on (R45). -/
  stopAt : Option Nat := none
  goAt   : Option Nat := none
  /-- Lanes marked good by the governor's side and by the satellite's (R490). -/
  gMarks : Nat := 15
  sMarks : Nat := 15
  /-- When the training in progress began, the lanes it may use and what its TRAIN flits settled. -/
  training : Option Nat := none
  only   : Nat := 15
  agreed : Option Trained := none
  /-- Failed trainings in a row (R493). -/
  failed : Nat := 0
  nextTry : Nat := 0
  /-- When each side last sent a flit; failed flits, newest first, by whether the governor's side found it, and when (R491). -/
  gSent : Nat := 0
  sSent : Nat := 0
  fails : List (Bool × Nat) := []
  /-- The version the satellite offered at its last training (R495). -/
  ver : Nat := 0
  /-- Removals and map changes that wait for the Seam, oldest first (R39, R303). -/
  wait : List SeamBody := []
  /-- The Seam has not been up since its last reset. -/
  fresh : Bool := true
  deriving DecidableEq, Repr

/-- A message of the governor to the RGC on the on-die control bus, with its arrival one governor cycle later (R37). -/
inductive BusMsg where
  /-- A predicted load step: loop, DI, RATE and WIN of R182. -/
  | loadStep (l : Loop) (di : Int) (rate win : Nat)
  /-- The pre-arm of a loop is released (R186). -/
  | release (l : Loop)
  /-- The set-point of one of L11 to L15, in mV (R165). -/
  | setPoint (l : Loop) (mv : Nat)
  deriving DecidableEq, Repr

/-- What the block sends to its surroundings, in the order sent. DESIGN CHOICE, log 5. -/
inductive Out where
  /-- A command sent on the Seam of a satellite, as SEAM_COMMAND_ARRIVAL brings it. -/
  | seam (x : Sat) (c : SeamCmd)
  /-- HOLD driven on the sites of a die, asserted or deasserted (R56, R58). -/
  | hold (die : Die) (sites : List Site) (on : Bool)
  /-- GRANT driven on the sites of a die for a stroke (R57). -/
  | grant (die : Die) (sites : List Site)
  /-- The static FENCE line of a die changes (R489, R497). -/
  | fenceLine (d : Die) (on : Bool)
  /-- The static BRST line of a die changes (R489, R499). -/
  | brst (d : Die) (on : Bool)
  /-- The pulses of a loop's phases in a switching cycle, which later ones of the cycle and PWM levels supersede. -/
  | fire (l : Loop) (f : List Fire)
  /-- A frame sent on the voltage command link of a satellite, by its end. -/
  | vcl (x : Sat) (by_ : VclEnd) (f : VclFrame)
  /-- A predicted load step announced to the RGC, as LOAD_STEP_ANNOUNCE brings it (R182). -/
  | loadStep (l : Loop) (di : Int) (rate win : Nat)
  /-- The governor releases the pre-arm of a loop, as PREARM_RELEASE brings it (R186). -/
  | releasePreArm (l : Loop)
  /-- The governor sends the set-point of one of L11 to L15, in mV (R165). -/
  | setPoint (l : Loop) (mv : Nat)
  /-- PWM of stage channels driven HIGH, LOW or MID outside the course of a switching cycle (0 MID, 1 LOW, 2 HIGH), each at a
  root cycle. -/
  | pwm (l : Loop) (phases : List (Phase × Nat)) (level : Nat)
  /-- SYNC_OUT carries edges of the switching reference in use (R172): the first rise, the number of periods and their
  length, in 1/1000 root cycle; it is HIGH for half of each. -/
  | syncOut (rise n period : Nat)
  /-- THERMTRIP# goes low (R261). -/
  | thermtrip
  /-- The TRP sends THM_TRIP to the BMC over the service port (R261). -/
  | tripToBmc (site : Nat)
  /-- A map command to a die's command processor (R280). -/
  | mapCmd (die : Die) (cluster logical old new : Nat) (planned : Bool)
  /-- A slot is to run a pattern of the library, by its place, as run `n` of its test (R288). -/
  | testRun (die : Die) (site : Site) (pid n : Nat)
  /-- The abort line of the accelerator's command stream changes (R302). -/
  | abortLine (on : Bool)
  /-- A PLDM event message to the BMC, by its OEM event class (R275, R292). -/
  | bmcEvent (cls : Nat) (bytes : List Nat)
  /-- A frame sent on a cascade lane (R312, R313); for a MIRROR with its item. -/
  | cas (k : Lane) (f : CasFrame) (item : Option MirrorItem)
  /-- A message of a vector: DATA written to ADDR (R370). -/
  | message (v addr data : Nat)
  /-- The block fetches the descriptor of a queue at an index (R368). -/
  | fetch (q : Queue) (index : Nat)
  /-- The block writes 32-bit words of a command's output to a host buffer (R362). -/
  | hostWrite (q : Queue) (addr : Nat) (words : List Nat)
  /-- The block writes the bytes of a reply to the host buffer of a MSG command (R401). -/
  | hostBytes (q : Queue) (addr : Nat) (bytes : List Nat)
  /-- The block writes the eight words of a completion entry at an address (R361). -/
  | completion (q : Queue) (addr : Nat) (words : List Nat)
  /-- A bad read of the host returns all ones with an error response (R375, R378). -/
  | badRead
  /-- What a processor's read of the window returns (R405). -/
  | readData (p : Proc) (word : Nat)
  /-- The TRP reports a non-maskable event to the BMC over the trusted endpoint (R133, R393). -/
  | nmiToBmc (code detail : Nat)
  /-- A reply on the trusted endpoint: to LC_NONCE its four words, to LC_TOKEN a STATUS (R393, R411). -/
  | trusted (words : List Nat)
  /-- The trace port sends a packet's words, the first on a lane and the others on the lanes after it in turn; an alignment
  block goes out on each lane (R439). -/
  | traceWords (lane : Nat) (words : List Nat)
  /-- The control blocks of the four lanes at one block position; and idle control blocks between packets (R439). -/
  | traceAlign (blocks : List Nat)
  | traceIdle (block n : Nat)
  /-- A response of an MCTP endpoint of the service port, with its data. Command: the commands of R450 in its order from 1,
  14 SET_REGATTA, 15 Set Endpoint ID. Code, the model's own: 0 accepted, 1 refused, 2 already in update mode; for
  VerifyComplete the result of R453. -/
  | pldm (cmd code : Nat) (data : List Nat)
  /-- A device of the IEEE 1149.1 chain, by its place, shifts its IDCODE toward TDO (R502). -/
  | tdo (device code : Nat)
  /-- A side of a Seam sends a flit after 100 ns of silence (R491). -/
  | seamIdle (x : Sat) (governor : Bool)
  /-- A receiver answers a flit with a negative acknowledgement; a sender replays the flit (R491). -/
  | seamNak (x : Sat) (nak : Nak)
  | seamReplay (x : Sat) (nak : Nak)
  deriving DecidableEq, Repr

/-- The state of the block. Every field is plain data; the value after `:=` is the one at reset.
DESIGN CHOICE, log 6. -/
structure State where
  /-- Commands waiting, first in, first out. DESIGN CHOICE, log 2. -/
  pending : List Instr := []
  /-- The present instant, in governor cycles of 1 ns since the root PLL locked (R29); the package cycle count is this
  less the time the package has spent frozen. DEDUCED, log 3. -/
  now : Nat := 0
  /-- Index of the next stroke boundary to come (R40). DEDUCED, log 3. -/
  strokeIdx : Nat := 0
  /-- Index of the next window boundary to come (R40). DEDUCED, log 3. -/
  windowIdx : Nat := 0
  /-- Index of the next alignment edge to come (R29). DEDUCED, log 3. -/
  alignIdx : Nat := 0
  phase : Phase0 := .held
  /-- The package is frozen (R45). DEDUCED, log 15. -/
  frozen : Bool := false
  regs : Regs := []
  /-- A block reset has been requested, with its cause (R376, R499). -/
  resetReq : Option Nat := none
  /-- Events raised, oldest first, that EVENT_STAGE has not taken yet. -/
  raised : List Event := []
  /-- What the block has sent to its surroundings, oldest first. DESIGN CHOICE, log 5. -/
  out : List Out := []
  /-- Free values drawn so far: the index of the next one (the model's own field). DESIGN CHOICE, log 7. -/
  freeCtr : Nat := 0
  adm : Vector AdmDie 8 := Vector.replicate 8 {}
  /-- What satellites have sent the governor, with the instant of arrival (R28), oldest first. DESIGN CHOICE, log 5. -/
  inbox : List (Nat × Sat × Report) := []
  /-- What the governor has sent the RGC, with the instant of arrival, oldest first (R37). -/
  bus : List (Nat × BusMsg) := []
  gov    : GovSt := {}
  govDie : Vector GovDie 8 := Vector.replicate 8 {}
  rail   : Vector RailSt 16 := Vector.replicate 16 {}
  /-- Last report of satellite S8. -/
  rptIo  : Option WinRpt := none
  lastIo : Option WinRpt := none
  clk    : ClkSt := {}
  clkDie : Vector ClkDie 8 := Vector.replicate 8 {}
  hold   : Vector HoldSt 8 := Vector.replicate 8 {}
  rgc  : RgcSt := {}
  loop : Vector LoopSt 16 := Vector.replicate 16 {}
  vsetTx : Vector VsetTx 16 := Vector.replicate 16 {}
  /-- The sequence number of the newest VSET of each satellite. -/
  satSeq : Vector Nat 9 := Vector.replicate 9 0
  vcl  : Vector VclSt 9 := Vector.replicate 9 {}
  /-- Events already raised in the present window that are raised at most once in it, by code and unit. -/
  once : List (Nat × Nat) := []
  thm    : ThmSt := {}
  thmDie : Vector ThmDie 9 := Vector.replicate 9 {}
  trip   : TripSt := {}
  sen : SenSt := {}
  /-- The pattern library stored in the main flash (R291). -/
  libStored : Option Library := none
  lk  : LkClk := {}
  cas : CasSt := {}
  /-- Time the package has spent frozen before the present freeze, and when that one began (R114). -/
  frozenNs : Nat := 0
  frozeAt : Nat := 0
  queue : Vector QueueSt 32 := Vector.replicate 32 {}
  /-- The queue whose command was started last (R364). -/
  lastStart : Nat := 31
  /-- Next poll of the doorbell lines (R369). -/
  nextPoll : Nat := 0
  mgt : MgtSt := {}
  /-- Bits blown of the life-cycle fuse word (R410). -/
  fuses : Nat := 0
  /-- What is measured at manufacture and fused of a site, by global index: ideality in 1/65,536 of the nominal one, and
  offset in 1/16 °C (R249); the trim of its comparator, in 1/16 °C (R260). A site without an entry is nominal.
  DESIGN CHOICE, log 33. -/
  siteFuse : Tab (Int × Int) := []
  tripTrim : Tab Int := []
  /-- Unit rings: site `s` of die `d` under 576·d + s, stage channel `c` under 0x10000 + c (R435). -/
  rings : Tab RingSt := []
  /-- The trace port's FIFO, oldest packet first, and the packets dropped of each source of SRC since the last LOST
  packet (R443). -/
  trcFifo : List TrcPkt := []
  trcDrop : Vector Nat 5 := Vector.replicate 5 0
  rcd : RecSt := {}
  upd   : UpdSt := {}
  flash : FlashSt := {}
  mtr : MtrSt := {}
  /-- The instruction last in effect at each TAP of the IEEE 1149.1 chain, the I/O die first, then compute dies 0 to 7 and
  Unkaern (R502). DEDUCED, log 45. -/
  chain : Vector TapInstr 10 := Vector.replicate 10 .bypass
  seam : Vector SeamSt 9 := Vector.replicate 9 {}
  deriving DecidableEq, Repr

/-- The block after a power-on reset, before RST_STBY# is released: every register at its reset value, nothing waiting.
DESIGN CHOICE, log 6. -/
def State.reset : State := {}

/-- The block gives every command an effect and has no exception of its own: no command raises a fault (safe: there is
nothing a fault would hide). DEDUCED, log 4. -/
inductive Fault where
  deriving DecidableEq, Repr

/-- Why a command is refused. -/
inductive Refusal where
  /-- Raised by `exec` for a command that has no meaning in the model; safe. -/
  | notModelled (mnemonic : String)
  deriving DecidableEq, Repr

end Sys2Proof.Machine
end

