-- ==== Sys2Proof/Machine/Ops.lean ====
section
/-!
DEFINITION. Machine/Ops.lean: the named operations over the state: fields of the window, events, messages to the
outside, the grid of instants, and one accessor and update per unit.
-/
namespace Sys2Proof.Machine

/-- A step that always has an effect. -/
abbrev Res := Host.Outcome State Fault Refusal

namespace State

/-! Fields of the window. -/

/-- A field's value. -/
def rd (s : State) (f : Fld) : Nat := s.regs.get f
/-- Whether a field is not 0. -/
def on (s : State) (f : Fld) : Bool := s.rd f != 0
/-- A field takes a value. -/
def wr (s : State) (f : Fld) (v : Nat) : State := { s with regs := s.regs.set f v }
/-- A one-bit field is set or cleared. -/
def flag (s : State) (f : Fld) (b : Bool) : State := s.wr f (b2n b)
/-- Bits of a field are set. -/
def setMask (s : State) (f : Fld) (m : Nat) : State := s.wr f (s.rd f ||| m)
/-- Bits of a field are cleared. -/
def clrMask (s : State) (f : Fld) (m : Nat) : State := s.wr f (s.rd f - (s.rd f &&& m))
/-- The governor's own state is changed. -/
def modGov (s : State) (g : GovSt → GovSt) : State := { s with gov := g s.gov }
/-- A counter of a root island gains `n`; while the package is frozen it holds (R45, R437). DEDUCED, log 15. -/
def count (s : State) (f : Fld) (n : Nat := 1) : State := if s.frozen then s else s.wr f (s.rd f + n)
/-- A counter that saturates at the width of its field. -/
def countSat (s : State) (f : Fld) (n : Nat := 1) : State := if s.frozen then s else s.wr f (sat f.w (s.rd f + n))

/-! Events and messages. -/

/-- The block raises an event; the recorder takes it with EVENT_STAGE (R425). DESIGN CHOICE, log 14. -/
def raise (s : State) (code : Nat) (unit : Nat := 0xFFFF) (detail : Nat := 0) (body : List Nat := []) : State :=
  { s with raised := s.raised ++ [{ code, unit, detail, body }] }
/-- An event raised at most once in a window for its unit. -/
def raiseOnce (s : State) (code unit : Nat) (detail : Nat := 0) : State :=
  if (code, unit) ∈ s.once then s else { s with once := (code, unit) :: s.once } |>.raise code unit detail
/-- A message leaves the block. DESIGN CHOICE, log 5. -/
def emit (s : State) (o : Out) : State := { s with out := s.out ++ [o] }
/-- An event whose unit is a die, a loop and so on is raised if a condition holds. -/
def raiseIf (s : State) (b : Bool) (code : Nat) (unit : Nat := 0xFFFF) (detail : Nat := 0) : State :=
  if b then s.raise code unit detail else s
/-- The next free value. DESIGN CHOICE, log 7. -/
def draw (s : State) : Nat × State := (Config.freeValue s.freeCtr, { s with freeCtr := s.freeCtr + 1 })

/-- A key slot holds a key of version 1 that may be used for a purpose: 0 images, 1 libraries, 2 tokens, 3 provisioning
(R13, R391). DESIGN CHOICE, log 9. -/
def keyFor (s : State) (slot use : Nat) : Bool :=
  match s.mgt.keys.toList.getD slot none with
  | some k => k.ver == 1 && bit k.use use
  | none => false

/-- A processor runs an image: STATE is 2 (R415). -/
def runs (s : State) (p : Proc) : Bool := s.rd (R.MGT_P_STATE_STATE p.idx) == 2
/-- It renders its services: after a restart they pause until it sets STARTED (R407). -/
def serves (s : State) (p : Proc) : Bool := s.runs p && !s.mgt.proc[p.fin].paused

/-! The grid (R29, R40). -/

/-- The root islands run. DEDUCED, log 4. -/
def live (s : State) : Bool := s.phase == .running
/-- The regulator's digital core runs: the root PLL has locked (R25). DEDUCED, log 4. -/
def rgcOn (s : State) : Bool := s.phase != .held
/-- The instant moves forward to `t`, never back. DESIGN CHOICE, log 1; DEDUCED, log 3. -/
def advance (s : State) (t : Nat) : State := { s with now := max s.now t }
/-- The first index at or after the present instant of a grid of period `p` not yet passed. -/
def gridIdx (s : State) (idx p : Nat) : Nat := max idx (cdiv s.now p)
/-- The next alignment edge is reached. -/
def toAlign (s : State) : State :=
  let k := s.gridIdx s.alignIdx 20
  { s with now := 20 * k, alignIdx := k + 1 }
/-- The alignment edge of the present instant, or the next one. DESIGN CHOICE, log 1; DEDUCED, log 3. -/
def toEdge (s : State) : State := if s.alignIdx ≠ 0 ∧ s.now = 20 * (s.alignIdx - 1) then s else s.toAlign
/-- Index of the alignment edge last reached. -/
def edge (s : State) : Nat := s.alignIdx - 1
/-- Index of the first alignment edge at or after the present instant. -/
def nextAlign (s : State) : Nat := cdiv s.now 20
/-- Time the package has spent frozen (R45). -/
def frozenTime (s : State) : Nat := s.frozenNs + (if s.frozen then s.now - s.frozeAt else 0)
/-- The package cycle count: a counter of a root island, which stops with the rest on a freeze edge (R29, R45). -/
def cyc (s : State) : Nat := s.now - s.frozenTime
/-- A satellite's own copy of the package cycle count: it advances with the satellite's clock, and stands while the
satellite has stopped for a freeze (R29, R45). DEDUCED, log 15. -/
def own (s : State) (x : Sat) : Nat :=
  let q := s.seam[x]
  match q.copy with
  | some c => if q.stopped then c else c + (s.now - q.copyAt)
  | none => s.cyc
/-- A satellite has missed a freeze and runs on (R45); it has missed a thaw and stands (R38). DEDUCED, log 15. -/
def late (s : State) (x : Sat) : Bool := s.frozen && !s.seam[x].stopped
def stuck (s : State) (x : Sat) : Bool := !s.frozen && s.seam[x].stopped
/-- The window in progress: index of the last window boundary passed. -/
def window (s : State) : Nat := s.windowIdx - 1

/-! Units. -/

def modAdm (s : State) (d : Die) (g : AdmDie → AdmDie) : State := { s with adm := s.adm.set d (g s.adm[d]) }
def modClk (s : State) (d : Die) (g : ClkDie → ClkDie) : State := { s with clkDie := s.clkDie.set d (g s.clkDie[d]) }
def modHold (s : State) (d : Die) (g : HoldSt → HoldSt) : State := { s with hold := s.hold.set d (g s.hold[d]) }
def modLoop (s : State) (l : Loop) (g : LoopSt → LoopSt) : State := { s with loop := s.loop.set l (g s.loop[l]) }
def modVcl (s : State) (x : Sat) (g : VclSt → VclSt) : State := { s with vcl := s.vcl.set x (g s.vcl[x]) }
def modTx (s : State) (l : Loop) (g : VsetTx → VsetTx) : State := { s with vsetTx := s.vsetTx.set l (g s.vsetTx[l]) }
def modSeam (s : State) (x : Sat) (g : SeamSt → SeamSt) : State := { s with seam := s.seam.set x (g s.seam[x]) }
/-- The satellite stops: its copy stands at what it has counted. -/
def stopSat (s : State) (x : Sat) : State :=
  let c := s.own x
  s.modSeam x fun q => { q with stopped := true, copy := q.copy.map fun _ => c }
/-- The satellite goes on from what its copy stands at. -/
def goSat (s : State) (x : Sat) : State := s.modSeam x fun q => { q with stopped := false, copyAt := s.now }
/-- A counter of a satellite gains `n`, unless the satellite has stopped for a freeze (R45). DEDUCED, log 15. -/
def countDie (s : State) (x : Sat) (f : Fld) (n : Nat := 1) : State :=
  if s.seam[x].stopped then s else s.wr f (s.rd f + n)
def modRgc (s : State) (g : RgcSt → RgcSt) : State := { s with rgc := g s.rgc }
def modClkGen (s : State) (g : ClkSt → ClkSt) : State := { s with clk := g s.clk }
/-- A phase of a loop. -/
def modPhase (s : State) (l : Loop) (p : Phase) (g : PhaseSt → PhaseSt) : State :=
  s.modLoop l fun L => { L with phases := L.phases.set p (g L.phases[p]) }

/-- An operation for each of a list, in order. -/
def each {α : Type} (s : State) (l : List α) (g : α → State → State) : State := l.foldl (fun s a => g a s) s
/-- An operation if a condition holds. DEDUCED, log 4. -/
def when (s : State) (b : Bool) (g : State → State) : State := if b then g s else s

/-- A side of a Seam sends a flit: it has the next number of that side's flow and is kept for a replay in a buffer of the 32
newest (R491). DESIGN CHOICE, log 46. -/
def kept (q : SeamSt) (now : Nat) (gov : Bool) (l : FlitLoad) : SeamSt :=
  if gov then { q with gBuf := (⟨q.gNum, l, false⟩ :: q.gBuf).take 32, gNum := q.gNum + 1, gSent := now }
  else { q with sBuf := (⟨q.sNum, l, false⟩ :: q.sBuf).take 32, sNum := q.sNum + 1, sSent := now }
def keepFlit (s : State) (x : Sat) (gov : Bool) (l : FlitLoad) : State := s.modSeam x fun q => kept q s.now gov l

/-- A report leaves a satellite for the governor, 40 ns away (R28); while its Seam is down it waits for the Seam and is
kept in the order made. -/
def report (s : State) (x : Sat) (r : Report) : State :=
  let q := s.seam[x]
  { s with
    inbox := s.inbox ++ [(s.now + 40, x, r)]
    seam := s.seam.set x (if s.on (R.ADM_SEAM_STS_UP x) then kept q s.now false (.report (s.now + 40) r) else q) }

end State

/-- The compute dies, the satellites, the loops. -/
def dies : List Die := List.finRange 8
def sats : List Sat := List.finRange 9
def loops : List Loop := List.finRange 16
def phaseList : List Phase := List.finRange 12
def clusters : List Cluster := List.finRange 16

end Sys2Proof.Machine
end

