-- ==== Sys2Proof/Machine/Operands.lean ====
section
/-!
DEFINITION. Machine/Operands.lean: the words that cross the links, read by their layouts: hint words (R66) and frames of
the voltage command links (R189, R190).
-/
namespace Sys2Proof.Machine

/-- LK_TIME at an instant, in 1/2 ns (R29, R326). -/
def State.lkHalfAt (s : State) (t : Nat) : Nat :=
  let c := s.lk
  let e : Int := (t : Int) - c.t0
  (2 * (t : Int) + c.off + (c.rate + c.steer) * e / 8000000 + (if c.len = 0 then 0 else c.slew * min e c.len / c.len)).toNat
/-- LK_TIME, in ns (R15). DEDUCED, log 40. -/
def State.lkTime (s : State) : Nat := s.lkHalfAt s.now / 2
/-- The first instant, the present one or later, at which LK_TIME has reached a value (R30): an estimate that eight steps
bring to within 2 ns, and the first instant from there on. -/
def State.whenLk (s : State) (t : Nat) : Nat :=
  let n := (List.range 8).foldl (fun (n : Nat) _ => ((n : Int) + t - (s.lkHalfAt n / 2 : Nat)).toNat) s.now
  max s.now (((List.range 5).map (n - 2 + ·)).find? (fun m => decide (t ≤ s.lkHalfAt m / 2)) |>.getD (n + 3))

/-! Cascade frames (R313, R314). -/

end Sys2Proof.Machine

namespace Sys2Proof.CasFrame
open Machine

def words (f : CasFrame) : List Nat :=
  [f.w0, f.w1, f.w2, f.w3, f.w4, f.w5, f.p0, f.p1, f.p2, f.p3, f.p4, f.p5, f.p6, f.w13, f.w14, f.w15]
def ver (f : CasFrame) : Nat := bits f.w0 0 4
def type (f : CasFrame) : Nat := bits f.w0 4 8
def dir (f : CasFrame) : Nat := bits f.w0 12 2
def hops (f : CasFrame) : Nat := bits f.w0 14 4
def src (f : CasFrame) : Nat := bits f.w1 0 14
def dst (f : CasFrame) : Nat := bits f.w1 16 14
def term (f : CasFrame) : Nat := f.w2
def lseq (f : CasFrame) : Nat := f.w3
def stamp (f : CasFrame) : Nat := f.w4 + f.w5 * 2 ^ 32
/-- The CRC-32C over W0 to W14. -/
def crc (f : CasFrame) : Nat := crc32c ((f.words.take 15).flatMap (bytesOf 4))
/-- The CRC is good (R313). -/
def crcGood (f : CasFrame) : Bool := f.crc == f.w15
/-- The frame types of R314. -/
def known (t : Nat) : Bool :=
  [0x01, 0x02, 0x03, 0x04, 0x10, 0x11, 0x12, 0x13, 0x14, 0x15, 0x16, 0x17, 0x20, 0x21, 0x22, 0x30, 0x31, 0x32, 0x33, 0x34,
   0x35, 0x40].contains t
/-- A receiver takes the frame: its CRC, version and type are good (R313). -/
def good (f : CasFrame) : Bool := f.crcGood && f.ver == 1 && known f.type
/-- A frame with its CRC; the reserved bits are sent as zero (R13). -/
def make (type dir hops src dst term lseq stamp : Nat) (p : List Nat) : CasFrame :=
  let f : CasFrame := ⟨1 + bits type 0 8 * 2 ^ 4 + bits dir 0 2 * 2 ^ 12 + bits hops 0 4 * 2 ^ 14,
    bits src 0 14 + bits dst 0 14 * 2 ^ 16, bits term 0 32, bits lseq 0 32, bits stamp 0 32, bits stamp 32 32,
    bits (nth p 0) 0 32, bits (nth p 1) 0 32, bits (nth p 2) 0 32, bits (nth p 3) 0 32, bits (nth p 4) 0 32,
    bits (nth p 5) 0 32, bits (nth p 6) 0 32, 0, 0, 0⟩
  { f with w15 := f.crc }
/-- P0 to P6. -/
def payload (f : CasFrame) : List Nat := [f.p0, f.p1, f.p2, f.p3, f.p4, f.p5, f.p6]

end Sys2Proof.CasFrame

namespace Sys2Proof.Machine

/-! Hint words (R66). -/

def hintVer (w : Nat) : Nat := bits w 60 4
def hintType (w : Nat) : Nat := bits w 58 2
def hintLead (w : Nat) : Nat := bits w 46 12
def hintOp (w : Nat) : Nat := bits w 32 12
def hintLayer (w : Nat) : Nat := bits w 16 16

end Sys2Proof.Machine

namespace Sys2Proof.VclFrame
open Machine

/-! Frames of a voltage command link (R189, R190). -/

def ver (f : VclFrame) : Nat := bits f.w0 12 4
def type (f : VclFrame) : Nat := bits f.w0 8 4
def seq (f : VclFrame) : Nat := bits f.w0 4 4
def loop (f : VclFrame) : Nat := bits f.w0 0 4
/-- The frame types of R190; VSET, PING, VACK, CUFF, PREARM, VNAK. -/
def known (t : Nat) : Bool := t == 1 || t == 2 || t == 8 || t == 9 || t == 0xA || t == 0xB
/-- The CRC, version and type are good (R189). -/
def good (f : VclFrame) : Bool :=
  crc16 [f.w0, f.w1, f.w2, f.w3, f.w4] == f.w5 && f.ver == 1 && known f.type
/-- A frame of version 1 with its CRC; the reserved words are sent as zero (R13, R189). -/
def make (type seq loop a b : Nat) : VclFrame :=
  let w0 := 0x1000 + type % 16 * 0x100 + seq % 16 * 0x10 + loop % 16
  ⟨w0, a % 0x10000, b % 0x10000, 0, 0, crc16 [w0, a % 0x10000, b % 0x10000, 0, 0]⟩

end Sys2Proof.VclFrame

namespace Sys2Proof.Machine

/-- The voltage a ratio code names, in mV: 500 mV and 5 mV for each step of its OPV code (R142, R159). -/
def State.opv (s : State) (k : Nat) : Nat :=
  500 + 5 * s.rd (match k with
    | 0 => R.CLK_OPV0_DIV4 | 1 => R.CLK_OPV0_DIV5 | 2 => R.CLK_OPV0_DIV6 | 3 => R.CLK_OPV0_DIV8
    | 4 => R.CLK_OPV1_DIV10 | 5 => R.CLK_OPV1_DIV12 | _ => R.CLK_OPV1_DIV16)
/-- The cost scale of a ratio code (R50, R79). -/
def State.scale (s : State) (k : Nat) : Nat :=
  s.rd (match k with
    | 0 => R.ADM_OPSCALE0_DIV4 | 1 => R.ADM_OPSCALE0_DIV5 | 2 => R.ADM_OPSCALE0_DIV6 | 3 => R.ADM_OPSCALE0_DIV8
    | 4 => R.ADM_OPSCALE1_DIV10 | 5 => R.ADM_OPSCALE1_DIV12 | _ => R.ADM_OPSCALE1_DIV16)
/-- The divisor a ratio code stands for (R107). -/
def divisor (k : Nat) : Nat := match k with
  | 0 => 4 | 1 => 5 | 2 => 6 | 3 => 8 | 4 => 10 | 5 => 12 | _ => 16

end Sys2Proof.Machine
end

