-- ==== Sys2Proof/Machine/Link.lean ====
section
/-!
DEFINITION. Machine/Link.lean: what leaves on the links inside the package: frames of the voltage command links, the
VSETs of a satellite with its V_ack, and stamped commands on the Seams.
-/
namespace Sys2Proof.Machine
namespace State

/-- The satellite whose link serves a loop: S*n* for L*n*, *n* = 0 to 7, and S8 for L8 to L10 (R163, R189). -/
def satOf (l : Loop) : Sat := if h : l.val < 8 then ⟨l.val, by omega⟩ else 8

/-! The voltage command links (R188, R193). -/

/-- A side of a link. -/
def side (s : State) (x : Sat) (e : VclEnd) : VclSide := match e with
  | .satellite => s.vcl[x].sat
  | .rgc => s.vcl[x].rgc
def modSide (s : State) (x : Sat) (e : VclEnd) (g : VclSide → VclSide) : State := s.modVcl x fun v => match e with
  | .satellite => { v with sat := g v.sat }
  | .rgc => { v with rgc := g v.rgc }

/-- When a side can begin to send a frame: now, or once the frames before it are sent, 12 ns each (R188). -/
def freeAt (v : VclSide) (now : Nat) : Nat := match v.flight.getLast? with
  | some q => max now (q.start + 12)
  | none => now

/-- A frame leaves an end of a voltage command link; it arrives 16 ns after its sending begins (R188). DEDUCED, log 30. -/
def sendVcl (s : State) (x : Sat) (e : VclEnd) (f : VclFrame) : State :=
  (s.modSide x e fun v => { v with sent := s.now, flight := v.flight ++ [⟨freeAt v s.now, f⟩] }).emit (.vcl x e f)

/-- Frames are sent one after the other from an instant on. -/
def sentFrom (t : Nat) : List VclFrame → List VclSent
  | [] => []
  | f :: l => ⟨t, f⟩ :: sentFrom (t + 12) l

/-- A CUFF frame is sent by the RGC twice in a row and at once: it pre-empts what is being sent, which is sent again
afterwards, and takes the place of an earlier CUFF of its loop that is not wholly sent (R193). DEDUCED, log 30. -/
def sendVclCuff (s : State) (x : Sat) (f : VclFrame) : State :=
  let l := s.vcl[x].rgc.flight
  let gone := l.filter fun q => decide (q.start + 12 ≤ s.now)
  let open_ := l.filter fun q => decide (s.now < q.start + 12)
  let rest := (open_.map (·.frame)).filter fun g => g.w0 != f.w0
  let cut := (open_.filter fun q => decide (q.start < s.now) && q.frame.w0 != f.w0).map (·.frame)
  let s := s.modSide x .rgc fun v => { v with sent := s.now, flight := gone ++ sentFrom s.now (f :: f :: rest) }
  ((s.emit (.vcl x .rgc f)).emit (.vcl x .rgc f)).each cut fun g s => s.emit (.vcl x .rgc g)

/-- Margin steps the sentinel has applied to a compute rail; 0 on every other rail (R50, R284). -/
def margin (s : State) (l : Loop) : Nat := if l.val < 8 then s.rd (R.SEN_DIE_STATUS_VSTEP l) else 0

/-- V_ack of a die, with its mirror in the register (R141, R160). -/
def setVack (s : State) (d : Die) (mv : Nat) : State :=
  (s.modClk d fun c => { c with vAck := mv }).wr (R.CLK_DIE_DIV_V_ACK d) ((mv - 500) / 5)

/-- A new VSET of target `a` and margin `m` leaves the satellite, with the next sequence number (R190). -/
def newVset (s : State) (l : Loop) (a m : Nat) (due again : Option Nat) : State :=
  let x := satOf l
  let q := (s.satSeq[x] + 1) % 16
  (({ s with satSeq := s.satSeq.set x q }).modTx l fun _ => ⟨q, a, m, due, again⟩).sendVcl x .satellite
    (VclFrame.make 1 q l a m)

/-- The VSET that ends a pre-arm: the newest one again, with PA_REL at 1 and its target unchanged (R186, R190). -/
def sendPaRel (s : State) (l : Loop) : State :=
  let t := s.vsetTx[l]
  s.sendVcl (satOf l) .satellite (VclFrame.make 1 t.seq l t.a (t.m + 0x8000))

/-- The satellite of a compute die asks the voltage of a ratio code (R141, R143, R145). DEDUCED, log 30. -/
def askVoltage (s : State) (d : Die) (k : Nat) : State :=
  let l := d.loop
  let a := s.opv k
  let m := s.margin l
  let tv := a + 15 * m
  let va := s.clkDie[d].vAck
  let s := s.modClk d fun c => { c with mCost := max c.mCost m }
  if tv ≤ va then
    ((s.newVset l a m none none).setVack d tv).flag (R.CLK_DIE_DIV_ACK_WAIT d) false
  else
    let us := cdiv (tv - va) (s.rd (R.RGC_L_SLEW_SLEW l)) + s.rd R.CLK_RAMP_ACK_GRACE
    (s.newVset l a m (some (s.now + 1000 * us)) (some (s.now + 2000))).flag (R.CLK_DIE_DIV_ACK_WAIT d) true

/-- The voltage a die needs for a ratio code (R142). -/
def need (s : State) (d : Die) (k : Nat) : Nat := s.opv k + 15 * s.margin d.loop

/-- The first stroke boundary a command sent now reaches its satellite in time for (R28, R38). -/
def nextStroke (s : State) : Nat := 64 * cdiv (s.cyc + 40) 64

/-- A window report, which is lost with the Seam; the other reports wait for it (R39, R92). DEDUCED, log 24. -/
def lostOnWay (r : Report) : Bool := match r with
  | .window _ | .temps _ => true
  | _ => false

/-- A Seam is up. -/
def seamUp (s : State) (x : Sat) : Bool := s.on (R.ADM_SEAM_STS_UP x)

/-- Freeze commands and thermal demands, calibration steps among them, are sent twice (R244, R491). DEDUCED, log 24. -/
def sentTwice (b : SeamBody) : Bool := match b with
  | .freeze | .thaw | .demand | .calStep _ => true
  | _ => false

/-- A command leaves the governor for a satellite; while the Seam is up it is on its way until SEAM_COMMAND_ARRIVAL brings
it (R28, R37, R491). DEDUCED, log 24. -/
def sendSeam (s : State) (x : Sat) (edge : Option Nat) (b : SeamBody) : State :=
  if !s.seamUp x then s
  else
    let c : SeamCmd := ⟨edge, b⟩
    let k := s.seam[x].nextId
    let l : List SeamFlit := ⟨s.now, k, c⟩ :: (if sentTwice b then [⟨s.now + 4, k, c⟩] else [])
    let s := s.modSeam x fun q => { q with nextId := k + 1, flits := q.flits ++ l }
    (s.each l fun f s => s.keepFlit x true (.cmd f)).emit (.seam x c)

/-- A message leaves the governor for the RGC, which has it one governor cycle later (R37). -/
def sendRgc (s : State) (m : BusMsg) : State :=
  { s with bus := s.bus ++ [(s.now + 1, m)] }.emit (match m with
    | .loadStep l di rate win => .loadStep l di rate win
    | .release l => .releasePreArm l
    | .setPoint l mv => .setPoint l mv)

/-- A message of the governor reaches the RGC: the first of those on their way that is it (R37). DEDUCED, log 24. -/
def onBus (s : State) (m : BusMsg) (g : State → State) : State :=
  match s.bus.find? fun e => e.2 == m with
  | some e => g { s.advance e.1 with bus := s.bus.erase e }
  | none => s

/-- A die is fenced, or held at the safe tier. -/
def fenced (s : State) (d : Die) : Bool := s.on (R.ADM_SEAM_STS_FENCED d)
def safeTier (s : State) (d : Die) : Bool := s.on (R.ADM_SEAM_STS_SAFE d)
/-- A compute die takes part in admission: neither fenced nor at the safe tier (R104). -/
def inShare (s : State) (d : Die) : Bool := !s.fenced d && !s.safeTier d

/-- A removal, an insertion or a map change goes to the satellite, or waits for its Seam. DEDUCED, log 24. -/
def toSat (s : State) (d : Die) (b : SeamBody) : State :=
  if s.seamUp d.sat then s.sendSeam d.sat none b else s.modSeam d.sat fun q => { q with wait := q.wait ++ [b] }

end State
end Sys2Proof.Machine
end

