-- ==== Sys2Proof/Machine/Trace.lean ====
section
/-!
DEFINITION. Machine/Trace.lean: the unit rings and the trace port's FIFO (R435, R439–R443).
-/
namespace Sys2Proof.Machine
namespace State

/-- A packet's words as the port sends them: the header, with STAMP, UNIT, LEN, VER 1 and TYPE, and what follows (R440). -/
def trcSent (p : TrcPkt) : List Nat :=
  (p.type % 2 ^ 8 + 2 ^ 8 + 2 ^ 12 * p.words.length + 2 ^ 16 * (p.unit % 2 ^ 16) + 2 ^ 32 * p.stamp) :: p.words

/-- Words in the FIFO of the trace port: a header and the words that follow it, for each packet (R440, R443). -/
def trcWords (l : List TrcPkt) : Nat := (l.map fun p => p.words.length + 1).foldl (· + ·) 0

/-- The FIFO changes; STATUS.FIFO shows its words. -/
def setFifo (s : State) (l : List TrcPkt) : State := { s with trcFifo := l }.wr R.TRC_STATUS_FIFO (trcWords l)

/-- A packet of source bit `src` is dropped and counted (R443). -/
def trcLose (s : State) (src : Fin 5) : State :=
  { s with trcDrop := s.trcDrop.set src (s.trcDrop[src] + 1) }.count R.TRC_CNT_LOST_COUNT

/-- A packet that is always sent: SYNC, LOST and FREEZE (R440). -/
def traceAlways (s : State) (type unit : Nat) (words : List Nat) : State :=
  if s.on R.TRC_CTL_EN then s.setFifo (s.trcFifo ++ [⟨type, unit, s.cyc % 2 ^ 32, words⟩]) else s

/-- A packet of a source: made while the port is enabled, its source selected and the package not frozen; RING and CAS
packets are dropped above 7,168 words, every packet when the FIFO's 8,192 words do not hold it (R440, R443).
DESIGN CHOICE, log 14. -/
def trace (s : State) (type unit : Nat) (src : Fin 5) (words : List Nat) : State :=
  if !s.on R.TRC_CTL_EN || !bit (s.rd R.TRC_CTL_SRC) src.val || s.frozen then s
  else
    let n := trcWords s.trcFifo
    if ((type == 3 || type == 6) && n > 7168) || n + words.length + 1 > 8192 then s.trcLose src
    else s.setFifo (s.trcFifo ++ [⟨type, unit, s.cyc % 2 ^ 32, words⟩])

/-- The running layer and operator of a die, 0 while none runs. -/
def running (s : State) (d : Die) : Nat × Nat := s.adm[d].run.getD (0, 0)

/-- A die's running layer and operator match LK_TRC_FILTER and LK_TRC_FILTER_OP under their masks (R441). -/
def trcPass (s : State) (d : Die) : Bool :=
  let (la, op) := s.running d
  la &&& s.rd R.TRC_FILTER_LMASK == s.rd R.TRC_FILTER_LAYER &&& s.rd R.TRC_FILTER_LMASK &&
  op &&& s.rd R.TRC_FILTER_OP_OMASK == s.rd R.TRC_FILTER_OP_OPERATOR &&& s.rd R.TRC_FILTER_OP_OMASK

/-- The word of a ring entry made at a cycle count. -/
def ringWord (cyc kind arg : Nat) : Nat := cyc % 2 ^ 32 * 2 ^ 32 + kind * 2 ^ 24 + arg % 2 ^ 24
/-- An entry is written to a ring (R435). -/
def ringPut (s : State) (key word : Nat) : State :=
  let r := (Tab.find s.rings key).getD ⟨0, []⟩
  { s with rings := Tab.put s.rings key ⟨r.count + 1, (word :: r.entries).take 64⟩ }

/-- A unit event of an engine site: its ring, and a RING packet of a die with feature 3 whose tag passes. The packet
crosses the die's data link in the collector's share; the spec does not say how many flit slots pass in a time, so
whether it fits is a free value, and with PCT at 0 it never does (R441, R442, R494). The rings of a die whose satellite has
stopped for a freeze stand still (R45). -/
def ringSite (s : State) (d : Die) (site kind arg : Nat) : State :=
  if s.seam[d.sat].stopped then s else
  let w := State.ringWord (s.own d.sat) kind arg
  let t := s.ringPut (576 * d.val + site) w
  if !t.on R.TRC_CTL_EN || !bit (t.rd R.TRC_CTL_SRC) 1 || t.frozen || !t.trcPass d ||
      !bit (t.rd (R.ADM_SEAM_STS_FEAT d)) 3 then t
  else if t.rd R.TRC_CTL_PCT = 0 then t.trcLose 1
  else
    let (v, u) := t.draw
    if v % 2 = 0 then u.trcLose 1 else u.trace 3 (576 * d.val + site) 1 [w]

/-- A unit event of a stage channel; in a freeze the channels' rings stand still (R45). -/
def ringChan (s : State) (ch kind arg : Nat) : State :=
  if s.frozen then s else
  let w := State.ringWord s.cyc kind arg
  (s.ringPut (0x10000 + ch) w).trace 3 ch 1 [w]

/-- The stage channel of a phase (R164). -/
def chan (s : State) (l : Loop) (p : Phase) : Nat := s.rd (R.RGC_L_CFG_PH_BASE l) + p.val

end State
end Sys2Proof.Machine
end

