-- ==== Sys2Proof/Machine/Admit.lean ====
section
/-!
DEFINITION. Machine/Admit.lean: the pool a satellite applies, the Cuff, and hints (R48, R66–R77).
-/
namespace Sys2Proof.Machine
namespace State

/-! The pool (R32, R48). -/

/-- The smallest of the requests for a die's pool: the governor's command, POOL_CAP, a storm, the safe tier and a fence. -/
def poolAsked (s : State) (d : Die) : Nat :=
  let a := s.adm[d]
  let p := min a.cmdPool (s.rd (R.ADM_DIE_POOL_CAP_CAP d))
  let p := match a.storm with
    | some (l, _) => min p l
    | none => p
  let p := if s.safeTier d then min p (s.rd R.ADM_SEAM_CFG_SAFE_POOL) else p
  if s.fenced d then 0 else p

/-- The satellite applies its pool: a reduction at any stroke boundary; an increase at a window boundary only, and not
while its Seam is down (R32, R39). -/
def applyPool (s : State) (d : Die) (atWindow : Bool) : State :=
  let p := s.poolAsked d
  if p ≤ s.rd (R.ADM_DIE_STATUS_POOL d) || (atWindow && s.seamUp d.sat) then s.wr (R.ADM_DIE_STATUS_POOL d) p else s

/-! The Cuff (R73–R77). -/

/-- The hold level of a set of active causes, in percent of the pool: the lowest of their levels (R73, R76). -/
def cuffPct (s : State) (causes : Nat) : Nat :=
  let l := s.rd R.ADM_CUFF_LVL_LEVEL_PCT
  let a := s.rd R.ADM_CUFF_LVL_ALERT_PCT
  if bit causes CuffCause.alert.bit then (if causes = 2 ^ CuffCause.alert.bit then a else min l a) else l

/-- The causes whose levels apply: once ALERT and DROOP have met, the lower level applies until both clear (R78). -/
def levelCauses (causes : Nat) (both : Bool) : Nat :=
  if both then causes ||| 2 ^ CuffCause.alert.bit else causes
/-- ALERT and DROOP are active together, or have been since one of them was. -/
def bothAfter (causes : Nat) (both : Bool) : Bool :=
  let a := bit causes CuffCause.alert.bit
  let d := bit causes CuffCause.droop.bit
  (a && d) || (both && (a || d))

/-- Tokens granted to a list of sites. -/
def tokens (l : List Grant) : Nat := (l.map (·.cost)).foldl (· + ·) 0

/-- The grants that stay when sites are taken off in the reverse of their order until at most `lvl` tokens are granted. -/
def keepUpTo (lvl : Nat) : List Grant → List Grant
  | [] => []
  | g :: t => if g.cost ≤ lvl then (if tokens (g :: t) ≤ lvl then g :: t else g :: keepUpTo (lvl - g.cost) t) else []

/-- The satellite chooses the held set for a level and trims the grants not yet issued (R75). DEDUCED, log 16. -/
def chooseHeld (s : State) (d : Die) (lvl causes : Nat) : State :=
  let a := s.adm[d]
  let keep := keepUpTo lvl a.issued
  let off := (a.issued.drop keep.length).map (·.site)
  let next := keepUpTo lvl a.chosen
  let s := s.modAdm d fun a => { a with issued := keep, chosen := next, held := a.held ++ off }
  let s := s.wr (R.ADM_DIE_STROKE_GRANTED d) (tokens next)
  let s := if off.isEmpty then s else s.emit (.hold d off true)
  s.each off.reverse fun x s => s.ringSite d x 2 causes

/-- A Cuff begins, or its level is lowered: it is counted, latched by cause and raised; STORM_COUNT of them within
STORM_WIN windows make a storm (R77). DEDUCED, log 17. -/
def cuffCount (s : State) (d : Die) (started lvl : Nat) : State :=
  let s := (s.countDie d.sat (R.ADM_DIE_CNT_CUFF_COUNT d)).count (R.REC_AO_COUNT 6)
  let s := s.setMask (R.ADM_DIE_CUFF_CAUSE_PEAK d) (bits started 0 1)
  let s := s.setMask (R.ADM_DIE_CUFF_CAUSE_AVG d) (bits started 1 1)
  let s := s.setMask (R.ADM_DIE_CUFF_CAUSE_DROOP d) (bits started 2 1)
  let s := s.setMask (R.ADM_DIE_CUFF_CAUSE_ALERT d) (bits started 3 1)
  let s := s.setMask (R.ADM_DIE_CUFF_CAUSE_PHASE d) (bits started 4 1)
  let s := s.raise Ev.ADM_CUFF d s.adm[d].causes
  let w := s.window
  let l := w :: s.adm[d].cuffWins.filter fun k => w < k + s.rd R.ADM_CUFF_LVL_STORM_WIN
  let s := s.modAdm d fun a => { a with win := { a.win with cuffs := a.win.cuffs + 1 } }
  let s := s.modAdm d fun a => { a with cuffWins := l }
  if s.rd R.ADM_CUFF_LVL_STORM_COUNT ≤ l.length then
    ((s.modAdm d fun a => { a with storm := some (lvl, 0) }).flag (R.ADM_DIE_CUFF_CAUSE_STORM d) true).raise Ev.ADM_CUFF_STORM d lvl
  else s

/-- The active causes of a die's Cuff change (R73, R75, R76). A new cause that begins the Cuff or lowers its level acts
as a request; once every cause has cleared, the Cuff waits for its release at a stroke boundary. DEDUCED, log 17. -/
def cuffCauses (s : State) (d : Die) (causes : Nat) : State :=
  let a := s.adm[d]
  let active := s.on (R.ADM_DIE_STATUS_CUFF d)
  let both := bothAfter causes a.both
  let old := s.cuffPct (levelCauses a.causes a.both)
  let new := s.cuffPct (levelCauses causes both)
  let s := s.modAdm d fun a => { a with causes := causes, both := both }
  if causes = 0 then s
  else
    let lvl := new * s.rd (R.ADM_DIE_STATUS_POOL d) / 100
    let fresh := causes - (causes &&& a.causes)
    let s := s.modAdm d fun a => { a with cuffWin := true }
    if !active then
      let s := (s.flag (R.ADM_DIE_STATUS_CUFF d) true).modAdm d fun a => { a with level := lvl, cuffFirst := none }
      (s.chooseHeld d lvl causes).cuffCount d causes lvl
    else if fresh ≠ 0 ∧ lvl < a.level then
      ((s.modAdm d fun a => { a with level := lvl }).chooseHeld d lvl causes).cuffCount d fresh lvl
    else if a.causes = 0 ∨ old < new then s.modAdm d fun a => { a with level := lvl }
    else if bit causes CuffCause.phase.bit ∧ lvl < a.level then
      (s.modAdm d fun a => { a with level := lvl }).chooseHeld d lvl causes
    else s

/-- One cause of a die's Cuff starts or clears. -/
def cuffOne (s : State) (d : Die) (c : CuffCause) (active : Bool) : State :=
  s.cuffCauses d (withBit s.adm[d].causes c.bit active)

/-! Hints (R66–R70). -/

/-- A die may arm and use fast catch: none of the conditions of R70 holds, and the die has the feature (R494). -/
def fastAble (s : State) (d : Die) : Bool :=
  s.seamUp d.sat && !s.safeTier d && !s.fenced d && s.vcl[d.sat].sat.up && bit (s.rd (R.ADM_SEAM_STS_FEAT d)) 0

/-- A hint could arm fast catch by its lead (R68). -/
def Hint.canArm (s : State) (h : Hint) : Bool := s.rd R.ADM_HINT_MIN_LEAD ≤ h.lead

/-- Fast catch is armed by one of the die's hints: its pre-arm has been announced and acknowledged, and the other conditions
hold now (R68, R70, R109). -/
def fastArmed (s : State) (d : Die) : Bool :=
  let a := s.adm[d]
  let by_ (h : Option Hint) : Bool := (h.map fun h => h.armed && Hint.canArm s h).getD false
  s.on R.ADM_CTL_FAST_EN && s.fastAble d && !a.noFast && (by_ a.pend || by_ a.act)
/-- FAST_ARMED shows it (R80). -/
def showArm (s : State) (d : Die) : State := s.flag (R.ADM_DIE_STATUS_FAST_ARMED d) (s.fastArmed d)

/-- The pending and active hints change, with the registers that show them (R80). -/
def setHints (s : State) (d : Die) (p a : Option Hint) : State :=
  let s := s.modAdm d fun x => { x with pend := p, act := a }
  let s := s.flag (R.ADM_DIE_HINT_VALID d) p.isSome
  let s := s.wr (R.ADM_DIE_HINT_LAYER d) ((p.map (·.layer)).getD 0)
  let s := s.wr (R.ADM_DIE_HINT_OPERATOR d) ((p.map (·.op)).getD 0)
  s.showArm d

/-- A hint has been consumed or disarmed: the governor is told, and PA_REL ends the pre-arm unless another hint that can
arm remains (R69). -/
def hintEnded (s : State) (d : Die) (h : Hint) (disarmed : Bool) : State :=
  let s := s.report d.sat (.hintEnded h.id disarmed)
  let a := s.adm[d]
  let rest := (a.pend.map (Hint.canArm s)).getD false || (a.act.map (Hint.canArm s)).getD false
  if rest then s else s.sendPaRel d.loop

/-- The active hint ends, as consumed or disarmed (R69, R70). -/
def endActive (s : State) (d : Die) (disarmed : Bool := false) : State :=
  match s.adm[d].act with
  | none => s
  | some h => (s.setHints d s.adm[d].pend none).hintEnded d h disarmed

/-- The pending hint is disarmed (R69, R70). -/
def endPending (s : State) (d : Die) : State :=
  match s.adm[d].pend with
  | none => s
  | some h => (s.setHints d none s.adm[d].act).hintEnded d h true

/-- On entering a condition of R70 the die drops its hints and clears its arm at once; each is reported as dropped.
DEDUCED, log 18. -/
def dropHints (s : State) (d : Die) : State :=
  let a := s.adm[d]
  let s := s.setHints d none none
  let s := match a.pend with
    | some h => s.report d.sat (.hintEnded h.id true)
    | none => s
  match a.act with
  | some h => s.report d.sat (.hintEnded h.id true)
  | none => s

/-- A PREARM frame with ARMED at 1 reaches the satellite: each hint that can arm by its lead and whose load step the
governor has announced is acknowledged, and its timeout runs, in strokes of the satellite (R68, R69). -/
def armHints (s : State) (d : Die) : State :=
  let arm (h : Hint) : Hint :=
    if Hint.canArm s h && !h.armed && s.govDie[d].announced.contains h.id then
      { h with armed := true, deadline := some (s.own d.sat + 64 * s.rd R.ADM_HINT_ARM_TIMEOUT) }
    else h
  s.setHints d (s.adm[d].pend.map arm) (s.adm[d].act.map arm)

/-- A PREARM frame with ARMED at 0: the arm clears, and each hint it served is disarmed (R70). -/
def unarm (s : State) (d : Die) : State :=
  let served (h : Option Hint) : Bool := (h.map (·.armed)).getD false
  let s := if served s.adm[d].act then s.endActive d true else s
  if served s.adm[d].pend then s.endPending d else s

end State
end Sys2Proof.Machine
end

