-- ==== Sys2Proof/Machine/Signals.lean ====
section
/-!
DEFINITION. Machine/Signals.lean: messages of the vectors and the signalling of functions (R370–R372).
-/
namespace Sys2Proof.Machine
namespace State

/-- A message of a vector is sent; a vector whose ADDR is 0 sends nothing (R370). -/
def sendMessage (s : State) (v : Nat) : State :=
  if s.rd (R.INT_V_ADDR_ADDR v) = 0 then s
  else s.emit (.message v (s.rd (R.INT_V_ADDR_ADDR v)) (s.rd (R.INT_V_DATA_DATA v)))

/-- A vector owes a message: it is sent, or held by MASK (R372). -/
def owe (s : State) (v : Nat) : State :=
  if s.on (R.INT_V_CTL_MASK v) then s.flag (R.INT_V_CTL_PEND v) true else s.sendMessage v

/-- An event signals function `k`: EVT, COUNT and LAST follow, and the vector owes a message when EVT rises. A signal that
no event causes has no code to place in LAST. -/
def signal (s : State) (k : Nat) (code : Option Nat) : State :=
  let was := s.on (R.INT_F_CAUSE_EVT k)
  let s := (s.flag (R.INT_F_CAUSE_EVT k) true).wr (R.INT_F_CAUSE_COUNT k) (sat 16 (s.rd (R.INT_F_CAUSE_COUNT k) + 1))
  let s := match code with
    | some c => s.wr (R.INT_F_LAST_CODE k) c
    | none => s
  if was then s else s.owe (32 + k)

/-- A non-maskable event signals function `k`: its message is sent at once, and covers one that would be owed too. -/
def signalNmi (s : State) (k code : Nat) : State :=
  let s := (s.flag (R.INT_F_CAUSE_EVT k) true).wr (R.INT_F_CAUSE_COUNT k) (sat 16 (s.rd (R.INT_F_CAUSE_COUNT k) + 1))
  ((s.wr (R.INT_F_LAST_CODE k) code).flag (R.INT_F_CAUSE_NMI k) true).sendMessage (32 + k)

end State
end Sys2Proof.Machine
end

