-- ==== Sys2Proof/Machine/CasLinks.lean ====
section
/-!
DEFINITION. Machine/CasLinks.lean: the lanes of the cascade: sending, receiving, routing, roles and the tree (R310–R323,
R335, R339).
-/
namespace Sys2Proof.Machine

/-- The cascade lanes. -/
def lanes : List Lane := List.finRange 9

namespace State

def modCas (s : State) (g : CasSt → CasSt) : State := { s with cas := g s.cas }
def modLane (s : State) (k : Lane) (g : CasLane → CasLane) : State :=
  s.modCas fun c => { c with lane := c.lane.set k (g c.lane[k]) }

def index (s : State) : Nat := s.rd R.CAS_ID_INDEX
def term (s : State) : Nat := s.rd R.CAS_TERM_TERM
/-- STATE: 0 alone, 1 forming, 2 formed, 3 detached, 4 no quorum. -/
def casState (s : State) : Nat := s.rd R.CAS_STATUS_STATE
def isCox (s : State) : Bool := s.rd R.CAS_STATUS_ROLE == 1
def isStandby (s : State) : Bool := s.rd R.CAS_STATUS_ROLE == 2
/-- The steer of LK_TIME that LK_CAS_STEER asks for, at most ±100 ppm; ignored on a package that is not the Cox (R326,
R345). A change of it sets LK_TIME off again from the present instant. DEDUCED, log 40. -/
def steerAsked (s : State) : Int :=
  if s.isCox then max (-1600) (min 1600 (signed 16 (s.rd R.CAS_STEER_PPM))) else 0
/-- Takes up a changed steering from the present instant (R326, R345). DEDUCED, log 40. -/
def syncSteer (s : State) : State :=
  if s.lk.steer = s.steerAsked then s
  else
    let c := s.lk
    let e := min (s.now - c.t0) c.len
    let done : Int := if c.len = 0 then 0 else c.slew * e / c.len
    { s with lk := ⟨s.now, (s.lkHalfAt s.now : Int) - 2 * s.now, c.rate, c.slew - done, c.len - e, s.steerAsked⟩ }

/-- A cascade freeze is in effect at the package. -/
def casFrozen (s : State) : Bool := s.on R.CAS_SCHED_FROZEN
def laneUp (s : State) (k : Lane) : Bool := s.on (R.CAS_LANE_STS_UP k)
def upLanes (s : State) : List Lane := lanes.filter fun (k : Lane) => s.laneUp k
/-- The up lane, and the down ports, by role (R310). -/
def upLane (s : State) : Option Lane := lanes.find? fun (k : Lane) => s.rd (R.CAS_LANE_STS_ROLE k) == 1
def downs (s : State) : List Lane := lanes.filter fun (k : Lane) => s.rd (R.CAS_LANE_STS_ROLE k) == 2
/-- The package acts as the root of its tree: it is alone, or the Cox. -/
def isRoot (s : State) : Bool := s.casState == 0 || s.isCox
/-- The root may release barriers and send broadcasts, scheduled operations and PACE: it is alone, or N > EXPECT / 2
(R325). -/
def mayAct (s : State) : Bool :=
  s.casState == 0 || (s.isCox && decide (s.rd R.CAS_CFG_EXPECT < 2 * s.rd R.CAS_STATUS_N))

/-! Sending (R312, R313, R335, R339). -/

/-- The trace event of a frame of type 0x20 to 0x41 sent or received (R339, R440). -/
def casTrace (s : State) (k : Lane) (f : CasFrame) (rx : Bool) : State :=
  if s.on R.CAS_CTL_TRACE_EN && bit (s.rd R.CAS_VER_CFEAT) 2 && decide (0x20 ≤ f.type) && decide (f.type ≤ 0x41) then
    s.trace 6 k 3 [k.val + 16 * b2n rx + f.lseq * 2 ^ 32, f.stamp, s.lkTime]
  else s

/-- HELLO and ACK are neither counted nor acknowledged. -/
def counted (t : Nat) : Bool := !(t == 0x01 || t == 0x02)

/-- A frame goes out on a lane now. -/
def putFrame (s : State) (k : Lane) (q : CasSend) : State :=
  let c := counted q.type
  let n := if c then s.cas.lane[k].tx + 1 else 0
  let f := CasFrame.make q.type q.dir q.hops q.src q.dst s.term n (q.stamp.getD (s.lkHalfAt s.now)) q.p
  let s := s.modLane k fun l => { l with
    tx := if c then n else l.tx, sent := s.now, replay := if c then l.replay ++ [f] else l.replay }
  (s.casTrace k f false).emit (.cas k f q.item)

/-- A frame is to go out on a lane: it waits while the replay buffer of 64 is full. -/
def sendFrame (s : State) (k : Lane) (q : CasSend) : State :=
  if !s.laneUp k && q.type != 0x01 then s
  else if counted q.type && (decide (64 ≤ s.cas.lane[k].replay.length) || !s.cas.lane[k].queue.isEmpty) then
    s.modLane k fun l => { l with queue := l.queue ++ [q] }
  else s.putFrame k q

/-- The package originates a frame; while it is frozen by the cascade it originates only HELLO, ACK, TSYNC, SCHED and
SCHED_REQ, and the rest waits for the thaw (R335). -/
def originate (s : State) (k : Lane) (q : CasSend) : State :=
  if s.casFrozen && !(q.type ≤ 0x04 || q.type == 0x32 || q.type == 0x33) then
    s.modCas fun c => { c with later := c.later ++ [(k, q)] }
  else s.sendFrame k q

/-- A frame of the package itself on its up lane, or on every down port. -/
def sendUp (s : State) (type : Nat) (p : List Nat) : State :=
  match s.upLane with
  | some k => s.originate k { type, dir := 1, src := s.index, p }
  | none => s
def sendDown (s : State) (type : Nat) (p : List Nat) : State :=
  s.each s.downs fun k s => s.originate k { type, dir := 2, src := s.index, p }

/-- A package on its internal oscillator is degraded (R327). -/
def syncSource (s : State) : State :=
  let bad := s.rd R.CLK_SRC_ACTIVE == 2
  let was := s.on R.CAS_TSYNC_DEGRADED
  (s.flag R.CAS_TSYNC_DEGRADED bad).raiseIf (bad && !was) Ev.CAS_TIME_DEGRADED

/-- An ACK frame (R312). -/
def sendAck (s : State) (k : Lane) (lseq : Nat) (neg : Bool) : State :=
  s.sendFrame k { type := 0x02, dir := 0, src := s.index, p := [lseq, b2n neg] }

/-- A frame in transit passes on with HOPS raised (R313). -/
def pass (s : State) (k : Lane) (f : CasFrame) (keepStamp : Bool) : State :=
  s.sendFrame k { type := f.type, dir := f.dir, hops := sat 4 (f.hops + 1), src := f.src, dst := f.dst, p := f.payload
                  stamp := if keepStamp then some f.stamp else none }
def passDown (s : State) (f : CasFrame) : State := s.each s.downs fun k s => s.pass k f false
def passUp (s : State) (f : CasFrame) (keepStamp : Bool) : State :=
  match s.upLane with
  | some k => s.pass k f keepStamp
  | none => s

/-- The lane of a unicast frame: the learned port, else up, also where it came from there; none at the Cox, or where there is
no way up (R320). -/
def route (s : State) (dst : Nat) : Option Lane :=
  match Tab.find s.cas.ports dst with
  | some k => if h : k < 9 then some ⟨k, h⟩ else none
  | none => s.upLane

/-- An item of mirrored state goes to the standby (R321). -/
def sendMirror (s : State) (item : MirrorItem) : State :=
  let dst := s.rd R.CAS_COX_STBY
  match s.upLanes.find? (fun (k : Lane) => s.rd (R.CAS_LANE_STS_PEER k) == dst) with
  | some k => if s.isCox then s.originate k { type := 0x16, dir := 3, src := s.index, dst, item := some item } else s
  | none => s

/-- N and the term go to the standby, one MIRROR frame for each change (R321). -/
def mirrorCount (s : State) : State :=
  let c := (s.rd R.CAS_STATUS_N, s.term)
  if s.cas.told = some c then s else (s.modCas fun q => { q with told := some c }).sendMirror (.count c.1 c.2)

/-! HELLO and the choice of the Cox (R316). -/

/-- A key ranks before another: a higher PRIO, and among equals a lower UID. DEDUCED, log 39. -/
def ranks (p u p' u' : Nat) : Bool := decide (p' < p) || (p == p' && decide (u < u'))

/-- A candidate with the way to it: priority, UID, index, distance of the neighbour, and lane; none for the package
itself. -/
structure Cand where
  prio : Nat
  uid  : Nat
  idx  : Nat
  dist : Nat
  lane : Option Lane
  deriving DecidableEq, Repr

/-- The candidates known while JOIN is 1: the package itself, unless it is not eligible, is detached or has yielded to the
Cox of a takeover; and those its neighbours advertise, but for what they advertise of the package itself. A neighbour that is
full (and is not the present up lane) or detached is not chosen. DEDUCED, log 39. -/
def cands (s : State) : List Cand :=
  let own : List Cand :=
    if s.on R.CAS_CTL_COX_ELIG && s.casState != 3 && !s.cas.yielded then
      [⟨s.rd R.CAS_CTL_PRIO, s.rd R.CAS_UID_UID, s.index, 0, none⟩] else []
  if !s.on R.CAS_CTL_JOIN then []
  else own ++ s.upLanes.filterMap fun (k : Lane) => match s.cas.lane[k].hello with
    | some h =>
      if h.term = s.term ∧ h.dist ≠ 15 ∧ !h.detached ∧ (!h.full ∨ s.upLane = some k) ∧ h.candUid ≠ s.rd R.CAS_UID_UID then
        some ⟨h.candPrio, h.candUid, h.cand, h.dist, some k⟩ else none
    | none => none

/-- The better of two candidates: by rank, then by distance; the earlier of equals, which lies on the lower lane. -/
def better (a b : Cand) : Cand :=
  if ranks b.prio b.uid a.prio a.uid || (a.prio == b.prio && a.uid == b.uid && decide (b.dist < a.dist)) then b else a

def best (s : State) : Option Cand := match s.cands with
  | [] => none
  | c :: l => some (l.foldl better c)

/-- The package's HELLO (R314). -/
def sendHello (s : State) (k : Lane) : State :=
  let b := s.best
  let own := s.rd R.CAS_UID_UID
  let det := s.casState == 3
  let dist := match b with
    | some c => if det || s.cas.deep then 15 else if c.lane.isNone then 0 else c.dist + 1
    | none => 15
  let p2 := s.rd R.CAS_CTL_PRIO + 2 ^ 8 * s.rd R.CAS_CTL_COX_ELIG + 2 ^ 12 * s.rd R.CAS_VER_MIN + 2 ^ 16 * s.rd R.CAS_VER_MAJ +
    2 ^ 24 * s.rd R.CAS_VER_FEAT
  let p3 := (b.map (·.idx)).getD 0 + 2 ^ 16 * dist + 2 ^ 20 * b2n det + 2 ^ 21 * b2n (decide (8 ≤ s.downs.length))
  let u := (b.map (·.uid)).getD 0
  s.sendFrame k { type := 0x01, dir := 0, src := s.index
                  p := [bits own 0 32, bits own 32 32, p2, p3, (b.map (·.prio)).getD 0, bits u 0 32, bits u 32 32] }

/-- What a HELLO frame says. -/
def readHello (f : CasFrame) : Hello :=
  { uid := f.p0 + f.p1 * 2 ^ 32, prio := bits f.p2 0 8, elig := bit f.p2 8, minor := bits f.p2 12 4, major := bits f.p2 16 4
    feat := bits f.p2 24 8, term := f.term, cand := bits f.p3 0 14, dist := bits f.p3 16 4, detached := bit f.p3 20
    full := bit f.p3 21, candPrio := f.p4, candUid := f.p5 + f.p6 * 2 ^ 32 }

/-! Roles and counts (R316, R318, R319). -/

/-- Lanes take their roles: the up lane, down ports for children, and spares. -/
def setRoles (s : State) (up : Option Lane) : State :=
  s.each lanes fun k s =>
    s.wr (R.CAS_LANE_STS_ROLE k) (if !s.laneUp k then 0 else if up = some k then 1 else if s.cas.lane[k].sub.isSome then 2 else 3)

/-- Packages in the subtree, but for those refused; greatest distance below, lowest minor and common features. -/
def subtree (s : State) : Subtree :=
  (s.downs.filterMap fun (k : Lane) => s.cas.lane[k].sub.map fun t => { t with n := t.n - s.cas.lane[k].dups.length }).foldl
    (fun a b => ⟨a.n + b.n, max a.below (b.below + 1), min a.minor b.minor, a.feat &&& b.feat⟩)
    ⟨1, 0, s.rd R.CAS_VER_MIN, s.rd R.CAS_VER_FEAT⟩

/-- TOPO goes up (R318). -/
def sendTopo (s : State) : State :=
  let t := s.subtree
  s.sendUp 0x10 [t.n, t.below + 2 ^ 8 * t.minor + 2 ^ 16 * t.feat]

/-- The neighbours that may be the standby: eligible and directly joined to the Cox. -/
def standbys (s : State) : List Cand :=
  s.upLanes.filterMap fun (k : Lane) => match s.cas.lane[k].hello with
    | some h => if h.elig && decide (h.term = s.term) then
        some ⟨h.prio, h.uid, s.rd (R.CAS_LANE_STS_PEER k), 0, some k⟩ else none
    | none => none

/-- A standby that has just been chosen gets what the Cox has mirrored before (R321). DEDUCED, log 39. -/
def mirrorAll (s : State) : State :=
  let s := s.each s.cas.sched fun o s => s.sendMirror (.sched o)
  let s := match s.cas.pace with
    | some p => s.sendMirror (.pace p)
    | none => s
  s.each s.cas.blog fun e s => s.sendMirror (.bcast e.1 e.2.cls e.2.req e.2.orig e.2.data)

/-- FORMED goes down with N, D, the cascade minor and features, Cox and standby, the best-ranked candidate joined to the Cox
(R318, R321). With no standby the frame names the Cox itself. DEDUCED, log 39. -/
def announceForm (s : State) : State :=
  let t := s.subtree
  let s := (s.wr R.CAS_STATUS_N t.n).wr R.CAS_STATUS_DEPTH t.below
  let s := (s.wr R.CAS_VER_CMIN t.minor).wr R.CAS_VER_CFEAT t.feat
  let sb := match s.standbys with
    | [] => s.index
    | c :: l => (l.foldl better c).idx
  let was := s.rd R.CAS_COX_STBY
  let s := (s.wr R.CAS_COX_COX s.index).wr R.CAS_COX_STBY sb
  let s := s.sendDown 0x11 [t.n, t.below + 2 ^ 8 * t.minor + 2 ^ 16 * t.feat, s.index + 2 ^ 16 * sb]
  if sb = was then s.mirrorCount else ((s.modCas fun c => { c with told := none }).mirrorCount).mirrorAll

/-- The Cox forms the cascade and announces it (R318). -/
def sendFormed (s : State) : State :=
  (((s.wr R.CAS_STATUS_STATE 2).modCas fun c => { c with firstTopo := none }).announceForm).raise Ev.CAS_FORMED

end State
end Sys2Proof.Machine
end

