-- ==== Sys2Proof/Machine/CasObjs.lean ====
section
/-!
DEFINITION. Machine/CasObjs.lean: cascade sync objects: contributions, aggregates, results, barriers and releases
(R114, R328–R331).
-/
namespace Sys2Proof.Machine
namespace State

/-- Object `k` of the package. -/
def obj (s : State) (k : Nat) : CasObj := (Tab.find s.cas.obj k).getD {}
/-- An object changes; one that stands as reset is not listed. -/
def modObj (s : State) (k : Nat) (g : CasObj → CasObj) : State :=
  let o := g (s.obj k)
  s.modCas fun c => { c with obj := if o = {} then Tab.del c.obj k else Tab.put c.obj k o }

/-! Combination (R328). -/

/-- The rank of an epoch under EMIN: 0xFFFF_FFFF ranks below 0. -/
def eRank (v : Nat) : Nat := (v + 1) % 2 ^ 32
/-- Two values combined under a type. -/
def combine (type a b : Nat) : Nat := match type with
  | 2 => min a b
  | 3 => max a b
  | 4 => (a + b) % 2 ^ 32
  | 5 => a ||| b
  | 6 => if eRank b < eRank a then b else a
  | _ => b

/-- The value of a TYPE that leaves every combination as it is. -/
def neutral (type : Nat) : Nat := match type with
  | 2 => 0xFFFFFFFF
  | 6 => 0xFFFFFFFE
  | _ => 0
/-- An object is used: one of EMIN only where the cascade has feature bit 3 (R319). -/
def objUsed (s : State) (k : Nat) : Bool :=
  (s.obj k).type != 6 || s.casState == 0 || bit (s.rd R.CAS_VER_CFEAT) 3
/-- A child's part counts while its lane is a down port. -/
def kids (s : State) (k : Nat) : List CasKid :=
  s.downs.filterMap fun (l : Lane) => Tab.find (s.obj k).kids l.val
/-- Members in the subtree. -/
def members (s : State) (k : Nat) : Nat :=
  (s.kids k).foldl (fun n c => n + c.members) (b2n (s.obj k).member)
/-- The subtree's aggregate of a value object; 0 with no members. A child that has not yet said how many members it has takes
part with any value but the neutral one. -/
def aggregate (s : State) (k : Nat) : Nat :=
  let o := s.obj k
  let part (c : CasKid) : Bool := if c.known then decide (0 < c.members) else c.value != neutral o.type
  let l := (if o.member then [o.val] else []) ++ ((s.kids k).filter part).map (·.value)
  match l with
  | [] => 0
  | v :: t => t.foldl (combine o.type) v
/-- Arrivals of the pending generation in the subtree. -/
def arrivals (s : State) (k : Nat) : Nat :=
  (s.kids k).foldl (fun n c => n + c.value) (b2n (s.obj k).arrived)

/-! Sending (R329–R331). -/

/-- OBJ_UP for an object: value or arrivals, and the members of the subtree. -/
def sendObjUp (s : State) (k value : Nat) : State :=
  let s := s.sendUp 0x20 [k + 2 ^ 16 * (s.obj k).gen, value, s.members k]
  s.modObj k fun o => { o with sent := some (value, s.members k), sentAt := some s.now, due := false, echo := false }

/-- The root's result goes down and is its own. A frame that repeats the result is the echo of a member count; one that
changes it leaves an echo that is owed for the next update (R329, R331). DEDUCED, log 41. -/
def sendResult (s : State) (k v : Nat) : State :=
  let owed := (s.obj k).echo && v != (s.obj k).res
  let s := s.sendDown 0x21 [k + 2 ^ 16 * (s.obj k).gen, v]
  s.modObj k fun o => { o with
    res := v, sent := some (v, 0), sentAt := some s.now, due := owed, echo := owed, members := s.members k }

/-- A value object may have changed: the combination goes up, or the result down, when it differs from what was sent or a
member count is to be told, also that of an object whose TYPE has become 0, at most once in 256 ns; a change within the
interval waits for its end (R329, R331). -/
def objChanged (s : State) (k : Nat) : State :=
  let o := s.obj k
  let v := if o.type = 0 then 0 else s.aggregate k
  let changed := if s.isRoot then v != o.res else (v, s.members k) != o.sent.getD (0, 0)
  if (o.type = 0 && !o.echo) || o.type = 1 || o.type = 7 || !s.objUsed k || !(changed || o.echo) then s
  else if o.sentAt.any fun t => decide (s.now < t + 256) then s.modObj k fun o => { o with due := true }
  else if s.isRoot then s.sendResult k v
  else s.sendObjUp k v

/-! Barriers (R114, R324, R330). -/

/-- A measured wait enters the registers. -/
def addWait (s : State) (w : Nat) : State :=
  let s := (s.wr R.BUD_BWAIT_LAST_NS (sat 32 w)).wr R.BUD_BWAIT_MAX_NS (max (s.rd R.BUD_BWAIT_MAX_NS) (sat 32 w))
  (s.count R.BUD_BWAIT_SUM_NS w).count R.BUD_BWAIT_COUNT_COUNT

/-- The governor measures the wait of a released barrier, frozen time left out; one released while the package is frozen
enters the registers when they resume (R118). DEDUCED, log 15. -/
def barrierWait (s : State) (o : CasObj) : State :=
  let w := (s.now - o.arrAt) - (s.frozenTime - o.arrFrz)
  if !o.arrived then s
  else if s.frozen then s.modGov fun g => { g with waits := g.waits ++ [w] }
  else s.addWait w

/-- A generation is released, or ended as aborted: GEN advances, ARRIVED clears, the log takes the release, and NOTIFY
signals the cascade function. -/
def release (s : State) (k : Nat) (aborted : Bool) : State :=
  let o := s.obj k
  let s := s.barrierWait o
  let s := s.modObj k fun o => { o with
    gen := (o.gen + 1) % 256, arrived := false, aborted, res := o.gen, sent := none
    kids := o.kids.map fun e => (e.1, { e.2 with value := 0 }) }
  let n := (s.rd R.CAS_REL_HEAD_SEQ + 1) % 2 ^ 32
  let s := (s.wr R.CAS_REL_HEAD_SEQ n).wr (R.CAS_REL_OBJ (n % 64)) k
  let s := ((s.wr (R.CAS_REL_GEN (n % 64)) o.gen).flag (R.CAS_REL_ABORTED (n % 64)) aborted).wr (R.CAS_REL_TIME (n % 64)) s.lkTime
  if o.notify then s.signal 3 none else s

/-- A barrier has had an arrival or lost a member: once every member of the subtree has arrived, OBJ_UP goes up, or the
root releases. -/
def barrierCheck (s : State) (k : Nat) : State :=
  let o := s.obj k
  let m := s.members k
  if o.type ≠ 1 || m = 0 || s.arrivals k < m || (s.kids k).any (!·.known) then s
  else if s.isRoot then
    if s.mayAct && !s.casFrozen then (s.sendDown 0x21 [k + 2 ^ 16 * o.gen, o.gen]).release k false else s
  else if o.sent = some (m, m) then s
  else s.sendObjUp k m

/-- A barrier generation has arrivals pending (R329). -/
def barrierBusy (s : State) (k : Nat) : Bool := (s.obj k).type == 1 && s.arrivals k != 0

/-- The generation of every barrier ends as aborted, in every package alike: a package does not see the arrivals outside its
own subtree (R324, R338). DEDUCED, log 41. -/
def abortBarriers (s : State) : State :=
  s.each (s.cas.obj.map (·.1)) fun k s => if (s.obj k).type = 1 then s.release k true else s

/-- A write to a SET object comes after the one known here: by TSTAMP, then by lower index (R328). -/
def newerWrite (s : State) (k stamp idx : Nat) : Bool :=
  let o := s.obj k
  decide (o.stamp.1 < stamp) || (o.stamp.1 == stamp && decide (idx ≤ o.stamp.2))
/-- A package notes the latest write to a SET object in its subtree (R323, R328). -/
def noteWrite (s : State) (k stamp idx v : Nat) : State :=
  if s.newerWrite k stamp idx then s.modObj k fun o => { o with stamp := (stamp, idx), latest := v } else s
/-- A write to a SET object reaches the root, which orders the writes (R328). -/
def setWrite (s : State) (k stamp idx v : Nat) : State :=
  let o := s.obj k
  if !s.newerWrite k stamp idx then s
  else
    let s := s.noteWrite k stamp idx v
    if v = o.res then s else s.sendResult k v

/-- The package writes its contribution to an object (R331). -/
def objWrite (s : State) (k v : Nat) : State :=
  let s := s.modObj k fun o => { o with val := v % 2 ^ 32 }
  let o := s.obj k
  if !o.member then s
  else if o.type = 7 then
    let t := s.lkHalfAt s.now
    if s.isRoot then s.setWrite k t s.index (v % 2 ^ 32) else (s.noteWrite k t s.index (v % 2 ^ 32)).sendObjUp k (v % 2 ^ 32)
  else s.objChanged k

/-- The members of a barrier or a SET object in the subtree have changed: their number goes up (R329). -/
def sendCount (s : State) (k : Nat) : State := s.sendObjUp k (if (s.obj k).type = 1 then s.arrivals k else (s.obj k).val)

/-- The parts of an object have changed: its combination, or its member count, goes on. -/
def objRefresh (s : State) (k : Nat) : State :=
  let o := s.obj k
  if o.type = 1 || o.type = 7 then
    if s.isRoot then (s.modObj k fun o => { o with members := s.members k }).barrierCheck k
    else if (o.sent.map (·.2)).getD 0 = s.members k then s else s.sendCount k
  else s.objChanged k

/-- A child is gone, or the cascade has formed: the objects' combinations and counts go on as they now are (R329, R331). -/
def recombine (s : State) : State := s.each (s.cas.obj.map (·.1)) fun k s => s.objRefresh k

/-- A change of MEMBER sends the member count up the tree; the root's own is acknowledged at once (R329). -/
def memberChange (s : State) (k : Nat) : State :=
  if s.isRoot then (s.modObj k fun o => { o with ready := true, members := s.members k }).objRefresh k
  else if (s.obj k).type = 1 || (s.obj k).type = 7 then s.sendCount k
  else (s.modObj k fun o => { o with echo := true }).objChanged k

/-- What is known of the packages that a lane led to is dropped: their count, their ports and their parts of objects. -/
def forgetLane (s : State) (k : Lane) : State :=
  let s := s.modLane k fun l => { l with sub := none, pace := none, dups := [] }
  s.modCas fun c => { c with
    ports := c.ports.filter fun p => p.2 != k.val
    obj := c.obj.map fun e => (e.1, { e.2 with kids := Tab.del e.2.kids k.val }) }

end State
end Sys2Proof.Machine
end

