-- ==== Sys2Proof/Machine/SenOps.lean ====
section
/-!
DEFINITION. Machine/SenOps.lean: what the commands of the sentinel share: records and their queue, retractions, verdicts
and verification (R274–R276, R292, R296–R300, R341).
-/
namespace Sys2Proof.Machine
namespace State

def modSen (s : State) (g : SenSt → SenSt) : State := { s with sen := g s.sen }
def modSenDie (s : State) (d : Die) (g : SenDie → SenDie) : State :=
  s.modSen fun q => { q with die := q.die.set d (g q.die[d]) }

/-! Records (R274–R276). -/

/-- The queue changes; STATUS.QUEUE shows its length. -/
def setTxq (s : State) (l : List SenTx) : State := (s.modSen fun q => { q with txq := l }).wr R.SEN_STATUS_QUEUE l.length

/-- An item is queued for the BMC; a full queue of 256 does not take it (R276). DEDUCED, log 37. -/
def queueTx (s : State) (t : SenTx) : State :=
  if 256 ≤ s.sen.txq.length then
    (s.modSen fun q => { q with unqueued := q.unqueued + 1 }).flag R.SEN_STATUS_QUEUE_OVF true
  else s.setTxq (s.sen.txq ++ [t])

/-- What a record of R274 says beside what the block fills in. EPOCH, STEP, SPARE and CLUSTER hold 0 in a record that
concerns none. DESIGN CHOICE, log 35. -/
structure Rec where
  die     : Option Die := none
  site    : Nat := 0x3FF
  action  : Nat := 0
  reason  : Nat := 0
  epoch   : Nat := 0
  step    : Nat := 0
  detail  : Nat := 0
  spare   : Nat := 0
  cluster : Nat := 0

/-- Bits of ACTION. -/
abbrev actRemoved : Nat := 1
abbrev actSpared : Nat := 2
abbrev actMargined : Nat := 4
abbrev actRetired : Nat := 8
abbrev actRetract : Nat := 16
abbrev actAborted : Nat := 32
abbrev actExpelled : Nat := 64
abbrev actDeferred : Nat := 128

/-- The sixteen words of a record for an event (R274). RATIO is the ratio in effect on the die, also where a clock margin
lets the cluster run one slower, and VSTEP and RATIO are 0 where no die is named. DESIGN CHOICE, log 35. -/
def recWords (s : State) (code : Nat) (r : Rec) : List Nat :=
  let t := s.lkTime
  let (layer, op) := (r.die.map s.running).getD (0, 0)
  let d := (r.die.map (·.val)).getD 0xF
  let vstep := (r.die.map fun (d : Die) => s.rd (R.SEN_DIE_STATUS_VSTEP d)).getD 0
  let ratio := (r.die.map fun (d : Die) => s.rd (R.CLK_DIE_DIV_NOW d)).getD 0
  [1 + 2 ^ 4 * (code % 256) + 2 ^ 12 * d + 2 ^ 16 * bits r.site 0 10, bits r.action 0 8 + 2 ^ 8 * bits r.reason 0 8,
   bits t 0 32, bits t 32 32, bits r.epoch 0 32, bits r.step 0 32, bits layer 0 16 + 2 ^ 16 * bits op 0 12, bits r.detail 0 32,
   bits r.spare 0 6 + 2 ^ 8 * bits r.cluster 0 4 + 2 ^ 16 * vstep + 2 ^ 20 * ratio, bits s.sen.seq 0 32,
   s.rd R.CAS_ID_INDEX, 0, 0, 0, 0, 0]

/-- A record's place in the log window (R307). -/
def logRecord (s : State) (ws : List Nat) : State :=
  let k := s.sen.seq % 64
  let s := s.each (List.range 16) fun i s => s.wr (R.SEN_LOG_WORD k i) (nth ws i)
  (s.wr R.SEN_LOG_HEAD_SEQ s.sen.seq).modSen fun q => { q with seq := (q.seq + 1) % 2 ^ 32 }

/-- A record is made: it goes to the recorder with its event, to the log window and to the transmit queue (R275). -/
def senRecord (s : State) (code : Nat) (r : Rec) : State :=
  let ws := s.recWords code r
  let s := (s.raise code ((r.die.map (·.val)).getD 0xFFFF) r.detail ws).count R.SEN_CNT_RECORDS_COUNT
  (s.logRecord ws).queueTx ⟨0xF0, ws.flatMap (bytesOf 4)⟩

/-- A test cannot start, or ends before its runs: REASON and a record say why, and a test asked for shows RESULT 3
(R289). -/
def deferTest (s : State) (d : Die) (site reason : Nat) (asked : Bool) : State :=
  let s := (s.wr R.SEN_TEST_REQ_REASON reason).when asked (·.wr R.SEN_TEST_REQ_RESULT 3)
  s.senRecord Ev.SEN_TEST_DEFERRED { die := some d, site, action := actDeferred, reason, cluster := site / 36 }

/-! Signature records in CBOR (R292). -/

/-- An unsigned integer, or the head of a map, in the shortest form: major type in `m`. -/
def cborHead (m v : Nat) : List Nat :=
  let b := 32 * m
  if v < 24 then [b + v]
  else if v < 2 ^ 8 then [b + 24, v]
  else if v < 2 ^ 16 then (b + 25) :: (bytesOf 2 v).reverse
  else if v < 2 ^ 32 then (b + 26) :: (bytesOf 4 v).reverse
  else (b + 27) :: (bytesOf 8 v).reverse
def cborInt (i : Int) : List Nat := if i < 0 then cborHead 1 (-1 - i).toNat else cborHead 0 i.toNat
def cborBool (b : Bool) : List Nat := [if b then 0xF5 else 0xF4]

/-! Verification (R297, R298). -/

/-- A new value of VERIFIED is published in the sync object while PUBLISH is 1 (R298). -/
def setVerified (s : State) (e : Nat) : State :=
  if s.rd R.SEN_VERIFIED_EPOCH = e % 2 ^ 32 then s
  else
    let s := s.wr R.SEN_VERIFIED_EPOCH e
    if s.on R.SEN_EPOCH_CFG_PUBLISH then s.objWrite (s.rd R.SEN_EPOCH_CFG_OBJ) e else s

/-- A die is compared in an epoch: it has a group of at least 2 and is not expelled; after an expulsion it counts again from
the next epoch (R294, R296). -/
def grouped (s : State) (d : Die) (e : Nat) : Bool :=
  s.on R.SEN_CTL_DIGEST_EN && s.on (R.SEN_DIE_GROUP_GROUP d) && decide (2 ≤ s.rd (R.SEN_DIE_GROUP_SIZE d)) &&
    !s.on (R.SEN_DIE_STATUS_EXPELLED d) && decide (s.sen.die[d].rejoin ≤ e)

/-- A retraction of an epoch or of an earlier one is pending. -/
def retracted (s : State) (e : Nat) : Bool := s.on R.SEN_STATUS_RETRACT_PEND && decide (s.rd R.SEN_RETRACT_EPOCH ≤ e)

/-- The conditions of R297 for an epoch that a die has closed. Every die that is not fenced counts, at the safe tier too.
DEDUCED, log 36. -/
def verifiable (s : State) (e : Nat) : Bool :=
  (e == 0 || s.rd R.SEN_VERIFIED_EPOCH == e - 1) && !s.retracted e &&
  (dies.any fun (d : Die) => (Tab.find s.sen.die[d].closed e).isSome) &&
  dies.all fun (d : Die) =>
    (s.fenced d || (Tab.find s.sen.die[d].closed e).isSome) && (!s.grouped d e || s.sen.die[d].pass.contains e) &&
      !s.sen.die[d].bad.contains e

/-- What is held of epochs other than those to keep is dropped. -/
def dropEpochs (s : State) (keep : Nat → Bool) : State :=
  let s := s.each dies fun (d : Die) s => s.modSenDie d fun q => { q with
    closed := q.closed.filter fun p => keep p.1, pass := q.pass.filter keep, bad := q.bad.filter keep }
  s.modSen fun q => { q with cmps := q.cmps.filter fun c => keep c.epoch, verdicts := q.verdicts.filter fun v => keep v.2.1 }

/-- Epochs are verified from one on, as far as their conditions hold. -/
def verifyFrom : Nat → Nat → State → State
  | 0, _, s => s
  | n + 1, e, s =>
    if s.verifiable e && decide (e < 0xFFFFFFFF) then verifyFrom n (e + 1) ((s.setVerified e).dropEpochs (e ≤ ·)) else s
/-- As many epochs as the dies hold closed may follow one another. -/
def verify (s : State) (e : Nat) : State := verifyFrom ((dies.map fun (d : Die) => s.sen.die[d].closed.length).sum + 1) e s
/-- Every epoch verified whose conditions hold after something other than a report has met them. -/
def verifyNext (s : State) : State :=
  let v := s.rd R.SEN_VERIFIED_EPOCH
  s.verify (if v = 0xFFFFFFFF then 0 else v + 1)

/-! Retraction (R300, R301). -/

/-- The lower of two values of VERIFIED, of which 0xFFFF_FFFF, none, is the lowest. -/
def lowerEpoch (a b : Nat) : Nat := if eRank b < eRank a then b else a

/-- RETRACT(e) is applied; one received while another is pending keeps the lower epoch (R300, R301). -/
def applyRetract (s : State) (e : Nat) : State :=
  let pend := s.on R.SEN_STATUS_RETRACT_PEND
  let s := s.setVerified (lowerEpoch (s.rd R.SEN_VERIFIED_EPOCH) (if e = 0 then 0xFFFFFFFF else e - 1))
  let s := s.wr R.SEN_RETRACT_EPOCH (if pend then min (s.rd R.SEN_RETRACT_EPOCH) e else e)
  let s := (s.flag R.SEN_STATUS_RETRACT_PEND true).count R.SEN_CNT_RETRACT_COUNT
  (s.dropEpochs fun k => decide (k < e)).senRecord Ev.SEN_RETRACT { epoch := e, detail := e }

/-! Verdicts (R296, R341). -/

/-- A die is expelled from its group. -/
def expel (s : State) (d : Die) (e : Nat) : State :=
  ((s.modSenDie d fun q => { q with bad := e :: q.bad }).flag (R.SEN_DIE_STATUS_EXPELLED d) true).senRecord Ev.SEN_EXPELLED
    { die := some d, epoch := e, action := actExpelled, detail := s.rd (R.SEN_DIE_GROUP_GROUP d) }

/-- A die takes the verdict of its group for an epoch by its own digest, once it has closed the epoch. -/
def takeVerdict (s : State) (d : Die) (group epoch outcome majority : Nat) : State :=
  if s.rd (R.SEN_DIE_GROUP_GROUP d) ≠ group || !s.grouped d epoch || outcome = 2 then s
  else match Tab.find s.sen.die[d].closed epoch with
    | some x =>
      if x = majority then s.modSenDie d fun q => { q with pass := epoch :: q.pass.filter (· != epoch) } else s.expel d epoch
    | none => s

/-- A verdict reaches the package: each of its dies in the group takes PASS, SPLIT or expulsion, also one that closes the
epoch late. One that meets a retraction of the same or an earlier epoch is discarded (R303). DEDUCED, log 36. -/
def verdict (s : State) (group outcome epoch majority : Nat) : State :=
  if s.retracted epoch || (s.sen.verdicts.any fun v => v.1 == group && v.2.1 == epoch) then s
  else
    let s := s.modSen fun q => { q with verdicts := (group, epoch, outcome, majority) :: q.verdicts }
    (s.each dies fun (d : Die) s => s.takeVerdict d group epoch outcome majority).verify epoch

end State
end Sys2Proof.Machine
end

