-- ==== Sys2Proof/Machine/Divide.lean ====
section
/-!
DEFINITION. Machine/Divide.lean: a die's ratio, its divider steps and the order of voltage and clock (R36, R139–R144,
R152), the cost scale of a stroke (R51), the clock states of clusters (R146–R148), and the fence (R496, R497).
-/
namespace Sys2Proof.Machine
namespace State

/-- The slowest ratio code requested of a die, but for VR_ALERT# (R32). -/
def voltRatio (s : State) (d : Die) : Nat :=
  if s.fenced d then 6
  else if s.safeTier d then max s.clkDie[d].cmdRatio (s.rd R.ADM_SEAM_CFG_SAFE_RATIO) else s.clkDie[d].cmdRatio

/-- The ratio code R32 requests of a die. -/
def target (s : State) (d : Die) : Nat := if s.clkDie[d].alertSlow then 6 else s.voltRatio d

/-- The ratio code in effect. -/
def ratio (s : State) (d : Die) : Nat := s.rd (R.CLK_DIE_DIV_NOW d)

/-- A raise of the die awaits acknowledgement. -/
def raising (s : State) (d : Die) : Bool := s.vsetTx[d.loop].due.isSome

/-- The lower voltage is requested once the die has reached the commanded ratio or a slower one, no droop episode is
active and no raise awaits its acknowledgement; while the link is down V_ack is kept (R144, R156, R194). -/
def lowerVoltage (s : State) (d : Die) : State :=
  let k := s.voltRatio d
  let n := s.need d k
  if k ≤ s.ratio d && !s.on (R.CLK_DIE_DIV_DROOP_ACTIVE d) && !s.raising d && decide (n < s.clkDie[d].vAck) &&
      s.vcl[d.sat].sat.up then
    s.askVoltage d k
  else s

/-- The requests for a die's ratio have changed: TARGET shows the slowest; a faster one that V_ack does not cover has
its voltage requested at once, in one request for the final ratio (R35, R143, R156). -/
def retarget (s : State) (d : Die) : State :=
  let s := s.wr (R.CLK_DIE_DIV_TARGET d) (s.target d)
  let k := s.voltRatio d
  if k < s.ratio d && decide (s.clkDie[d].vAck < s.need d k) then
    if !s.vcl[d.sat].sat.up then s else
    let t := s.vsetTx[d.loop]
    if s.raising d && t.a == s.opv k && t.m == s.margin d.loop then s else s.askVoltage d k
  else s.lowerVoltage d

/-- A raised margin asks the voltage of the faster of the die's present ratio and the one asked of it, if V_ack does not
cover it; a voltage that may fall waits for R144. DEDUCED, log 35. -/
def askMargin (s : State) (d : Die) : State :=
  let k := min (s.voltRatio d) (s.ratio d)
  if s.vcl[d.sat].sat.up && decide (s.clkDie[d].vAck < s.need d k) then s.askVoltage d k else s.lowerVoltage d

/-- The RGC's causes of a die's Cuff reach its satellite; with ALERT it requests ÷16, and once ALERT has gone the die recovers
as after a droop (R73, R227). -/
def rgcCauses (s : State) (d : Die) (causes : Nat) : State :=
  let was := bit s.adm[d].causes CuffCause.alert.bit
  let is := bit causes CuffCause.alert.bit
  let s := s.cuffCauses d causes
  if was == is then s
  else (s.modClk d fun c => { c with alertSlow := is, clearAt := if is then c.clearAt else some s.now }).retarget d

/-- A ratio takes effect on an alignment edge and is held for HOLD_AP periods (R139). -/
def takeRatio (s : State) (d : Die) (k edge : Nat) : State :=
  (s.wr (R.CLK_DIE_DIV_NOW d) k).modClk d fun c => { c with holdUntil := edge + max 1 (s.rd R.CLK_RAMP_HOLD_AP) }

/-- The satellite goes to a ratio that the grants of the present stroke and of the next one were priced for: none that it
would make dearer. While its strokes stand for a freeze, its steps go on (R51, R156). DEDUCED, log 16. -/
def paidFor (s : State) (d : Die) (k : Nat) : Bool :=
  let ok (x : Option Nat) : Bool := (x.map fun v => decide (s.scale k ≤ v)).getD true
  s.seam[d.sat].stopped || (ok s.clkDie[d].scaleNow && ok s.clkDie[d].scaleNext)

/-- The grants of the next stroke were priced for slower steps than those taken: the die goes on with them (R51).
DEDUCED, log 16. -/
def owesStep (s : State) (d : Die) : Bool :=
  (s.clkDie[d].scaleNext.map fun v => decide (v < s.scale (s.ratio d))).getD false && decide (s.ratio d < 6)

/-- A droop step is due on an alignment edge: an episode's first once its report has come, also where the episode has ended
since, and a further one on each later edge of the episode (R152). -/
def droopDue (s : State) (d : Die) (edge : Nat) : Bool := match s.clkDie[d].slowAt with
  | some e => decide (e ≤ edge)
  | none => s.on (R.CLK_DIE_DIV_DROOP_ACTIVE d)

/-- The recovery of a die from droop has still to wait on an alignment edge (R152). -/
def recovering (s : State) (d : Die) (edge : Nat) : Bool :=
  (s.clkDie[d].clearAt.map fun t => decide (20 * edge < t + 20 * s.rd R.CLK_DROOP_CFG_RECOVER_AP)).getD false

/-- A step toward a faster target (R142, R152, R194). -/
def fasterStep (s : State) (d : Die) (edge : Nat) : State :=
  let c := s.clkDie[d]
  let k := s.ratio d
  if s.target d < k && !s.recovering d edge && decide (s.need d (k - 1) ≤ c.vAck) && s.vcl[d.sat].sat.up && s.paidFor d (k - 1) then
    ((s.takeRatio d (k - 1) edge).modClk d fun c => { c with clearAt := if k - 1 = s.target d then none else c.clearAt }).lowerVoltage d
  else s

/-- The die's divider moves one position on an alignment edge if one is due: down to FLOOR in a droop episode, toward a
slower target, or toward a faster one once any recovery has passed, V_ack covers it, the link is up and the grants are priced
for it. A droop step and a slower step on one edge are one step (R51, R139, R142, R152, R156, R194). -/
def dieStep (s : State) (d : Die) (edge : Nat) : State :=
  let c := s.clkDie[d]
  let k := s.ratio d
  let droop := s.droopDue d edge
  if edge < c.holdUntil then s
  else
    let s := if droop then s.modClk d fun c => { c with slowAt := none } else s
    if droop && decide (k < s.rd R.CLK_DROOP_CFG_FLOOR) then
      (s.takeRatio d (k + 1) edge).modClk d fun c => { c with winSlow := max c.winSlow (k + 1) }
    else if k < s.target d || s.owesStep d then (s.takeRatio d (k + 1) edge).lowerVoltage d
    else if droop then s
    else s.fasterStep d edge

/-- The ratio a cluster goes to: the die's, or for a marked one the position slower (R140). -/
def clusterGoal (s : State) (d : Die) (c : Cluster) : Nat :=
  if bit (s.rd (R.CLK_DIE_CMARGIN_CLUSTER d)) c then min 6 (s.ratio d + 1) else s.ratio d

/-- The divider of a cluster whose clock runs moves one position toward its ratio on an alignment edge, if it has held its
own for HOLD_AP periods; to a faster one only where V_ack covers it (R139, R140, R142). -/
def clusterStep (s : State) (d : Die) (c : Cluster) (edge : Nat) : State :=
  let x := s.clkDie[d].cluster[c]
  let g := s.clusterGoal d c
  if edge < x.hold || x.ratio == g || s.on (R.CLK_DIE_GATE_STS_CL d c) ||
      (decide (g < x.ratio) && decide (s.clkDie[d].vAck < s.need d (x.ratio - 1))) then s
  else
    let y : ClusterClk := ⟨if x.ratio < g then x.ratio + 1 else x.ratio - 1, edge + max 1 (s.rd R.CLK_RAMP_HOLD_AP)⟩
    s.modClk d fun k => { k with cluster := k.cluster.set c y }

/-- The dividers of a die on an alignment edge: the die's ratio, and its clusters with it (R139, R140). -/
def divStep (s : State) (d : Die) (edge : Nat) : State :=
  (s.dieStep d edge).each clusters fun c s => s.clusterStep d c edge

/-! The cost of the stroke after the present one (R51), as the satellite sees it on the boundary of the present one. -/

/-- The ratio code that will be asked of the die when that stroke begins: the present one, as the commands stamped for it
leave it; while the Seam is down they slow it only (R38, R39). -/
def targetNext (s : State) (d : Die) : Nat :=
  let due := (s.adm[d].cmds.filter fun c => decide (c.1 ≤ s.own d.sat + 64)).map (·.2)
  let k := due.foldl (fun k b => match b with
    | .window w => if s.seamUp d.sat then w.ratio else max k w.ratio
    | .reduce _ r _ => max k (r.getD k)
    | _ => k) s.clkDie[d].cmdRatio
  let t : State := s.modClk d fun c => { c with cmdRatio := k }
  t.target d

/-- V_ack at an instant to come: a raise counts from when its acknowledgement can first be there, by the loop's slew. -/
def vAckBy (s : State) (d : Die) (t : Nat) : Nat :=
  let c := s.clkDie[d]
  let x := s.vsetTx[d.loop]
  let goal := 1000 * (x.a + 15 * x.m)
  let eta := s.now + cdiv (goal - s.loop[d.loop].vref) (max 1 (s.rd (R.RGC_L_SLEW_SLEW d.loop)))
  if x.due.isSome && decide (eta ≤ t) then max c.vAck (goal / 1000) else c.vAck

/-- A ratio, and the first edge on which it may move, after an alignment edge to come on which `target` is asked: the move
that is due on it by R139, R142 and R152. A faster one keeps within the scale `cap` of the grants already computed. -/
def moveBy (s : State) (d : Die) (target edge : Nat) (cap : Option Nat) (x : Nat × Nat) : Nat × Nat :=
  let hold := edge + max 1 (s.rd R.CLK_RAMP_HOLD_AP)
  if edge < x.2 then x
  else if x.1 < target then (x.1 + 1, hold)
  else if s.on (R.CLK_DIE_DIV_DROOP_ACTIVE d) || s.recovering d edge || !s.vcl[d.sat].sat.up then x
  else if target < x.1 && decide (s.need d (x.1 - 1) ≤ s.vAckBy d (20 * edge)) &&
      (cap.map fun v => decide (s.scale (x.1 - 1) ≤ v)).getD true then (x.1 - 1, hold) else x

/-- The ratio codes a die has in effect at any moment of that stroke. DEDUCED, log 16. -/
def costRatios (s : State) (d : Die) : List Nat :=
  let start := s.now + 64
  let edges := ((List.range 8).map (cdiv s.now 20 + ·)).filter fun e => decide (20 * e < start + 64)
  let t := s.targetNext d
  let x := (edges.filter fun e => decide (20 * e < start)).foldl (fun x e => s.moveBy d (s.target d) e s.clkDie[d].scaleNow x)
    (s.ratio d, s.clkDie[d].holdUntil)
  let y := (edges.filter fun e => decide (start ≤ 20 * e)).foldl (fun (y : (Nat × Nat) × List Nat) e =>
    let z := s.moveBy d t e none y.1
    (z, y.2 ++ [z.1])) (x, [])
  if start % 20 = 0 then y.2 else x.1 :: y.2

/-- The largest scale among them. -/
def costS (s : State) (d : Die) : Nat := ((s.costRatios d).map s.scale).foldl max 0
/-- S + m for the grants of that stroke: the largest scale among the ratios in effect, and the margin steps that count
(R50, R51). -/
def costScale (s : State) (d : Die) : Nat := s.costS d + s.clkDie[d].mCost

/-! Clock states of clusters (R146–R148). -/

/-- The state a cluster is asked to be in: deep sleep while its die is fenced (R148). -/
def gateAsked (s : State) (d : Die) (c : Cluster) : Nat := if s.fenced d then 2 else s.rd (R.CLK_DIE_GATE_CL d c)

/-- State of a slot in the sentinel's map: 0 free or absent, 1 carrying, 2 test, 3 retired (R278, R306). -/
def slotState (s : State) (d : Die) (c : Cluster) (slot : Nat) : Nat := s.rd (R.SEN_STATE_SLOT d c slot)

/-- A cluster holds a mapped-in spare or a site borrowed for a test, which defers its sleep (R148). A mapped-in spare is a
slot of the numbers 32 to 35 that carries an engine. DESIGN CHOICE, log 27. -/
def gateDeferred (s : State) (d : Die) (c : Cluster) : Bool :=
  !s.fenced d && ((List.range 36).any fun k =>
    (decide (32 ≤ k) && s.slotState d c k == 1) || s.slotState d c k == 2)

def setGate (s : State) (d : Die) (c : Cluster) (g : GateStage) : State :=
  s.modClk d fun x => { x with gate := x.gate.set c g }

/-- A request for a cluster's state reaches the satellite: entry waits for a stroke boundary; a return restarts on the
first alignment edge at least 20 ns later, after the restart of the clock tree from deep sleep (R146, R147).
DEDUCED, log 27. -/
def gateRequest (s : State) (d : Die) (c : Cluster) : State :=
  let want := s.gateAsked d c
  let is := s.rd (R.CLK_DIE_GATE_STS_CL d c)
  if want = is then s.setGate d c .settled
  else if want = 0 then s.setGate d c (.waking (s.now + (if is = 2 then 2560 else 0) + 20))
  else s.setGate d c .leaving

/-- A site is in use: its slot carries an engine or is under test. -/
def siteUsed (s : State) (d : Die) (site : Site) : Bool :=
  let k := s.slotState d (Fin.ofNat 16 (site / 36)) (site % 36)
  k == 1 || k == 2

/-- A cluster's clock state changes: the state in effect shows it, and the rings of its sites in use; one that runs again does
so at the die's ratio, or one position slower if marked (R146, R147, R435). -/
def gateTake (s : State) (d : Die) (c : Cluster) (code : Nat) : State :=
  let s := s.wr (R.CLK_DIE_GATE_STS_CL d c) code
  let s := if code = 0 then s.modClk d fun k => { k with cluster := k.cluster.set c ⟨s.clusterGoal d c, k.holdUntil⟩ } else s
  s.each ((List.range 36).filter fun k => s.siteUsed d (36 * c.val + k)) fun k s => s.ringSite d (36 * c.val + k) 0x0A code

/-! The fence (R496, R497). -/

/-- The RGC ramps a compute loop's target to 550 mV, and drops the VSET it serves or holds (R220, R497). -/
def clampLoop (s : State) (l : Loop) : State :=
  (s.wr (R.RGC_L_TGT_TARGET l) 550).modLoop l fun L => { L with vset := none, held := none, okRun := 0 }

/-- Every engine site of a die. -/
def allSites : List Site := List.range 576

/-- HOLD is asserted (`kind` 2) or deasserted (3) on sites, outside the Cuff: the rings of those in use show it (R435).
DEDUCED, log 50. -/
def holdSites (s : State) (d : Die) (sites : List Site) (kind : Nat) : State :=
  if sites.isEmpty then s
  else (s.emit (.hold d sites (kind == 2))).each (sites.filter (s.siteUsed d)) fun x s => s.ringSite d x kind 0

end State
end Sys2Proof.Machine
end

