-- ==== Sys2Proof/Machine/Clocks.lean ====
section
/-!
DEFINITION. Machine/Clocks.lean: the commands of the clock generator, the dividers, the clock gates, the droop detectors
and the frequency-measuring counter (R126–R158).
-/
namespace Sys2Proof.Machine
namespace State

/-! Sources (R126–R135). The clock generator control runs from power-on and does not freeze. -/

/-- A count of the source monitor lies within 8,192 ± 82 (R126). -/
def countGood (c : Nat) : Bool := decide (8110 ≤ c ∧ c ≤ 8274)
/-- Consecutive counts differ by at most 2. -/
def countSteady (a b : Nat) : Bool := decide (a ≤ b + 2 ∧ b ≤ a + 2)

/-- The PLL enters hold-over and its reference switches (R130). -/
def switchRef (s : State) (active cause : Nat) : State :=
  ((((s.flag R.CLK_SRC_HOLDOVER true).flag R.CLK_SRC_PLL_LOCK false).wr R.CLK_SRC_ACTIVE active).wr R.CLK_SRC_FAIL_CAUSE cause).syncSource

/-- The crystal is the reference: the root has locked to it, or the PLL is taking it (R127, R129). -/
def onCrystal (s : State) : Bool := s.rd R.CLK_SRC_ACTIVE == 1 || s.clk.taking == some 1

/-- The crystal fails as the reference: the internal oscillator takes its place, also where the first lock is still to come
(R130). -/
def crystalFail (s : State) (cause : Nat) : State :=
  ((s.switchRef 2 cause).modClkGen fun c => { c with taking := c.taking.map fun _ => 2 }).raise Ev.CLK_SRC_FAIL 0xFFFF cause

/-- The attempt to return to the crystal ends in failure (R135). DEDUCED, log 26. -/
def returnFail (s : State) : State :=
  (((s.modClkGen fun c => { c with proof := none }).flag R.CLK_SRC_CTL_RETURN false).flag R.CLK_SRC_XTAL_PROVEN false).wr
    R.CLK_SRC_FAIL_CAUSE 4

/-- The crystal is proven: at start-up the PLL takes it; a return switches to it (R127, R135). The switch of a return runs
as that of a failure, with HOLDOVER 1 until the PLL has locked. DEDUCED, log 26. -/
def proven (s : State) (ret : Bool) : State :=
  let s := (s.flag R.CLK_SRC_XTAL_PROVEN true).modClkGen fun c => { c with proof := none }
  if ret then
    ((s.switchRef 1 (s.rd R.CLK_SRC_FAIL_CAUSE)).flag R.CLK_SRC_CTL_RETURN false).raise Ev.CLK_SRC_RESTORED
  else s.modClkGen fun c => { c with taking := some 1 }

/-- A gate of the source monitor ends with a count: a proof counts it, or the crystal in use is judged (R126, R129). -/
def sourceGate (s : State) (count : Nat) : State :=
  match s.clk.proof with
  | some p =>
    let ok := countGood count && (p.last.map (countSteady count)).getD true
    if ok then
      if p.good + 1 = 4 then s.proven p.ret
      else s.modClkGen fun c => { c with proof := some { p with good := p.good + 1, last := some count } }
    else if p.ret then s.returnFail
    else s.modClkGen fun c => { c with proof := some { p with good := b2n (countGood count), last := some count } }
  | none => if s.onCrystal ∧ !countGood count then s.crystalFail 2 else s

/-- No crystal edge for 160 ns (R130, R156). -/
def edgeLoss (s : State) : State :=
  match s.clk.proof with
  | some p => if p.ret then s.returnFail else s.modClkGen fun c => { c with proof := some { p with good := 0, last := none } }
  | none => if s.onCrystal then s.crystalFail 1 else s

/-- The PLL has stayed in its lock window (R127, R130). The first lock starts the package cycle count and lets the
regulator's core out of reset; the other root islands leave it at the end of the wipe (R25, R29, R505). -/
def pllLock (s : State) : State :=
  match s.phase, s.clk.taking with
  | .held, some r =>
    let s := ((s.wr R.CLK_SRC_ACTIVE r).flag R.CLK_SRC_PLL_LOCK true).flag R.CLK_SRC_HOLDOVER false |>.syncSource
    let s := { s with phase := .blockReset, now := 0, strokeIdx := 0, windowIdx := 0, alignIdx := 0 }
    ((s.modClkGen fun c => { c with taking := none }).modRgc fun r => { r with leftReset := some 0 }).flag R.MGT_LC_WIPING true
  | .held, none => s
  | _, _ =>
    if s.on R.CLK_SRC_HOLDOVER then
      ((s.flag R.CLK_SRC_PLL_LOCK true).flag R.CLK_SRC_HOLDOVER false).modClkGen fun c => { c with relockBy := none }
    else s

/-- 20 ms without proof: the PLL takes the internal oscillator (R127). -/
def proofTimeout (s : State) : State :=
  if s.clk.started && s.phase == .held && s.clk.taking.isNone then
    ((s.modClkGen fun c => { c with proof := none, taking := some 2 }).wr R.CLK_SRC_FAIL_CAUSE 3).raise Ev.CLK_SRC_FAIL 0xFFFF 3
  else s

/-- The lock detector reports loss of lock (R134). DEDUCED, log 26. -/
def lockLoss (s : State) : State :=
  if s.on R.CLK_SRC_PLL_LOCK then
    (((s.flag R.CLK_SRC_HOLDOVER true).flag R.CLK_SRC_PLL_LOCK false).wr R.CLK_SRC_FAIL_CAUSE 5).modClkGen
      (fun c => { c with relockBy := some (s.now + 50000) }) |>.raise Ev.CLK_PLL_UNLOCK 0xFFFF 5
  else s

/-- Lock has not been regained within 50 µs: a block reset is requested (R134, R376). -/
def relockTimeout (s : State) : State :=
  match s.clk.relockBy with
  | some t => { (s.advance t).modClkGen fun c => { c with relockBy := none } with resetReq := some 3 }
  | none => s

/-- RETURN starts a proof, unless the crystal is the reference or an attempt is under way (R135). DEDUCED, log 26. -/
def clkReturn (s : State) : State :=
  if s.rd R.CLK_SRC_ACTIVE = 1 || s.on R.CLK_SRC_CTL_RETURN then s
  else (s.flag R.CLK_SRC_CTL_RETURN true).modClkGen fun c => { c with proof := some { ret := true } }

/-! Acknowledgement timeouts (R145). -/

/-- A raise of a die ends without its acknowledgement, by timeout or VNAK: it is counted, to be told in the next window
report, and a VSET whose target with its margin equals V_ack ends it. DEDUCED, log 26. -/
def raiseFails (s : State) (d : Die) : State :=
  let l := d.loop
  let n := s.clkDie[d].timeouts + 1
  let s := (s.raise Ev.CLK_VCL_ACK_TIMEOUT d).countDie d.sat (R.CLK_DIE_CNT_ACK_TO_COUNT d)
  let s := s.modClk d fun c => { c with timeouts := n, toTell := true }
  let m := s.margin l
  (s.newVset l (s.clkDie[d].vAck - 15 * m) m none none).flag (R.CLK_DIE_DIV_ACK_WAIT d) false

/-- The effect of VCL_ACK_TIMEOUT (R145). -/
def ackTimeout (s : State) (d : Die) : State :=
  match s.vsetTx[d.loop].due with
  | some t => (s.advance t).raiseFails d
  | none => s

/-! Clock gates (R146–R148). -/

/-- The effect of CLUSTER_GATE_REQUEST (R146). -/
def gateWrite (s : State) (d : Die) (c : Cluster) (code : Nat) : State :=
  if s.fenced d || decide (2 < code) then s else (s.wr (R.CLK_DIE_GATE_CL d c) code).gateRequest d c

/-- The clock of a cluster whose grants have run out stops on the next alignment edge. -/
def clockStop (s : State) (d : Die) (c : Cluster) : State :=
  if s.clkDie[d].gate[c] = .stopping then ((s.toEdge).gateTake d c (s.gateAsked d c)).setGate d c .settled else s

/-- A waking cluster is ready at an instant. -/
def wakes (s : State) (d : Die) (c : Cluster) (t : Nat) : Bool :=
  match s.clkDie[d].gate[c] with
  | .waking a => decide (a ≤ t)
  | _ => false

/-- A cluster restarts on an alignment edge: at most one in a period, in ascending order (R147). -/
def clusterRestart (s : State) (d : Die) (c : Cluster) : State :=
  match s.clkDie[d].gate[c] with
  | .waking a =>
    let t := (s.advance a).toEdge
    let t := if t.clkDie[d].wokeAt = some t.edge then ({ t with now := t.now + 1 }).toAlign else t
    if clusters.any fun k => decide (k.val < c.val) && t.wakes d k t.now then s
    else ((t.gateTake d c 0).setGate d c .rejoining).modClk d fun x => { x with wokeAt := some t.edge }
  | _ => s

/-! Droop (R151–R156). -/

/-- The detectors of a die that count: enabled and not set aside. -/
def droopSet (s : State) (d : Die) : Nat :=
  s.rd (R.CLK_DIE_DROOP_EN_DET d) - (s.rd (R.CLK_DIE_DROOP_EN_DET d) &&& s.rd (R.CLK_DIE_DROOP_STUCK_DET d))

/-- An enabled detector of a die is asserted. -/
def drooping (s : State) (d : Die) : Bool := s.droopSet d &&& s.rd (R.CLK_DIE_DROOP_NOW_DET d) != 0

/-- The local voltage of a detector, in µV, lies below V_ack less a threshold in mV (R151). -/
def sags (s : State) (d : Die) (thr : Fld) (uv : Nat) : Bool := decide (uv + 1000 * s.rd thr < 1000 * s.clkDie[d].vAck)

/-- An episode begins: it is counted, and the die is to step one position slower on the first alignment edge its report can
reach, 16 ns after the crossing or more (R152, R153). -/
def droopBegin (s : State) (d : Die) : State :=
  if s.on (R.CLK_DIE_DIV_DROOP_ACTIVE d) || !s.drooping d then s
  else
    let s := ((s.flag (R.CLK_DIE_DIV_DROOP_ACTIVE d) true).countDie d.sat (R.CLK_DIE_CNT_DROOP_COUNT d)).count (R.REC_AO_COUNT 7)
    let e := cdiv (s.now + 16) 20
    s.modClk d fun c => { c with
      clearAt := none, winSlow := max c.winSlow (s.ratio d), slowAt := some ((c.slowAt.map (min e)).getD e) }

/-- With every detector clear the episode and the DROOP cause end, recovery starts, and a voltage that waited for it may
be lowered (R144, R152). -/
def droopCheck (s : State) (d : Die) : State :=
  if s.on (R.CLK_DIE_DIV_DROOP_ACTIVE d) && !s.drooping d then
    let s := (s.flag (R.CLK_DIE_DIV_DROOP_ACTIVE d) false).modClk d fun c => { c with clearAt := some s.now }
    (s.cuffOne d .droop false).lowerVoltage d
  else s

/-- The effect of DROOP_ASSERT: a detector that is clear asserts where its local voltage lies below V_ack − THR1 (R151,
R152). The slowest ratio of the window's record is the one in effect where no droop step is taken in the window.
DESIGN CHOICE, log 27. -/
def droopAssert (s : State) (d : Die) (det : Fin 32) (uv : Nat) : State :=
  if bit (s.rd (R.CLK_DIE_DROOP_NOW_DET d)) det.val || !s.sags d R.CLK_DROOP_CFG_THR1 uv then s
  else
    let s := s.setMask (R.CLK_DIE_DROOP_NOW_DET d) (2 ^ det.val)
    if !bit (s.droopSet d) det.val then s
    else
      let s := s.setMask (R.CLK_DIE_DROOP_SEEN_DET d) (2 ^ det.val)
      let s := s.modClk d fun c => { c with
        since := Tab.put c.since det s.now, winDet := c.winDet ||| 2 ^ det.val, winSlow := max c.winSlow (s.ratio d) }
      s.droopBegin d

/-- The effect of DROOP_THR2_CROSS: the local voltage lies below V_ack − THR2 (R151, R152). -/
def droopThr2 (s : State) (d : Die) (det : Fin 32) (uv : Nat) : State :=
  if bit (s.droopSet d) det.val && s.sags d R.CLK_DROOP_CFG_THR2 uv then s.cuffOne d .droop true else s

/-- The effect of DROOP_CUFF_COUNT: the detector has been seen asserted on CUFF_AP edges in a row (R152). -/
def droopCount (s : State) (d : Die) (det : Fin 32) : State :=
  if bit (s.droopSet d) det.val && decide (max 1 (s.rd R.CLK_DROOP_CFG_CUFF_AP) ≤ (Tab.find s.clkDie[d].apRun det).getD 0) then
    s.cuffOne d .droop true
  else s

/-- The effect of DROOP_CLEAR: an asserted detector clears where its local voltage lies above V_ack − THR1 + 4 mV; the run of
edges on which it was seen asserted ends (R151, R152). -/
def droopClear (s : State) (d : Die) (det : Fin 32) (uv : Nat) : State :=
  if !bit (s.rd (R.CLK_DIE_DROOP_NOW_DET d)) det.val ||
      decide (uv + 1000 * s.rd R.CLK_DROOP_CFG_THR1 ≤ 1000 * s.clkDie[d].vAck + 4000) then s
  else
    ((s.clrMask (R.CLK_DIE_DROOP_NOW_DET d) (2 ^ det.val)).modClk d fun c => { c with
      since := Tab.del c.since det, apRun := Tab.del c.apRun det }).droopCheck d

/-- RECOVER_AP clear periods have passed: the die steps back toward the ratio it is allowed (R152). -/
def droopRecover (s : State) (d : Die) : State :=
  match s.clkDie[d].clearAt with
  | some t =>
    let s := (s.advance (t + 20 * s.rd R.CLK_DROOP_CFG_RECOVER_AP)).toEdge
    let s := s.divStep d s.edge
    if s.ratio d ≤ s.target d then s.modClk d fun c => { c with clearAt := none } else s
  | none => s

/-- The effect of DROOP_STUCK_LIMIT (R154). -/
def droopStuck (s : State) (d : Die) (det : Fin 32) : State :=
  match Tab.find s.clkDie[d].since det with
  | some t =>
    let s := (s.advance (t + 1000 * s.rd R.CLK_DROOP_STUCK_LIMIT)).setMask (R.CLK_DIE_DROOP_STUCK_DET d) (2 ^ det.val)
    ((s.modClk d fun c => { c with since := Tab.del c.since det, apRun := Tab.del c.apRun det }).raise
      Ev.CLK_DROOP_STUCK d det).droopCheck d
  | none => s

/-- The die's detector set has changed: an asserted detector that joins it counts from now on, and one that has left it is
timed no longer (R152, R154, R155). DEDUCED, log 27. -/
def droopSync (s : State) (d : Die) : State :=
  s.each (List.finRange 32) fun det s =>
    if !bit (s.droopSet d) det.val then
      s.modClk d fun c => { c with since := Tab.del c.since det, apRun := Tab.del c.apRun det }
    else if bit (s.rd (R.CLK_DIE_DROOP_NOW_DET d)) det.val && (Tab.find s.clkDie[d].since det).isNone then
      (s.setMask (R.CLK_DIE_DROOP_SEEN_DET d) (2 ^ det.val)).modClk d fun c => { c with
        since := Tab.put c.since det s.now, winDet := c.winDet ||| 2 ^ det.val, winSlow := max c.winSlow (s.ratio d) }
    else s

/-- Writing 1 to DROOP_STUCK bits readmits the detectors; one still asserted counts again (R154). DEDUCED, log 27. -/
def droopReadmit (s : State) (d : Die) (mask : Nat) : State :=
  ((s.clrMask (R.CLK_DIE_DROOP_STUCK_DET d) mask).droopSync d).droopBegin d

/-! Frequency measurement (R157, R158). -/

/-- Source codes that are not reserved, with a reference that is not (R157). -/
def fmcSource (k ref : Nat) : Bool := (decide (k ≤ 6) || (decide (8 ≤ k) && decide (k ≤ 16))) && ref != 3

/-- The effect of FMC_START (R158). -/
def fmcStart (s : State) : State :=
  if s.on R.CLK_FMC_CTL_BUSY then s
  else ((s.flag R.CLK_FMC_CTL_START true).flag R.CLK_FMC_CTL_BUSY true).modClkGen fun c => { c with
    fmcSrc := s.rd R.CLK_FMC_CTL_SRC, fmcRef := s.rd R.CLK_FMC_CTL_REF }

/-- The effect of FMC_GATE_END (R158). -/
def fmcEnd (s : State) (count : Nat) : State :=
  if !s.on R.CLK_FMC_CTL_BUSY then s
  else
    let n := if fmcSource s.clk.fmcSrc s.clk.fmcRef then count else 0
    (((s.flag R.CLK_FMC_CTL_START false).flag R.CLK_FMC_CTL_BUSY false).flag R.CLK_FMC_CTL_OVF (decide (2 ^ 64 ≤ n))).wr
      R.CLK_FMC_COUNT_COUNT n

end State

/-- XTAL_AMPLITUDE_GOOD (R127): the first measurement starts. -/
def execXtalAmplitudeGood (s : State) : Res :=
  .next (s.when (s.clk.started && s.phase == .held && s.clk.proof.isNone && s.clk.taking.isNone)
    (·.modClkGen fun c => { c with proof := some { ret := false } }))
/-- SOURCE_MONITOR_GATE (R126, R129). -/
def execSourceMonitorGate (count : Nat) (s : State) : Res := .next (s.sourceGate count)
/-- PLL_LOCK (R127). -/
def execPllLock (s : State) : Res := .next s.pllLock
/-- XTAL_PROOF_TIMEOUT (R127). -/
def execXtalProofTimeout (s : State) : Res := .next s.proofTimeout
/-- CRYSTAL_EDGE_LOSS (R130). -/
def execCrystalEdgeLoss (s : State) : Res := .next s.edgeLoss
/-- PLL_LOCK_LOSS (R134). -/
def execPllLockLoss (s : State) : Res := .next s.lockLoss
/-- PLL_RELOCK_TIMEOUT (R134). -/
def execPllRelockTimeout (s : State) : Res := .next s.relockTimeout
/-- CLK_RETURN (R135). -/
def execClkReturn (s : State) : Res := .next s.clkReturn
/-- DIVIDER_STEP (R139, R142). -/
def execDividerStep (d : Die) (s : State) : Res := .next (s.when s.rgcOn fun s => s.toEdge.divStep d s.toEdge.edge)
/-- VCL_ACK_TIMEOUT (R145). -/
def execVclAckTimeout (d : Die) (s : State) : Res := .next (s.when s.live (·.ackTimeout d))
/-- HELD_RELEASE (R145): the hold ends with the next window the governor computes. -/
def execHeldRelease (d : Die) (s : State) : Res :=
  .next (s.when (s.live && s.on (R.CLK_DIE_DIV_HELD d)) fun s =>
    (s.flag (R.CLK_DIE_DIV_HELD d) false).modHold d fun h => { h with released := true })
/-- CLUSTER_GATE_REQUEST (R146). -/
def execClusterGateRequest (d : Die) (c : Cluster) (code : Nat) (s : State) : Res := .next (s.when s.live (·.gateWrite d c code))
/-- CLUSTER_CLOCK_STOP (R147). -/
def execClusterClockStop (d : Die) (c : Cluster) (s : State) : Res := .next (s.when s.live (·.clockStop d c))
/-- CLUSTER_RESTART (R147). -/
def execClusterRestart (d : Die) (c : Cluster) (s : State) : Res := .next (s.when s.live (·.clusterRestart d c))
/-- DROOP_ASSERT (R152). -/
def execDroopAssert (d : Die) (det : Fin 32) (uv : Nat) (s : State) : Res := .next (s.when s.live (·.droopAssert d det uv))
/-- DROOP_THR2_CROSS (R152). -/
def execDroopThr2Cross (d : Die) (det : Fin 32) (uv : Nat) (s : State) : Res := .next (s.when s.live (·.droopThr2 d det uv))
/-- DROOP_CUFF_COUNT (R152). -/
def execDroopCuffCount (d : Die) (det : Fin 32) (s : State) : Res := .next (s.when s.live (·.droopCount d det))
/-- DROOP_CLEAR (R152). -/
def execDroopClear (d : Die) (det : Fin 32) (uv : Nat) (s : State) : Res := .next (s.when s.live (·.droopClear d det uv))
/-- DROOP_RECOVERY (R152). -/
def execDroopRecovery (d : Die) (s : State) : Res := .next (s.when s.live (·.droopRecover d))
/-- DROOP_STUCK_LIMIT (R154). -/
def execDroopStuckLimit (d : Die) (det : Fin 32) (s : State) : Res := .next (s.when s.live (·.droopStuck d det))
/-- DROOP_READMIT (R154). -/
def execDroopReadmit (d : Die) (mask : Nat) (s : State) : Res := .next (s.when s.live (·.droopReadmit d mask))
/-- FMC_START (R158). -/
def execFmcStart (s : State) : Res := .next s.fmcStart
/-- FMC_GATE_END (R158). -/
def execFmcGateEnd (count : Nat) (s : State) : Res := .next (s.fmcEnd count)

end Sys2Proof.Machine
end

