-- ==== Sys2Proof/Machine/Loops.lean ====
section
/-!
DEFINITION. Machine/Loops.lean: what the commands of the regulator share: modes and the status that follows them, targets,
rotation, capability, pre-arms, the Cuff at the RGC, shutdown with its dependants (R163–R187, R203–R220), and the
requests the governor places for a die (R32).
-/
namespace Sys2Proof.Machine
namespace State

/-! Requests the governor places for a die under R32, by source. -/

/-- Sources of requests. -/
abbrev srcVcl : Nat := 1
abbrev srcPhase : Nat := 2
abbrev srcOverload : Nat := 3
abbrev srcSoft : Nat := 4
abbrev srcHard : Nat := 5
abbrev srcPace : Nat := 6
abbrev srcMargin : Nat := 7
/-- VR_ALERT# of a loop L8 to L15. -/
def srcAlert (l : Loop) : Nat := 16 + l.val

def modGovDie (s : State) (d : Die) (g : GovDie → GovDie) : State := { s with govDie := s.govDie.set d (g s.govDie[d]) }

/-- The smallest pool, and the slowest ratio code, among the outstanding requests. -/
def poolWanted (s : State) (d : Die) (p : Nat) : Nat := (s.govDie[d].poolReq.map (·.2)).foldl min p
def ratioWanted (s : State) (d : Die) (k : Nat) : Nat := (s.govDie[d].ratioReq.map (·.2)).foldl max k

/-- The last report of a die: the last window's, or the last that arrived (R118). -/
def lastWin (s : State) (d : Die) : WinCount := (s.govDie[d].lastRpt.map (·.win)).getD {}

/-- The fall a reduction of the pool or a slower ratio brings (R72). -/
def fallSteps (s : State) (d : Die) (pool ratio : Nat) : List Int :=
  let w := s.lastWin d
  let slow := if s.ratio d < ratio then w.gWin * (s.scale ratio + s.margin d.loop) / max 1 w.scale else w.gWin
  let x := 144 * (w.gWin - min slow (32 * pool)) / 3200
  if x = 0 then [] else [-(x : Int)]

/-- The fall of a reduction commanded between two window decisions is announced to the RGC in the same window; it can begin
in this one (R72, R182). DEDUCED, log 18. -/
def announceFall (s : State) (d : Die) (pool ratio : Nat) : State :=
  if !s.seamUp d.sat then s
  else s.each (s.fallSteps d pool ratio) fun di s =>
    s.sendRgc (.loadStep d.loop di (s.rd (R.ADM_DIE_RAMP_SHARE d) * 90 / 64) s.window)

/-- A reduction that the RGC itself asks for, by a lost phase or VR_ALERT#, needs no notice (R72). -/
def ownNotice (src : Nat) : Bool := src == srcPhase || decide (16 ≤ src)

/-- The governor places a request for a die; one that lowers the pool or slows the ratio goes to the satellite at once,
stamped for the first stroke boundary it can reach (R32, R38, R71). -/
def place (s : State) (d : Die) (src : Nat) (pool ratio nav : Option Nat) : State :=
  let s := s.modGovDie d fun g => { g with
    poolReq := match pool with
      | some p => Tab.put g.poolReq src p
      | none => g.poolReq
    ratioReq := match ratio with
      | some k => Tab.put g.ratioReq src k
      | none => g.ratioReq }
  let g := s.govDie[d]
  let p := s.poolWanted d g.pool
  if p < g.pool || ratio.isSome || nav.isSome then
    let s := if ownNotice src then s else s.announceFall d p (ratio.getD (s.ratio d))
    (s.modGovDie d fun g => { g with pool := p }).sendSeam d.sat (some s.nextStroke) (.reduce p ratio nav)
  else s

/-- A request is withdrawn; what it allows follows with the next window (R32). -/
def withdraw (s : State) (d : Die) (src : Nat) : State :=
  s.modGovDie d fun g => { g with poolReq := Tab.del g.poolReq src, ratioReq := Tab.del g.ratioReq src }

/-! Modes (R198, R202). -/

def mode (s : State) (l : Loop) : Nat := s.rd (R.RGC_L_STATUS_MODE l)
/-- A loop regulates: MODE 2 to 4. -/
def regulates (s : State) (l : Loop) : Bool := decide (2 ≤ s.mode l ∧ s.mode l ≤ 4)
/-- A loop drives its phases: MODE 1 to 4. -/
def drives (s : State) (l : Loop) : Bool := decide (1 ≤ s.mode l ∧ s.mode l ≤ 4)
/-- Its phases switch: a loop that waits for a retry, or has gone to MID in ramp-down, has them at MID (R205, R208). -/
def switches (s : State) (l : Loop) : Bool := s.drives l && s.loop[l].midAt.isNone && s.loop[l].retryAt.isNone
/-- A compute loop is parked (R209). -/
def parked (s : State) (l : Loop) : Bool := decide (l.val < 8) && s.on (R.RGC_L_FAULT_PARK l)

/-- The live status of the sequence (R202, R205). -/
def showSeq (s : State) : State :=
  let s := s.wr R.RGC_SEQ_STATUS_REG (maskOf ((loops.filter fun k => s.regulates k).map (·.val)))
  let s := s.flag R.RGC_SEQ_STATUS_DONE (loops.all fun k => s.parked k || s.regulates k)
  s.flag R.RGC_SEQ_STATUS_OFF_DONE (loops.all fun k => s.parked k || s.mode k == 0)
/-- MODE changes, and with it the live status of the sequence. -/
def setMode (s : State) (l : Loop) (m : Nat) : State := (s.wr (R.RGC_L_STATUS_MODE l) m).showSeq

/-- A loop's settings for its number of phases, and the phases of the loop. -/
def nph (s : State) (l : Loop) : Nat := s.rd (R.RGC_L_CFG_NPH l)
def phasesOf (s : State) (l : Loop) : List Phase := phaseList.filter fun p => decide (p.val < s.nph l)
/-- The phases in rotation, ascending. -/
def inRot (s : State) (l : Loop) : List Phase := (s.phasesOf l).filter fun p => s.on (R.RGC_PH_STS_INROT l p)
def nRot (s : State) (l : Loop) : Nat := (s.inRot l).length

/-- A phase enters or leaves the rotation: NROT shows how many it has, and the index is kept modulo that; one that leaves
has no more pulses to come (R216). -/
def setRot (s : State) (l : Loop) (p : Phase) (b : Bool) : State :=
  let s := s.flag (R.RGC_PH_STS_INROT l p) b
  let n := s.nRot l
  let s := (s.wr (R.RGC_L_STATUS_NROT l) n).wr (R.RGC_L_STATUS_ROT l) (if n = 0 then 0 else s.rd (R.RGC_L_STATUS_ROT l) % n)
  let s := s.modLoop l fun L => { L with renum := true, slots := L.slots.filter fun f => b || f.phase != p }
  if b then s else s.modPhase l p fun P => { P with cut := none, run := 0, tripped := false }

/-- A phase as its PWM stands at a root cycle: a change that is still to come is taken back. -/
def standsAt (P : PhaseSt) (t : Nat) : PhaseSt :=
  if t < P.at_ then { P with level := P.wasLevel, at_ := P.wasAt, lastHigh := P.wasHigh } else P

/-- The root cycle at which a phase asked at `t` to change its level does so: HIGH has lasted 20 ns, MID 40 ns, and LOW 40 ns
before HIGH (R168). -/
def goesAt (P : PhaseSt) (level t : Nat) : Nat :=
  max t (P.at_ + (if P.level = 2 then 240 else if P.level = 0 ∨ level = 2 then 480 else 0))

/-- PWM of a phase takes a level at a root cycle. -/
def setLevel (s : State) (l : Loop) (p : Phase) (level at_ : Nat) : State :=
  s.modPhase l p fun P => { P with
    level, at_, lastHigh := if level = 2 then some at_ else P.lastHigh
    wasLevel := P.level, wasAt := P.at_, wasHigh := P.lastHigh }

/-- The pulses that have begun before a root cycle; in a response slot instants are not acted on (R174, R179, R180). -/
def pulsesTo (s : State) (l : Loop) (t : Nat) : State :=
  let L := s.loop[l]
  if L.resp.isSome then s
  else
    let begun := L.slots.filter fun f => decide (f.at_ < t)
    (s.each begun fun f s => s.setLevel l f.phase 2 f.at_).modLoop l fun L => { L with
      slots := L.slots.filter fun f => decide (t ≤ f.at_) }

/-- PWM of phases is driven to a level, as soon as the level they stand at allows; a change still to come gives way (R168).
DEDUCED, log 31. -/
def drive (s : State) (l : Loop) (ps : List Phase) (level : Nat) : State :=
  let t := 12 * s.now
  let s := s.pulsesTo l t
  let back := (ps.filter fun p =>
    decide (t < s.loop[l].phases[p].at_) && s.loop[l].phases[p].wasLevel == level).map fun p => (p, t)
  let s := s.each ps fun p s => s.modPhase l p fun P => standsAt P t
  let go := (ps.filter fun p => s.loop[l].phases[p].level != level).map fun p => (p, goesAt s.loop[l].phases[p] level t)
  let s := s.each go fun x s => s.setLevel l x.1 level x.2
  if (back ++ go).isEmpty then s else s.emit (.pwm l (back ++ go) level)

/-! Sensed currents (R167, R176, R199). -/

/-- The sensed current of a phase after trim, in 1/16 A, from the voltage of its sense pins in µV. -/
def sensed (s : State) (l : Loop) (p : Phase) (uv : Int) : Int :=
  16 * uv / (max 1 s.loop[l].phases[p].gain : Nat) + signed 16 s.loop[l].phases[p].ofs
/-- I_tot: the sum over the phases in rotation. -/
def total (s : State) (l : Loop) (uv : List Int) : Int :=
  (((s.inRot l).zip uv).map fun x => s.sensed l x.1 x.2).foldl (· + ·) 0

/-! Targets (R163, R165, R220). -/

/-- Bottom and top of a loop's voltage range, in mV (R163). -/
def vBottom (l : Loop) : Nat :=
  if l.val < 8 then 550 else if l.val = 8 then 600 else if l.val ≤ 10 then 700 else if l.val < 15 then 1050 else 750
def vTop (l : Loop) : Nat :=
  if l.val < 8 then 900 else if l.val = 8 then 1000 else if l.val = 9 then 850 else if l.val = 10 then 950
  else if l.val < 15 then 1200 else 900

/-- A target is clamped at the bottom of the range and at VMAX, and at 550 mV for a loop fenced for lost phases or for
its die (R165, R220, R497). -/
def clampTarget (s : State) (l : Loop) (mv : Nat) : Nat :=
  let v := min (max mv (vBottom l)) (s.rd (R.RGC_L_VMAX_VMAX l))
  let fenced := s.on (R.RGC_L_FAULT_FENCED l) || (match l.die? with
    | some d => s.fenced d
    | none => false)
  if fenced then min v 550 else v

/-- Pre-arm offset asked, in µV: PA_MV, less what would take V_ref above VMAX (R183). -/
def preGoal (s : State) (l : Loop) : Nat :=
  match s.loop[l].pre with
  | some p => min p.offs (1000 * (s.rd (R.RGC_L_VMAX_VMAX l) - s.rd (R.RGC_L_TGT_TARGET l)))
  | none => 0

/-- V_ref has reached the target with the pre-arm's offset (R183, R191). -/
def atTarget (s : State) (l : Loop) : Bool := s.loop[l].vref == 1000 * s.rd (R.RGC_L_TGT_TARGET l) + s.preGoal l

/-- REF shows V_ref in mV, and RAMP that it is moving. -/
def showRef (s : State) (l : Loop) (moving : Bool) : State :=
  (s.wr (R.RGC_L_TGT_REF l) (s.loop[l].vref / 1000)).flag (R.RGC_L_TGT_RAMP l) moving

/-- A loop's target changes; the samples of its acknowledgement count afresh (R191). -/
def setTarget (s : State) (l : Loop) (mv : Nat) : State :=
  let s := (s.wr (R.RGC_L_TGT_TARGET l) mv).modLoop l fun L => { L with okRun := 0 }
  s.showRef l (s.loop[l].vref != 1000 * mv + s.preGoal l)

/-! Capability and overload reference (R213, R217). -/

/-- Phases available: removed ones and one held by a calibration do not count. -/
def nAv (s : State) (l : Loop) : Nat := s.nph l - s.rd (R.RGC_L_PHLOSS_LOST l) - s.loop[l].derate
/-- LIMIT × N_av / NPH, in 1/16 A. -/
def capOf (s : State) (l : Loop) : Nat := s.rd (R.BUD_RAIL_LIM_LIMIT l) * s.nAv l / max 1 (s.nph l)
/-- The pool that CAP allows a die: floor((CAP − ALLOW) / 0.09 A) (R218). -/
def capPool (s : State) (l : Loop) : Nat := (s.rd (R.RGC_L_PHLOSS_CAP l) - 16 * s.rd R.ADM_UNCORE_ALLOW) * 100 / 144
/-- CAP falls at once; a rise waits for the window boundary (R218). -/
def capFalls (s : State) (l : Loop) : State := s.wr (R.RGC_L_PHLOSS_CAP l) (min (s.rd (R.RGC_L_PHLOSS_CAP l)) (s.capOf l))
/-- The 1.024 µs average of a loop's current, in 1/16 A, as it stood `k` steps of 16 ns ago (R229). -/
def avgAt (s : State) (l : Loop) (k : Nat) : Nat := ((s.loop[l].means.drop k).take 64).foldl (· + ·) 0 / 64
/-- The present average. -/
def avgI (s : State) (l : Loop) : Nat := s.avgAt l 0
/-- The last 64 ns mean, in 1/16 A (R229). -/
def mean64 (s : State) (l : Loop) : Nat := (s.loop[l].means.take 4).foldl (· + ·) 0 / 4
/-- The limit that the Cuff's thresholds are taken of, in 1/16 A: the limit in effect, or LIMIT where none is (R73, R213).
DEDUCED, log 17. -/
def cuffLimit (s : State) (l : Loop) : Nat :=
  let e := s.rd (R.BUD_RAIL_STATUS_LIM_EFF l)
  if e = 0 || !s.on R.GLB_STATUS_ENABLED then s.rd (R.BUD_RAIL_LIM_LIMIT l) else e

/-- I_ref in 1/16 A: the lower of the limit in effect and CAP, with LIMIT where no limit is in effect (R213). -/
def iRef (s : State) (l : Loop) : Nat := min (s.cuffLimit l) (s.rd (R.RGC_L_PHLOSS_CAP l))
/-- I_c, or the sum of the mean currents of the phases in rotation, if larger, in 1/16384 A (R219). -/
def presentLoad (s : State) (l : Loop) : Int :=
  max s.loop[l].iCmd (1024 * ((s.inRot l).map fun p => s.loop[l].phases[p].iavg).foldl (· + ·) 0)
/-- VR_ALERT# of a loop is acted on: the input is asserted and enabled, or P12V_OK is lost (R226, R504). -/
def alerted (s : State) (l : Loop) : Bool :=
  (s.on (R.RGC_L_ALERT_NOW l) && s.on (R.RGC_L_ALERT_EN l)) || s.rgc.p12vLost

/-! The Cuff at the RGC (R73, R193, R194). -/

/-- The CUFF frame with the causes of a loop that are active now. -/
def cuffNow (s : State) (l : Loop) : VclFrame :=
  VclFrame.make 9 0 l (bits s.loop[l].cuff 0 2 + 4 * bits s.loop[l].cuff 3 2) 0
/-- A change of the active causes goes to the satellite, or the governor forwards them while the link is down. -/
def sendCuff (s : State) (l : Loop) : State :=
  let x := satOf l
  if s.vcl[x].rgc.up then s.sendVclCuff x (s.cuffNow l) else s.sendSeam x none (.cuff s.loop[l].cuff)

/-- The feed-forward ramp stops where it is (R185). -/
def stopFf (s : State) (l : Loop) : State := (s.modLoop l fun L => { L with ffLeft := 0 }).flag (R.RGC_L_STATUS_FF l) false

/-- A cause of the RGC starts or clears on a compute loop: CUFF is sent twice, and a start stops the feed-forward. -/
def rgcCuff (s : State) (l : Loop) (c : CuffCause) (active : Bool) : State :=
  if 8 ≤ l.val || c == .droop || bit s.loop[l].cuff c.bit == active then s
  else
    let s := s.modLoop l fun L => { L with cuff := withBit L.cuff c.bit active }
    let s := s.sendCuff l
    if active then s.stopFf l else s

/-- A cause of the Cuff at the RGC has come or gone by its own condition (R73): PEAK and AVG by the means of the last
64 ns, on any of its 16 ns steps; ALERT by VR_ALERT#; PHASE by the load, and it goes only with the governor's command. -/
def cuffHolds (s : State) (l : Loop) (c : CuffCause) (active : Bool) : Bool :=
  let lim := s.cuffLimit l
  let low := (List.range 4).any fun k => decide (100 * s.avgAt l k < s.rd R.ADM_CUFF_CFG_REL_PCT * lim)
  match c, active with
  | .peak, true => decide (s.rd R.ADM_CUFF_CFG_PEAK_PCT * lim < 100 * s.mean64 l)
  | .peak, false => low && decide (100 * s.mean64 l < s.rd R.ADM_CUFF_CFG_PEAK_PCT * lim)
  | .avg, true => (List.range 4).any fun k => decide (s.rd R.ADM_CUFF_CFG_AVG_PCT * lim < 100 * s.avgAt l k)
  | .avg, false => low
  | .alert, b => s.alerted l == b
  | .phase, true => decide (0 < s.rd (R.RGC_L_PHLOSS_LOST l)) && decide (1024 * (s.rd (R.RGC_L_PHLOSS_CAP l) : Int) < s.presentLoad l)
  | _, _ => false

/-- The RGC finds that a cause has come or gone (R73, R193). -/
def cuffCause (s : State) (l : Loop) (c : CuffCause) (active : Bool) : State :=
  if s.cuffHolds l c active then s.rgcCuff l c active else s

/-! Pre-arms (R183, R186). -/

/-- A PREARM frame goes to the loop's satellite while the link is up. -/
def sendPreArm (s : State) (l : Loop) (armed : Bool) : State :=
  if s.vcl[satOf l].rgc.up then s.sendVcl (satOf l) .rgc (VclFrame.make 0xA 0 l (b2n armed) 0) else s

/-- A pre-arm ends: V_ref returns, the feed-forward stops and PREARM is sent with ARMED at 0. -/
def endPreArm (s : State) (l : Loop) : State :=
  if s.loop[l].pre.isNone then s
  else
    let s := ((s.modLoop l fun L => { L with pre := none, okRun := 0 }).flag (R.RGC_L_TGT_PREARMED l) false).stopFf l
    (s.showRef l (s.loop[l].vref != 1000 * s.rd (R.RGC_L_TGT_TARGET l))).sendPreArm l false

/-- An announced fall arms its loop for release from its window until two windows later (R187). -/
def relArm (s : State) (l : Loop) : State :=
  match s.loop[l].relFrom with
  | none => s
  | some w =>
    let s := s.flag (R.RGC_L_STATUS_REL_ARM l) (decide (w ≤ s.window) && decide (s.window < w + 2))
    if w + 2 ≤ s.window then s.modLoop l fun L => { L with relFrom := none } else s

/-! Going to MID and shutting down (R206). -/

/-- The channels of a loop's phases that took part in the response in progress get their ring entries: for how long each was
HIGH in an undershoot response, and for how long a brake response lasted (R435). DEDUCED, log 50. -/
def respRings (s : State) (l : Loop) : State :=
  match s.loop[l].resp with
  | some (true, t) => s.each (s.inRot l) fun p s =>
      let P := standsAt s.loop[l].phases[p] (12 * s.now)
      let upto := if P.level = 2 then 12 * s.now else P.at_
      s.ringChan (s.chan l p) 0x22 ((upto - max (12 * t) (P.lastHigh.getD 0)) / 12)
  | some (false, t) => s.each (s.inRot l) fun p s => s.ringChan (s.chan l p) 0x23 (s.now - t)
  | none => s

/-- The calibration of a loop ends, and its derating with it (R232, R235). -/
def calEnd (s : State) (l : Loop) : State :=
  let L := s.loop[l]
  if L.cal.isNone then s
  else
    let body := (s.phasesOf l).flatMap fun (p : Phase) =>
      [s.rd (R.RGC_PH_CS_OFS l p), s.rd (R.RGC_PH_CS_GAIN l p), b2n (L.calBad.contains p)]
    ((s.modLoop l fun L => { L with cal := none, calLeft := [], calBad := [], derate := 0 }).flag
      (R.RGC_L_CAL_BUSY l) false).raise Ev.RGC_CAL_DONE l 0 body

/-- The overload timer of a loop resets, and its Feather ends (R213). -/
def ovlEnd (s : State) (l : Loop) : State :=
  let s := ((s.modLoop l fun L => { L with ovlNs := 0 }).wr (R.RGC_L_OVL_TIMER l) 0).flag (R.RGC_L_OVL_FEATHER l) false
  match l.die? with
  | some d => s.withdraw d srcOverload
  | none => s

/-- Every phase of a loop goes to MID and out of rotation; what was under way on the loop ends. -/
def allMid (s : State) (l : Loop) : State :=
  let s := ((s.respRings l).endPreArm l).drive l (s.phasesOf l) 0
  let s := (s.calEnd l).ovlEnd l
  let s := s.each phaseList fun p s =>
    let s := (s.flag (R.RGC_PH_LOSS_TRIAL l p) false).flag (R.RGC_PH_LOSS_READMIT l p) false
    if s.on (R.RGC_PH_STS_INROT l p) then s.setRot l p false else s
  let s := s.flag (R.RGC_L_STATUS_REL_ARM l) false
  s.modLoop l fun L => { L with
    vset := none, held := none, resp := none, startAt := none, retryAt := none, down := false, midAt := none
    iInt := 0, iCmd := 0, ePrev := 0, relFrom := none, shortRun := 0, ssLow := 0, pgRun := 0, okRun := 0, slots := [] }

/-- A calibration ends before its time: its phase returns to rotation if sound (R235, R510). -/
def calStop (s : State) (l : Loop) : State :=
  match s.loop[l].cal, s.loop[l].calLeft.head? with
  | some _, some q => if s.on (R.RGC_PH_LOSS_OUT l q) then s.calEnd l else (s.calEnd l).setRot l q true
  | _, _ => s

/-- The tests of a die that is fenced end, and each is deferred with reason 2, to be tried again at a later period; a slot
under a run leaves the scan (R289, R510). DEDUCED, log 34. -/
def dropTests (s : State) (d : Die) : State :=
  let l := s.sen.tests.filter fun t => t.die == d
  let s := s.modSen fun q => { q with tests := q.tests.filter fun t => t.die != d }
  s.each l fun t s =>
    let site := 36 * t.cluster + t.slot
    (s.when t.left.isSome (·.toSat d (.remove site))).deferTest d site 2 t.asked

/-- FENCE reaches a die for a cause: every site is held, nothing more is granted, its pool is 0 from the next stroke
boundary on, the die goes to ÷16 and
its clusters to deep sleep, its hints drop, and its loop's target is clamped; a calibration or test on it ends; epochs that
waited for it alone are verified (R297, R497, R510). DEDUCED, log 16. -/
def fence (s : State) (d : Die) (cause : Nat) : State :=
  let s0 := s.wr (R.ADM_SEAM_CTL_CAUSE d) cause
  if s.fenced d then s0
  else
    let s := (s0.flag (R.ADM_SEAM_STS_FENCED d) true).flag (R.ADM_DIE_STATUS_FENCED d) true
    let off := allSites.filter fun x => !s.adm[d].held.contains x
    let s := s.modAdm d fun a => { a with issued := [], chosen := [], held := a.held ++ off, storm := none, unmet := false }
    let s := s.holdSites d off 2
    let s := s.wr (R.ADM_DIE_STROKE_GRANTED d) 0
    let s := (s.dropHints d).emit (.fenceLine d true)
    let s := s.each clusters fun c s => s.gateRequest d c
    let s := ((s.clampLoop d.loop).retarget d).raise Ev.DIE_FENCED d cause
    ((s.calStop d.loop).dropTests d).verifyNext

/-- A loop is off or shut down: a compute loop fences its die (R206, R496). -/
def fenceOff (s : State) (l : Loop) : State :=
  match l.die? with
  | some d => if s.live then s.fence d 2 else s
  | none => s

/-- A loop shuts down to MODE 5 (R206). -/
def shut (s : State) (l : Loop) : State := ((s.allMid l).setMode l 5).fenceOff l

/-- Loops that depend on one that has left regulation shut down within 1 µs, and those that depend on them. -/
def shutDeps : Nat → State → Loop → State
  | 0, s, _ => s
  | n + 1, s, l =>
    s.each loops fun k s =>
      if bit (s.rd (R.RGC_L_DEP_DEP k)) l && s.drives k then
        shutDeps n (((s.shut k).flag (R.RGC_L_FAULT_DEP_OFF k) true).raise Ev.RGC_DEP_OFF k l) k
      else s

/-- A loop shuts down, and with it the loops that depend on it. -/
def shutAll (s : State) (l : Loop) : State := shutDeps 16 (s.shut l) l

/-! VR_ALERT# (R226–R228). -/

/-- The load of a loop's rail is driven to its lowest state: by the Cuff on its die, whose frame makes the satellite ask ÷16
too, or by the requests on every die in admission (R227, R228). -/
def alertOn (s : State) (l : Loop) : State :=
  match l.die? with
  | some _ => s.rgcCuff l .alert true
  | none => s.each (dies.filter s.inShare) fun d s =>
      s.place d (srcAlert l) (some (s.rd R.ADM_CUFF_LVL_ALERT_PCT * s.rd (R.ADM_DIE_STATUS_POOL d) / 100)) (some 6) none

/-- VR_ALERT# is withdrawn: on a compute rail the die recovers as after a droop; the requests for L8 to L15 go at the
next window boundary. -/
def alertOff (s : State) (l : Loop) : State :=
  match l.die? with
  | some _ => s.rgcCuff l .alert false
  | none => s

/-- VR_ALERT# of a loop, or its enable, has changed; in soft start it is acted on at power-good (R226, R235). -/
def alertFollows (s : State) (l : Loop) (was : Bool) : State :=
  if !was && s.alerted l && s.mode l != 1 then s.alertOn l
  else if was && !s.alerted l then s.alertOff l else s

/-- The calibration pauses while VR_ALERT# or an overload Feather is in effect (R235). DEDUCED, log 32. -/
def calPaused (s : State) (l : Loop) : Bool := s.alerted l || s.on (R.RGC_L_OVL_FEATHER l)

/-- Every channel of a loop gets a ring entry. -/
def ringLoop (s : State) (l : Loop) (kind arg : Nat) : State :=
  s.each (s.phasesOf l) fun p s => s.ringChan (s.chan l p) kind arg

end State
end Sys2Proof.Machine
end

