-- ==== Sys2Proof/Machine/Regulator.lean ====
section
/-!
DEFINITION. Machine/Regulator.lean: the commands of the regulator loops: the regulation law on the alignment edges,
switching cycles and rotation, all-phase responses, the synchronisation input, pre-arms and shadow copies (R169–R187,
R195).
-/
namespace Sys2Proof.Machine
namespace State

/-- A telemetry register of the regulator takes a value; while the package is frozen it holds (R231). -/
def tel (s : State) (f : Fld) (v : Nat) : State := if s.frozen then s else s.wr f v

/-- A value moves toward a goal by at most a step. -/
def toward (a goal step : Nat) : Nat := if a < goal then min goal (a + step) else max goal (a - step)
/-- A distance between two values. -/
def dist (a b : Int) : Nat := (a - b).natAbs
def clampInt (lo hi v : Int) : Int := max lo (min hi v)

/-! The alignment edge (R176, R177, R222). -/

/-- What a sample says: I_tot in 1/16 A, and whether every phase in rotation is at its sink limit (R176, R177). -/
def readLoop (s : State) (l : Loop) (m : LoopSample) : Sampled :=
  ⟨m.remote, m.loc, s.total l m.cs, !(s.inRot l).isEmpty && ((s.inRot l).zip m.cs).all fun x =>
    decide (s.sensed l x.1 x.2 ≤ -(16 * s.loop[l].cfg.sinkMax : Nat))⟩

/-- The output in use, in µV: the remote sense, or the local one less its path's drop (R223). -/
def localV (s : State) (l : Loop) (m : Sampled) : Int :=
  (m.loc : Int) - s.rd (R.RGC_L_SENSE_LS_COMP l) * m.iTot / 16
def vInUse (s : State) (l : Loop) (m : Sampled) : Nat :=
  if s.on (R.RGC_L_SENSE_LOCAL l) then (s.localV l m).toNat else m.remote

/-- The level test of a reading fails; its lower bound is for a loop that regulates (R222). -/
def levelBad (s : State) (l : Loop) (v : Int) : Bool :=
  decide (1000 * (s.rd (R.RGC_L_VMAX_VMAX l) + 150) < v) || (s.regulates l && decide (2 * v < s.loop[l].vref))

/-- The sense lines are tested on a sample: the remote pair while in use or under test, the local one while in use. Before
soft start only the level test applies, but for a test of the remote pair that SENSE.RETRY has asked (R222, R224). A run of
16 samples may mix those that fail the one test with those that fail the other. DESIGN CHOICE, log 29. -/
def senseTest (s : State) (l : Loop) (m : Sampled) : State :=
  let lv := s.levelBad l m.remote
  let df := decide (1000 * s.rd (R.RGC_L_SENSE_SD_MV l) < dist m.remote (s.localV l m))
  let lb := s.levelBad l (s.localV l m)
  let loc := s.on (R.RGC_L_SENSE_LOCAL l)
  let test := s.on (R.RGC_L_SENSE_RETRY l)
  s.modLoop l fun L => { L with
    remoteBad := if !loc && (lv || (df && s.switches l)) then L.remoteBad + 1 else 0
    badCause := if lv then 1 else if df then 2 else L.badCause
    localBad := if loc && s.switches l && lb then L.localBad + 1 else 0
    retryOk := if test && !lv && !df then L.retryOk + 1 else L.retryOk
    retryBad := L.retryBad || (test && (lv || df)) }

/-- V_ref moves: toward 200 mV in ramp-down, toward VNOM in soft start, else toward the target, with the pre-arm's offset
on top at its own slew; the sink limit holds it (R177, R183, R186, R203, R205). In ramp-down a V_ref below 200 mV, as of a
loop in soft start, rises to it. DESIGN CHOICE, log 29. -/
def moveRef (s : State) (l : Loop) (m : Sampled) : State :=
  let L := s.loop[l]
  let soft := s.mode l = 1
  let goal := 1000 * (if L.down then 200 else if soft then s.rd (R.RGC_L_VNOM_VNOM l) else s.rd (R.RGC_L_TGT_TARGET l))
  let step := 20 * (if L.down || soft then s.rd (R.RGC_L_SEQ_SS_SLEW l) else s.rd (R.RGC_L_SLEW_SLEW l))
  let og := s.preGoal l
  let base := L.vref - L.vofs
  let lag := (s.vInUse l m : Int) - L.vref
  let hold := if L.sinkHold then decide (5000 < lag)
    else decide (goal + og < L.vref) && m.sunk && decide (10000 < lag)
  let s := if hold && !L.sinkHold then s.raiseOnce Ev.RGC_SINK_LIMIT l else s
  let s := s.modLoop l fun L => { L with sinkHold := hold }
  if hold then s
  else
    let ofs := toward L.vofs og (20 * min (s.rd R.RGC_PREARM_PA_SLEW) (s.rd (R.RGC_L_SLEW_SLEW_CEIL l)))
    let v := toward base goal step + ofs
    (s.modLoop l fun L => { L with vref := v, vofs := ofs }).showRef l (v != goal + og)

/-- The regulation law of R176, in 1/16384 A, with the error in 1/4 mV saturated at ±64 mV; the feed-forward ramp adds
its part (R185). DEDUCED, log 28. -/
def regulate (s : State) (l : Loop) (m : Sampled) : State :=
  let L := s.loop[l]
  let c := L.cfg
  let e := clampInt (-256) 256 (((L.vref : Int) - c.ll * m.iTot / 16 - s.vInUse l m) / 250)
  let n := s.nRot l
  let i := clampInt (-(c.sinkMax * n * 16384 : Nat)) (1280 * s.rd (R.BUD_RAIL_LIM_LIMIT l)) (L.iInt + c.ki * e)
  let ff := min L.ffLeft (s.rd (R.RGC_L_STEP_RATE l) * 8192 / 25)
  let i := i + ff
  let s := s.modLoop l fun L => { L with
    iInt := i, iCmd := 16 * c.kp * e + i + 16 * c.kd * (e - L.ePrev), ePrev := e, ffLeft := L.ffLeft - ff
    vSense := s.vInUse l m, iTot := m.iTot }
  s.flag (R.RGC_L_STATUS_FF l) (decide (0 < L.ffLeft - ff))

/-- The runs of samples that acknowledgements, power-good, the short test and the re-arming of responses count. -/
def countRuns (s : State) (l : Loop) (m : Sampled) : State :=
  let L := s.loop[l]
  let v : Int := s.vInUse l m
  let out := v + L.cfg.ll * m.iTot / 16
  let vnom : Int := 1000 * s.rd (R.RGC_L_VNOM_VNOM l)
  let soft := s.mode l = 1
  let ok := s.atTarget l && decide (dist out L.vref ≤ 5000)
  let pg := soft && decide ((L.vref : Int) = vnom) && decide (dist out vnom ≤ 10000)
  let low := soft && decide (100000 ≤ L.vref) && decide (10 * v < 3 * L.vref)
  let band := decide (dist v L.vref ≤ 1000 * L.cfg.nlRel)
  s.modLoop l fun L => { L with
    okRun := if ok then L.okRun + 1 else 0
    pgRun := if pg then L.pgRun + 1 else 0
    ssLow := if low then L.ssLow + 1 else 0
    bandRun := if band then L.bandRun + 1 else 0
    blockU := L.blockU && !(band && decide (4 ≤ L.bandRun))
    blockO := L.blockO && !(band && decide (4 ≤ L.bandRun)) }

/-- Telemetry of the output: the window's sum and extremes, and the held extremes; CLR resets what is held (R229). -/
def telemetry (s : State) (l : Loop) (m : Sampled) : State :=
  if s.frozen then s
  else
    let v := sat 13 (s.vInUse l m / 250)
    let s := s.modLoop l fun L => { L with vSum := L.vSum + v, vCnt := L.vCnt + 1, vMin := min L.vMin v, vMax := max L.vMax v }
    let s := s.when (s.on (R.RGC_L_HOLD_CTL_CLR l)) fun s =>
      ((((s.wr (R.RGC_L_HOLD_I_PK l) 0).wr (R.RGC_L_HOLD_T_TIME l) 0).wr (R.RGC_L_HOLD_V_VMIN l) 0x1FFF).wr
        (R.RGC_L_HOLD_V_VMAX l) 0).flag (R.RGC_L_HOLD_CTL_CLR l) false
    (s.wr (R.RGC_L_HOLD_V_VMIN l) (min v (s.rd (R.RGC_L_HOLD_V_VMIN l)))).wr (R.RGC_L_HOLD_V_VMAX l)
      (max v (s.rd (R.RGC_L_HOLD_V_VMAX l)))

/-- A loop that has ramped down to 200 mV goes to MID (R205). -/
def downMid (s : State) (l : Loop) : State :=
  let L := s.loop[l]
  if L.down && L.midAt.isNone && L.vref - L.vofs == 200000 then
    (s.allMid l).modLoop l fun L => { L with down := true, midAt := some s.now }
  else s

/-- One loop's sample on an alignment edge; its sense lines are tested also while its phases do not switch. -/
def sampleLoop (s : State) (l : Loop) (x : LoopSample) : State :=
  let m := s.readLoop l x
  let s := (s.telemetry l m).senseTest l m
  if s.switches l then (((s.moveRef l m).regulate l m).countRuns l m).downMid l
  else s.modLoop l fun L => { L with vSense := s.vInUse l m, iTot := m.iTot }

/-- A detector that is asserted and whose report has come, 16 ns after its crossing, is seen asserted on the present edge
(R152, R153). -/
def seenDroop (s : State) (d : Die) (det : Nat) : Bool :=
  ((Tab.find s.clkDie[d].since det).map fun t => decide (t + 16 ≤ s.now)).getD false

/-- A die on an alignment edge: the edges in a row on which each of its detectors is seen asserted are counted, and a droop
step that is due is taken (R152). -/
def dieEdge (s : State) (d : Die) : State :=
  let set := s.rd (R.CLK_DIE_DROOP_EN_DET d) - (s.rd (R.CLK_DIE_DROOP_EN_DET d) &&& s.rd (R.CLK_DIE_DROOP_STUCK_DET d))
  let s := s.modClk d fun c => { c with
    apRun := ((setBits 32 set).filter fun k => s.seenDroop d k).foldl
      (fun t k => Tab.put t k ((Tab.find c.apRun k).getD 0 + 1)) [] }
  s.when (s.droopDue d s.edge) fun s => s.divStep d s.edge

/-- The effect of ALIGNMENT_EDGE (R176, R177). -/
def alignmentEdge (s : State) (ms : List LoopSample) : State :=
  let s := s.toAlign
  let s := s.each (loops.zip ms) fun (l, m) s => s.sampleLoop l m
  s.when s.live fun s => s.each dies fun d s => s.dieEdge d

/-! Switching cycles (R170, R173–R178, R195, R214). -/

/-- The period of the switching reference in 1/1000 root cycle of 1/12 ns: that of SYNC_IN, or of the internal timer, which
counts whole root cycles (R169, R171). -/
def refPer (s : State) : Nat :=
  if s.on R.RGC_SW_STATUS_REF_NOW || s.on R.RGC_SW_STATUS_SYNC_HOLD then 12 * s.rgc.syncPs
  else 1000 * (12000000 / max 1 (s.rd R.RGC_SW_CTL_INT_KHZ))
/-- The period in root cycles, and that of a loop. -/
def refPeriod (s : State) : Nat := s.refPer / 1000
def period (s : State) (l : Loop) : Nat := s.refPeriod * 2 ^ s.rd (R.RGC_L_CFG_DIV l)

/-- The next `n` periods of a reference of period `p` that is to move by `slip`, as runs of equal periods: each period moves
by at most 1 %, and once the edges are in place the rest are as long as `p` (R171). -/
def refRuns (n p : Nat) (slip : Int) : List (Nat × Nat) :=
  let step := p / 100
  let long (m : Nat) : Nat := if 0 ≤ slip then p + m else p - m
  let c := min n (slip.natAbs / max 1 step)
  let rest := if c < n && decide (slip.natAbs % max 1 step ≠ 0) then 1 else 0
  [(c, long step), (rest, long (slip.natAbs % max 1 step)), (n - c - rest, p)].filter fun r => r.1 != 0

/-- The reference counter goes on to edge `k`: each period moves toward SYNC_IN by at most 1 %, SYNC_LOCK is set once within
20 ns, and SYNC_OUT carries the edges (R170–R172). DEDUCED, log 31. -/
def refTo (s : State) (k : Nat) : State :=
  let r := s.rgc
  if k ≤ r.refIdx then s
  else
    let n := k - r.refIdx
    let runs := refRuns n s.refPer r.slip
    let s := (runs.foldl (fun (x : State × Nat) (q : Nat × Nat) =>
      (x.1.when (s.on R.RGC_SW_CTL_SOUT_EN) (·.emit (.syncOut (x.2 + q.2 + 12000 * s.rd R.RGC_SW_CTL_SOUT_DLY) q.1 q.2)),
        x.2 + q.1 * q.2)) (s, 1000 * r.refAt + r.refRem)).1
    let len := (runs.map fun q => q.1 * q.2).foldl (· + ·) 0
    let x := 1000 * r.refAt + r.refRem + len
    let slip := r.slip - ((len : Int) - (n * s.refPer : Nat))
    let s := s.modRgc fun r => { r with refIdx := k, refAt := x / 1000, refRem := x % 1000, slip := slip }
    s.when (s.on R.RGC_SW_STATUS_REF_NOW && decide (slip.natAbs ≤ 240000)) (·.flag R.RGC_SW_STATUS_SYNC_LOCK true)

/-- The first reference edge at or after the present instant, by its index. -/
def nextRef (s : State) : Nat :=
  let r := s.rgc
  let x := 1000 * r.refAt + r.refRem
  r.refIdx + cdiv (12000 * s.now - x) (max 1 s.refPer) - (x - 12000 * s.now) / max 1 s.refPer
/-- The reference counter at that edge. -/
def refNow (s : State) : State := s.refTo s.nextRef

/-- The next cycle of a loop begins on the next reference edge whose count is a multiple of DIV (R170). -/
def cycleEdge (s : State) (l : Loop) : State :=
  let div := 2 ^ s.rd (R.RGC_L_CFG_DIV l)
  let due := (s.loop[l].cycEdge.map fun e => (e / div + 1) * div).getD 0
  let k := max due (cdiv s.nextRef div * div)
  let s := s.refTo k
  let t := s.rgc.refAt - (s.rgc.refIdx - k) * s.refPeriod
  (s.advance (t / 12)).modLoop l fun L => { L with cycEdge := some k, cycAt := t }

/-- The lowest cause of R214 that holds of a phase over the cycle just ended; 0 for none. Conditions 4 and 6 are not
tested in soft start or in a cycle in which a response acted. -/
def phaseCause (s : State) (l : Loop) (p : Phase) (o : PhaseObs) (trips n : Nat) : Nat :=
  let L := s.loop[l]
  let P := L.phases[p]
  let quiet := s.mode l = 1 || L.respCycle
  if P.flag then 1
  else if decide (0 < o.high) && decide (16 * o.rise / (max 1 P.gain : Nat) * (48000000 * L.cfg.lph) < 16 * ((12000000 : Int) - L.vref) * o.high) then 2
  else if o.range then 3
  else if !quiet && decide (s.rd (R.RGC_L_PHLOSS_DEV_A l) * 16384 * n < dist (s.sensed l p o.cs * 1024 * n) L.iCmd) &&
      P.b.natAbs == L.cfg.balMax * 256 then 4
  else if P.tripped && decide (2 * trips ≤ n) then 5
  else if !quiet && o.latest then 6
  else 0

/-- The phases' balancing terms after a cycle (R178); that of a phase whose gain is being trimmed stays 0 (R232).
DEDUCED, log 28. -/
def balance (s : State) (l : Loop) (ps : List Phase) : State :=
  let L := s.loop[l]
  let n : Int := max 1 ps.length
  let si := (ps.map fun p => L.phases[p].iavg).foldl (· + ·) 0
  let st := (ps.map fun p => (L.phases[p].temp : Int)).foldl (· + ·) 0
  let held (p : Phase) : Bool := (match L.cal with
    | some (.gain _ _ _) => true
    | _ => false) && L.calLeft.head? == some p
  let new (p : Phase) : Int :=
    L.phases[p].b + (64 * (si - n * L.phases[p].iavg) - L.cfg.thmGain * (n * L.phases[p].temp - st)) / (n * 2 ^ L.cfg.balShift)
  let mean := (ps.map new).foldl (· + ·) 0 / n
  let lim : Int := L.cfg.balMax * 256
  s.each ps fun p s =>
    let b := if held p then 0 else clampInt (-lim) lim (new p - mean)
    (s.modPhase l p fun P => { P with b := b }).tel (R.RGC_PH_STS_BAL l p) (unsigned 8 (b / 256))

/-- A phase on trial that meets a condition is removed again at once, which shuts down a loop that it leaves without phases
(R220, R221); PHi_LOSS.CAUSE and CNT_PHLOSS stay as they
were. DESIGN CHOICE, log 31. -/
def trialFail (s : State) (l : Loop) (p : Phase) : State :=
  let s := ((s.flag (R.RGC_PH_LOSS_TRIAL l p) false).flag (R.RGC_PH_LOSS_READMIT l p) false).setRot l p false
  let s := ((s.modPhase l p fun P => { P with trial := 0 }).drive l [p] 0).count (R.REC_AO_COUNT 8)
  let s := (s.ringChan (s.chan l p) 0x25 0).raise Ev.RGC_PHASE_READMIT_FAIL l p
  if s.nRot l = 0 then s.shutAll l else s

/-- The pulses that began in a cycle that has ended: each phase's PWM went LOW after its HIGH time, within its bounds
(R174). -/
def endPulses (s : State) (l : Loop) (po : List (Phase × PhaseObs)) : State :=
  let s := s.pulsesTo l s.loop[l].cycAt
  if s.loop[l].resp.isSome then s
  else s.each po fun (p, o) s =>
    let P := s.loop[l].phases[p]
    if P.level = 2 then s.setLevel l p 1 (P.at_ + max 240 (min o.high (s.period l - 480))) else s

/-- A switching cycle of a loop has ended: each phase's mean current, its conditions and the terms that follow. MAXON goes
on holding for a phase whose HIGH times are cut as long as they are observed to end at their latest end.
DEDUCED, log 28; DESIGN CHOICE, log 31. -/
def cycleEnd (s : State) (l : Loop) (obs : List PhaseObs) : State :=
  let ps := s.loop[l].cyclePs.filter fun p => (s.inRot l).contains p
  let po := (s.loop[l].cyclePs.zip obs).filter fun x => ps.contains x.1
  let s := s.endPulses l po
  let n := ps.length
  let L := s.loop[l]
  let trips := (ps.filter fun p => L.phases[p].tripped).length
  let high := (po.map fun x => x.2.high).foldl (· + ·) 0
  let s := s.each po fun (p, o) s =>
    let c := s.phaseCause l p o trips n
    let others := (high - o.high) / max 1 (n - 1)
    (s.modPhase l p fun P => { P with
      iavg := s.sensed l p o.cs, cause := c, run := if c = 0 then 0 else P.run + 1
      trial := if c = 0 then P.trial - 1 else P.trial
      cut := if s.mode l ≠ 1 ∧ !L.respCycle ∧ o.latest then some (2 * others) else none }).tel
        (R.RGC_PH_STS_IAVG l p) (unsigned 16 (s.sensed l p o.cs))
  let s := s.balance l ps
  let s := s.modLoop l fun L => { L with
    shortRun := if decide (n < 2 * trips) then L.shortRun + 1 else 0
    cal := match L.cal, L.calLeft.head? with
      | some (.gain k a b), some p =>
        if s.calPaused l then some (.gain k a b) else some (.gain (k + 1) (a + L.phases[p].iavg) (b + ((ps.filter (· ≠ p)).map fun q => L.phases[q].iavg).foldl (· + ·) 0))
      | c, _ => c }
  let s := s.each ps fun p s => s.modPhase l p fun P => { P with tripped := false }
  s.each ps fun p s =>
    if s.on (R.RGC_PH_LOSS_TRIAL l p) && s.loop[l].phases[p].cause != 0 then s.trialFail l p else s

/-- The shadow copies of a loop come into use (R195). -/
def applyShadows (s : State) (l : Loop) : State :=
  let c : LoopCfg := {
    kp := s.rd (R.RGC_L_COMP0_KP l), ki := s.rd (R.RGC_L_COMP0_KI l), kd := s.rd (R.RGC_L_COMP1_KD l)
    ll := s.rd (R.RGC_L_COMP1_LL l), lph := s.rd (R.RGC_L_SLOPE_LPH l), scPct := s.rd (R.RGC_L_SLOPE_SC_PCT l)
    nlTh := s.rd (R.RGC_L_NL_NL_TH l), nlThArm := s.rd (R.RGC_L_NL_NL_TH_ARM l), nlRel := s.rd (R.RGC_L_NL_NL_REL l)
    nlOv := s.rd (R.RGC_L_NL_NL_OV l), maxOn := s.rd (R.RGC_L_NLT_MAX_ON l), ovMax := s.rd (R.RGC_L_NLT_OV_MAX l)
    balMax := s.rd (R.RGC_L_BAL_BAL_MAX l), balShift := s.rd (R.RGC_L_BAL_BAL_SHIFT l)
    thmGain := s.rd (R.RGC_L_BAL_THM_GAIN l), sinkMax := s.rd (R.RGC_L_BAL_SINK_MAX l) }
  let s := (s.modLoop l fun L => { L with cfg := c }).flag (R.RGC_L_APPLY_APPLY l) false
  s.each phaseList fun p s => s.modPhase l p fun P => { P with gain := s.rd (R.RGC_PH_CS_GAIN l p), ofs := s.rd (R.RGC_PH_CS_OFS l p) }

/-- The results of a calibration come into use for their phase alone (R233). -/
def applyCal (s : State) (l : Loop) : State :=
  s.each phaseList fun p s => match s.loop[l].phases[p].csNext with
    | some (g, o) => s.modPhase l p fun P => { P with gain := g, ofs := o, csNext := none }
    | none => s

/-- A calibration that pauses returns its phase to rotation, and measures it afresh once it resumes (R235).
DEDUCED, log 32. -/
def calPause (s : State) (l : Loop) : State :=
  match s.loop[l].cal, s.loop[l].calLeft.head? with
  | some (.offset _), some p => if s.calPaused l then (s.setRot l p true).modLoop l fun L => { L with cal := some (.derated true) } else s
  | _, _ => s

/-- Phases whose trial has been asked for come into rotation (R221). -/
def startTrials (s : State) (l : Loop) : State :=
  s.each (s.phasesOf l) fun p s =>
    if s.on (R.RGC_PH_LOSS_READMIT l p) && s.on (R.RGC_PH_LOSS_OUT l p) && !s.on (R.RGC_PH_LOSS_TRIAL l p) then
      ((s.flag (R.RGC_PH_LOSS_TRIAL l p) true).setRot l p true).modPhase l p fun P => { P with trial := 64, b := 0 }
    else s

/-- The slot of the `k`-th of `n` phases at rotation index `r`, and its instant after the reference edge in root cycles,
rounded to the nearest (R170, R173). -/
def slotOf (n r k : Nat) : Nat := (k + r) % max 1 n
def slotAt (ofs n slot t : Nat) : Nat := (2 * t * (ofs * n + 256 * slot) + 256 * n) / (512 * max 1 n)

/-- A phase's peak command (R176, R203) and its slope compensation (R175). -/
def peakCmd (s : State) (l : Loop) (p : Phase) : Int :=
  let L := s.loop[l]
  let n : Int := max 1 (s.nRot l)
  let c := clampInt (-(L.cfg.sinkMax * 16384 : Nat)) (s.rd (R.RGC_L_PROT_SHORT_A l) * 16384) (L.iCmd / n + 16 * L.phases[p].b)
  if s.mode l = 1 then max 0 c else c
def slope (s : State) (l : Loop) : Nat := s.loop[l].cfg.scPct * s.loop[l].vref / (100 * max 1 s.loop[l].cfg.lph)

/-- The pulse of a phase at slot instant `a` of the cycle begun by an edge: once it has been LOW, or MID, for 40 ns, to
T − 40 ns after t_s at the latest. In a cycle after a renumbering a first HIGH that would come less than 0.75 × T after the
last, which may be a pulse still to come, comes at 0.75 × T (R174, R216). -/
def pulse (s : State) (l : Loop) (p : Phase) (a edge : Nat) : Fire :=
  let L := s.loop[l]
  let P := L.phases[p]
  let t := s.period l
  let last := match L.slots.find? fun f => f.phase == p && f.cycle != edge with
    | some f => some f.at_
    | none => P.lastHigh
  let a := match L.renum, last with
    | true, some h => max a (h + cdiv (3 * t) 4)
    | _, _ => a
  let b := if P.level = 2 then a else max a (P.at_ + 480)
  { phase := p, cycle := edge, slot := a, at_ := b, most := min (a + t - 480 - b) (P.cut.getD t), cmd := s.peakCmd l p, slope := s.slope l }

/-- The present cycle of a loop is laid out: each phase in rotation fires at its slot, but for slot 0 after a rotation. The
pulses of the cycle before that lie past its end stand; while a response acts the slots are kept for what is left when it
ends (R170, R173, R179, R180). -/
def layOut (s : State) (l : Loop) : State :=
  let ps := s.inRot l
  let n := ps.length
  let r := s.rd (R.RGC_L_STATUS_ROT l)
  let ofs := if l.val = 0 then 0 else s.rd (R.RGC_L_CFG_OFFSET l)
  let idx := ps.zip (List.range n)
  let s := s.each idx fun (p, k) s => s.wr (R.RGC_PH_STS_SLOT l p) (slotOf n r k)
  let edge := s.loop[l].cycEdge.getD 0
  let fires := (idx.filter fun x => !(s.loop[l].skipNow && slotOf n r x.2 == 0)).map fun (p, k) =>
    s.pulse l p (s.loop[l].cycAt + slotAt ofs n (slotOf n r k) (s.period l)) edge
  let s := s.modLoop l fun L => { L with
    cyclePs := ps, slots := (L.slots.filter (·.cycle != edge)) ++ fires, renum := false }
  if fires.isEmpty || s.loop[l].resp.isSome then s else s.emit (.fire l s.loop[l].slots)

/-- A switching cycle of a loop begins on its reference edge: shadows, calibration results and trials take effect, and the
phases' pulses follow (R170, R173, R174, R195, R216, R221, R233). DEDUCED, log 31. -/
def cycleStart (s : State) (l : Loop) : State :=
  let s := if s.on (R.RGC_L_APPLY_APPLY l) && s.loop[l].resp.isNone then s.applyShadows l else s
  let s := ((s.applyCal l).startTrials l).calPause l
  let s := s.modLoop l fun L => { L with
    cycles := L.cycles + 1, skipNow := L.skip0, skip0 := L.skip0 && L.resp.isSome, respCycle := L.resp.isSome }
  s.layOut l

/-- Phases resume with their next slot instant after their least LOW or MID time, of the present cycle or of the one before;
one whose instant has passed waits for its next (R179, R180). -/
def resume (s : State) (l : Loop) : State :=
  let L := s.loop[l]
  let go := (L.slots.filter fun f => (s.inRot l).contains f.phase && decide (12 * s.now ≤ f.slot) &&
    decide (L.phases[f.phase].at_ + 480 ≤ f.slot)).map fun f => s.pulse l f.phase f.slot f.cycle
  let s := s.modLoop l fun L => { L with slots := go }
  if go.isEmpty then s else s.emit (.fire l go)

/-- After 64 switching cycles since the last rotation the index advances and slot 0 skips the coming cycle; a rotation
due in a response waits (R173). -/
def rotate (s : State) (l : Loop) : State :=
  let L := s.loop[l]
  let n := s.nRot l
  if !s.on (R.RGC_L_CFG_ROT_EN l) || decide (n ≤ 1) || decide (L.cycles < 64) || L.resp.isSome then s
  else (s.wr (R.RGC_L_STATUS_ROT l) ((s.rd (R.RGC_L_STATUS_ROT l) + 1) % n)).modLoop l fun L =>
    { L with cycles := 0, skip0 := true }

/-! SYNC_IN (R171). -/

/-- SYNC_KHZ shows the measured SYNC_IN, whether or not it is accepted (R197). -/
def syncSeen (s : State) (q : SyncRun) : State := s.wr R.RGC_SW_STATUS_SYNC_KHZ (sat 12 (1000000000 / max 1 q.ps))

/-- The reference takes the last of a run's periods, and its edges begin to move toward those of SYNC_IN.
DEDUCED, log 31. -/
def syncAlign (s : State) (q : SyncRun) : State :=
  let s := (s.refNow.modRgc fun r => { r with syncPs := q.ps, slip := 1000 * q.off }).flag R.RGC_SW_STATUS_REF_NOW true
  s.flag R.RGC_SW_STATUS_SYNC_LOCK (decide (q.off.natAbs ≤ 240))

/-- The effect of SYNC_LOCK: 16 periods in a row lie within 1 MHz to 4 MHz and within ±1 % of one another (R171). Each such
run after the first is followed too, in period and phase. -/
def syncLock (s : State) (q : SyncRun) : State :=
  let s := s.syncSeen q
  if !s.on R.RGC_SW_CTL_SRC || s.on R.RGC_SW_STATUS_SYNC_HOLD || decide (q.n < 16) ||
      decide (q.lo < 250000) || decide (1000000 < q.hi) || decide (101 * q.lo < 100 * q.hi) then s
  else s.syncAlign q
/-- The effect of SYNC_IN_LOSS (R171). -/
def syncLoss (s : State) : State :=
  let s := s.wr R.RGC_SW_STATUS_SYNC_KHZ 0
  if !s.on R.RGC_SW_STATUS_REF_NOW then s
  else ((((s.refNow.modRgc fun r => { r with slip := 0 }).flag R.RGC_SW_STATUS_SYNC_HOLD true).flag R.RGC_SW_STATUS_SYNC_LOCK false).flag R.RGC_SW_STATUS_REF_NOW false).raise
    Ev.RGC_SYNC_LOST
/-- The effect of SYNC_RETURN: 1,024 periods in a row lie within ±1 % of the held one (R171). -/
def syncReturn (s : State) (q : SyncRun) : State :=
  let s := s.syncSeen q
  if !s.on R.RGC_SW_STATUS_SYNC_HOLD || decide (q.n < 1024) || decide (100 * q.lo < 99 * s.rgc.syncPs) ||
      decide (101 * s.rgc.syncPs < 100 * q.hi) then s
  else ((s.syncAlign q).flag R.RGC_SW_STATUS_SYNC_HOLD false).raise Ev.RGC_SYNC_RESTORED

/-- SRC at 0 selects the internal timer (R169). DEDUCED, log 31. -/
def syncOff (s : State) : State :=
  (((s.modRgc fun r => { r with slip := 0 }).flag R.RGC_SW_STATUS_REF_NOW false).flag R.RGC_SW_STATUS_SYNC_LOCK false).flag R.RGC_SW_STATUS_SYNC_HOLD false

/-! All-phase responses (R179–R181, R185). -/

/-- MODE shows a response, except in soft start. -/
def showResp (s : State) (l : Loop) (m : Nat) : State := if s.mode l = 1 then s else s.setMode l m

/-- The undershoot threshold, lower while pre-armed, and the brake threshold, lower while armed for release, in µV. -/
def underTh (s : State) (l : Loop) : Nat :=
  let L := s.loop[l]
  1000 * (if L.pre.isSome then L.cfg.nlThArm else L.cfg.nlTh)
def overTh (s : State) (l : Loop) : Nat :=
  1000 * (if s.on (R.RGC_L_STATUS_REL_ARM l) then s.loop[l].cfg.nlThArm else s.loop[l].cfg.nlOv)

/-- The phases as they stand when a response starts: `low` says for how many root cycles the PWM of each phase in rotation,
ascending, has been LOW, 0 while it is not. -/
def standing (s : State) (l : Loop) (low : List Nat) : State :=
  let t := 12 * s.now
  (s.pulsesTo l t).each ((s.inRot l).zip low) fun (p, n) s =>
    if 0 < n ∧ s.loop[l].phases[p].level = 2 then s.setLevel l p 1 (t - n) else s

/-- V_sense falls to `v` µV: below the threshold an undershoot response starts, and each phase in rotation goes HIGH, one in
its least LOW time when that ends; on a pre-armed loop the feed-forward ramp starts with it. -/
def undershoot (s : State) (l : Loop) (v : Nat) (low : List Nat) : State :=
  let L := s.loop[l]
  if decide (L.vref ≤ v + s.underTh l) || !s.switches l || !s.on (R.RGC_L_CFG_NL_EN l) || L.blockU || (L.resp.map (·.1)) == some true then s
  else
    let s := ((((s.standing l low).respRings l).showResp l 3).count (R.RGC_L_CNT_ALLPH_COUNT l)).raiseOnce Ev.RGC_ALLPH_UNDER l
    let s := (s.modLoop l fun L => { L with resp := some (true, s.now), respCycle := true }).drive l (s.inRot l) 2
    if L.pre.isSome then
      let ff := ((signed 16 (s.rd (R.RGC_L_STEP_DI l))) * 1024 * s.rd R.RGC_PREARM_FF_PCT / 100).toNat
      (s.modLoop l fun L => { L with ffLeft := ff }).flag (R.RGC_L_STATUS_FF l) (ff != 0)
    else s

/-- A response ends: phases resume their slots, and the direction waits for the band. -/
def respEnd (s : State) (l : Loop) (under : Bool) : State :=
  ((s.showResp l 2).modLoop l fun L => { L with
    resp := none, bandRun := 0, blockU := L.blockU || under, blockO := L.blockO || !under }).resume l

/-- A response that began at `t` ends 10 ns after V_sense is back, or after `most` times 10 ns. -/
def respTill (s : State) (t most : Nat) (back : Bool) : State :=
  s.advance (if back then min (s.now + 10) (t + 10 * most) else t + 10 * most)

/-- The undershoot response ends, 10 ns after V_sense, in µV, is back above V_ref − NL_REL or when MAX_ON has passed: every
phase goes LOW and I_int becomes I_tot as sampled then. -/
def undershootEnd (s : State) (l : Loop) (v : Nat) (cs : List Int) : State :=
  let L := s.loop[l]
  match L.resp with
  | some (true, t) =>
    let s := s.respTill t L.cfg.maxOn (decide (L.vref < v + 1000 * L.cfg.nlRel))
    let s := s.respRings l
    let s := s.modLoop l fun L => { L with iInt := s.total l cs * 1024 }
    (s.drive l (s.inRot l) 1).respEnd l true
  | _ => s

/-- V_sense rises to `v` µV: above the threshold a brake response starts, and each phase in rotation goes to MID. -/
def overshoot (s : State) (l : Loop) (v : Nat) (low : List Nat) : State :=
  let L := s.loop[l]
  if decide (v ≤ L.vref + s.overTh l) || !s.switches l || !s.on (R.RGC_L_CFG_NL_EN l) || L.blockO || (L.resp.map (·.1)) == some false then s
  else
    let s := ((((s.standing l low).respRings l).showResp l 4).count (R.RGC_L_CNT_BRAKE_COUNT l)).raiseOnce Ev.RGC_ALLPH_OVER l
    (s.modLoop l fun L => { L with resp := some (false, s.now), respCycle := true }).drive l (s.inRot l) 0

/-- The brake response ends, 10 ns after V_sense is back below V_ref + NL_REL or when OV_MAX has passed. -/
def brakeEnd (s : State) (l : Loop) (v : Nat) : State :=
  let L := s.loop[l]
  match L.resp with
  | some (false, t) =>
    let s := s.respTill t L.cfg.ovMax (decide (v < L.vref + 1000 * L.cfg.nlRel))
    (s.respRings l).respEnd l false
  | _ => s

/-! Predicted load steps (R182–R187). -/

/-- A load step is announced: a rise of at least MIN_A pre-arms the loop, or renews the PREARM of an armed one; a fall
arms it for release. A smaller rise sends no PREARM on an armed loop either. DESIGN CHOICE, log 30. -/
def announce (s : State) (l : Loop) (di : Int) (rate win : Nat) : State :=
  if 8 ≤ l.val then s
  else
    let s := ((s.wr (R.RGC_L_STEP_DI l) (unsigned 16 di)).wr (R.RGC_L_STEP_RATE l) (sat 8 rate)).wr (R.RGC_L_STEP_WIN l) win
    if di < 0 then (s.modLoop l fun L => { L with relFrom := some win }).relArm l
    else if di < 16 * s.rd R.RGC_PREARM_MIN_A || !s.vcl[satOf l].rgc.up || !s.regulates l || s.loop[l].down then s
    else match s.loop[l].pre with
      | some p =>
        if p.sent.isSome then
          ((s.modLoop l fun L => { L with pre := some { p with sent := some s.now } }).count
            (R.RGC_L_CNT_PREARM_COUNT l)).sendPreArm l true
        else s
      | none =>
        let s := (s.modLoop l fun L => { L with pre := some { offs := 1000 * s.rd R.RGC_PREARM_PA_MV }, okRun := 0 }).flag
          (R.RGC_L_TGT_PREARMED l) true
        s.showRef l !s.atTarget l

/-- The raised reference has held for ACK_N samples: PREARM is sent with ARMED at 1. -/
def preArmReached (s : State) (l : Loop) : State :=
  match s.loop[l].pre with
  | some p =>
    if p.sent.isNone && decide (s.rd R.RGC_VCL_CFG_ACK_N ≤ s.loop[l].okRun) && s.atTarget l then
      ((s.modLoop l fun L => { L with pre := some { p with sent := some s.now } }).count (R.RGC_L_CNT_PREARM_COUNT l)).sendPreArm
        l true
    else s
  | none => s

/-- PA_MAX has passed since the PREARM frame. -/
def preArmExpiry (s : State) (l : Loop) : State :=
  match s.loop[l].pre.bind (·.sent) with
  | some t => ((s.advance (t + 1000 * s.rd R.RGC_VCL_CFG_PA_MAX)).endPreArm l).raise Ev.RGC_PREARM_EXPIRED l
  | none => s

end State

/-- ALIGNMENT_EDGE (R176, R177). -/
def execAlignmentEdge (ms : List LoopSample) (s : State) : Res := .next (s.when s.rgcOn (·.alignmentEdge ms))
/-- SWITCHING_CYCLE (R174, R178, R214): the cycle in progress ends as observed, and the next begins. -/
def execSwitchingCycle (l : Loop) (obs : List PhaseObs) (s : State) : Res :=
  .next (s.when (s.rgcOn && s.switches l) fun s =>
    let s := (s.cycleEdge l).cycleEnd l obs
    s.when (s.switches l) (·.cycleStart l))
/-- FIRING_ROTATION (R173). -/
def execFiringRotation (l : Loop) (s : State) : Res := .next (s.when (s.rgcOn && s.drives l) (·.rotate l))
/-- SYNC_LOCK (R171). -/
def execSyncLock (q : SyncRun) (s : State) : Res := .next (s.when s.rgcOn (·.syncLock q))
/-- SYNC_IN_LOSS (R171). -/
def execSyncInLoss (s : State) : Res := .next (s.when s.rgcOn (·.syncLoss))
/-- SYNC_RETURN (R171). -/
def execSyncReturn (q : SyncRun) (s : State) : Res := .next (s.when s.rgcOn (·.syncReturn q))
/-- UNDERSHOOT_CROSSING (R179, R185). -/
def execUndershootCrossing (l : Loop) (v : Nat) (low : List Nat) (s : State) : Res :=
  .next (s.when s.rgcOn (·.undershoot l v low))
/-- UNDERSHOOT_END (R179). -/
def execUndershootEnd (l : Loop) (v : Nat) (cs : List Int) (s : State) : Res := .next (s.when s.rgcOn (·.undershootEnd l v cs))
/-- OVERSHOOT_CROSSING (R180). -/
def execOvershootCrossing (l : Loop) (v : Nat) (low : List Nat) (s : State) : Res :=
  .next (s.when s.rgcOn (·.overshoot l v low))
/-- BRAKE_END (R180). -/
def execBrakeEnd (l : Loop) (v : Nat) (s : State) : Res := .next (s.when s.rgcOn (·.brakeEnd l v))
/-- LOAD_STEP_ANNOUNCE (R182, R183, R187). -/
def execLoadStepAnnounce (l : Loop) (di : Int) (rate win : Nat) (s : State) : Res :=
  .next (s.when s.rgcOn fun s => s.onBus (.loadStep l di rate win) (·.announce l di rate win))
/-- PREARM_REACHED (R183). -/
def execPrearmReached (l : Loop) (s : State) : Res := .next (s.when s.rgcOn (·.preArmReached l))
/-- PREARM_EXPIRY (R186). -/
def execPrearmExpiry (l : Loop) (s : State) : Res := .next (s.when s.rgcOn (·.preArmExpiry l))
/-- PREARM_RELEASE (R186). -/
def execPrearmRelease (l : Loop) (s : State) : Res := .next (s.when s.rgcOn fun s => s.onBus (.release l) (·.endPreArm l))
/-- LOOP_APPLY (R195). -/
def execLoopApply (l : Loop) (s : State) : Res := .next (s.when s.rgcOn (·.flag (R.RGC_L_APPLY_APPLY l) true))
/-- RGC_CUFF_CAUSE (R73, R193). -/
def execRgcCuffCause (l : Loop) (c : CuffCause) (active : Bool) (s : State) : Res :=
  .next (s.when s.rgcOn (·.cuffCause l c active))

end Sys2Proof.Machine
end

