-- ==== Sys2Proof/Machine/Rails.lean ====
section
/-!
DEFINITION. Machine/Rails.lean: the commands of sequencing, protection, sense lines, VR_ALERT#, stage temperature and
current-sense calibration of the rails (R202–R234).
-/
namespace Sys2Proof.Machine
namespace State

/-! The power-up sequence (R202, R203, R207–R209). -/

def stageOf (s : State) (l : Loop) : Nat := s.rd (R.RGC_L_SEQ_STAGE l)
/-- A loop's own fault bits that keep it from starting (R206, R208). -/
def faulty (s : State) (l : Loop) : Bool := s.on (R.RGC_L_FAULT_SHORT_LATCH l) || s.on (R.RGC_L_FAULT_OVL_SHUT l)
/-- A loop is neither regulating nor parked. -/
def toStart (s : State) (l : Loop) : Bool := !s.regulates l && !s.parked l

/-- The lowest stage from `k` that holds a loop to start. -/
def stageUp (s : State) (k : Nat) : Option Nat :=
  ((List.range 4).filter fun j => decide (k ≤ j) && loops.any fun l => s.stageOf l == j && s.toStart l).head?

/-- A stage begins: each of its loops to start begins soft start ON_DLY later. With no stage left the sequence ends. -/
def beginStage (s : State) (k : Nat) : State :=
  match s.stageUp k with
  | some j =>
    let s := (s.modRgc fun r => { r with seq := .up j s.now }).wr R.RGC_SEQ_STATUS_STAGE j
    s.each loops fun l s =>
      if s.stageOf l == j && s.toStart l && !s.faulty l && !s.drives l && s.loop[l].startAt.isNone then
        s.modLoop l fun L => { L with startAt := some (s.now + 10000 * s.rd (R.RGC_L_SEQ_ON_DLY l)) }
      else s
  | none => (s.modRgc fun r => { r with seq := .idle }).flag R.RGC_SEQ_CTL_ON false

/-- A power-down sequence is in progress. -/
def goingDown (s : State) : Bool := match s.rgc.seq with
  | .down _ _ => true
  | _ => false

/-- ON is written: ignored together with OFF or during a power-down sequence. DEDUCED, log 29. -/
def seqOn (s : State) (alsoOff : Bool) : State :=
  if alsoOff || s.goingDown then s else (s.flag R.RGC_SEQ_CTL_ON true).beginStage 0

/-- HALT reads 1 while a loop that is not parked has halted the sequence by its latch and has not come up since (R209). -/
def showHalt (s : State) : State :=
  s.flag R.RGC_SEQ_STATUS_HALT (loops.any fun k => s.loop[k].halted && !s.parked k)

/-- A loop has latched: the power-up sequence halts, and no further loop starts (R209). -/
def haltSeq (s : State) (l : Loop) : State :=
  let s := (((s.modLoop l fun L => { L with halted := true }).showHalt).flag R.RGC_SEQ_CTL_ON false).raise Ev.RGC_SEQ_HALT l
  (s.modRgc fun r => { r with seq := .idle }).each loops fun k s => s.modLoop k fun L => { L with startAt := none }

/-- A power-up sequence is in progress. -/
def goingUp (s : State) : Bool := match s.rgc.seq with
  | .up _ _ => true
  | _ => false

/-- A loop latches off by a fault (R212, R225): in a power-up sequence that halts it (R209). -/
def latchOff (s : State) (l : Loop) (cause ev : Nat) : State :=
  let up := s.goingUp
  ((((s.flag (R.RGC_L_FAULT_SHORT_LATCH l) true).wr (R.RGC_L_FAULT_SS_CAUSE l) cause).raise ev l).shutAll l).when up (·.haltSeq l)

/-- Soft start of a loop begins at the output voltage measured, in µV, and on local sense if the remote sense has failed the
level test on 16 samples in a row before it (R203, R222, R223). DEDUCED, log 29. -/
def softStart (s : State) (l : Loop) (v : Nat) : State :=
  let s := if decide (16 ≤ s.loop[l].remoteBad) && !s.on (R.RGC_L_SENSE_LOCAL l) then
      (((s.flag (R.RGC_L_SENSE_LOCAL l) true).wr (R.RGC_L_SENSE_CAUSE l) 1).raise Ev.RGC_SENSE_LOCAL l).ringLoop l 0x27 1
    else s
  let s := (s.setMode l 1).flag (R.RGC_L_FAULT_DEP_OFF l) false
  let s := s.modLoop l fun L => { L with
    startAt := none, retryAt := none, vref := v, vofs := 0, iInt := 0, iCmd := 0, ePrev := 0
    ssLow := 0, shortRun := 0, pgRun := 0, cycles := 0, skip0 := false, blockU := false, blockO := false
    remoteBad := 0, localBad := 0, cycEdge := none, cyclePs := [], slots := [] }
  let s := s.setTarget l (s.clampTarget l (s.rd (R.RGC_L_VNOM_VNOM l)))
  s.each (s.phasesOf l) fun p s =>
    if s.on (R.RGC_PH_LOSS_OUT l p) then s else (s.setRot l p true).modPhase l p fun P => { P with b := 0 }

/-- The loops a loop depends on regulate. No soft start begins while the trip latch is set (R261). -/
def depsUp (s : State) (l : Loop) : Bool := loops.all fun k => !bit (s.rd (R.RGC_L_DEP_DEP l)) k || s.regulates k

/-- The effect of SOFT_START_BEGIN (R203). TRIES counts afresh from a soft start that a write of ON began.
DESIGN CHOICE, log 29. -/
def softStartBegin (s : State) (l : Loop) (v : Nat) : State :=
  match s.loop[l].startAt with
  | some t => if s.depsUp l && !s.on R.THM_TRIP_STS_LATCHED then ((s.advance t).wr (R.RGC_L_FAULT_TRIES l) 0).softStart l v else s
  | none => s

/-- The stage of a power-up sequence is complete once none of its loops is left to start. -/
def stageDone (s : State) : State :=
  match s.rgc.seq with
  | .up k _ =>
    if loops.any fun l => s.stageOf l == k && s.toStart l then s
    else
      let s := s.beginStage (k + 1)
      s.raiseIf (s.rgc.seq == .idle && s.on R.RGC_SEQ_STATUS_DONE) Ev.RGC_SEQ_DONE
  | _ => s

/-- The satellite of a compute die leaves reset as its rail comes up: its side of the Seam marks all four lanes good, and it
has no count until a training sets one (R29, R490, R505). -/
def satPower (s : State) (l : Loop) : State := match l.die? with
  | some d => s.modSeam d.sat fun q => { q with sMarks := 15, copy := none }
  | none => s

/-- A loop is power-good: it regulates, a VSET held in soft start is served, and VR_ALERT# is acted on (R203, R235). -/
def powerGood (s : State) (l : Loop) : State :=
  if s.mode l ≠ 1 || s.loop[l].down || decide (20 * s.loop[l].pgRun < 1000 * s.rd R.RGC_SEQ_CTL_PG_US) then s
  else
    let held := s.loop[l].held
    let s := ((s.setMode l 2).modLoop l fun L => { L with held := none, halted := false }).showHalt
    let s := match held with
      | some h =>
        let t := s.clampTarget l h.target
        ((s.setTarget l t).modLoop l fun L => { L with vset := some ⟨h.seq, t⟩ }).flag (R.RGC_L_TGT_ACKED l) false
      | none => s
    let s := if s.alerted l then s.alertOn l else s
    (s.satPower l).stageDone

/-- A short during soft start: TRIES counts it, up to the field's 3, and a VSET held goes on being held for the retry
(R203, R207, R208). DEDUCED, log 29. -/
def ssShort (s : State) (l : Loop) : State :=
  let L := s.loop[l]
  let low := decide (10000 ≤ L.ssLow)
  if s.mode l ≠ 1 || L.retryAt.isSome || !(low || decide (8 ≤ L.shortRun)) then s
  else
    let tries := s.rd (R.RGC_L_FAULT_TRIES l)
    let s := ((s.allMid l).wr (R.RGC_L_FAULT_SS_CAUSE l) (if low then 1 else 2)).raise Ev.RGC_SS_SHORT l
    let s := s.wr (R.RGC_L_FAULT_TRIES l) (sat 2 (tries + 1))
    if tries < s.rd R.RGC_SEQ_CTL_RETRY_MAX then
      s.modLoop l fun q => { q with held := L.held, retryAt := some (s.now + 1000000 * s.rd R.RGC_SEQ_CTL_RETRY_MS) }
    else (((s.flag (R.RGC_L_FAULT_SHORT_LATCH l) true).raise Ev.RGC_SHORT_LATCH l).shutAll l).haltSeq l

/-- The effect of SS_RETRY (R208). -/
def ssRetry (s : State) (l : Loop) (v : Nat) : State :=
  match s.loop[l].retryAt with
  | some t => if s.depsUp l && !s.parked l && !s.on R.THM_TRIP_STS_LATCHED then (s.advance t).softStart l v else s
  | none => s

/-- SHORT_LATCH is cleared, and TRIES with it (R208). -/
def latchClear (s : State) (l : Loop) : State := (s.flag (R.RGC_L_FAULT_SHORT_LATCH l) false).wr (R.RGC_L_FAULT_TRIES l) 0

/-- PARK keeps a compute loop off and fences its die: one in soft start or waiting for a retry goes off; a halt ends once no
loop that counts has halted the sequence (R209). DEDUCED, log 29. -/
def park (s : State) (l : Loop) : State :=
  if s.on R.GLB_GOV_CTL_ENABLE then s
  else
    let s := (s.flag (R.RGC_L_FAULT_PARK l) true)
    if 8 ≤ l.val then s
    else
      let s := if s.mode l = 1 then (s.allMid l).setMode l 0 else s.setMode l (s.mode l)
      let s := (s.modLoop l fun L => { L with startAt := none, retryAt := none }).showHalt
      let s := match l.die? with
        | some d => if s.live then s.fence d 6 else s
        | none => s
      s.stageDone

/-! The power-down sequence (R205, R206). -/

/-- A loop takes part in the power-down and is not yet off. -/
def toStop (s : State) (l : Loop) : Bool := !s.parked l && s.mode l != 0

/-- Before stage 1 ramps down the management island powers down: its processors stop and are held in reset, while their store
buffers drain (R404, R501). -/
def stopProcs (s : State) : State :=
  s.each (List.finRange 3) fun (p : Fin 3) s =>
    let s := ((s.wr (R.MGT_P_STATE_STATE p) 0).flag (R.MGT_P_STATE_STARTED p) false).flag (R.MGT_P_STATE_READY p) false
    let q : ProcSt := { s.mgt.proc[p] with
      fail := none, latch := none, restart := none, image := none, trial := none, paused := false }
    { s with mgt := { s.mgt with proc := s.mgt.proc.set p q, keyRetry := none, ceilDone := false } }

/-- When the ramp-down of a stage may begin: that of stage 1 once every store buffer has drained, a free value of at most 1 µs
for each entry (R402, R404). -/
def downStart (s : State) (j : Nat) : Nat × State :=
  if j = 1 && (List.finRange 3).any (fun (p : Fin 3) => s.on (R.MGT_P_STATE_STATE p)) then
    let n := (List.finRange 3).foldl (fun n (p : Fin 3) => max n s.mgt.proc[p].buf.length) 0
    let (v, s) := s.draw
    (s.now + v % (1000 * n + 1), s.stopProcs)
  else (s.now, s)

/-- The highest stage below `k` that holds a loop not yet off begins; with none left the sequence ends. -/
def beginDown (s : State) (k : Nat) : State :=
  match ((List.range k).filter fun j => loops.any fun l => s.stageOf l == j && s.toStop l).getLast? with
  | some j =>
    let (t, s) := s.downStart j
    (s.modRgc fun r => { r with seq := .down j t }).wr R.RGC_SEQ_STATUS_STAGE j
  | none => (s.modRgc fun r => { r with seq := .idle }).flag R.RGC_SEQ_CTL_OFF false

/-- OFF is written: pending starts and retries are dropped (R205, R235). DEDUCED, log 29. -/
def seqOff (s : State) (alsoOn : Bool) : State :=
  if alsoOn || s.goingDown then s
  else
    let s := (s.flag R.RGC_SEQ_CTL_OFF true).flag R.RGC_SEQ_CTL_ON false
    let s := s.each loops fun l s =>
      let s := if s.mode l = 1 ∧ s.loop[l].retryAt.isSome then s.setMode l 0 else s
      s.modLoop l fun L => { L with startAt := none, retryAt := none }
    s.beginDown 4

/-- The effect of RAMP_DOWN_BEGIN (R205). DEDUCED, log 29. -/
def rampDownBegin (s : State) (l : Loop) : State :=
  match s.rgc.seq with
  | .down k t =>
    if s.stageOf l ≠ k || !s.toStop l || s.loop[l].down then s
    else
      let s := s.advance (t + 10000 * s.rd (R.RGC_L_SEQ_OFF_DLY l))
      let s := s.endPreArm l
      if s.drives l then s.modLoop l fun L => { L with down := true, midAt := none }
      else s.modLoop l fun L => { L with down := true, midAt := some s.now }
  | _ => s

/-- A loop whose phases are at MID is off: its output is below 100 mV, or 10 ms have passed. -/
def loopOff (s : State) (l : Loop) : State :=
  match s.rgc.seq, s.loop[l].midAt with
  | .down k _, some t =>
    let s := if s.loop[l].vSense < 100000 then s else s.advance (t + 10000000)
    let s := ((s.modLoop l fun L => { L with down := false, midAt := none }).setMode l 0).fenceOff l
    let s := State.shutDeps 16 s l
    if loops.any fun m => s.stageOf m == k && s.toStop m then s else s.beginDown k
  | _, _ => s

/-! Protection (R210–R213). -/

/-- The fast short limit trips on a phase: PWM goes LOW, and the trip is counted (R210). -/
def shortTrip (s : State) (l : Loop) (p : Phase) : State :=
  if !(s.inRot l).contains p then s
  else
    let s := ((s.count (R.RGC_PH_CNT_SHORT_COUNT l p)).count (R.RGC_L_CNT_SHORT_COUNT l)).modPhase l p fun P => { P with tripped := true }
    (s.drive l [p] 1).ringChan (s.chan l p) 0x21 (s.rd (R.RGC_PH_CNT_SHORT_COUNT l p))

/-- A loop is shorted in regulation (R212). -/
def regulationShort (s : State) (l : Loop) : State :=
  if !s.regulates l || decide (s.loop[l].shortRun < 8) then s else s.latchOff l 3 Ev.RGC_SHORT_LATCH

/-- The pool of an overload Feather: floor(((100 − GUARD_PCT) % × I_ref − U) / 0.09 A), with U of R109 (R213). -/
def featherPool (s : State) (d : Die) : Nat :=
  let l := d.loop
  let g := ((s.govDie[d].lastRpt.map fun r => r.win.gWin).getD 0)
  let u := max (3200 * s.rd R.ADM_UNCORE_ALLOW) (200 * s.rd (R.RGC_L_TEL_I_AVG l) - 9 * g)
  (2 * s.iRef l * (100 - s.rd R.BUD_MISMATCH_GUARD_PCT) - u) / 288

/-- The overload timer reaches OVL_FEATHER: on a compute rail the governor lowers the pool; L8 to L15 are reserved at the
next decision (R213). -/
def ovlFeather (s : State) (l : Loop) : State :=
  if s.on (R.RGC_L_OVL_FEATHER l) || decide (s.loop[l].ovlNs < 10000 * s.rd (R.RGC_L_PROT_OVL_FEATHER l)) then s
  else
    let s := ((s.flag (R.RGC_L_OVL_FEATHER l) true).raise Ev.RGC_OVL_FEATHER l).count (R.RGC_L_CNT_OVL_COUNT l)
    match l.die? with
    | some d => if s.live then s.place d srcOverload (some (s.featherPool d)) none none else s
    | none => s

/-- The average has fallen to I_ref or below: the timer resets, and the Feather ends. -/
def ovlReset (s : State) (l : Loop) : State :=
  if s.iRef l < s.avgI l then s else s.ovlEnd l

/-- The effect of OVL_SHUTDOWN (R213). -/
def ovlShutdown (s : State) (l : Loop) : State :=
  if !s.drives l || decide (s.loop[l].ovlNs < 100000 * s.rd (R.RGC_L_PROT_OVL_OFF l)) then s
  else ((s.flag (R.RGC_L_FAULT_OVL_SHUT l) true).raise Ev.RGC_OVL_SHUTDOWN l).shutAll l

/-! Phase failures (R214–R221). -/

/-- A phase is removed from rotation (R215–R220). -/
def removePhase (s : State) (l : Loop) (p : Phase) : State :=
  let cause := s.loop[l].phases[p].cause
  let s := s.calStop l
  let s := ((s.flag (R.RGC_PH_LOSS_OUT l p) true).wr (R.RGC_PH_LOSS_CAUSE l p) cause).setRot l p false
  let s := ((s.wr (R.RGC_L_PHLOSS_LOST l) (s.rd (R.RGC_L_PHLOSS_LOST l) + 1)).count (R.RGC_L_CNT_PHLOSS_COUNT l)).drive l [p] 0
  let s := s.count (R.REC_AO_COUNT 8)
  let s := ((s.ringChan (s.chan l p) 0x24 cause).raise Ev.RGC_PHASE_LOST l p).endPreArm l
  let s := s.capFalls l
  let s : State := match l.die? with
    | none => s
    | some d =>
      let s := if 1024 * (s.rd (R.RGC_L_PHLOSS_CAP l) : Int) < s.presentLoad l then
          (if bit s.loop[l].cuff CuffCause.phase.bit then s.sendCuff l else s.rgcCuff l .phase true)
        else s
      if s.rd (R.RGC_L_PHLOSS_LOST l) = 3 then
        let s := ((s.flag (R.RGC_L_FAULT_FENCED l) true).raise Ev.RGC_PHASE_FENCE l p).clampLoop l
        if s.live then s.fence d 3 else s
      else s
  if s.nRot l = 0 then s.shutAll l else s

/-- A phase has met a condition in four cycles in a row, and is removed at the end of the fourth: the cycle that begins then
is laid out without it (R215, R216). In soft start a short under way acts first (R235). -/
def phaseRemoval (s : State) (l : Loop) (p : Phase) : State :=
  let L := s.loop[l]
  if !(s.inRot l).contains p || s.on (R.RGC_PH_LOSS_TRIAL l p) || decide (L.phases[p].run < 4) ||
      (s.mode l == 1 && (decide (0 < L.shortRun) || decide (0 < L.ssLow))) then s
  else
    let s := s.removePhase l p
    s.when (s.switches l && decide (12 * s.now ≤ s.loop[l].cycAt)) (·.layOut l)

/-- The governor receives a change of N_av: on a compute rail it places the capability pool, marked with N_av, and
notifies the RGC as it sends the command, which clears PHASE in its Cuff state (R218, R219). -/
def capChange (s : State) (l : Loop) : State :=
  match l.die? with
  | none => s
  | some d =>
    let n := s.nAv l
    let s := s.place d srcPhase (some (s.capPool l)) none (some n)
    let s := if n = s.nph l then s.withdraw d srcPhase else s
    s.when (s.seamUp d.sat) (·.rgcCuff l .phase false)

/-- READMIT puts a removed phase on trial from the next switching cycle (R221). -/
def readmit (s : State) (l : Loop) (p : Phase) : State :=
  if s.on (R.RGC_PH_LOSS_OUT l p) then s.flag (R.RGC_PH_LOSS_READMIT l p) true else s

/-- After 64 clean cycles the phase stays; CAP rises at the next window boundary (R221). DEDUCED, log 31. -/
def trialEnd (s : State) (l : Loop) (p : Phase) : State :=
  if !s.on (R.RGC_PH_LOSS_TRIAL l p) || s.loop[l].phases[p].trial != 0 then s
  else
    let s := ((s.flag (R.RGC_PH_LOSS_TRIAL l p) false).flag (R.RGC_PH_LOSS_OUT l p) false).flag (R.RGC_PH_LOSS_READMIT l p) false
    (s.wr (R.RGC_L_PHLOSS_LOST l) (s.rd (R.RGC_L_PHLOSS_LOST l) - 1)).ringChan (s.chan l p) 0x25 1

/-! Sense lines (R222–R225). -/

/-- The remote sense has failed on 16 samples: the loop switches to local sense, and a brake response ends (R223). -/
def senseLoss (s : State) (l : Loop) : State :=
  let L := s.loop[l]
  if s.on (R.RGC_L_SENSE_LOCAL l) || decide (L.remoteBad < 16) || !s.switches l then s
  else
    let s := ((s.flag (R.RGC_L_SENSE_LOCAL l) true).wr (R.RGC_L_SENSE_CAUSE l) L.badCause).raise Ev.RGC_SENSE_LOCAL l
    let s := match L.resp with
      | some (false, _) => (s.respRings l).respEnd l false
      | _ => s
    s.ringLoop l 0x27 1

/-- The effect of SENSE_RETRY (R224). On a loop that is on remote sense RETRY has no effect. DESIGN CHOICE, log 29. -/
def senseRetry (s : State) (l : Loop) : State :=
  if !s.on (R.RGC_L_SENSE_LOCAL l) || s.on (R.RGC_L_SENSE_RETRY l) then s
  else (s.modLoop l fun L => { L with retryOk := 0, retryBad := false }).flag (R.RGC_L_SENSE_RETRY l) true

/-- The test of the remote pair ends (R224). -/
def senseRetryEnd (s : State) (l : Loop) : State :=
  let L := s.loop[l]
  if !s.on (R.RGC_L_SENSE_RETRY l) then s
  else if L.retryBad then s.flag (R.RGC_L_SENSE_RETRY l) false
  else if L.retryOk < 1024 then s
  else
    ((((s.flag (R.RGC_L_SENSE_RETRY l) false).flag (R.RGC_L_SENSE_LOCAL l) false).wr (R.RGC_L_SENSE_CAUSE l) 0).raise
      Ev.RGC_SENSE_REMOTE l).ringLoop l 0x27 2

/-- The local reading has failed too (R225). -/
def senseBoth (s : State) (l : Loop) : State :=
  if !s.on (R.RGC_L_SENSE_LOCAL l) || decide (s.loop[l].localBad < 16) || !s.drives l then s
  else s.latchOff l 4 Ev.RGC_SENSE_BOTH

/-! VR_ALERT# (R226–R228). -/

/-- The effect of VR_ALERT_ASSERT (R226). -/
def alertAssert (s : State) (l : Loop) : State :=
  let was := s.alerted l
  let s := (s.flag (R.RGC_L_ALERT_NOW l) true).flag (R.RGC_L_ALERT_SEEN l) true
  (s.raiseOnce Ev.RGC_ALERT l).alertFollows l was

/-- The effect of VR_ALERT_DEASSERT (R226). -/
def alertDeassert (s : State) (l : Loop) : State :=
  let was := s.alerted l
  ((s.flag (R.RGC_L_ALERT_NOW l) false).raiseOnce Ev.RGC_ALERT_CLEAR l).alertFollows l was

/-! Stage temperature (R167). -/

/-- TMON levels in mV of the stage channels: 0.60 V at 0 °C plus 8 mV/°C; at 2.5 V and above the fault flag. -/
def tmonLoop (s : State) (l : Loop) (mv : List Nat) : State :=
  s.each (s.phasesOf l) fun p s =>
    let v := nth mv (s.chan l p)
    let t := 2 * (v - 600)
    let s := s.modPhase l p fun P => { P with temp := t, flag := decide (2500 ≤ v) }
    (s.tel (R.RGC_PH_TEMP_TEMP l p) (sat 12 t)).tel (R.RGC_PH_TEMP_FLAG l p) (b2n (decide (2500 ≤ v)))

/-! Current-sense calibration (R232–R234). -/

/-- The next phase of the list waits for its conditions; with none left the calibration ends. -/
def calNextPhase (s : State) (l : Loop) (left : List Phase) (at_ : Nat) : State :=
  match left with
  | [] => (s.modLoop l fun L => { L with calLeft := [] }).calEnd l
  | p :: _ =>
    ((s.modLoop l fun L => { L with cal := some (.waiting at_), calLeft := left, calNext := at_, derate := 0 }).wr
      (R.RGC_L_CAL_PHASE l) p).ringChan (s.chan l p) 0x26 1

/-- The effect of CAL_START (R232). START is acted on at once and never reads 1; BUSY shows the calibration (R237).
DESIGN CHOICE, log 32. -/
def calStart (s : State) (l : Loop) : State :=
  if s.on (R.RGC_L_CAL_BUSY l) then s
  else
    let left := (s.inRot l).filter fun (p : Phase) => bit (s.rd (R.RGC_L_CAL_MASK l)) p.val
    let s := (s.flag (R.RGC_L_CAL_BUSY l) true).modLoop l fun L => { L with cal := some (.waiting s.now), calBad := [] }
    s.calNextPhase l left s.now

/-- Why a phase cannot be calibrated now: 0 if it can (R232, R234). -/
def calReason (s : State) (l : Loop) : Nat :=
  if !s.regulates l then 3
  else if s.nRot l < 2 then 2
  else if s.rd (R.BUD_RAIL_LIM_LIMIT l) * (s.nAv l - 1) < s.avgI l * s.nph l then 1 else 0

/-- The phase in progress goes to MID and out of rotation (step 3). -/
def calToMid (s : State) (l : Loop) (p : Phase) : State :=
  (((s.setRot l p false).drive l [p] 0).modLoop l fun L => { L with cal := some (.offset s.now) }).ringChan (s.chan l p) 0x26 3

/-- Step 1 is met: the loop is derated by one phase; a compute loop waits for the satellite's confirmation (R232). A
calibration that was paused, its derating confirmed, resumes (R235). -/
def calReady (s : State) (l : Loop) : State :=
  match s.loop[l].cal, s.loop[l].calLeft.head? with
  | some (.waiting _), some p =>
    if s.calReason l ≠ 0 || s.calPaused l then s
    else
      let s := (s.advance s.loop[l].calNext).modLoop l fun L => { L with derate := 1, cal := some (.derated (decide (8 ≤ l.val))) }
      let s := (s.capFalls l).ringChan (s.chan l p) 0x26 2
      if l.val < 8 then s else s.calToMid l p
  | some (.derated true), some p => if s.calPaused l then s else s.calToMid l p
  | _, _ => s

/-- The effect of CAL_DERATE_CONFIRMED (R232): in a pause the confirmation counts once the calibration resumes. -/
def calConfirmed (s : State) (l : Loop) : State :=
  match s.loop[l].cal, s.loop[l].calLeft.head? with
  | some (.derated _), some p =>
    if s.calPaused l then s.modLoop l fun L => { L with cal := some (.derated true) } else s.calToMid l p
  | _, _ => s

/-- The phase's mean sense voltage at zero current, in µV, gives its offset, in use from the next cycle; it returns to
rotation with B_k at 0 (steps 4, 5; R233). DEDUCED, log 32. -/
def calOffset (s : State) (l : Loop) (cs : Int) : State :=
  match s.loop[l].cal, s.loop[l].calLeft.head? with
  | some (.offset t), some p =>
    if s.calPaused l then s else
    let s := s.advance (t + 20000)
    let o := unsigned 16 (signed 16 s.loop[l].phases[p].ofs - s.sensed l p cs)
    let s := (s.wr (R.RGC_PH_CS_OFS l p) o).modPhase l p fun P => { P with csNext := some (P.gain, o), b := 0 }
    let s := ((s.setRot l p true).modLoop l fun L => { L with cal := some (.gain 0 0 0) }).ringChan (s.chan l p) 0x26 4
    s.ringChan (s.chan l p) 0x26 5
  | _, _ => s

/-- After 256 cycles the phase's gain is trimmed so that its mean current equals that of the others; a trim of more than
±5 % is not applied. The results overwrite what was written to the phase's CS register meanwhile. The derating ends
(step 6; R233). DEDUCED, log 32. -/
def calGain (s : State) (l : Loop) : State :=
  match s.loop[l].cal, s.loop[l].calLeft with
  | some (.gain k mine others), p :: left =>
    if k < 256 || s.calPaused l then s
    else
      let n : Int := max 1 (s.nRot l - 1)
      let g := s.loop[l].phases[p].gain
      let new := if 0 < others then (g * mine * n / others).toNat else 0
      let ok := decide (0 < others) && decide (95 * g ≤ 100 * new) && decide (100 * new ≤ 105 * g)
      let s := if ok then s else s.modLoop l fun L => { L with calBad := L.calBad ++ [p] }
      let g := if ok then new else g
      let o := s.loop[l].phases[p].ofs
      let s := ((s.wr (R.RGC_PH_CS_GAIN l p) g).wr (R.RGC_PH_CS_OFS l p) o).modPhase l p fun P => { P with csNext := some (g, o) }
      (s.ringChan (s.chan l p) 0x26 6).calNextPhase l left (s.now + 2048)
  | _, _ => s

/-- CAL_WAIT has passed: the phase is skipped (R234). DETAIL of the event holds the reason in [3:0] and the phase in [7:4].
DESIGN CHOICE, log 32. -/
def calDefer (s : State) (l : Loop) : State :=
  match s.loop[l].cal, s.loop[l].calLeft with
  | some (.waiting t), p :: left =>
    let s := s.advance (t + 1000000 * s.rd R.RGC_CAL_CFG_CAL_WAIT)
    let r := s.calReason l
    if r = 0 then s
    else ((s.wr (R.RGC_L_CAL_REASON l) r).raise Ev.RGC_CAL_DEFERRED l (r + 16 * p.val)).calNextPhase l left s.now
  | _, _ => s

end State

/-- SEQ_ON (R202). -/
def execSeqOn (alsoOff : Bool) (s : State) : Res := .next (s.when s.rgcOn (·.seqOn alsoOff))
/-- SOFT_START_BEGIN (R203). -/
def execSoftStartBegin (l : Loop) (v : Nat) (s : State) : Res := .next (s.when s.rgcOn (·.softStartBegin l v))
/-- POWER_GOOD (R203). -/
def execPowerGood (l : Loop) (s : State) : Res := .next (s.when s.rgcOn (·.powerGood l))
/-- SEQ_OFF (R205). -/
def execSeqOff (alsoOn : Bool) (s : State) : Res := .next (s.when s.rgcOn (·.seqOff alsoOn))
/-- LOOP_OFF (R205). -/
def execLoopOff (l : Loop) (s : State) : Res := .next (s.when s.rgcOn (·.loopOff l))
/-- SS_SHORT_DETECT (R207, R208). -/
def execSsShortDetect (l : Loop) (s : State) : Res := .next (s.when s.rgcOn (·.ssShort l))
/-- SS_RETRY (R208). -/
def execSsRetry (l : Loop) (v : Nat) (s : State) : Res := .next (s.when s.rgcOn (·.ssRetry l v))
/-- SHORT_LATCH_CLEAR (R208). -/
def execShortLatchClear (l : Loop) (s : State) : Res := .next (s.when s.rgcOn (·.latchClear l))
/-- FAULT_PARK (R209). -/
def execFaultPark (l : Loop) (s : State) : Res := .next (s.when s.rgcOn (·.park l))
/-- PHASE_SHORT_TRIP (R210). -/
def execPhaseShortTrip (l : Loop) (p : Phase) (s : State) : Res := .next (s.when s.rgcOn (·.shortTrip l p))
/-- REGULATION_SHORT (R212). -/
def execRegulationShort (l : Loop) (s : State) : Res := .next (s.when s.rgcOn (·.regulationShort l))
/-- OVL_FEATHER (R213). -/
def execOvlFeather (l : Loop) (s : State) : Res := .next (s.when s.rgcOn (·.ovlFeather l))
/-- OVL_TIMER_RESET (R213). -/
def execOvlTimerReset (l : Loop) (s : State) : Res := .next (s.when s.rgcOn (·.ovlReset l))
/-- OVL_SHUTDOWN (R213). -/
def execOvlShutdown (l : Loop) (s : State) : Res := .next (s.when s.rgcOn (·.ovlShutdown l))
/-- OVL_SHUT_CLEAR (R213). -/
def execOvlShutClear (l : Loop) (s : State) : Res := .next (s.when s.rgcOn (·.flag (R.RGC_L_FAULT_OVL_SHUT l) false))
/-- PHASE_REMOVAL (R215). -/
def execPhaseRemoval (l : Loop) (p : Phase) (s : State) : Res := .next (s.when s.rgcOn (·.phaseRemoval l p))
/-- CAPABILITY_CHANGE (R218). -/
def execCapabilityChange (l : Loop) (s : State) : Res := .next (s.when s.live (·.capChange l))
/-- PHASE_READMIT (R221). -/
def execPhaseReadmit (l : Loop) (p : Phase) (s : State) : Res := .next (s.when s.rgcOn (·.readmit l p))
/-- PHASE_TRIAL_END (R221). -/
def execPhaseTrialEnd (l : Loop) (p : Phase) (s : State) : Res := .next (s.when s.rgcOn (·.trialEnd l p))
/-- REMOTE_SENSE_LOSS (R223). -/
def execRemoteSenseLoss (l : Loop) (s : State) : Res := .next (s.when s.rgcOn (·.senseLoss l))
/-- SENSE_RETRY (R224). -/
def execSenseRetry (l : Loop) (s : State) : Res := .next (s.when s.rgcOn (·.senseRetry l))
/-- SENSE_RETRY_END (R224). -/
def execSenseRetryEnd (l : Loop) (s : State) : Res := .next (s.when s.rgcOn (·.senseRetryEnd l))
/-- BOTH_SENSE_LOSS (R225). -/
def execBothSenseLoss (l : Loop) (s : State) : Res := .next (s.when s.rgcOn (·.senseBoth l))
/-- VR_ALERT_ASSERT (R226). -/
def execVrAlertAssert (l : Loop) (s : State) : Res := .next (s.when s.rgcOn (·.alertAssert l))
/-- VR_ALERT_DEASSERT (R226). -/
def execVrAlertDeassert (l : Loop) (s : State) : Res := .next (s.when s.rgcOn (·.alertDeassert l))
/-- HOLD_CLEAR (R229). -/
def execHoldClear (l : Loop) (s : State) : Res := .next (s.when s.rgcOn (·.flag (R.RGC_L_HOLD_CTL_CLR l) true))
/-- TMON_SAMPLE (R167). -/
def execTmonSample (mv : List Nat) (s : State) : Res :=
  .next (s.when s.rgcOn fun s => s.each loops fun l s => s.tmonLoop l mv)
/-- CAL_START (R232). -/
def execCalStart (l : Loop) (s : State) : Res := .next (s.when s.rgcOn (·.calStart l))
/-- CAL_PHASE_READY (R232). -/
def execCalPhaseReady (l : Loop) (s : State) : Res := .next (s.when s.rgcOn (·.calReady l))
/-- CAL_DERATE_CONFIRMED (R232). -/
def execCalDerateConfirmed (l : Loop) (s : State) : Res := .next (s.when s.rgcOn (·.calConfirmed l))
/-- CAL_OFFSET_MEASURE (R232). -/
def execCalOffsetMeasure (l : Loop) (cs : Int) (s : State) : Res := .next (s.when s.rgcOn (·.calOffset l cs))
/-- CAL_GAIN_TRIM (R233). -/
def execCalGainTrim (l : Loop) (s : State) : Res := .next (s.when s.rgcOn (·.calGain l))
/-- CAL_PHASE_DEFER (R234). -/
def execCalPhaseDefer (l : Loop) (s : State) : Res := .next (s.when s.rgcOn (·.calDefer l))

end Sys2Proof.Machine
end

