-- ==== Sys2Proof/Machine/Seams.lean ====
section
/-!
DEFINITION. Machine/Seams.lean: the commands of the Seams, of the safe tier and of the fences (R489–R498).
-/
namespace Sys2Proof.Machine
namespace State

/-! Lanes and widths (R490, R492). -/

/-- The lanes of the widest width a set of good lanes allows. -/
def widest (m : Nat) : Nat :=
  if m = 15 then 15
  else if bits m 0 2 = 3 then 3
  else if bits m 2 2 = 3 then 12
  else match (setBits 4 m).head? with
    | some k => 2 ^ k
    | none => 0
/-- The code of WIDTH for a set of lanes in use. -/
def widthCode (m : Nat) : Nat := match popCount 4 m with
  | 0 => 0 | 1 => 1 | 2 => 2 | _ => 3
/-- The lowest lane of a set. -/
def lowLane (m : Nat) : Nat := match (setBits 4 m).head? with
  | some k => 2 ^ k
  | none => 0

/-- A training starts. A lane set by three disagreements is kept to (R492). DEDUCED, log 46. -/
def startTraining (s : State) (x : Sat) : State :=
  let m := s.seam[x].gMarks &&& s.seam[x].sMarks
  let only := if s.on (R.ADM_SEAM_STS_ONE_LANE x) then lowLane m else 15
  let s := if s.seam[x].fresh then s else (s.raiseOnce Ev.SEAM_RETRAIN x).count (R.REC_AO_COUNT 3)
  s.modSeam x fun q => { q with training := some s.now, only := only, agreed := none, nextTry := s.now + 10000 }

/-- A satellite of a compute die has power while its loop regulates; S8 has it always (R505). -/
def powered (s : State) (x : Sat) : Bool := match x.die? with
  | some d => s.regulates d.loop
  | none => true

/-- TRAIN flits are exchanged: each side's marks shrink by the lanes it did not receive on, and offers that differ narrow
the width and restart the training; a Seam set to one lane stays on one (R490, R492). DEDUCED, log 46. -/
def trainFlit (s : State) (x : Sat) (ver feat type gBad sBad : Nat) : State :=
  let q := s.seam[x]
  if q.training.isNone then s
  else
    let g := q.gMarks - (q.gMarks &&& gBad &&& q.only)
    let t := q.sMarks - (q.sMarks &&& sBad &&& q.only)
    let s := s.modSeam x fun q => { q with gMarks := g, sMarks := t }
    let og := widest (g &&& q.only)
    let os := widest (t &&& q.only)
    if og = os then s.modSeam x fun q => { q with agreed := if og = 0 then none else some ⟨og, ver, feat, type⟩ }
    else if widest (g &&& t) = 0 then s.modSeam x fun q => { q with agreed := none, only := 0 }
    else
      let n := sat 2 (s.rd (R.ADM_SEAM_CTL_DISAGREE x) + 1)
      let s := (s.raise Ev.SEAM_WIDTH x).wr (R.ADM_SEAM_CTL_DISAGREE x) n
      if s.on (R.ADM_SEAM_STS_ONE_LANE x) then
        s.modSeam x fun q => { q with only := lowLane (g &&& t), agreed := none, training := some s.now }
      else if n < 3 then s.modSeam x fun q => { q with only := widest (g &&& t), agreed := none, training := some s.now }
      else ((s.flag (R.ADM_SEAM_STS_ONE_LANE x) true).raise Ev.SEAM_ONE_LANE x).modSeam x fun q =>
        { q with only := lowLane (g &&& t), agreed := none, training := some s.now }

/-! The safe tier (R494, R495). -/

/-- A satellite's version, at least MIN_VER and of the governor's major, keeps its die out of the safe tier.
DEDUCED, log 46. -/
def evalSafe (s : State) (x : Sat) : State :=
  match x.die? with
  | none => s
  | some d =>
    let v := s.seam[x].ver
    let safe := decide (v < s.rd R.ADM_SEAM_CFG_MIN_VER) || v / 16 != 2
    let was := s.safeTier d
    let s := (s.flag (R.ADM_SEAM_STS_SAFE x) safe).flag (R.ADM_DIE_STATUS_SAFE_TIER d) safe
    if safe = was then s
    else if safe then ((s.dropHints d).raise Ev.DIE_SAFE_TIER d v).retarget d
    else s.retarget d

/-- Removals and map changes that waited for the Seam are sent (R39, R303). DEDUCED, log 24 and 35. -/
def seamFlush (s : State) (x : Sat) : State :=
  let l := s.seam[x].wait
  let s := s.modSeam x fun q => { q with wait := [] }
  let s := s.each l fun b s => s.sendSeam x none b
  { s with sen := { s.sen with changes := s.sen.changes.map fun c =>
      if c.die.sat = x ∧ c.due = 0 then { c with due := s.now + 10040 } else c } }

/-- A training ends: up at the lower version with the common features, or failed; after three failures in a row the Seam
is dead, which fences a compute die (R490, R493, R494). DEDUCED, log 46. -/
def trainingEnd (s : State) (x : Sat) (raw : Nat) : State :=
  let q := s.seam[x]
  if q.training.isNone then s
  else
    let s := ((s.count (R.ADM_SEAM_CNT_TRAIN_COUNT x)).wr (R.ADM_SEAM_CTL_RAW x) (sat 6 raw)).flag (R.ADM_SEAM_CTL_RETRAIN x) false
    match q.agreed, decide (raw ≤ 40) with
    | some a, true =>
      let s := s.modSeam x fun q => { q with training := none, agreed := none, failed := 0, fails := [], ver := a.ver
                                             gSent := s.now, sSent := s.now, fresh := false
                                             flits := [], gBuf := [], sBuf := [], acted := [], drift := 0, copy := some s.cyc, copyAt := s.now
                                             stopped := q.stopped && s.frozen }
      let s := (s.flag (R.ADM_SEAM_STS_UP x) true).wr (R.ADM_SEAM_STS_WIDTH x) (widthCode a.lanes)
      let s := (s.wr (R.ADM_SEAM_STS_LANES x) (q.gMarks &&& q.sMarks)).wr (R.ADM_SEAM_STS_VER x) (min 0x21 a.ver)
      let s := (s.wr (R.ADM_SEAM_STS_FEAT x) (a.feat &&& 0x0F)).wr (R.ADM_SEAM_STS_DIE_TYPE x) a.type
      let s := s.wr (R.ADM_SEAM_CTL_DISAGREE x) 0
      let s := s.seamFlush x
      let s := { s with inbox := s.inbox.map fun (t, y, r) => if y = x then (max t (s.now + 40), y, r) else (t, y, r) }
      let s := s.each (s.inbox.filter fun i => i.2.1 == x) fun i s => s.keepFlit x false (.report i.1 i.2.2)
      match x.die? with
      | some d =>
        let s := (s.flag (R.ADM_DIE_STATUS_SEAM_HOLD d) false).evalSafe x
        if bit (s.rd R.ADM_FENCE_REQ) d && !s.fenced d then s.fence d 1 else s
      | none => s.flag (R.ADM_SEAM_STS_DEAD x) false
    | _, _ =>
      let s := s.modSeam x fun q => { q with training := none, agreed := none, failed := q.failed + 1 }
      if q.failed + 1 < 3 || s.on (R.ADM_SEAM_STS_DEAD x) then s
      else
        let s := (s.flag (R.ADM_SEAM_STS_DEAD x) true).raise Ev.SEAM_DEAD x
        match x.die? with
        | some d => s.fence d 5
        | none => s

/-- The governor lets go of what it holds for a die's hints: the reservation and the pre-arm (R70). DEDUCED, log 18. -/
def dropGovHints (s : State) (d : Die) : State :=
  let s := if s.govDie[d].announced.isEmpty then s else s.sendRgc (.release d.loop)
  s.modGovDie d fun g => { g with hints := [], announced := [] }

/-- A removal, an insertion or a map command: one that is lost with the Seam waits for it (R39, R303). -/
def waits (b : SeamBody) : Bool := match b with
  | .remove _ | .insert _ _ | .map _ _ _ _ _ => true
  | _ => false

/-- The commands and the reports of flits that wait to be replayed, oldest first. -/
def lostCmds (q : SeamSt) : List SeamFlit := q.gBuf.reverse.filterMap fun e => match e.lost, e.load with
  | true, .cmd f => some f
  | _, _ => none
def lostReports (q : SeamSt) (x : Sat) : List (Nat × Sat × Report) := q.sBuf.reverse.filterMap fun e => match e.lost, e.load with
  | true, .report t r => some (t, x, r)
  | _, _ => none

/-- A Seam goes down: the satellite keeps its settings and drops its hints, commands on their way are lost, and with them
the result of a conversion in progress or on its way (R39, R70, R259, R265). DEDUCED, log 24. -/
def seamDrop (s : State) (x : Sat) : State :=
  if !s.seamUp x then s
  else
    let s := (s.flag (R.ADM_SEAM_STS_UP x) false).wr (R.ADM_SEAM_STS_WIDTH x) 0
    let s := s.modSeam x fun q => { q with
      flits := [], gBuf := [], sBuf := [], wait := q.wait ++ ((lostCmds q ++ q.flits).map (·.cmd.body)).filter waits }
    let s := { s with inbox := s.inbox ++ (lostReports s.seam[x] x) }
    let s := { s with inbox := s.inbox.filter fun i => !(i.2.1 == x && decide (s.now < i.1) && lostOnWay i.2.2) }
    let s : State := { s with thmDie := s.thmDie.set x { s.thmDie[x] with lost := s.thmDie[x].conv.isSome } }
    match x.die? with
    | some d => (((s.flag (R.ADM_DIE_STATUS_SEAM_HOLD d) true).dropHints d).dropGovHints d)
    | none => s

/-- A Seam goes down and trains at once (R491). -/
def seamGoDown (s : State) (x : Sat) : State := if s.seamUp x then (s.seamDrop x).startTraining x else s

/-- 8 flits have failed their CRC at one side within 1 µs (R491). -/
def failing (s : State) (x : Sat) : Bool :=
  [true, false].any fun g => decide (8 ≤ (s.seam[x].fails.filter fun f => f.1 == g && decide (s.now < f.2 + 1000)).length)

/-- The effect of SEAM_DOWN: no valid flit has arrived at a side for 500 ns, or 8 have failed within 1 µs (R491). -/
def seamDownOn (s : State) (x : Sat) (silent : Bool) : State := if silent || s.failing x then s.seamGoDown x else s

/-- Every 10 µs a down Seam trains again; a dead one of a compute die does not (R491, R493). -/
def retrainTimer (s : State) (x : Sat) : State :=
  let q := s.seam[x]
  if s.seamUp x || q.training.isSome || !s.powered x || (decide (x.val < 8) && s.on (R.ADM_SEAM_STS_DEAD x)) then s
  else (s.advance q.nextTry).startTraining x

/-- RETRAIN is written: both sides mark every lane good, the counts restart, and training starts (R492). -/
def retrainWrite (s : State) (x : Sat) : State :=
  let s := s.seamDrop x
  let s := (s.flag (R.ADM_SEAM_STS_ONE_LANE x) false).flag (R.ADM_SEAM_STS_DEAD x) false
  let s := (s.wr (R.ADM_SEAM_CTL_DISAGREE x) 0).flag (R.ADM_SEAM_CTL_RETRAIN x) true
  (s.modSeam x fun q => { q with gMarks := 15, sMarks := 15, failed := 0 }).startTraining x

/-- A side that has sent nothing for 100 ns sends a flit. -/
def seamIdle (s : State) (x : Sat) (gov : Bool) : State :=
  if !s.seamUp x then s
  else
    let q := s.seam[x]
    let s := s.advance ((if gov then q.gSent else q.sSent) + 100)
    (s.keepFlit x gov .idle).emit (.seamIdle x gov)

/-- The CRC-16 of a flit, over its header and its payload, each most significant word first (R489). DESIGN CHOICE, log 46. -/
def flitCrc (header payload : Nat) : Nat := crc16 [header, bits payload 32 16, bits payload 16 16, bits payload 0 16]

/-- The replay buffer of a side of a Seam, and a change of the flit it holds under a number. -/
def bufOf (q : SeamSt) (gov : Bool) : List KeptFlit := if gov then q.gBuf else q.sBuf
def setKept (s : State) (x : Sat) (gov : Bool) (e : KeptFlit) : State :=
  let put (l : List KeptFlit) : List KeptFlit := l.map fun y => if y.num = e.num then e else y
  s.modSeam x fun q => if gov then { q with gBuf := put q.gBuf } else { q with sBuf := put q.sBuf }

/-- What a flit carries does not arrive: it fails its CRC while it is on its way. -/
def flitLost (s : State) (x : Sat) (gov : Bool) (e : KeptFlit) : State := match e.load with
  | .idle => s
  | .cmd f => if s.seam[x].flits.contains f then (s.modSeam x fun q => { q with flits := q.flits.erase f }).setKept x gov
      { e with lost := true } else s
  | .report t r => if s.inbox.contains (t, x, r) && decide (s.now ≤ t) then { s with inbox := s.inbox.erase (t, x, r) }.setKept x gov
      { e with lost := true } else s

/-- What a replayed flit carries is on its way again, at most 20 ns later than before: a free value. -/
def putBack (s : State) (x : Sat) (gov : Bool) (e : KeptFlit) : State :=
  let (v, s') := s.draw
  let late := v % 21
  match e.lost, e.load with
  | true, .cmd f =>
    let f : SeamFlit := { f with sent := f.sent + late }
    (s'.modSeam x fun q => { q with flits := f :: q.flits }).setKept x gov ⟨e.num, .cmd f, false⟩
  | true, .report t r => { s' with inbox := (t + late, x, r) :: s'.inbox }.setKept x gov ⟨e.num, .report (t + late) r, false⟩
  | _, _ => s

/-- A flit whose CRC fails at a side is discarded there and answered with a negative acknowledgement that names it (R491).
DESIGN CHOICE, log 46. -/
def flitFail (s : State) (x : Sat) (f : Flit) : State :=
  if !s.seamUp x || f.crc == flitCrc f.header f.payload then s
  else
    let s := (s.modSeam x fun q => { q with fails := ((f.governor, s.now) :: q.fails).take 16 }).emit
      (.seamNak x ⟨!f.governor, f.num⟩)
    match (bufOf s.seam[x] (!f.governor)).find? fun e => e.num == f.num with
    | some e => s.flitLost x (!f.governor) e
    | none => s

/-- A negative acknowledgement makes the sender replay the flit it names from its buffer, counted as a retransmission; a flit
that is no longer among the newest 32 is not replayed (R491). DESIGN CHOICE, log 46. -/
def seamNak (s : State) (x : Sat) (k : Nak) : State :=
  match s.seamUp x, (bufOf s.seam[x] k.governor).find? fun e => e.num == k.num with
  | true, some e => ((s.putBack x k.governor e).count (R.ADM_SEAM_CNT_RETRY_COUNT x)).emit (.seamReplay x k)
  | _, _ => s

/-- MIN_VER is written while the block is disabled: the safe tier is evaluated anew (R495, R510). -/
def minVer (s : State) (v : Nat) : State :=
  if s.on R.GLB_GOV_CTL_ENABLE then s
  else (s.wr R.ADM_SEAM_CFG_MIN_VER v).each sats fun x s => if s.seamUp x then s.evalSafe x else s

/-! Fences (R496–R498). -/

/-- The host writes REQ: every die whose bit is set is fenced. -/
def fenceReq (s : State) (mask : Nat) : State :=
  let old := s.rd R.ADM_FENCE_REQ
  (s.wr R.ADM_FENCE_REQ mask).each dies fun d s => if bit mask d && !bit old d then s.fence d 1 else s

/-- The lowest fence cause that still holds for a die. DEDUCED, log 45. -/
def fenceCause (s : State) (d : Die) : Option Nat :=
  if bit (s.rd R.ADM_FENCE_REQ) d then some 1
  else if !s.regulates d.loop then some (if s.parked d.loop then 6 else 2)
  else if 2 < s.rd (R.RGC_L_PHLOSS_LOST d.loop) then some 3
  else if !bit (s.rd R.RGC_VCL_STATUS_UP) d then some 4
  else if !s.seamUp d.sat || s.on (R.ADM_SEAM_STS_DEAD d) then some 5
  else if s.parked d.loop then some 6
  else none

/-- The reset domain of a satellite includes the fence of its own die (R23): at the lift the satellite leaves reset with all
its lanes marked good (R490, R492), and what it owns by R31 is as at reset: pool, grants and start index, waiting commands,
the counts of the window, dividers, droop state, the diode converter and the sites' rings. Its settings, the sites in
admission, a Cuff in effect and the detectors' outputs come again at once from the parts that own them, and its Seam and its
voltage command link keep theirs. DEDUCED, log 27. -/
def satReset (s : State) (d : Die) : State :=
  let a0 : AdmDie := {}
  let s := s.modAdm d fun a => { a0 with
    held := a.held, hintSeq := a.hintSeq, pend := a.pend, act := a.act, causes := a.causes, level := a.level
    both := a.both, cuffFirst := a.cuffFirst, cuffWin := a.cuffWin, slots := a.slots, slotNext := a.slotNext }
  let s := (s.wr (R.ADM_DIE_STATUS_POOL d) 0).wr (R.ADM_DIE_RAMP_START d) 0
  let s := (s.wr (R.ADM_DIE_STROKE_GRANTED d) 0).wr (R.ADM_DIE_STROKE_ALLOW d) 0
  let c0 : ClkDie := {}
  let s := s.modClk d fun c => { c0 with alertSlow := c.alertSlow, gate := c.gate, wokeAt := c.wokeAt }
  let s := ((s.wr (R.CLK_DIE_DIV_NOW d) 6).wr (R.CLK_DIE_DIV_V_ACK d) 0).flag (R.CLK_DIE_DIV_ACK_WAIT d) false
  let s := (s.flag (R.CLK_DIE_DIV_DROOP_ACTIVE d) false).modTx d.loop fun t => { t with due := none, again := none }
  let s := ((s.cuffOne d .droop false).droopSync d).droopBegin d
  let s : State := { s with
    thmDie := s.thmDie.set d.sat { expect := s.thmDie[d.sat].expect, missed := s.thmDie[d.sat].missed }
    rings := s.rings.filter fun e => decide (e.1 < 576 * d.val) || decide (576 * d.val + 576 ≤ e.1) }
  s.modSeam d.sat fun q => { q with sMarks := 15 }

/-- LIFT: the fence is lifted if no cause holds; else the die stays fenced and CAUSE shows one (R498).
DEDUCED, log 27. -/
def liftDie (s : State) (d : Die) : State :=
  if !s.fenced d then s
  else match s.fenceCause d with
    | some c => s.wr (R.ADM_SEAM_CTL_CAUSE d) c
    | none =>
      let s := ((s.satReset d).flag (R.ADM_SEAM_STS_FENCED d) false).flag (R.ADM_DIE_STATUS_FENCED d) false
      let s := (s.flag (R.RGC_L_FAULT_FENCED d) false).emit (.fenceLine d false)
      let held := s.adm[d].held
      let cuffed := s.on (R.ADM_DIE_STATUS_CUFF d)
      let s := if cuffed then s else s.holdSites d held 3
      let s := s.modAdm d fun a => { a with held := if cuffed then a.held else [], fastOff := true }
      let s := s.each clusters fun c s => s.gateRequest d c
      (s.retarget d).raise Ev.DIE_FENCE_LIFTED d

/-- The effect of FENCE_LIFT (R498). -/
def lift (s : State) (mask : Nat) : State := s.each dies fun d s => if bit mask d then s.liftDie d else s

end State

/-- TRAIN_FLIT (R490, R492). -/
def execTrainFlit (x : Sat) (ver feat type gBad sBad : Nat) (s : State) : Res :=
  .next (s.when s.live (·.trainFlit x ver feat type gBad sBad))
/-- SEAM_TRAINING_END (R490, R493). -/
def execSeamTrainingEnd (x : Sat) (raw : Nat) (s : State) : Res := .next (s.when s.live (·.trainingEnd x raw))
/-- SEAM_DOWN (R491). -/
def execSeamDown (x : Sat) (silent : Bool) (s : State) : Res := .next (s.when s.live (·.seamDownOn x silent))
/-- SEAM_RETRAIN_TIMER (R491). -/
def execSeamRetrainTimer (x : Sat) (s : State) : Res := .next (s.when s.live (·.retrainTimer x))
/-- SEAM_IDLE_SEND (R491). -/
def execSeamIdleSend (x : Sat) (gov : Bool) (s : State) : Res := .next (s.when s.live (·.seamIdle x gov))
/-- SEAM_NAK (R491). -/
def execSeamNak (x : Sat) (k : Nak) (s : State) : Res := .next (s.when s.live (·.seamNak x k))
/-- FLIT_CRC_FAIL (R491). -/
def execFlitCrcFail (x : Sat) (f : Flit) (s : State) : Res := .next (s.when s.live (·.flitFail x f))
/-- SEAM_RETRAIN_WRITE (R492). -/
def execSeamRetrainWrite (x : Sat) (s : State) : Res := .next (s.when s.live (·.retrainWrite x))
/-- MIN_VER_WRITE (R495). -/
def execMinVerWrite (v : Nat) (s : State) : Res := .next (s.when s.live (·.minVer v))
/-- FENCE_REQUEST (R496). -/
def execFenceRequest (mask : Nat) (s : State) : Res := .next (s.when s.live (·.fenceReq mask))
/-- FENCE_LIFT (R498). -/
def execFenceLift (mask : Nat) (s : State) : Res := .next (s.when s.live (·.lift mask))

end Sys2Proof.Machine
end

