-- ==== Sys2Proof/Machine/Thermal.lean ====
section
/-!
DEFINITION. Machine/Thermal.lean: the commands of the diodes, their calibration and cross-check, throttling by die, and
the trip comparators (R241–R264).
-/
namespace Sys2Proof.Machine

/-- Sites of a die (R241). -/
def thmSites (x : Sat) : Nat := if x.val < 8 then 16 else 8
/-- The neighbours of a site on its die (R242, R243). -/
def thmNear (x : Sat) (c : Nat) : List Nat :=
  if x.val < 8 then
    (List.range 16).filter fun k => k != c && decide (k / 4 ≤ c / 4 + 1) && decide (c / 4 ≤ k / 4 + 1) &&
      decide (k % 4 ≤ c % 4 + 1) && decide (c % 4 ≤ k % 4 + 1)
  else match c with
    | 0 => [1, 2, 4] | 1 => [0, 3, 4] | 2 => [0, 3, 4] | 3 => [1, 2, 4]
    | 4 => [0, 1, 2, 3, 5] | 5 => [4, 6, 7] | 6 => [5, 7] | 7 => [5, 6] | _ => []
/-- The die and site of a global index (R241). -/
def thmDieOf (g : Nat) : Sat := if h : g < 128 then ⟨g / 16, by omega⟩ else 8
def thmSiteOf (g : Nat) : Nat := if g < 128 then g % 16 else g - 128
def thmGlobal (x : Sat) (c : Nat) : Nat := if x.val < 8 then 16 * x.val + c else 128 + c
/-- The neighbours of a site by global index. -/
def thmNearG (g : Nat) : List Nat :=
  (thmNear (thmDieOf g) (thmSiteOf g)).map fun c => if g < 128 then 16 * (g / 16) + c else 128 + c

/-- Greatest and least of a list of temperatures. -/
def maxI (l : List Int) : Option Int := l.foldl (fun m v => some (max v (m.getD v))) none
def minI (l : List Int) : Option Int := l.foldl (fun m v => some (min v (m.getD v))) none
/-- A list of temperatures in rising order, and twice its median. -/
def insertI (v : Int) : List Int → List Int
  | [] => [v]
  | a :: t => if v ≤ a then v :: a :: t else a :: insertI v t
def sortI (l : List Int) : List Int := l.foldl (fun t v => insertI v t) []
def median2 (l : List Int) : Int :=
  let t := sortI l
  let n := t.length
  t.getD ((n - 1) / 2) 0 + t.getD (n / 2) 0

namespace State

def modThm (s : State) (g : ThmSt → ThmSt) : State := { s with thm := g s.thm }
def modTd (s : State) (x : Sat) (g : ThmDie → ThmDie) : State := { s with thmDie := s.thmDie.set x (g s.thmDie[x]) }

/-! Demands and conversions (R244–R247). -/

/-- The demand timer expires: it runs freely, and the demand waits for a stroke boundary (R41). It runs on in a package
freeze, and an expiry that falls in the freeze sends nothing, then or later. DESIGN CHOICE, log 33. -/
def demandTimer (s : State) : State :=
  let s := s.advance s.thm.nextDemand
  s.modThm fun t => { t with nextDemand := t.nextDemand + 1000 * max 1 (s.rd R.THM_CTL_INTERVAL), due := !s.frozen || t.due }

/-- The stroke boundary of the present instant, or the next one. -/
def toStroke (s : State) : State := 
  if s.strokeIdx ≠ 0 ∧ s.cyc = 64 * (s.strokeIdx - 1) then s else s.advance (64 * cdiv s.cyc 64 + s.frozenTime)

/-- The result of a die's last demand is still on its way: its command, its conversion, unless it should have ended before
now, or the report (R245, R259). A demand is held only while what holds it is on time. -/
def underWay (s : State) (x : Sat) : Bool :=
  let t := s.thmDie[x]
  let onTime (o : Option Nat) : Bool := o.any fun e => decide (s.now ≤ e)
  (onTime t.conv && (!t.lost || t.held)) || (t.held && onTime t.cal) || s.seam[x].flits.any (fun f => f.cmd.body == .demand) ||
    s.inbox.any fun i => i.2.1 == x && (match i.2.2 with
      | .temps _ => true
      | _ => false)

/-- A die whose results have been missing for MISS_N demands in a row is treated as in hard throttle (R259). A result that
is on its way when the next demand is issued is not missing. DEDUCED, log 33. -/
def missDemand (s : State) (x : Sat) : State :=
  let t := s.thmDie[x]
  if !t.expect then s.modTd x fun t => { t with expect := true }
  else if s.underWay x then s
  else
    let s := s.modTd x fun t => { t with missed := t.missed + 1 }
    if t.missed + 1 < s.rd R.THM_CTL_MISS_N || s.on (R.THM_DIE_STATUS_STALE x) then s
    else ((s.flag (R.THM_DIE_STATUS_STALE x) true).flag R.THM_STATUS_STALE_ANY true).raise Ev.THM_STALE x

/-- The governor issues a demand to all nine satellites at a stroke boundary (R41, R244). A timer demand and a DEMAND_NOW
that wait for the same boundary go out as one, counted once. DESIGN CHOICE, log 33. -/
def demandIssue (s : State) : State :=
  if !(s.thm.due || s.on R.THM_CTL_DEMAND_NOW) || s.frozen then s
  else
    let s := s.toStroke
    let s := s.each sats fun x s => (s.missDemand x).sendSeam x none .demand
    ((s.modThm fun t => { t with due := false, taken := false }).flag R.THM_CTL_DEMAND_NOW false).count R.THM_CNT_DEMAND_COUNT

/-- A conversion starts on the first alignment edge at or after the present instant, and takes 16 µs. -/
def startConv (s : State) (x : Sat) : State :=
  s.modTd x fun t => { t with conv := some (20 * s.nextAlign + 16000), lost := false, held := false }

/-- A demand arrives: it starts a conversion, or is held; a second one held replaces it (R246). -/
def demandArrive (s : State) (x : Sat) : State :=
  let t := s.thmDie[x]
  if t.conv.isSome || t.cal.isSome then
    (if t.held then s.raiseOnce Ev.THM_DEMAND_OVERRUN x else s).modTd x fun t => { t with held := true }
  else s.startConv x

/-- A calibration step arrives: it starts on the first alignment edge, and takes 16 µs (R250). -/
def calStepArrive (s : State) (x : Sat) : State := s.modTd x fun t => { t with cal := some (20 * s.nextAlign + 16000) }

/-- What a channel converts of its junction's reading in 1/16 °C: absolute temperature less the channel's zero, by its gain
and the site's ideality, with the site's offset (R249, R250). DESIGN CHOICE, log 33. -/
def converted (s : State) (x : Sat) (i : Nat) (reading : Int) : Int :=
  let z := (Tab.find s.thmDie[x].trims i).getD (0, 65536)
  let f := (Tab.find s.siteFuse (thmGlobal x i)).getD (65536, 0)
  (reading + 4370 - z.1) * 65536 / z.2 * f.1 / 65536 - 4370 + f.2

/-- A channel reads within −55 °C to +200 °C; 0x8000 stands for a failed one (R247). -/
def rawGood (v : Int) : Bool := decide (-880 ≤ v) && decide (v ≤ 3200)

/-- The values and states of a die's sites by the cross-check of R252, from the raw values and the sites available; and
the suspects. -/
def crossCheck (x : Sat) (raw : Nat → Int) (avail : Nat → Bool) : List (Option Int × Nat) × List Nat :=
  let sites := List.range (thmSites x)
  let suspect (i : Nat) : Bool :=
    let n := ((thmNear x i).filter avail).map raw
    avail i && decide (2 ≤ n.length) && decide ((maxI n).getD 0 - (minI n).getD 0 ≤ 48) &&
      decide (256 < (2 * raw i - median2 n).natAbs)
  let sound (i : Nat) : Bool := avail i && !suspect i
  let top := maxI ((sites.filter sound).map raw)
  (sites.map fun i =>
    if sound i then (some (raw i), 0)
    else match maxI (((thmNear x i).filter sound).map raw), top with
      | some m, _ => (some (m + 32), if suspect i then 1 else 2)
      | none, some m => (some (m + 32), if suspect i then 1 else 2)
      | none, none => (none, 3), sites.filter suspect)

/-- A conversion ends with what each junction reads, in 1/16 °C: the corrected results are cross-checked and sent while the
Seam is up, unless it went down meanwhile, and a held demand starts (R245–R247, R249, R252–R254, R265). -/
def convDone (s : State) (x : Sat) (read : List Int) : State :=
  match s.thmDie[x].conv with
  | none => s
  | some e =>
    let lost := s.thmDie[x].lost
    let s := (s.advance e).modTd x fun t => { t with conv := none, lost := false }
    let sites := List.range (thmSites x)
    let raw (i : Nat) : Int := s.converted x i (read.getD i (-32768))
    let failed := sites.filter fun i => !rawGood (raw i)
    let broken := s.rd (R.THM_DIE_BROKEN_SITE x)
    let (vals, sus) := crossCheck x raw fun i => rawGood (raw i) && !bit broken i
    let s := s.each sites fun i s =>
      let v := vals.getD i (none, 3)
      let s := s.wr (R.THM_DIE_RAW_RAW x i) (if rawGood (raw i) then unsigned 16 (raw i) else 0x8000)
      (s.wr (R.THM_DIE_T_VALUE x i) ((v.1.map (unsigned 16)).getD 0x8000)).wr (R.THM_DIE_T_STAT x i) v.2
    let s := s.wr (R.THM_DIE_FAILED_SITE x) (maskOf failed)
    let s := (s.setMask (R.THM_DIE_SUSPECT_SITE x) (maskOf sus)).count (R.THM_DIE_SEQ_COUNT x)
    let s := match sus.head? with
      | some i => s.raiseOnce Ev.THM_SUSPECT x i
      | none => s
    let runs : Tab Nat := sus.foldl (fun t i => Tab.put t i ((Tab.find s.thmDie[x].susRun i).getD 0 + 1)) []
    let tm := maxI (vals.filterMap (·.1))
    let s := s.modTd x fun t => { t with susRun := runs, tMax := tm }
    let s := s.each sus fun i s =>
      if s.rd R.THM_CTL_SUSPECT_N ≤ (Tab.find runs i).getD 0 then
        (s.setMask (R.THM_DIE_BROKEN_SITE x) (2 ^ i)).raise Ev.THM_DIODE_BROKEN x i
      else s
    let s := if s.seamUp x && !lost then s.report x (.temps tm) else s
    if s.thmDie[x].held && s.thmDie[x].cal.isNone then s.startConv x else s

/-- Writing 1 to BROKEN bits makes the sites available again (R253). -/
def diodeReadmit (s : State) (x : Sat) (mask : Nat) : State :=
  (s.clrMask (R.THM_DIE_BROKEN_SITE x) mask).modTd x fun t => { t with susRun := t.susRun.filter fun e => !bit mask e.1 }

/-! Converter calibration (R250, R251). -/

/-- The effect of THM_CAL_START (R251). -/
def calAsk (s : State) : State := if s.on R.THM_CAL_BUSY then s else s.flag R.THM_CTL_CAL_START true
/-- The effect of THM_CAL_PERIOD (R251). A deadline set before INTERVAL or PERIOD is written stands; the new value counts
from the next expiry on. DESIGN CHOICE, log 33. -/
def calPeriod (s : State) : State :=
  if s.rd R.THM_CAL_PERIOD = 0 then s
  else
    let s := s.advance s.thm.nextCal
    s.modThm fun t => { t with nextCal := t.nextCal + 10000000 * s.rd R.THM_CAL_PERIOD, calAsked := t.calAsked || !s.on R.THM_CAL_BUSY }

/-- The governor sends a step when the results of a demand have been taken in, no conversion is in progress, no demand of
the timer waits and 20 µs remain before it expires; a step is a demand and counts as one (R244, R250). -/
def calStepSend (s : State) : State :=
  let t := s.thm
  let asked := t.step = 2 || (t.step = 0 && (t.calAsked || s.on R.THM_CTL_CAL_START))
  if !asked || t.stepEnd.isSome || !t.taken || t.due || sats.any (fun x => s.thmDie[x].conv.isSome) ||
      decide (t.nextDemand < s.now + 20000) || s.frozen then s
  else
    let k := if t.step = 2 then 2 else 1
    let s := (s.each sats fun x s => s.sendSeam x none (.calStep k)).count R.THM_CNT_DEMAND_COUNT
    let s := s.modThm fun t => { t with step := k, stepEnd := some (20 * cdiv (s.now + 40) 20 + 16000), calAsked := false }
    (s.flag R.THM_CTL_CAL_START false).flag R.THM_CAL_BUSY true

/-- A step ends at a satellite with what its channels read: with their inputs shorted, in 1/16 K, or of the reference, in
1/65,536 of what they should (R250). DESIGN CHOICE, log 33. -/
def calTrim (s : State) (x : Sat) (k : Nat) (read : List Int) : State :=
  let new (i : Nat) : Int × Int :=
    let z := (Tab.find s.thmDie[x].trims i).getD (0, 65536)
    let v := read.getD i 0
    if k = 1 then (v, z.2) else if 0 < v then (z.1, v) else z
  let l := (List.range (thmSites x)).foldl (fun t i => Tab.put t i (new i)) []
  s.modTd x fun t => { t with cal := none, trims := l.filter fun e => e.2 != (0, 65536) }

/-- A step ends: the satellites that ran it trim their channels, and demands held meanwhile start; after the second the
calibration is done (R246, R250, R251). -/
def calStepEnd (s : State) (read : List (List Int)) : State :=
  match s.thm.stepEnd with
  | none => s
  | some e =>
    let s := s.advance e
    let done := s.thm.step = 2
    let k := s.thm.step
    let s := s.modThm fun t => { t with stepEnd := none, step := if done then 0 else 2 }
    let ran := sats.filter fun x => s.thmDie[x].cal.isSome
    let s := s.each ran fun x s => s.calTrim x k (read.getD x.val [])
    let s := if done then (s.flag R.THM_CAL_BUSY false).raise Ev.THM_CAL_DONE else s
    s.each ran fun x s => if s.thmDie[x].held && s.thmDie[x].conv.isNone then s.startConv x else s

/-! Throttling (R255–R259). -/

/-- The fraction of R256 for a temperature, in whole percent rounded down; 100 − SOFT_MIN_PCT is lost at HARD. -/
def fracAt (s : State) (t : Int) : Nat :=
  let soft := s.rd R.THM_THR_SOFT
  let hard := s.rd R.THM_THR_HARD
  if t ≤ 16 * soft then 100
  else 100 - cdiv ((100 - s.rd R.THM_THROT_SOFT_MIN_PCT) * (t - 16 * soft).toNat) (max 1 (16 * (hard - soft)))

/-- FRAC in effect changes, and with it soft throttle. DEDUCED, log 33. -/
def setFrac (s : State) (x : Sat) (f : Nat) : State :=
  let was := s.on (R.THM_DIE_STATUS_SOFT x)
  let soft := decide (f < 100)
  let s := ((s.wr (R.THM_DIE_STATUS_FRAC x) f).flag (R.THM_DIE_STATUS_SOFT x) soft)
  if soft && !was then s.raise Ev.THM_SOFT x else if was && !soft then s.raise Ev.THM_SOFT_END x else s

/-- The governor takes in a die's complete results. -/
def takeTemp (s : State) (x : Sat) (t : Int) : State :=
  let stale := s.on (R.THM_DIE_STATUS_STALE x)
  let hardNow := decide (16 * (s.rd R.THM_THR_HARD : Int) ≤ t)
  let cool := decide (t ≤ 16 * ((s.rd R.THM_THR_HARD : Int) - s.rd R.THM_THR_HYST))
  let was := s.on (R.THM_DIE_STATUS_HARD x)
  let s := (s.modTd x fun d => { d with expect := false, missed := 0 }).modThm fun m => { m with taken := true }
  let s := (s.wr (R.THM_DIE_STATUS_T_DIE x) (unsigned 16 t)).flag (R.THM_DIE_STATUS_STALE x) false
  let s :=
    if was then
      if cool then ((s.flag (R.THM_DIE_STATUS_HARD x) false).raise Ev.THM_HARD_END x).setFrac x (s.rd R.THM_THROT_HARD_PCT)
      else s
    else if hardNow then (s.flag (R.THM_DIE_STATUS_HARD x) true).raise Ev.THM_HARD x
    else if stale then s.setFrac x (s.rd R.THM_THROT_HARD_PCT)
    else
      let old := s.rd (R.THM_DIE_STATUS_FRAC x)
      let f := s.fracAt t
      s.setFrac x (if f ≤ old then f else min f (old + s.rd R.THM_THROT_REL_PCT))
  let s := if s.rd (R.THM_DIE_STATUS_FRAC x) < 100 then s.count (R.THM_DIE_CNT_SOFT_COUNT x) else s
  let s := if s.on (R.THM_DIE_STATUS_HARD x) then s.count (R.THM_DIE_CNT_HARD_COUNT x) else s
  let ts := sats.map fun (y : Sat) => signed 16 (s.rd (R.THM_DIE_STATUS_T_DIE y))
  let s := s.wr R.THM_STATUS_T_PKG (((maxI ts).map (unsigned 16)).getD 0x8000)
  let s := s.flag R.THM_STATUS_SOFT_ANY (sats.any fun y => s.on (R.THM_DIE_STATUS_SOFT y))
  let s := s.flag R.THM_STATUS_HARD_ANY (sats.any fun y => s.on (R.THM_DIE_STATUS_HARD y))
  s.flag R.THM_STATUS_STALE_ANY (sats.any fun y => s.on (R.THM_DIE_STATUS_STALE y))

/-- A die is in hard throttle or treated so; the fraction a compute die's pool is held to, its own and the I/O die's
(R257–R259). -/
def thmHard (s : State) (x : Sat) : Bool := s.on (R.THM_DIE_STATUS_HARD x) || s.on (R.THM_DIE_STATUS_STALE x)
def thmPct (s : State) (d : Die) : Nat :=
  let one (x : Sat) : Nat := if s.thmHard x then s.rd R.THM_THROT_HARD_PCT else s.rd (R.THM_DIE_STATUS_FRAC x)
  min (one d.sat) (one 8)

/-! The trip comparators (R260–R264): they act without a clock, in every phase of the block. -/

def masked (s : State) (g : Nat) : Bool := bit (s.rd (R.THM_TRIP_MASK_SITE (g / 32))) (g % 32)
/-- Sites whose assertion counts: neither masked nor under test. -/
def tripCounts (s : State) (g : Nat) : Bool := decide (g < 136) && !s.masked g && (s.thm.test.map (·.1)) != some g
/-- The level of a site's comparator, in 1/16 °C: the trip temperature, the lower of TRIP and TRIP_CEIL, with the site's
trim (R260). DEDUCED, log 33. -/
def tripLevel (s : State) (g : Nat) : Int :=
  16 * min (s.rd R.THM_TRIP_TRIP) (s.rd R.THM_TRIP_TRIP_CEIL) + (Tab.find s.tripTrim g).getD 0
/-- A junction at a temperature asserts the comparator of its site: at or above the level, but not past +200 °C (R260). -/
def trips (s : State) (g : Nat) (t : Int) : Bool := decide (s.tripLevel g ≤ t) && decide (t ≤ 3200)
/-- A comparator follows its junction: it asserts from now on, goes on asserting, or is clear (R261). -/
def tripEval (s : State) (g : Nat) : State :=
  let on := s.tripCounts g && ((Tab.find s.trip.junction g).map (s.trips g)).getD false
  if !on then { s with trip := { s.trip with asserted := s.trip.asserted.filter (·.1 != g) } }
  else if s.trip.asserted.any (·.1 == g) then s
  else { s with trip := { s.trip with asserted := s.trip.asserted ++ [(g, s.now)] } }
/-- Every comparator follows a new level or a new set of masks (R260, R263, R265). -/
def tripEvalAll (s : State) : State := s.each (s.trip.junction.map (·.1)) fun g s => s.tripEval g

/-- A junction crosses a level: its comparator follows it (R260, R261). -/
def junction (s : State) (g : Nat) (t : Int) : State :=
  ({ s with trip := { s.trip with junction := Tab.put s.trip.junction g t } }).tripEval g

/-- A comparator asserted for 1 µs sets the latch: the site and the interrupt are recorded, THERMTRIP# goes low and every
rail but L9 and L10 is driven to MID (R261). DEDUCED, log 33. -/
def tripLatch (s : State) : State :=
  match s.trip.asserted, s.trip.armed with
  | (g, t) :: more, some a =>
    if s.on R.THM_TRIP_STS_LATCHED then s
    else
      let s := s.advance (max (t + 1000) a)
      let s := ((s.flag R.THM_TRIP_STS_LATCHED true).wr R.THM_TRIP_STS_SITE g).flag R.THM_TRIP_STS_MULTI (!more.isEmpty)
      let s := ((s.flag (R.MGT_P_IRQ_NMI 0) true).emit .thermtrip).raise Ev.THM_TRIP (thmDieOf g).val g
      let s := { s with trip := { s.trip with record := true, ioOff := some (t + 10000000) } }
      s.each loops fun l s => if l.val = 9 || l.val = 10 || !s.drives l then s else s.shut l
  | _, _ => s

/-- The TRP sends the trip to the BMC. -/
def tripRecord (s : State) : State :=
  if s.trip.record && s.rd (R.MGT_P_STATE_STATE 0) == 2 then
    { s with trip := { s.trip with record := false } }.emit (.tripToBmc (s.rd R.THM_TRIP_STS_SITE))
  else s

/-- L9 and L10 go to MID 10 ms after the crossing. -/
def tripIoOff (s : State) : State :=
  match s.trip.ioOff with
  | some t =>
    let s := { (s.advance t) with trip := { s.trip with ioOff := none } }
    s.each ([9, 10] : List Loop) fun l s => if s.drives l then s.shutAll l else s
  | none => s

/-- The TRP writes a mask: dropped if a masked site had a masked neighbour, or more than 8 sites were masked (R263).
DEDUCED, log 33. -/
def tripMask (s : State) (k : Fin 5) (v : Nat) : State :=
  let v := if k.val = 4 then v % 256 else v
  let t := s.wr (R.THM_TRIP_MASK_SITE k) v
  let l := (List.range 136).filter t.masked
  if 8 < l.length || l.any (fun g => (thmNearG g).any t.masked) then s else t.tripEvalAll

/-- A test of one comparator starts around its site's last converted value, its raw result, whether that is suspect or not;
a masked site or one without a valid value fails at once (R264, R267). DEDUCED, log 33. -/
def tripTestStart (s : State) : State :=
  let g := s.rd R.THM_TRIP_TEST_SITE
  if s.on R.THM_TRIP_TEST_BUSY then s
  else if 136 ≤ g || s.masked g || 2 ≤ s.rd (R.THM_DIE_T_STAT (thmDieOf g).val (thmSiteOf g)) then
    (s.flag R.THM_TRIP_TEST_FAIL true).flag R.THM_TRIP_TEST_PASS false |>.raise Ev.THM_TRIP_TEST_FAIL (thmDieOf g).val g
  else
    let v := signed 16 (s.rd (R.THM_DIE_RAW_RAW (thmDieOf g).val (thmSiteOf g)))
    let s := ((s.flag R.THM_TRIP_TEST_START true).flag R.THM_TRIP_TEST_BUSY true).modThm fun t => { t with test := some (g, v) }
    ((s.flag R.THM_TRIP_TEST_PASS false).flag R.THM_TRIP_TEST_FAIL false).tripEval g

/-- A test ends with the level at which the comparator switched, in 1/16 °C. It passes if the comparator asserted with its
reference 10 °C below the last converted value and cleared with it 10 °C above; the site is watched again (R264). -/
def tripTestEnd (s : State) (at_ : Int) : State :=
  match s.thm.test with
  | none => s
  | some (g, v) =>
    let pass := decide (v - 160 ≤ at_) && decide (at_ < v + 160)
    let s := ((s.flag R.THM_TRIP_TEST_START false).flag R.THM_TRIP_TEST_BUSY false).modThm fun t => { t with test := none }
    let s := (s.flag R.THM_TRIP_TEST_PASS pass).flag R.THM_TRIP_TEST_FAIL (!pass)
    (s.raiseIf (!pass) Ev.THM_TRIP_TEST_FAIL (thmDieOf g).val g).tripEval g

end State

/-- THERMAL_DEMAND_TIMER (R41). -/
def execThermalDemandTimer (s : State) : Res := .next (s.when s.live (·.demandTimer))
/-- DEMAND_NOW (R244). -/
def execDemandNow (s : State) : Res := .next (s.when s.live (·.flag R.THM_CTL_DEMAND_NOW true))
/-- DEMAND_ISSUE (R41). -/
def execDemandIssue (s : State) : Res := .next (s.when s.live (·.demandIssue))
/-- CONVERSION_COMPLETE (R245, R252). -/
def execConversionComplete (x : Sat) (read : List Int) (s : State) : Res := .next (s.when s.live (·.convDone x read))
/-- THM_CAL_START (R251). -/
def execThmCalStart (s : State) : Res := .next (s.when s.live (·.calAsk))
/-- THM_CAL_PERIOD (R251). -/
def execThmCalPeriod (s : State) : Res := .next (s.when s.live (·.calPeriod))
/-- THM_CAL_STEP (R250). -/
def execThmCalStep (s : State) : Res := .next (s.when s.live (·.calStepSend))
/-- THM_CAL_STEP_END (R250). -/
def execThmCalStepEnd (read : List (List Int)) (s : State) : Res := .next (s.when s.live (·.calStepEnd read))
/-- DIODE_READMIT (R253). -/
def execDiodeReadmit (x : Sat) (mask : Nat) (s : State) : Res := .next (s.when s.live (·.diodeReadmit x mask))
/-- TRIP_COMPARATOR_ASSERT (R261). -/
def execTripComparatorAssert (g : Nat) (t : Int) (s : State) : Res := .next (s.junction g t)
/-- TRIP_COMPARATOR_CLEAR (R261). -/
def execTripComparatorClear (g : Nat) (t : Int) (s : State) : Res := .next (s.junction g t)
/-- TRIP_LATCH (R261). -/
def execTripLatch (s : State) : Res := .next s.tripLatch
/-- TRIP_RECORD (R261). -/
def execTripRecord (s : State) : Res := .next s.tripRecord
/-- TRIP_IO_RAILS_OFF (R261). -/
def execTripIoRailsOff (s : State) : Res := .next s.tripIoOff
/-- TRIP_MASK_WRITE (R263). -/
def execTripMaskWrite (k : Fin 5) (v : Nat) (s : State) : Res := .next (s.when s.live (·.tripMask k v))
/-- TRIP_TEST_START (R264). -/
def execTripTestStart (s : State) : Res := .next (s.when s.live (·.tripTestStart))
/-- TRIP_TEST_END (R264). -/
def execTripTestEnd (at_ : Int) (s : State) : Res := .next (s.when s.live (·.tripTestEnd at_))

end Sys2Proof.Machine
end

