-- ==== Sys2Proof/Machine/CasCast.lean ====
section
/-!
DEFINITION. Machine/CasCast.lean: broadcasts through the Cox, scheduled operations, the counts of the Cox and digests
(R318, R324, R325, R332–R334, R341).
-/
namespace Sys2Proof.Machine
namespace State

/-! Broadcasts (R332, R333). -/

/-- What a broadcast does on receipt (R300, R324, R333, R341). RETRACT has been applied by its sender when it was sent. -/
def deliverCast (s : State) (b : Bcast) (words : List Nat) : State :=
  match b.cls with
  | 0 => if b.orig = s.index then s else s.applyRetract (nth b.data 0)
  | 1 =>
    let n := (s.rd R.CAS_BC_CTL_RX_HEAD + 1) % 2 ^ 16
    let s := s.wr R.CAS_BC_CTL_RX_HEAD n
    (s.each (List.range 7) fun i s => s.wr (R.CAS_BC_RX_WORD (n % 16) i) (nth words i)).signal 3 none
  | 2 => (s.abortBarriers).raise Ev.CAS_PKG_LOST 0xFFFF (nth b.data 0)
  | 3 => s.verdict (bits (nth b.data 0) 0 16) (bits (nth b.data 0) 16 2) (nth b.data 1) (nth b.data 2 + nth b.data 3 * 2 ^ 32)
  | _ => s

/-- P0 to P6 of a BCAST_DOWN frame (R314). -/
def castWords (b : Bcast) (bseq : Nat) : List Nat :=
  [bits b.cls 0 8 + 2 ^ 16 * bits b.req 0 16, bits (nth b.data 0) 0 32, bits (nth b.data 1) 0 32, bits (nth b.data 2) 0 32,
   bits (nth b.data 3) 0 32, bits bseq 0 32, bits b.orig 0 14]

/-- The sender sees its own request come back. -/
def castSeen (s : State) (b : Bcast) : State :=
  if b.orig ≠ s.index then s
  else
    let s := s.modCas fun c => { c with mine := c.mine.filter fun m => m.1.req != b.req }
    if s.cas.host = some b.req then (s.modCas fun c => { c with host := none }).flag R.CAS_BC_CTL_BUSY false else s

/-- The root gives a broadcast the next BSEQ, sends it down, logs and mirrors it, and receives it itself. -/
def rootCast (s : State) (b : Bcast) : State :=
  let n := s.cas.bseq + 1
  let w := castWords b n
  let s := (s.sendDown 0x31 w).modCas fun c => { c with bseq := n, bseen := n :: c.bseen, blog := (c.blog ++ [(n, b)]).drop (c.blog.length - 63) }
  ((s.sendMirror (.bcast n b.cls b.req b.orig b.data)).castSeen b).deliverCast b w

/-- A broadcast reaches the root; without a quorum, or during a freeze, it waits (R325, R335). -/
def castAtRoot (s : State) (b : Bcast) : State :=
  if s.mayAct && !s.casFrozen then s.rootCast b else s.modCas fun c => { c with bwait := c.bwait ++ [b] }

/-- A request goes up, or to the root that the package is. -/
def castUp (s : State) (b : Bcast) : State :=
  if s.isRoot then s.castAtRoot b
  else s.sendUp 0x30 ([bits b.cls 0 8 + 2 ^ 16 * bits b.req 0 16] ++ b.data)

/-- The package sends a broadcast of its own, and sends it again until it sees it come back. -/
def broadcast (s : State) (cls : Nat) (data : List Nat) : State :=
  let b : Bcast := ⟨cls, s.cas.req % 2 ^ 16, s.index, data⟩
  let s := s.modCas fun c => { c with req := c.req + 1, mine := c.mine ++ [(b, s.now + 10000)] }
  s.castUp b

/-- RETRACT(e): applied to the package itself at once, and broadcast (R300). -/
def sendRetract (s : State) (e : Nat) : State := (s.applyRetract e).broadcast 0 [e, 0, 0, 0]

/-- POISON and ROWCOL_FAIL of one epoch send one retraction: while the epoch's retraction for the one is pending, the other
sends none (R303). DEDUCED, log 36. -/
def retractsFor (s : State) (poison : Bool) (e : Nat) : Bool :=
  !(s.on R.SEN_STATUS_RETRACT_PEND && Tab.find s.sen.sentFor e == some !poison)
def retractFor (s : State) (poison : Bool) (e : Nat) : State :=
  if s.retractsFor poison e then (s.modSen fun q => { q with sentFor := Tab.put q.sentFor e poison }).sendRetract e else s

/-! Scheduled operations (R334). -/

/-- The governor sends the alignment edge of a cascade freeze or thaw to every satellite (R45). DEDUCED, log 15. -/
def sendEdge (s : State) (kind t : Nat) : State :=
  if kind = 0 then (s.modCas fun c => { c with freezeAt := some t }).each sats fun x s => s.sendSeam x (some t) .freeze
  else if kind = 1 then (s.modCas fun c => { c with thawAt := some t }).each sats fun x s => s.sendSeam x (some t) .thaw
  else s

/-- An operation's instant is recorded; a repeated operation ID is dropped. Every package follows the IDs, so that a new Cox
goes on from the last (R344). -/
def schedTake (s : State) (o : SchedOp) : State :=
  if s.cas.opSeen.contains o.id then s
  else
    let s := s.modCas fun c => { c with sched := c.sched ++ [o], opSeen := (o.id :: c.opSeen).take 64, opId := o.id }
    let s := s.sendEdge o.kind (20 * cdiv (s.whenLk o.at_) 20)
    (s.flag R.CAS_SCHED_PEND true).wr R.CAS_SCHED_AT_TIME o.at_

/-- D of the package's cascade; 0 for a package alone (R340). -/
def depth (s : State) : Nat := if s.casState = 0 then 0 else s.rd R.CAS_STATUS_DEPTH

/-- A request reaches the root, which chooses the instant and sends SCHED. A second request of a pending kind and a freeze
during a freeze are counted and ignored, a reset of a reserved scope is ignored; without a quorum the request waits. -/
def schedAtRoot (s : State) (kind scope : Nat) : State :=
  if (kind == 2 && decide (2 ≤ scope)) || decide (3 ≤ kind) || (s.cas.sched.any fun o => o.kind == kind) ||
      (kind == 0 && s.casFrozen) then
    if 3 ≤ kind || (kind == 2 && decide (2 ≤ scope)) then s else s.modCas fun c => { c with ignored := c.ignored + 1 }
  else if !s.mayAct then s.modCas fun c => { c with swait := c.swait ++ [(kind, scope)] }
  else
    let o : SchedOp := ⟨kind, scope, (s.cas.opId + 1) % 2 ^ 16, s.lkTime + s.depth * 250 + 500⟩
    let s := s.modCas fun c => { c with opId := o.id }
    let s := s.sendDown 0x33 [kind + 2 ^ 4 * scope + 2 ^ 16 * o.id, bits o.at_ 0 32, bits o.at_ 32 32]
    (s.sendMirror (.sched o)).schedTake o

/-- The package requests a scheduled operation. DEDUCED, log 42. -/
def requestSched (s : State) (kind scope : Nat) : State :=
  if s.isRoot then s.schedAtRoot kind scope else s.sendUp 0x32 [kind + 2 ^ 4 * scope]

/-- What waited for a quorum, or for the thaw, is acted on. -/
def runWaiting (s : State) : State :=
  if !s.mayAct || s.casFrozen then s
  else
    let bs := s.cas.bwait
    let qs := s.cas.swait
    let s := s.modCas fun c => { c with bwait := [], swait := [] }
    let s := s.each bs fun b s => s.castAtRoot b
    let s := s.each qs fun q s => s.schedAtRoot q.1 q.2
    s.each (s.cas.obj.map (·.1)) fun k s => s.barrierCheck k

/-! The Cox's count (R318, R324, R325). -/

/-- Indices of packages that a lane is known to lead to: the neighbour and what the port table holds (R320). -/
def knownOn (s : State) (k : Lane) : List Nat :=
  (s.rd (R.CAS_LANE_STS_PEER k) :: (s.cas.ports.filter fun p => p.2 == k.val).map (·.1)).eraseDups

/-- PKG_LOST for each of `n` packages: first those known to have been lost; the index of another is a free value, for
the frames do not tell it (R324). -/
def pkgLost (s : State) (n : Nat) (known : List Nat) : State :=
  s.each (List.range n) fun i s => match known[i]? with
    | some x => s.broadcast 2 [x, 0, 0, 0]
    | none => (s.draw).2.broadcast 2 [s.draw.1 % 2 ^ 14, 0, 0, 0]

/-- The operations pending go down again, for a package that has lost its SCHED or comes anew; the others drop the repeated
ID (R344). -/
def resendSched (s : State) : State :=
  s.each s.cas.sched fun o s => s.sendDown 0x33 [o.kind + 2 ^ 4 * o.scope + 2 ^ 16 * o.id, bits o.at_ 0 32, bits o.at_ 32 32]

/-- The Cox, or the new Cox after a takeover, forms: it sends the pending operations again, and after a takeover what its
mirror holds, and announces the lost Cox and the other packages that are no longer counted (R321, R322, R324, R344). -/
def form (s : State) : State :=
  let s := s.sendFormed.recombine
  match s.cas.recover with
  | some (x, n) =>
    let m := s.cas.mirror
    let s := s.modCas fun c => { c with recover := none, sched := c.sched ++ m.sched.filter fun o => !c.opSeen.contains o.id }
    let s := s.each m.log fun p s => s.resendSched.sendDown 0x31 (castWords p.2 p.1)
    (s.pkgLost (n + 1 - s.rd R.CAS_STATUS_N) [x]).runWaiting
  | none => s.resendSched.runWaiting

/-- The Cox's count has changed from `old`: it forms when it is complete, mirrors the count, and acts on a gain and on the
loss of its quorum (R318, R321, R325). -/
def tallied (s : State) (old : Nat) : State :=
  let n := s.rd R.CAS_STATUS_N
  let want := match s.cas.recover with
    | some (_, m) => m
    | none => s.rd R.CAS_CFG_EXPECT
  let quorum := decide (s.rd R.CAS_CFG_EXPECT < 2 * n)
  if s.casState = 1 then if n = want then s.form else s
  else if s.casState = 2 && !quorum then (s.mirrorCount.wr R.CAS_STATUS_STATE 4).raise Ev.CAS_NO_QUORUM
  else if quorum && (decide (old < n) || s.casState == 4) then s.form
  else s.mirrorCount

/-- The subtree has changed: a member sends TOPO up; the Cox counts N and announces each package that a formed cascade has
lost, with a quorum or, once it has one again, then (R318, R324, R325). DEDUCED, log 39. -/
def recount (s : State) (known : List Nat) : State :=
  if s.casState = 0 then s
  else if !s.isCox then s.sendTopo
  else
    let old := s.rd R.CAS_STATUS_N
    let n := s.subtree.n
    let s := s.wr R.CAS_STATUS_N n
    (if n < old && s.casState != 1 then s.pkgLost (old - n) known else s).tallied old

/-! Digests (R295, R341). -/

/-- The value held by more than half of the digests. -/
def majority (l : List Nat) : Option Nat := l.find? fun x => decide (l.length < 2 * (l.filter (· == x)).length)

/-- The package is alone, or its cascade has the feature of digest and verdict frames (R319). -/
def digestFeature (s : State) : Bool := s.casState == 0 || bit (s.rd R.CAS_VER_CFEAT) 1

/-- The comparer forms the verdict of a comparison: the dies of its own package take it at once, the others by broadcast; a
difference retracts the epoch. -/
def formVerdict (s : State) (c : DigestCmp) : State :=
  let s := s.modSen fun q => { q with cmps := q.cmps.filter fun x => !(x.group == c.group && x.epoch == c.epoch) }
  let ds := c.held.map (·.2.2)
  let send (s : State) (outcome m : Nat) : State :=
    let s := s.verdict c.group outcome c.epoch m
    if s.digestFeature then s.broadcast 3 [c.group + 2 ^ 16 * outcome + 2 ^ 20 * c.die, c.epoch, bits m 0 32, bits m 32 32] else s
  if ds.length < 2 then
    (send s 0 (ds.headD 0)).senRecord Ev.SEN_DIGEST_MISSING { epoch := c.epoch, detail := c.group }
  else match majority ds with
    | some m =>
      if ds.all (· == m) then send s 0 m else (send s 1 m).sendRetract c.epoch
    | none => ((send s 2 0).senRecord Ev.SEN_DIGEST_SPLIT { epoch := c.epoch, detail := c.group, action := actRetract }).sendRetract c.epoch

/-- A digest reaches the comparer, a die of this package: it counts until the verdict; one for a retracted epoch, or after
its verdict, does not. -/
def takeDigest (s : State) (group pkg die cmp epoch digest : Nat) : State :=
  if s.retracted epoch || (s.sen.verdicts.any fun v => v.1 == group && v.2.1 == epoch) then s
  else
    let size := s.rd (R.SEN_DIE_GROUP_SIZE cmp)
    let c := (s.sen.cmps.find? fun x => x.group == group && x.epoch == epoch).getD
      ⟨group, epoch, cmp, size, [], s.now + 1000 * s.rd R.SEN_EPOCH_CFG_DIGEST_WAIT⟩
    let held := (c.held.filter fun h => !(h.1 == pkg && h.2.1 == die)) ++ [(pkg, die, digest)]
    let c := { c with held }
    if size ≤ held.length then s.formVerdict c
    else s.modSen fun q => { q with cmps := (q.cmps.filter fun x => !(x.group == group && x.epoch == epoch)) ++ [c] }

/-- A member's digest goes to its comparer: handed over in the package, else by unicast (R295, R341). -/
def sendDigest (s : State) (d : Die) (epoch digest : Nat) : State :=
  let g := s.rd (R.SEN_DIE_GROUP_GROUP d)
  let pkg := s.rd (R.SEN_DIE_GCMP_PKG d)
  let cmp := s.rd (R.SEN_DIE_GCMP_DIE d)
  if pkg = s.index then s.takeDigest g pkg d cmp epoch digest
  else if !s.digestFeature then s
  else
    let q : CasSend := { type := 0x40, dir := 3, src := s.index, dst := pkg
                         p := [g + 2 ^ 16 * d.val + 2 ^ 20 * cmp, epoch, bits digest 0 32, bits digest 32 32] }
    match s.route pkg with
    | some k => s.originate k q
    | none => s.count R.CAS_CNT_UNROUTED_COUNT

end State
end Sys2Proof.Machine
end

