-- ==== Sys2Proof/Machine/Cascade.lean ====
section
/-!
DEFINITION. Machine/Cascade.lean: the commands of the cascade: frames as they arrive, its timers, the host's requests, and
the edges of freeze, thaw and reset (R310–R344).
-/
namespace Sys2Proof.Machine
namespace State

/-! The tree (R316, R318, R323). -/

/-- One OBJ_BULK entry for each object whose TYPE is not 0: object, generation and the subtree's aggregate, of a barrier its
arrivals, of a SET object the latest write known; that of a subtree without members is the neutral value (R323). DEDUCED, log 41. -/
def bulkEntries (s : State) : List (Nat × Nat × Nat) :=
  s.cas.obj.filterMap fun (e : Nat × CasObj) =>
    let v := match e.2.type with
      | 1 => s.arrivals e.1
      | 7 => e.2.latest
      | t => if s.members e.1 = 0 then neutral t else s.aggregate e.1
    if e.2.type = 0 then none else some (e.1, e.2.gen, v)
/-- Four entries of 7 bytes as the payload words of an OBJ_BULK frame; the last of fewer is repeated. DEDUCED, log 41. -/
def bulkWords (l : List (Nat × Nat × Nat)) : List Nat :=
  let bs := (List.range 4).flatMap fun i =>
    let e := l[i]?.getD (l.getLastD (0, 0, 0))
    bytesOf 2 e.1 ++ bytesOf 1 e.2.1 ++ bytesOf 4 e.2.2
  (List.range 7).map fun i => nth bs (4 * i) + 2 ^ 8 * nth bs (4 * i + 1) + 2 ^ 16 * nth bs (4 * i + 2) + 2 ^ 24 * nth bs (4 * i + 3)
def chunks4 : Nat → List (Nat × Nat × Nat) → List (List (Nat × Nat × Nat))
  | 0, _ => []
  | n + 1, l => if l.isEmpty then [] else l.take 4 :: chunks4 n (l.drop 4)
def sendBulk (s : State) : State :=
  let l := s.bulkEntries
  s.each (chunks4 l.length l) fun c s => s.sendUp 0x22 (bulkWords c)

/-- After OBJ_BULK, which carries no member counts, a package tells the counts of its barriers and SET objects, also of those
without members (R323, R330). DEDUCED, log 41. -/
def retell (s : State) : State :=
  s.each (s.cas.obj.map (·.1)) fun k s =>
    if (s.obj k).type = 1 || (s.obj k).type = 7 then s.sendCount k else s.objRefresh k

/-- The least PACE_CAP of the subtree goes up when it changes (R342). -/
def paceLeast (s : State) : Nat :=
  (s.downs.filterMap fun (k : Lane) => s.cas.lane[k].pace).foldl min (s.rd R.BUD_PACE_CAP_CAP)
def paceUp (s : State) : State :=
  let m := s.paceLeast
  if s.isRoot || s.upLane.isNone || s.cas.paceUp = some m then s
  else (s.modCas fun c => { c with paceUp := some m }).sendUp 0x34 [m]

/-- A package attaches on an up lane at a distance: it sends TOPO, on a re-attachment its aggregates, and its member counts
and least PACE_CAP, which the parent does not have yet (R318, R323). The BSEQs of a cascade it joins are not those it has received before
(R332). DEDUCED, log 39. -/
def attach (s : State) (k : Lane) (dist : Nat) : State :=
  let again := s.casState == 3
  let join := s.casState != 2
  let s := ((s.wr R.CAS_STATUS_DIST dist).wr R.CAS_STATUS_ROLE 0).syncSteer
  let s := if s.casState = 2 then s else s.wr R.CAS_STATUS_STATE 1
  let s := s.modCas fun c => { c with
    ports := [], firstTopo := none, deep := false, pace := none, paceUp := none, fresh := c.fresh || join
    bseq := if join && !again then 0 else c.bseq, bseen := if join && !again then [] else c.bseen
    obj := c.obj.map fun e => (e.1, { e.2 with sent := none }) }
  let s := (s.forgetLane k).setRoles (some k)
  let s := (if again then s.sendTopo.sendBulk.retell else s.sendTopo.recombine).paceUp
  if again then s.raise Ev.CAS_REATTACHED else s

/-- The package is the best candidate: it is the Cox, at distance 0, in term 1 or the term it follows. -/
def becomeCox (s : State) : State :=
  let s := ((s.wr R.CAS_STATUS_ROLE 1).wr R.CAS_STATUS_DIST 0).wr R.CAS_STATUS_STATE 1 |>.syncSteer
  let s := (s.wr R.CAS_TERM_TERM (max 1 s.term)).wr R.CAS_COX_COX s.index
  let s := (s.modCas fun c => { c with ports := [], deep := false, nextBeat := s.now + 1000 }).setRoles none
  s.wr R.CAS_STATUS_N s.subtree.n

/-- The choice of R316 among the candidates known. -/
def choose (s : State) : State :=
  if !s.on R.CAS_CTL_JOIN then s
  else match s.best with
    | none => s
    | some c =>
      let deep := c.lane.isSome && (decide (5 < c.dist + 1) || (s.casState == 3 && decide (4 < c.dist)))
      let was := s.cas.deep
      let s := s.modCas fun q => { q with deep }
      match c.lane with
      | none => if s.isCox then s.setRoles none else s.becomeCox.recount []
      | some k =>
        if deep then s.raiseIf (!was) Ev.CAS_DEPTH
        else if s.upLane = some k && s.casState != 3 then (s.wr R.CAS_STATUS_DIST (c.dist + 1)).setRoles (some k)
        else s.attach k (c.dist + 1)

/-- The package leaves the tree it was in, and its subtree detaches with it: what its neighbours advertised through it no
longer stands. DEDUCED, log 39. -/
def leaveTree (s : State) (state : Nat) : State :=
  let below := s.downs
  let s := s.sendDown 0x12 []
  let s := (((s.wr R.CAS_STATUS_STATE state).wr R.CAS_STATUS_ROLE 0).wr R.CAS_STATUS_DIST 0xF).syncSteer
  let s := s.modCas fun c => { c with ports := [], firstTopo := none, pace := none, paceUp := none }
  let s := s.each below fun (k : Lane) s => s.modLane k fun l => { l with hello := none }
  (s.each lanes fun (k : Lane) s => s.forgetLane k).setRoles none

/-- JOIN has been written: the package forms or joins a cascade, or is alone again (R316). -/
def joinWritten (s : State) : State :=
  if s.on R.CAS_CTL_JOIN then (if s.casState = 0 then s.wr R.CAS_STATUS_STATE 1 else s).choose
  else if s.casState = 0 then s
  else
    let s := s.leaveTree 0
    let s := ((s.wr R.CAS_STATUS_N 1).wr R.CAS_STATUS_DEPTH 0).wr R.CAS_TERM_TERM 0
    s.modCas fun c => { c with yielded := false, probe := none, recover := none, mirror := {}, beat := none }

/-- The package and its subtree detach (R323). -/
def detach (s : State) : State :=
  if s.casState = 0 || s.casState = 3 then s else (s.leaveTree 3).raise Ev.CAS_DETACHED

/-- A frame of a higher term is followed: a new term begins, and a Cox of the old one yields. Only a term above 1 was begun
by a takeover: a package that hears of term 1 is still ranked by R316 (R322). DEDUCED, log 39. -/
def followTerm (s : State) (t : Nat) : State :=
  if t ≤ s.term || !s.on R.CAS_CTL_JOIN then s
  else
    let old := s.term
    let cox := s.isCox
    let s := (s.wr R.CAS_TERM_TERM t).modCas fun c => { c with yielded := c.yielded || decide (1 < t), recover := none }
    let s := if cox && decide (1 < t) then s.detach else s
    if old = 0 then s else s.raise Ev.CAS_TAKEOVER 0xFFFF t

/-! The link layer on receipt (R312, R313, R319, R335). -/

/-- Types held during a freeze: all but HELLO, ACK, TSYNC, SCHED and SCHED_REQ. -/
def holds (t : Nat) : Bool := !(decide (t ≤ 0x04) || t == 0x32 || t == 0x33)

/-- A frame that a receiver discards: a CRC failure is counted on the lane and answered with a negative ACK that names the
LSEQ the frame carries; one of a reserved type is acknowledged and counts as unrouted (R312–R314). DEDUCED, log 38. -/
def discard (s : State) (k : Lane) (f : CasFrame) : State :=
  if !f.crcGood then
    (s.modLane k fun l => { l with fails := (s.now :: l.fails).take 8 }).sendAck k f.lseq true
  else if f.ver ≠ 1 then s
  else
    let s := s.modLane k fun l => { l with last := s.now }
    let s := if s.laneUp k then (s.modLane k fun l => { l with rx := f.lseq }).sendAck k f.lseq false else s
    s.count R.CAS_CNT_UNROUTED_COUNT

/-- An index heard on a down port is learned. At the Cox one that is attached elsewhere is refused once, and not counted; its
port stands (R318, R320). -/
def learn (s : State) (k : Lane) (src : Nat) : State :=
  let far := match Tab.find s.cas.ports src with
    | some j => j != k.val
    | none => src == s.index
  if s.isCox && far && !s.cas.lane[k].sub.isNone then
    if s.cas.lane[k].dups.contains src then s
    else
      let old := s.rd R.CAS_STATUS_N
      let s := s.modLane k fun l => { l with dups := src :: l.dups }
      ((s.wr R.CAS_STATUS_N s.subtree.n).raise Ev.CAS_JOIN_REFUSED 0xFFFF src).tallied old
  else s.modCas fun c => { c with ports := Tab.put c.ports src k.val }

/-- A frame reaches a lane. It is taken, and acknowledged, if its CRC, version and type are good, its term is not lower and
the lane is up; else it is discarded. DEDUCED, log 41. -/
def accept (s : State) (k : Lane) (f : CasFrame) : State × Bool :=
  if !bit (s.rd R.CAS_CTL_LANE_EN) k.val then (s, false)
  else if !f.good then (s.discard k f, false)
  else
    let s := s.modLane k fun l => { l with last := s.now }
    if !s.laneUp k then (s, f.type == 0x01 && decide (s.term ≤ f.term))
    else if s.casFrozen && holds f.type && decide (256 ≤ s.cas.lane[k].held.length) then (s.sendAck k f.lseq true, false)
    else
      let s := if counted f.type then
          (s.modLane k fun l => { l with rx := f.lseq }).sendAck k f.lseq false else s
      let s := s.casTrace k f true
      if f.term < s.term then (s, false)
      else
        let s := s.followTerm f.term
        (if s.rd (R.CAS_LANE_STS_ROLE k) = 2 && f.dir != 0 then s.learn k f.src else s, true)

/-- What a frame does at the package is done now, or waits for the thaw (R335). -/
def holdOr (s : State) (k : Lane) (a : CasRx) (g : State → State) : State :=
  if !s.casFrozen then g s
  else
    let n := s.cas.lane[k].held.length + 1
    let s := (s.modLane k fun l => { l with held := l.held ++ [a] }).wr (R.CAS_LANE_STS_HELD k) (sat 8 n)
    if n = 256 then s.raise Ev.CAS_HELD_OVF k else s

/-! What each frame does at the package. -/

/-- HELLO: the lane comes up between packages of one protocol major, and the neighbour's candidate is weighed (R316,
R319). DEDUCED, log 38. -/
def hello (s : State) (k : Lane) (f : CasFrame) : State :=
  let h := readHello f
  if h.major ≠ s.rd R.CAS_VER_MAJ then
    if s.cas.lane[k].refused then s
    else (s.modLane k fun l => { l with refused := true }).raise Ev.CAS_VERSION_REFUSED k
  else
    let s := s.followTerm f.term
    let was := s.laneUp k
    let s := (s.flag (R.CAS_LANE_STS_UP k) true).wr (R.CAS_LANE_STS_PEER k) f.src
    let lost := h.detached && (s.cas.lane[k].sub).isSome
    let known := s.knownOn k
    let s := s.modLane k fun l => { l with hello := some h, refused := false }
    let s := if h.detached then s.forgetLane k else s
    let s := if was then s else s.setRoles s.upLane
    let s := s.choose
    if lost then ((s.setRoles s.upLane).recount known).recombine else s

/-- ACK: a frame is acknowledged, or sent again from the replay buffer; frames that waited for room follow (R312). -/
def ack (s : State) (k : Lane) (f : CasFrame) : State :=
  if bit f.p1 0 then
    match s.cas.lane[k].replay.find? (fun g => g.lseq == f.p0) with
    | some g =>
      (((s.count R.CAS_CNT_RETX_COUNT).modLane k fun l => { l with sent := s.now }).casTrace k g false).emit (.cas k g none)
    | none => s
  else
    let s := s.modLane k fun l => { l with replay := l.replay.filter fun g => g.lseq != f.p0 }
    match s.cas.lane[k].queue with
    | q :: more => if s.cas.lane[k].replay.length < 64 then (s.modLane k fun l => { l with queue := more }).putFrame k q else s
    | [] => s

/-- LK_TIME is set off again from the present instant: by a step, a rate in 1/16 ppm and a slew over a time (R326). -/
def setLk (s : State) (step rate slew : Int) (len : Nat) : State :=
  let v : Int := s.lkHalfAt s.now
  { s with lk := ⟨s.now, v - 2 * s.now + step, rate, slew, len, s.lk.steer⟩ }

/-- TSYNC_REQ: the parent answers with t1 and t2; `half` says that it came in the second half of a nanosecond (R327). -/
def tsyncReq (s : State) (k : Lane) (f : CasFrame) (half : Bool) : State :=
  let t2 := s.lkHalfAt s.now + b2n half
  s.sendFrame k { type := 0x04, dir := 0, src := s.index
                  p := [bits f.stamp 0 32, bits f.stamp 32 32, bits t2 0 32, bits t2 32 32] }

/-- TSYNC_RSP: the child has its offset and delay in 1/2 ns. At its first join, or at a later one with an offset above
1 µs and no instant pending, LK_TIME is loaded; else it is slewed over the next period. How F follows from the offsets the
spec does not say: a free value within ±6,000 ppm (R326, R327). -/
def tsyncRsp (s : State) (k : Lane) (f : CasFrame) (half : Bool) : State :=
  let t1 : Int := f.p0 + f.p1 * 2 ^ 32
  let t2 : Int := f.p2 + f.p3 * 2 ^ 32
  let t3 : Int := f.stamp
  let t4 : Int := s.lkHalfAt s.now + b2n half
  let ofs := ((t2 - t1) - (t4 - t3)) / 2
  let delay := ((t4 - t1) - (t3 - t2)) / 2
  let s := (s.wr R.CAS_TSYNC_OFS (unsigned 16 ofs)).wr (R.CAS_LANE_DELAY_DELAY k) (sat 16 delay.toNat)
  let len := 2048 * max 1 (s.rd R.CAS_TSYNC_PERIOD_W)
  let lim : Int := 2 * len / 1000
  let s :=
    if !s.cas.joined || (s.cas.fresh && decide (2000 < ofs.natAbs) && s.cas.sched.isEmpty) then s.setLk ofs s.lk.rate 0 0
    else
      let (v, s) := s.draw
      s.setLk 0 ((v % 192001 : Nat) - 96000) (max (-lim) (min lim ofs)) len
  let good := if ofs.natAbs ≤ 10 then s.cas.syncGood + 1 else 0
  let s := s.modCas fun c => { c with joined := true, fresh := false, syncGood := good }
  s.flag R.CAS_TSYNC_LOCKED (decide (16 ≤ good))

/-- TOPO: a child's subtree has changed. The Cox refuses a join beyond EXPECT, of an index attached elsewhere, or short of
the cascade's minor or features (R318, R319). -/
def topo (s : State) (k : Lane) (f : CasFrame) : State :=
  let t : Subtree := ⟨bits f.p0 0 15, bits f.p1 0 4, bits f.p1 8 4, bits f.p1 16 8⟩
  let old := s.cas.lane[k].sub
  let first := s.cas.firstTopo
  let n := s.subtree.n + s.cas.lane[k].dups.length - (old.map (·.n)).getD 0 + t.n - s.cas.lane[k].dups.length
  let twice := f.src == s.index || (old.isNone && lanes.any fun (j : Lane) => j != k && s.rd (R.CAS_LANE_STS_ROLE j) == 2 &&
    (s.knownOn j).contains f.src)
  let short := (s.casState == 2 || s.casState == 4) && (decide (t.minor < s.rd R.CAS_VER_CMIN) ||
    s.rd R.CAS_VER_CFEAT &&& t.feat != s.rd R.CAS_VER_CFEAT)
  if s.upLane = some k || s.casState = 0 || s.casState = 3 || (old.isNone && decide (8 ≤ s.downs.length)) then s
  else if s.isCox && decide ((old.map (·.n)).getD 0 < t.n) && (decide (s.rd R.CAS_CFG_EXPECT < n) || twice || short) then
    s.raise Ev.CAS_JOIN_REFUSED 0xFFFF f.src
  else
    let s := if t.n < (old.map (·.n)).getD 0 then s.modCas fun c => { c with ports := c.ports.filter fun p => p.2 != k.val } else s
    let s := s.modLane k fun l => { l with sub := some t, dups := if t.n < (old.map (·.n)).getD 0 then [] else l.dups }
    let s := (s.setRoles s.upLane).modCas fun c => { c with
      ports := Tab.put c.ports f.src k.val
      firstTopo := if s.isCox && s.casState == 1 then (first.orElse fun _ => some s.now) else first }
    s.recount []

/-- FORM_MS after the Cox's first TOPO (R318). DEDUCED, log 39. -/
def formTimeout (s : State) : State :=
  match s.cas.firstTopo with
  | none => s
  | some t =>
    let s := s.advance (t + 1000000 * s.rd R.CAS_CFG_FORM_MS)
    if !s.isCox || s.casState ≠ 1 then s
    else if s.rd R.CAS_CFG_EXPECT < 2 * s.rd R.CAS_STATUS_N then s.form.raise Ev.CAS_FORM_SHORT
    else ((s.modCas fun c => { c with firstTopo := none }).wr R.CAS_STATUS_STATE 4).raise Ev.CAS_NO_QUORUM

/-- FORMED from the Cox. -/
def formed (s : State) (f : CasFrame) : State :=
  let s := ((s.wr R.CAS_STATUS_STATE 2).wr R.CAS_STATUS_N (bits f.p0 0 15)).wr R.CAS_STATUS_DEPTH (bits f.p1 0 4)
  let s := (s.wr R.CAS_VER_CMIN (bits f.p1 8 4)).wr R.CAS_VER_CFEAT (bits f.p1 16 8)
  let s := (s.wr R.CAS_COX_COX (bits f.p2 0 14)).wr R.CAS_COX_STBY (bits f.p2 16 14)
  let mine := bits f.p2 16 14 == s.index && s.rd R.CAS_STATUS_DIST == 1
  let s := s.when (mine && !s.isStandby) (·.modCas fun c => { c with mirror := {} })
  ((s.wr R.CAS_STATUS_ROLE (if mine then 2 else 0)).syncSteer.raise Ev.CAS_FORMED).recombine

/-- A flood frame goes on to every other lane that is up, with HOPS raised (R315). -/
def flood (s : State) (k : Option Lane) (f : CasFrame) : State :=
  s.each s.upLanes fun (j : Lane) s => if some j = k then s else s.pass j f false

/-- TAKEOVER: the new Cox and its term are followed; a detached package re-attaches by the lane it came on (R322, R323).
DEDUCED, log 39. -/
def takeover (s : State) (k : Lane) (f : CasFrame) : State :=
  let s := (s.modCas fun c => { c with probe := none }).wr R.CAS_COX_COX (bits f.p0 0 14)
  if s.casState = 3 ∧ f.hops + 1 ≤ 5 then s.attach k (f.hops + 1) else s

/-- The package hears the Cox: it is attached and a COX_BEAT of the present term has come on its up lane within the last 2 µs
(R322). -/
def hearsCox (s : State) : Bool :=
  s.casState != 3 && s.upLane.isSome && (match s.cas.beat with
    | some (t, tm) => tm == s.term && decide (s.now ≤ t + 2000)
    | none => false)

def probeKey (src num : Nat) : Nat := src * 2 ^ 32 + num

/-- PROBE: answered on the lane it came on (R322). -/
def probeFrame (s : State) (k : Lane) (f : CasFrame) : State :=
  if s.hearsCox then s.originate k { type := 0x15, dir := 0, src := s.index, p := [f.p0] } else s

/-- The package's own probe carries a number. -/
def ownProbe (s : State) (n : Nat) : Bool := s.cas.probe.any fun p => p.1 == n

/-- COX_ALIVE at the standby ends the takeover, and the standby re-attaches (R322). -/
def coxAlive (s : State) (f : CasFrame) : State :=
  if s.ownProbe f.p0 then (s.modCas fun c => { c with probe := none }).choose else s

/-- A flood frame's first copy is noted and goes on: a TAKEOVER of each originator and term, and a PROBE of each originator
and number, below 10 hops. The answer says whether this is the first copy (R315). -/
def floodIn (s : State) (k : Lane) (f : CasFrame) : State × Bool :=
  if f.type = 0x13 then
    if s.cas.takeovers.contains (f.src, f.term) then (s, false)
    else ((s.modCas fun c => { c with takeovers := ((f.src, f.term) :: c.takeovers).take 64 }).flood (some k) f, true)
  else
    let key := probeKey f.src f.p0
    if f.src = s.index || s.cas.probed.any (fun p => p.1 == key) then (s, false)
    else
      let s := s.modCas fun c => { c with probed := (key, k.val) :: c.probed }
      (if f.hops < 10 then s.flood (some k) f else s, true)

/-- A COX_ALIVE goes back on the lane on which the newest probe of its number was first received (R315).
DEDUCED, log 39. -/
def aliveBack (s : State) (f : CasFrame) : State :=
  match s.cas.probed.find? (fun p => p.1 % 2 ^ 32 == f.p0) with
  | some (_, k) => if h : k < 9 then s.pass (⟨k, h⟩ : Lane) f false else s
  | none => s

/-- PROBE_US without COX_ALIVE: the standby is the Cox of the next term; its LK_TIME goes on, with F frozen, and so does the
PACE of its mirror (R322, R326, R343). -/
def probeTimeout (s : State) : State :=
  match s.cas.probe with
  | none => s
  | some (_, t) =>
    let s := s.advance t
    let old := s.rd R.CAS_COX_COX
    let n := if s.cas.mirror.n = 0 then s.rd R.CAS_STATUS_N else s.cas.mirror.n
    let s := s.modCas fun c => { c with
      probe := none, yielded := false, recover := some (old, n - 1), firstTopo := some s.now, pace := c.mirror.pace }
    let s := (s.wr R.CAS_TERM_TERM (s.term + 1)).becomeCox
    let s := s.modCas fun c => { c with takeovers := ((s.index, s.term) :: c.takeovers).take 64 }
    let q : CasSend := { type := 0x13, dir := 0, src := s.index, p := [s.index] }
    let s := s.each s.upLanes fun (k : Lane) s => s.originate k q
    (s.raise Ev.CAS_TAKEOVER 0xFFFF s.term).recount []

/-- MIRROR: the standby stores an item. -/
def mirrorItem (s : State) (i : Option MirrorItem) : State :=
  let m := s.cas.mirror
  let m : Mirror := match i with
    | some (.count n term) => { m with n, term }
    | some (.sched o) => { m with sched := m.sched ++ [o] }
    | some (.schedDone id) => { m with sched := m.sched.filter fun o => o.id != id }
    | some (.pace p) => { m with pace := some p }
    | some (.bcast n cls req orig data) =>
      let b : Bcast := ⟨cls, req, orig, data⟩
      { m with log := (m.log ++ [(n, b)]).drop (m.log.length - 63) }
    | none => m
  s.modCas fun c => { c with mirror := m }

/-- COX_BEAT on the up lane. -/
def coxBeat (s : State) (f : CasFrame) : State :=
  (s.modCas fun c => { c with beat := some (s.now, f.term) }).wr R.CAS_STATUS_N (bits f.p0 0 15)

/-- The Cox's beat of every 1 µs. -/
def beatTimer (s : State) : State :=
  if !s.isCox then s
  else
    let s := s.advance s.cas.nextBeat
    (s.modCas fun c => { c with nextBeat := s.now + 1000 }).sendDown 0x17 [s.rd R.CAS_STATUS_N]

/-- A TYPE that does not match the receiver's: the frame is discarded (R329). One of EMIN in a cascade that lacks it is not
used (R319). -/
def objTyped (s : State) (k type : Nat) (g : State → State) : State :=
  if (s.obj k).type = type ∧ type ≠ 0 then s.when (s.objUsed k) g else s.raise Ev.CAS_OBJ_ERR 0xFFFF k

def setKid (s : State) (lane : Lane) (k : Nat) (c : CasKid) : State :=
  s.modObj k fun o => { o with kids := Tab.put o.kids lane c }
def kidAt (s : State) (lane : Lane) (k : Nat) : Option CasKid := Tab.find (s.obj k).kids lane

/-- The frame that tells the members of a barrier or a SET object that their count has reached the root: it releases nothing
and repeats the result (R329). DEDUCED, log 41. -/
def sendEcho (s : State) (k : Nat) : State :=
  let o := s.obj k
  let g := if o.type = 1 then (o.gen + 255) % 256 else o.gen
  (s.modObj k fun o => { o with members := s.members k }).sendDown 0x21 [k + 2 ^ 16 * g, o.res]

/-- An OBJ_UP for a SET object that tells a member count: the neighbour's own, with a number the package does not have yet.
Any other is a write, which goes up to the root as it is (R328). DEDUCED, log 41. -/
def setCounts (s : State) (lane : Lane) (f : CasFrame) : Bool :=
  f.src == s.rd (R.CAS_LANE_STS_PEER lane) && ((s.kidAt lane (bits f.p0 0 14)).map (·.members)).getD 0 != bits f.p2 0 15

/-- OBJ_UP: a child's aggregate or arrivals, and its members. A count that is new, or is told again, is acknowledged by the
root's echo (R328–R331). -/
def objUp (s : State) (lane : Lane) (f : CasFrame) (type : Nat) : State :=
  let k := bits f.p0 0 14
  s.objTyped k type fun s =>
    let c : CasKid := ⟨if type = 1 && bits f.p0 16 8 != (s.obj k).gen then 0 else f.p1, bits f.p2 0 15, true⟩
    let was := s.kidAt lane k
    let told := (was.map (·.members)).getD 0 != c.members || was == some c
    if type = 7 then
      if s.setCounts lane f then
        let s := s.setKid lane k c
        if s.isRoot then s.sendEcho k else s.sendCount k
      else if s.isRoot then s.setWrite k f.stamp f.src f.p1 else s
    else
      let s := s.setKid lane k c
      if type = 1 then
        let s := s.barrierCheck k
        if !told then s
        else if s.isRoot then s.sendEcho k
        else if (s.obj k).sent == some (s.arrivals k, s.members k) then s else s.sendCount k
      else ((s.when told (·.modObj k fun o => { o with echo := true })).objChanged k)

/-- OBJ_DOWN: a barrier of the present generation is released; else the result stands, and a frame that repeats it, or that
names another generation, is the echo that acknowledges a member count (R329–R331). DEDUCED, log 41. -/
def objDown (s : State) (a : CasRx) : State :=
  let f := a.frame
  let k := bits f.p0 0 14
  s.objTyped k a.objType fun s =>
    let s := s.modObj k fun o => { o with members := a.members % 2 ^ 15 }
    if a.objType = 1 then
      if bits f.p0 16 8 == (s.obj k).gen then s.release k (bit f.p0 24) else s.modObj k fun o => { o with ready := true }
    else s.modObj k fun o => { o with
      ready := o.ready || f.p1 == o.res, res := f.p1
      latest := if a.objType = 7 then f.p1 else o.latest, stamp := if a.objType = 7 then (0, 0) else o.stamp }

/-- The entry of a SET object restores the latest write of a child's subtree; no TSTAMP of it comes with it, so that it is
taken as a write only where none is known. DEDUCED, log 41. -/
def setRestored (s : State) (lane : Lane) (k v : Nat) (c : CasKid) (f : CasFrame) : State :=
  let s := s.setKid lane k { c with value := v }
  let o := s.obj k
  if o.stamp ≠ (0, 0) || o.latest ≠ 0 || v = 0 then s
  else if s.isRoot then s.setWrite k f.stamp f.src v
  else (s.noteWrite k f.stamp f.src v).sendObjUp k v

/-- OBJ_BULK: entries restore a child's aggregates; one for an object that has no TYPE here does not match (R323, R329). -/
def objBulk (s : State) (lane : Lane) (f : CasFrame) : State :=
  let bs := f.payload.flatMap (bytesOf 4)
  let es := ((List.range 4).map fun i => (numAt bs (7 * i) 2, numAt bs (7 * i + 2) 1, numAt bs (7 * i + 3) 4)).eraseDups
  s.each (es.filter fun e => decide (e.1 < 2 ^ 14)) fun (k, gen, v) s =>
    let c : CasKid := (s.kidAt lane k).getD ⟨0, 0, false⟩
    match (s.obj k).type with
    | 0 => s.raise Ev.CAS_OBJ_ERR 0xFFFF k
    | 1 => s.setKid lane k { c with value := if gen = (s.obj k).gen then v else 0 }
    | 7 => s.setRestored lane k v c f
    | _ => (s.setKid lane k { c with value := v }).objChanged k

/-- A broadcast as a BCAST_DOWN frame brings it. -/
def readCast (f : CasFrame) : Bcast := ⟨bits f.p0 0 8, bits f.p0 16 16, bits f.p6 0 14, [f.p1, f.p2, f.p3, f.p4]⟩

/-- BCAST_DOWN: a BSEQ already received is discarded; one that a retransmission has delayed is taken when it comes, behind a
later one (R312, R332). DEDUCED, log 41. -/
def castDown (s : State) (f : CasFrame) : State :=
  if s.cas.bseen.contains f.p5 then s
  else ((s.modCas fun c => { c with bseq := max c.bseq f.p5, bseen := f.p5 :: c.bseen }).castSeen (readCast f)).deliverCast (readCast f) f.payload

/-- BCAST_UP at the root. -/
def castRequest (s : State) (f : CasFrame) : State :=
  s.castAtRoot ⟨bits f.p0 0 8, bits f.p0 16 16, f.src, [f.p1, f.p2, f.p3, f.p4]⟩

/-- SCHED: an instant is recorded. -/
def schedDown (s : State) (f : CasFrame) : State :=
  s.schedTake ⟨bits f.p0 0 2, bits f.p0 4 2, bits f.p0 16 16, f.p1 + f.p2 * 2 ^ 32⟩

/-- A PACE schedule reaches the governor, which moves every compute die to its ratio with its next decisions (R112). -/
def paceTake (s : State) (p : Pace) : State :=
  { s with gov := { s.gov with paceNext := s.gov.paceNext ++ [(p.ratio, p.tokens, p.start, p.stop)], paceRatio := p.ratio } }
/-- The effect of PACE (R112, R342). -/
def paceFrame (s : State) (f : CasFrame) : State :=
  s.paceTake ⟨bits f.p0 0 13, bits f.p0 16 3, f.p1 + f.p2 * 2 ^ 32, f.p3 + f.p4 * 2 ^ 32⟩

/-- The comparer's package takes a digest (R341). -/
def digestFrame (s : State) (f : CasFrame) : State :=
  s.takeDigest (bits f.p0 0 16) f.src (bits f.p0 16 3) (bits f.p0 20 3) f.p1 (f.p2 + f.p3 * 2 ^ 32)

/-- What a frame that was held, or has just arrived, does at the package, by its type. -/
def deliver (s : State) (k : Lane) (a : CasRx) : State :=
  let f := a.frame
  match f.type with
  | 0x10 => s.topo k f
  | 0x11 => s.formed f
  | 0x12 => s.detach
  | 0x13 => s.takeover k f
  | 0x14 => s.probeFrame k f
  | 0x15 => s.coxAlive f
  | 0x16 => s.mirrorItem a.item
  | 0x17 => s.coxBeat f
  | 0x20 => s.objUp k f a.objType
  | 0x21 => s.objDown a
  | 0x22 => s.objBulk k f
  | 0x30 => s.castRequest f
  | 0x31 => s.castDown f
  | 0x34 => (s.modLane k fun l => { l with pace := some (bits f.p0 0 13) }).paceUp
  | 0x35 => s.paceFrame f
  | 0x40 => s.digestFrame f
  | _ => s

/-- A frame in transit passes on: down frames that came on the up lane go down every port at once, requests go up to the
root, unicast frames follow the port table, flood frames and their answers go as R315 says, also in a freeze, and writes of
SET objects go up. The answer says whether the frame is also for this package. -/
def transit (s : State) (k : Lane) (a : CasRx) : State × Bool :=
  let f := a.frame
  let fromUp := s.upLane == some k
  match f.type with
  | 0x13 | 0x14 => s.floodIn k f
  | 0x15 => if s.ownProbe f.p0 then (s, true) else (s.aliveBack f, false)
  | 0x20 =>
    if (s.obj (bits f.p0 0 14)).type = 7 && a.objType = 7 && !s.isRoot && !s.setCounts k f then
      ((s.noteWrite (bits f.p0 0 14) f.stamp f.src f.p1).passUp f true, false)
    else (s, true)
  | 0x11 | 0x17 | 0x21 | 0x33 | 0x35 => if fromUp then (s.passDown f, true) else (s, false)
  | 0x31 => if !fromUp || s.cas.bseen.contains f.p5 then (s, false) else (s.passDown f, true)
  | 0x12 => (s, fromUp)
  | 0x30 | 0x32 => if s.isRoot then (s, true) else (s.passUp f false, false)
  | 0x16 | 0x40 =>
    if f.dst = s.index then (s, true)
    else match s.route f.dst with
      | some j => (s.pass j f false, false)
      | none => (s.count R.CAS_CNT_UNROUTED_COUNT, false)
  | _ => (s, true)

/-- A frame of a row's type arrives on a lane. -/
def onFrame (s : State) (k : Lane) (a : CasRx) (is : Nat → Bool) (g : State → State) : State :=
  let (s, ok) := s.accept k a.frame
  if !ok || !is a.frame.type then s
  else
    let (s, mine) := s.transit k a
    if !mine then s
    else if holds a.frame.type then s.holdOr k a g else g s

/-! Lanes (R312, R316, R322–R324). -/

/-- A lane goes down: a detaching package, the standby's probe, the Cox's count and a new standby follow.
DEDUCED, log 38. -/
def laneDown (s : State) (k : Lane) : State :=
  if !s.laneUp k then s
  else
    let l := s.cas.lane[k]
    let many := l.fails.length == 8 && decide (s.now < l.fails.getLast?.getD 0 + 1000)
    let s := if many then s else s.advance (l.last + 3000)
    let up := s.upLane == some k
    let child := (s.cas.lane[k].sub).isSome
    let known := s.knownOn k
    let peer := s.rd (R.CAS_LANE_STS_PEER k)
    let standby := s.isStandby && up
    let s := (s.flag (R.CAS_LANE_STS_UP k) false).raise Ev.CAS_LINK_DOWN k
    let s := (s.forgetLane k).modLane k fun l => { l with replay := [], queue := [], fails := [], hello := none, nextTry := s.now }
    let s := s.setRoles (if up then none else s.upLane)
    if up then
      let s := s.detach
      if !standby then s
      else
        let n := (s.index + 2 ^ 14 * s.cas.probes) % 2 ^ 32
        let s := s.modCas fun c => { c with probes := c.probes + 1, probe := some (n, s.now + 1000 * s.rd R.CAS_CFG_PROBE_US) }
        s.each s.upLanes fun (j : Lane) s => s.originate j { type := 0x14, dir := 0, src := s.index, p := [n] }
    else
      let s := if child then (s.recount known).recombine else s
      if s.isCox && (s.casState == 2 || s.casState == 4) && peer == s.rd R.CAS_COX_STBY then
        let s := s.announceForm
        s.raiseIf (s.rd R.CAS_COX_STBY != s.index) Ev.CAS_STANDBY
      else s

/-- A lane that is down trains again, at once and every 10 µs: its HELLO goes out. -/
def laneRetrain (s : State) (k : Lane) : State :=
  if s.laneUp k || !bit (s.rd R.CAS_CTL_LANE_EN) k.val then s
  else
    let s := s.advance s.cas.lane[k].nextTry
    (s.modLane k fun l => { l with nextTry := s.now + 10000 }).sendHello k

/-- The effect of LANE_IDLE_SEND (R312). -/
def laneIdle (s : State) (k : Lane) : State :=
  if s.laneUp k then (s.advance (s.cas.lane[k].sent + 1000)).sendHello k else s

/-! Timers and requests. -/

/-- Every PERIOD_W windows an attached package asks its parent for the time (R327). -/
def tsyncPeriod (s : State) : State :=
  match s.upLane with
  | none => s
  | some k =>
    let s := s.advance (2048 * s.cas.nextSync)
    let s := s.modCas fun c => { c with nextSync := s.now / 2048 + max 1 (s.rd R.CAS_TSYNC_PERIOD_W) }
    s.sendFrame k { type := 0x03, dir := 0, src := s.index }

/-- OBJ_CFG is written: taken while the object is idle, else dropped with ERR. A new TYPE combines afresh
(R329, R331). -/
def objCfg (s : State) (type : Nat) (member notify errClear : Bool) : State :=
  let k := s.rd R.CAS_OBJ_SEL_INDEX
  let t := (s.obj k).type
  let s := if errClear then s.modObj k fun o => { o with err := false } else s
  if s.barrierBusy k then s.modObj k fun o => { o with err := true }
  else
    let was := (s.obj k).member
    let s := s.modObj k fun o => { o with type := type % 8, member, notify, ready := if member = was then o.ready else false }
    let s := if type % 8 = t then s
      else s.modObj k fun o => { o with res := 0, latest := 0, stamp := (0, 0), sent := none, due := false }
    if member ≠ was then s.memberChange k else if type % 8 = t then s else s.objRefresh k

/-- A member arrives at a barrier; a second arrival before the release is rejected (R330). -/
def barrierArrive (s : State) (k : Nat) : State :=
  let s := s.wr R.CAS_ARRIVE_INDEX k
  let o := s.obj k
  if o.type ≠ 1 || !o.member || o.arrived then s.modObj k fun o => { o with err := true }
  else (s.modObj k fun o => { o with arrived := true, arrAt := s.now, arrFrz := s.frozenTime }).barrierCheck k

/-- The end of the 256 ns interval of an object: its latest value is sent (R331). -/
def objInterval (s : State) (k : Nat) : State :=
  if (s.obj k).due then ((s.advance (((s.obj k).sentAt.getD 0) + 256)).modObj k fun o => { o with due := false }).objChanged k else s

/-- SEND of a HOST broadcast, refused while BUSY is 1 (R333). -/
def hostCast (s : State) : State :=
  if s.on R.CAS_BC_CTL_BUSY then s
  else
    let s := (s.flag R.CAS_BC_CTL_BUSY true).modCas fun c => { c with host := some (c.req % 2 ^ 16) }
    s.broadcast 1 ((List.range 4).map fun j => s.rd (R.CAS_BC_TX_DATA j))

/-- A request not seen back within 10 µs is sent again (R332). -/
def castResend (s : State) (req : Nat) : State :=
  match s.cas.mine.find? (fun m => m.1.req == req) with
  | some (b, t) =>
    let s := s.advance t
    let s := s.modCas fun c => { c with mine := c.mine.map fun m => if m.1.req == req then (m.1, s.now + 10000) else m }
    if s.isRoot then s else s.castUp b
  | none => s

/-- The Cox's PACE frame of a period (R342). DEDUCED, log 42. -/
def pacePeriod (s : State) : State :=
  if !s.isCox || !s.on R.CAS_PACE_CFG_EN || !bit (s.rd R.CAS_VER_CFEAT) 0 || !s.mayAct || s.casFrozen then s
  else
    let lead := s.depth * 250 + 500
    let r := s.rd R.CAS_PACE_CFG_RATIO
    let old := (s.cas.pace.map (·.ratio)).getD r
    let base := s.paceLeast * s.rd R.CAS_PACE_CFG_PCT / 100
    let tokens := if r < old then base * s.opv old / max 1 (s.opv r) else base
    let start := match s.cas.pace with
      | some p => p.stop
      | none => s.lkTime + lead + 10000
    let s := match s.cas.pace with
      | some p => s.advance (s.whenLk (p.stop - lead - 10000))
      | none => s
    let p : Pace := ⟨tokens, r, start, start + 2048 * s.rd R.CAS_PACE_CFG_PERIOD_W⟩
    let s := s.modCas fun c => { c with pace := some p }
    let s := s.sendDown 0x35 [p.tokens + 2 ^ 16 * p.ratio, bits p.start 0 32, bits p.start 32 32, bits p.stop 0 32, bits p.stop 32 32]
    (s.sendMirror (.pace p)).paceTake p

/-- A schedule's end instant comes without a successor (R343). -/
def paceEnd (s : State) : State :=
  match s.gov.pace with
  | none => s
  | some (_, _, _, stop) =>
    let s := (s.advance (s.whenLk stop)).toEdge
    if !s.gov.paceNext.isEmpty then s
    else
      let s := { s with gov := { s.gov with pace := none } }.flag R.BUD_PACE_ACTIVE false
      s.raise Ev.CAS_PACE_GAP

/-! Freeze, thaw and reset (R334–R338). -/

/-- The operation of a kind that is pending, and its end. -/
def pendingOp (s : State) (kind : Nat) : Option SchedOp := s.cas.sched.find? fun o => o.kind == kind
def opDone (s : State) (o : SchedOp) : State :=
  let s := s.modCas fun c => { c with sched := c.sched.filter fun x => x.id != o.id }
  (s.flag R.CAS_SCHED_PEND (!s.cas.sched.isEmpty)).sendMirror (.schedDone o.id)

/-- A satellite has a copy of a command for the present edge (R38, R45). -/
def hasEdge (s : State) (edge : Option Nat) : Bool := (edge.map fun t => decide (t ≤ s.now)).getD false

/-- The package freezes on the present edge: its counters hold, satellites whose Seam is down or that have no copy of the
command run on, and the trace port marks the edge (R45, R440). DEDUCED, log 15. -/
def freezeEdge (s : State) : State :=
  let s := s.traceAlways 9 0 []
  let s := if s.frozen then s else { s with frozen := true, frozeAt := s.now }
  s.each sats fun (x : Sat) s =>
    let s := if s.seamUp x && !s.seam[x].stopped && s.hasEdge s.seam[x].stopAt then s.stopSat x else s
    s.modSeam x fun q => { q with stopAt := none }

/-- The package thaws on the present edge. A satellite that has run on is ahead of the others by the length of the freeze;
one that stands goes on if it has the command, whether or not its Seam is still up, and else stands until its Seam trains
(R38, R45). DEDUCED, log 15. -/
def thawEdge (s : State) : State :=
  if !s.frozen then s
  else
    let n := s.now - s.frozeAt
    let s := { s with frozen := false, frozenNs := s.frozenNs + n }.count (R.REC_AO_COUNT 9)
    let s := (s.each s.gov.waits fun w s => s.addWait w).modGov fun g => { g with waits := [] }
    s.each sats fun (x : Sat) s =>
      let s := if s.seam[x].stopped && s.hasEdge s.seam[x].goAt then s.goSat x else s
      s.modSeam x fun q => { q with goAt := none }

/-- The freeze edge: the cut of every lane is recorded. -/
def casFreezeEdge (s : State) : State :=
  match s.pendingOp 0 with
  | none => s
  | some o =>
    let s := ((s.advance (s.cas.freezeAt.getD (s.whenLk o.at_))).toEdge).opDone o
    let s := s.modCas fun c => { c with freezeAt := none }
    let s := s.each lanes fun (k : Lane) s =>
      (s.wr (R.CAS_LANE_CUT_TX_LSEQ k) s.cas.lane[k].tx).wr (R.CAS_LANE_CUT_RX_LSEQ k) s.cas.lane[k].rx
    ((s.flag R.CAS_SCHED_FROZEN true).freezeEdge).raise Ev.CAS_FREEZE

/-- Sync objects return to their reset values, pending generations ended as aborted, and the ring and the logs clear; with
scope 1 every lane retrains and the tree forms anew in term 1. -/
def casReset (s : State) (scope : Nat) : State :=
  let s := s.abortBarriers
  let s := s.modCas fun c => { c with obj := [], blog := [], resetHeld := none, mirror := { c.mirror with log := [] } }
  let s := s.each (List.range 16) fun i s => s.each (List.range 7) fun j s => s.wr (R.CAS_BC_RX_WORD i j) 0
  let s := s.each (List.range 64) fun i s =>
    ((((s.wr (R.CAS_REL_OBJ i) 0).wr (R.CAS_REL_GEN i) 0).wr (R.CAS_REL_ABORTED i) 0).wr (R.CAS_REL_TIME i) 0)
  let s := (s.wr R.CAS_BC_CTL_RX_HEAD 0).wr R.CAS_REL_HEAD_SEQ 0
  let s :=
    if scope ≠ 1 then s
    else
      let s := s.each lanes fun (k : Lane) s =>
        ((s.flag (R.CAS_LANE_STS_UP k) false).forgetLane k).modLane k fun l => { l with
          replay := [], queue := [], fails := [], hello := none, nextTry := s.now }
      let s := s.modCas fun c => { c with
        yielded := false, deep := false, firstTopo := none, recover := none, takeovers := [], probed := [], probe := none
        beat := none, mirror := {}, pace := none, paceUp := none }
      let s := ((s.setRoles none).wr R.CAS_TERM_TERM 0).wr R.CAS_STATUS_DIST 0xF
      let s := (s.wr R.CAS_STATUS_ROLE 0).wr R.CAS_STATUS_STATE (b2n (s.on R.CAS_CTL_JOIN))
      s.syncSteer.choose
  s.raise Ev.CAS_RESET 0xFFFF scope

/-- The thaw edge: held frames are delivered in the order of their LSEQ on each lane, lane after lane in the order in which
they turn out to come, before anything later; what the package kept back is sent, and a reset held back is done. -/
def casThawEdge (s : State) (order : List Lane) : State :=
  match s.pendingOp 1 with
  | none => s
  | some o =>
    let s := ((s.advance (s.cas.thawAt.getD (s.whenLk o.at_))).toEdge).opDone o
    let s := s.modCas fun c => { c with thawAt := none }
    if !s.casFrozen then s
    else
      let s := s.flag R.CAS_SCHED_FROZEN false
      let s := if s.on R.REC_TRIG_FROZEN then s else s.thawEdge
      let s := s.raise Ev.CAS_THAW
      let later := s.cas.later
      let s := s.modCas fun c => { c with later := [] }
      let s := s.each (order ++ lanes).eraseDups fun (k : Lane) s =>
        let l := s.cas.lane[k].held.mergeSort fun a b => decide (a.frame.lseq ≤ b.frame.lseq)
        let s := (s.modLane k fun q => { q with held := [] }).wr (R.CAS_LANE_STS_HELD k) 0
        s.each l fun a s => s.deliver k a
      let s := s.each later fun q s => s.sendFrame q.1 q.2
      let s := s.runWaiting
      let s := s.recombine
      match s.cas.resetHeld with
      | some scope => s.casReset scope
      | none => s

/-- The reset edge; one that falls in a freeze waits for the thaw edge. -/
def casResetEdge (s : State) : State :=
  match s.pendingOp 2 with
  | none => s
  | some o =>
    let s := ((s.advance (s.whenLk o.at_)).toEdge).opDone o
    if s.casFrozen then s.modCas fun c => { c with resetHeld := some o.scope } else s.casReset o.scope

end State

/-- HELLO (R316). -/
def execHello (k : Lane) (f : CasFrame) (s : State) : Res :=
  .next (s.when s.live (·.onFrame k { frame := f } (· == 0x01) (·.hello k f)))
/-- ACK (R312). -/
def execAck (k : Lane) (f : CasFrame) (s : State) : Res :=
  .next (s.when s.live (·.onFrame k { frame := f } (· == 0x02) (·.ack k f)))
/-- TSYNC_REQ (R327). -/
def execTsyncReq (k : Lane) (f : CasFrame) (half : Bool) (s : State) : Res :=
  .next (s.when s.live (·.onFrame k { frame := f } (· == 0x03) (·.tsyncReq k f half)))
/-- TSYNC_RSP (R327). -/
def execTsyncRsp (k : Lane) (f : CasFrame) (half : Bool) (s : State) : Res :=
  .next (s.when s.live (·.onFrame k { frame := f } (· == 0x04) (·.tsyncRsp k f half)))
/-- TSYNC_PERIOD (R327). -/
def execTsyncPeriod (s : State) : Res := .next (s.when s.live (·.tsyncPeriod))
/-- TOPO (R318). -/
def execTopo (k : Lane) (f : CasFrame) (s : State) : Res :=
  .next (s.when s.live (·.onFrame k { frame := f } (· == 0x10) (·.topo k f)))
/-- FORMED (R318). -/
def execFormed (k : Lane) (f : CasFrame) (s : State) : Res :=
  .next (s.when s.live (·.onFrame k { frame := f } (· == 0x11) (·.formed f)))
/-- FORMATION_TIMEOUT (R318). -/
def execFormationTimeout (s : State) : Res := .next (s.when s.live (·.formTimeout))
/-- DETACH (R323). -/
def execDetach (k : Lane) (f : CasFrame) (s : State) : Res :=
  .next (s.when s.live (·.onFrame k { frame := f } (· == 0x12) (·.detach)))
/-- TAKEOVER (R322). -/
def execTakeover (k : Lane) (f : CasFrame) (s : State) : Res :=
  .next (s.when s.live (·.onFrame k { frame := f } (· == 0x13) (·.takeover k f)))
/-- PROBE (R322). -/
def execProbe (k : Lane) (f : CasFrame) (s : State) : Res :=
  .next (s.when s.live (·.onFrame k { frame := f } (· == 0x14) (·.probeFrame k f)))
/-- COX_ALIVE (R322). -/
def execCoxAlive (k : Lane) (f : CasFrame) (s : State) : Res :=
  .next (s.when s.live (·.onFrame k { frame := f } (· == 0x15) (·.coxAlive f)))
/-- PROBE_TIMEOUT (R322). -/
def execProbeTimeout (s : State) : Res := .next (s.when s.live (·.probeTimeout))
/-- MIRROR (R321). -/
def execMirror (k : Lane) (a : CasRx) (s : State) : Res :=
  .next (s.when s.live (·.onFrame k a (· == 0x16) (·.mirrorItem a.item)))
/-- COX_BEAT (R322). -/
def execCoxBeat (k : Lane) (f : CasFrame) (s : State) : Res :=
  .next (s.when s.live (·.onFrame k { frame := f } (· == 0x17) (·.coxBeat f)))
/-- COX_BEAT_TIMER (R322). -/
def execCoxBeatTimer (s : State) : Res := .next (s.when s.live (·.beatTimer))
/-- OBJ_UP (R331). -/
def execObjUp (k : Lane) (a : CasRx) (s : State) : Res :=
  .next (s.when s.live (·.onFrame k a (· == 0x20) (·.objUp k a.frame a.objType)))
/-- OBJ_DOWN (R330). -/
def execObjDown (k : Lane) (a : CasRx) (s : State) : Res :=
  .next (s.when s.live (·.onFrame k a (· == 0x21) (·.objDown a)))
/-- OBJ_BULK (R323). -/
def execObjBulk (k : Lane) (f : CasFrame) (s : State) : Res :=
  .next (s.when s.live (·.onFrame k { frame := f } (· == 0x22) (·.objBulk k f)))
/-- OBJ_CFG_WRITE (R329). -/
def execObjCfgWrite (type : Nat) (member notify errClear : Bool) (s : State) : Res :=
  .next (s.when s.live (·.objCfg type member notify errClear))
/-- BARRIER_ARRIVE (R330). -/
def execBarrierArrive (obj : Nat) (s : State) : Res := .next (s.when s.live (·.barrierArrive obj))
/-- OBJ_VAL_WRITE (R331). -/
def execObjValWrite (v : Nat) (s : State) : Res :=
  .next (s.when s.live fun s => s.objWrite (s.rd R.CAS_OBJ_SEL_INDEX) v)
/-- OBJ_UPDATE_INTERVAL (R331). -/
def execObjUpdateInterval (obj : Nat) (s : State) : Res := .next (s.when s.live (·.objInterval obj))
/-- BCAST_UP (R332). -/
def execBcastUp (k : Lane) (f : CasFrame) (s : State) : Res :=
  .next (s.when s.live (·.onFrame k { frame := f } (· == 0x30) (·.castRequest f)))
/-- HOST_BROADCAST (R333). -/
def execHostBroadcast (k : Lane) (f : CasFrame) (s : State) : Res :=
  .next (s.when s.live (·.onFrame k { frame := f } (fun t => t == 0x31 && bits f.p0 0 8 == 1) (·.castDown f)))
/-- HOST_BROADCAST_SEND (R333). -/
def execHostBroadcastSend (s : State) : Res := .next (s.when s.live (·.hostCast))
/-- BROADCAST_RESEND (R332). -/
def execBroadcastResend (req : Nat) (s : State) : Res := .next (s.when s.live (·.castResend req))
/-- PKG_LOST (R324). -/
def execPkgLost (k : Lane) (f : CasFrame) (s : State) : Res :=
  .next (s.when s.live (·.onFrame k { frame := f } (fun t => t == 0x31 && bits f.p0 0 8 == 2) (·.castDown f)))
/-- RETRACT (R300). -/
def execRetract (k : Lane) (f : CasFrame) (s : State) : Res :=
  .next (s.when s.live (·.onFrame k { frame := f } (fun t => t == 0x31 && bits f.p0 0 8 == 0) (·.castDown f)))
/-- VERDICT (R341). -/
def execVerdict (k : Lane) (f : CasFrame) (s : State) : Res :=
  .next (s.when s.live (·.onFrame k { frame := f } (fun t => t == 0x31 && bits f.p0 0 8 == 3) (·.castDown f)))
/-- DIGEST (R295). -/
def execDigest (k : Lane) (f : CasFrame) (s : State) : Res :=
  .next (s.when s.live (·.onFrame k { frame := f } (· == 0x40) (·.digestFrame f)))
/-- LANE_DOWN (R312). -/
def execLaneDown (k : Lane) (s : State) : Res := .next (s.when s.live (·.laneDown k))
/-- LANE_RETRAIN (R312). -/
def execLaneRetrain (k : Lane) (s : State) : Res := .next (s.when s.live (·.laneRetrain k))
/-- LANE_IDLE_SEND (R312). -/
def execLaneIdleSend (k : Lane) (s : State) : Res := .next (s.when s.live (·.laneIdle k))
/-- SCHED_REQ (R334). -/
def execSchedReq (k : Lane) (f : CasFrame) (s : State) : Res :=
  .next (s.when s.live (·.onFrame k { frame := f } (· == 0x32) fun s => s.schedAtRoot (bits f.p0 0 2) (bits f.p0 4 2)))
/-- SCHED (R334). -/
def execSched (k : Lane) (f : CasFrame) (s : State) : Res :=
  .next (s.when s.live (·.onFrame k { frame := f } (· == 0x33) (·.schedDown f)))
/-- CASCADE_FREEZE_REQUEST (R334). -/
def execCascadeFreezeRequest (s : State) : Res := .next (s.when s.live (·.requestSched 0 0))
/-- CASCADE_THAW_REQUEST (R334). -/
def execCascadeThawRequest (s : State) : Res := .next (s.when s.live (·.requestSched 1 0))
/-- CASCADE_RESET_REQUEST (R334): with the scope in LK_CAS_SCHED. -/
def execCascadeResetRequest (scope : Nat) (s : State) : Res :=
  .next (s.when s.live fun s => (s.wr R.CAS_SCHED_SCOPE scope).requestSched 2 scope)
/-- CASCADE_FREEZE_EDGE (R335). -/
def execCascadeFreezeEdge (s : State) : Res := .next (s.when s.live (·.casFreezeEdge))
/-- CASCADE_RESET_EDGE (R338). -/
def execCascadeResetEdge (s : State) : Res := .next (s.when s.live (·.casResetEdge))
/-- FROZEN_FRAME_ARRIVAL (R335). -/
def execFrozenFrameArrival (k : Lane) (a : CasRx) (s : State) : Res :=
  .next (s.when (s.live && s.casFrozen) fun s => s.onFrame k a State.holds (·.deliver k a))
/-- FRAME_DISCARD (R313). DEDUCED, log 38. -/
def execFrameDiscard (k : Lane) (f : CasFrame) (s : State) : Res :=
  .next (s.when (s.live && bit (s.rd R.CAS_CTL_LANE_EN) k.val && !f.good) (·.discard k f))
/-- PACE_UP (R342). -/
def execPaceUp (k : Lane) (f : CasFrame) (s : State) : Res :=
  .next (s.when s.live (·.onFrame k { frame := f } (· == 0x34) (·.deliver k { frame := f })))
/-- PACE (R112, R342). -/
def execPace (k : Lane) (f : CasFrame) (s : State) : Res :=
  .next (s.when s.live (·.onFrame k { frame := f } (· == 0x35) (·.paceFrame f)))
/-- PACE_PERIOD (R342). -/
def execPacePeriod (s : State) : Res := .next (s.when s.live (·.pacePeriod))
/-- PACE_END (R343). -/
def execPaceEnd (s : State) : Res := .next (s.when s.live (·.paceEnd))

end Sys2Proof.Machine
end

