-- ==== Sys2Proof/Machine/View.lean ====
section
/-!
DEFINITION. Machine/View.lean: what a read of the register window returns: fields of the store, and the fields that show
state held elsewhere (R5, R10, R199, R329, R335, R345, R403, R410, R428, R462, R484).
-/
namespace Sys2Proof.Machine
namespace State

/-! Life cycle (R410). -/

/-- Transitions blown. -/
def lcN (s : State) : Nat := popCount 23 s.fuses
/-- The life-cycle state: 0 BLANK, 1 PROVISIONED, 2 DEPLOYED, 3 RETURNED, 4 SCRAPPED. -/
def lcState (s : State) : Nat :=
  if bit s.fuses 23 || s.fuses % 2 ^ 23 != 2 ^ s.lcN - 1 then 4
  else if s.lcN = 0 then 0
  else if s.lcN % 3 = 0 then 3 else s.lcN % 3

/-! Slots of images (R448, R456, R462). -/

/-- An entry of boot control is valid: its version is 1 and its CRC holds (R13, R448). -/
def entryValid (e : BootEntry) : Bool := e.fmt == 1 && e.crc == bootSum e.proc.init.code e.slot e.ver e.svn
/-- The newest valid entry of boot control for a slot. -/
def bootEntry (s : State) (p : Proc) (slot : Nat) : Option BootEntry :=
  s.flash.boot.reverse.find? fun e => entryValid e && e.proc == p && e.slot == slot
/-- The image in use: the newest CONFIRMED entry's slot (R456). -/
def inUse (s : State) (p : Proc) : Option Nat :=
  (s.flash.boot.reverse.find? fun e => entryValid e && e.proc == p && e.state == 0x1F).map (·.slot)
/-- A state byte as LK_UPD_Pp_SLOT codes it: 0 BAD, 1 TRIAL, 2 ATTEMPTED, 3 CONFIRMED, 4 empty. -/
def slotCode (b : Nat) : Nat := match b with
  | 0x7F => 1 | 0x3F => 2 | 0x1F => 3 | 0xFF => 4 | _ => 0
/-- State of a slot by that code. -/
def bootState (s : State) (p : Proc) (slot : Nat) : Nat := (s.bootEntry p slot).elim 4 fun e => slotCode e.state

/-- Seconds of trial left (R457, R462). -/
def trialLeft (s : State) (p : Fin 3) : Nat :=
  match s.mgt.proc[p].trial with
  | some t => 300 - (s.now - t) / 1000000000
  | none => 0

/-! Operating seconds (R428, R429). -/

def opsec (s : State) : Nat := s.rcd.opBase + (s.now - s.rcd.opAt) / 1000000000

/-! The handshake and the mirror of the meter (R475, R484). -/

/-- The handshake of a stamp request is in progress. -/
def stampPend (s : State) : Bool := s.mgt.stampAck.any fun a => decide (s.now < a.1)
/-- RESULT of the last stamp request: that of the one before while its own handshake is in progress. -/
def stampResult (s : State) : Nat := match s.mgt.stampAck with
  | some (t, r) => if s.now < t then s.rd R.MGT_MTR_REQ_RESULT else r
  | none => s.rd R.MGT_MTR_REQ_RESULT
/-- SEQ of the mirror: odd while a copy runs. -/
def copySeq (s : State) : Nat := (s.rd R.MTR_COPY_SEQ + 2 ^ 32 - b2n (decide (s.now < s.mtr.copyTill))) % 2 ^ 32

/-! Fields that show state held elsewhere. -/

/-- The bank of the bus error registers an initiator reads: its own; the host reads zero (R403). -/
def busBank (s : State) (who : Init) : Nat × Nat := match who with
  | .host => (0, 0)
  | .trp => (s.mgt.proc[0].busAddr, s.mgt.proc[0].busInfo)
  | .plp => (s.mgt.proc[1].busAddr, s.mgt.proc[1].busInfo)
  | .svp => (s.mgt.proc[2].busAddr, s.mgt.proc[2].busInfo)

/-- A word of the held frame selected in HELD_SEL (R335, R346). -/
def heldWord (s : State) (j : Nat) : Nat :=
  match lanes.find? fun (k : Lane) => k.val == s.rd R.CAS_HELD_SEL_LANE with
  | some k => ((s.cas.lane[k].held[s.rd R.CAS_HELD_SEL_ENTRY]?).map fun a => nth a.frame.words j).getD 0
  | none => 0

/-- A field of the sync object selected in OBJ_SEL, by offset and lowest bit (R345). -/
def objField (s : State) (off lo : Nat) : Nat :=
  let o := s.obj (s.rd R.CAS_OBJ_SEL_INDEX)
  match off, lo with
  | 0x80054, 0 => o.type
  | 0x80054, 4 => b2n o.member
  | 0x80054, 5 => b2n o.notify
  | 0x80054, 8 => b2n o.ready
  | 0x80054, 9 => b2n o.err
  | 0x80058, _ => o.val
  | 0x8005c, _ => if o.type = 0 then 0 else o.res
  | 0x80060, 0 => o.gen
  | 0x80060, 8 => b2n o.arrived
  | 0x80060, 9 => b2n o.aborted
  | _, _ => o.members

/-- Processor of a block of LK_MGT_Pp or LK_UPD_Pp. -/
def procAt (k : Nat) : Proc := match k with
  | 0 => .trp | 1 => .plp | _ => .svp

/-- A field of LK_UPD_Pp (R462). -/
def updField (s : State) (f : Fld) : Nat :=
  let k := (f.off - 0xb0100) / 0x20
  let p := procAt k
  match (f.off - 0xb0100) % 0x20, f.lo with
  | 0, 0 => if s.rd (R.MGT_P_STATE_STATE k) = 0 then (s.inUse p).getD 0 else s.rd f
  | 0, 4 => s.bootState p 0
  | 0, 8 => s.bootState p 1
  | 0, 20 => s.trialLeft (Fin.ofNat 3 k)
  | 8, _ => (s.bootEntry p 0).elim 0 (·.ver)
  | 0x10, _ => (s.bootEntry p 1).elim 0 (·.ver)
  | _, _ => s.rd f

/-- The value of a field as an initiator reads it. -/
def fldVal (s : State) (who : Init) (f : Fld) : Nat :=
  if f.off = 0x80028 then s.lkTime
  else if 0x80054 ≤ f.off ∧ f.off ≤ 0x80060 then s.objField f.off f.lo
  else if 0x80600 ≤ f.off ∧ f.off < 0x80640 then s.heldWord ((f.off - 0x80600) / 4)
  else if 0x90180 ≤ f.off ∧ f.off < 0x90400 ∧ who = .host then 0
  else if f.off = 0x90f00 then (s.busBank who).1
  else if f.off = 0x90f04 then bits (s.busBank who).2 f.lo f.w
  else if f = R.MGT_LC_STATE then s.lcState
  else if f = R.MGT_LC_N then s.lcN
  else if f.off = 0xa0018 then s.opsec
  else if 0xb0100 ≤ f.off ∧ f.off < 0xb0160 then s.updField f
  else if f = R.MGT_MTR_REQ_PEND then b2n s.stampPend
  else if f = R.MGT_MTR_REQ_RESULT then s.stampResult
  else if 0xf0000 ≤ f.off ∧ !s.mtr.powered then 0
  else if f = R.MTR_COPY_SEQ then s.copySeq
  else s.rd f

/-- A phase at or above its loop's NPH has no registers (R199), nor has a site from 8 on of the I/O die (R267). -/
def unassigned (s : State) (h : RegHit) : Bool :=
  decide (0x60940 ≤ h.base) && decide (h.base < 0x609C0) && decide (8 ≤ h.i) ||
  decide (0x40100 ≤ h.base) && decide (h.base < 0x44000) && decide (0x100 ≤ h.base % 0x400) &&
    decide (s.rd (R.RGC_L_CFG_NPH h.n) ≤ h.i)

/-- The register at a word offset that is assigned now. -/
def hit (s : State) (off : Nat) : Option RegHit := (regAt off).filter fun h => !s.unassigned h

/-- A whole register as an initiator reads it. -/
def regVal (s : State) (who : Init) (h : RegHit) : Nat := h.flds.foldl (fun v f => v + s.fldVal who f * 2 ^ f.lo) 0

/-- A word of the window: a 32-bit register, or half of a 64-bit one; 0 where nothing is assigned (R10). During a block
reset the host reads all ones, with an error (R378). DESIGN CHOICE, log 11. -/
def word (s : State) (who : Init) (off : Nat) : Nat :=
  if who = .host ∧ s.phase = .blockReset then 2 ^ 32 - 1
  else match s.hit off with
  | some h => bits (s.regVal who h) (if h.wide && h.base != off then 32 else 0) 32
  | none => 0

/-- A register as SNAPSHOT samples it: a 64-bit register whole at its own offset, a 32-bit one extended with zeros (R362).
A 64-bit register named at its upper word gives that word. -/
def sample (s : State) (off : Nat) : Nat :=
  match s.hit off with
  | some h => if h.wide && h.base == off then s.regVal .host h else s.word .host off
  | none => 0

end State
end Sys2Proof.Machine
end

