-- ==== Sys2Proof/Machine/Recorder.lean ====
section
/-!
DEFINITION. Machine/Recorder.lean: the event recorder, the freeze trigger and the trace port (R45, R418–R446).
-/
namespace Sys2Proof.Machine

/-! What an event signals (R133, R161, R370, R417, and the event tables of the chapters). -/

/-- Non-maskable events. -/
def isNmi (code : Nat) : Bool := code == Ev.CLK_SRC_FAIL || code == Ev.CLK_PLL_UNLOCK || code == Ev.THM_TRIP

/-- Events the tables mark for the fault function. -/
def faultEvents : List Nat := [
  Ev.CLK_SRC_FAIL, Ev.CLK_PLL_UNLOCK, Ev.SEAM_ONE_LANE, Ev.SEAM_DEAD, Ev.DIE_SAFE_TIER, Ev.DIE_FENCED, Ev.SEAM_FREEZE_MISS,
  Ev.SEN_ROWCOL_FAIL, Ev.SEN_NO_SPARE, Ev.SEN_RETIRED, Ev.SEN_MARGIN, Ev.SEN_MARGIN_EXHAUSTED, Ev.SEN_CV_MISMATCH,
  Ev.SEN_POISON, Ev.SEN_RETRACT, Ev.SEN_DIGEST_SPLIT, Ev.SEN_EXPELLED, Ev.SEN_TEST_FAIL, Ev.SEN_LIB_REJECTED,
  Ev.SEN_MAP_TIMEOUT]
def thermalEvents : List Nat := [Ev.THM_SOFT, Ev.THM_HARD, Ev.THM_STALE, Ev.THM_DIODE_BROKEN, Ev.THM_TRIP]
def cascadeEvents : List Nat := [
  Ev.CAS_FORMED, Ev.CAS_FORM_SHORT, Ev.CAS_NO_QUORUM, Ev.CAS_JOIN_REFUSED, Ev.CAS_DETACHED, Ev.CAS_TAKEOVER, Ev.CAS_PKG_LOST,
  Ev.CAS_RESET, Ev.CAS_PACE_GAP]
def recorderEvents : List Nat := [
  Ev.REC_TORN, Ev.REC_FULL, Ev.REC_STAGE_LOST, Ev.REC_ERASE_START, Ev.REC_NMI_FULL, Ev.TRC_LANE_DOWN]

/-- The function an event signals, if any. -/
def functionOf (code unit : Nat) : Option Nat :=
  if faultEvents.contains code then some 0
  else if thermalEvents.contains code then some 1
  else if code = Ev.RGC_OVL_FEATHER then some 2
  else if cascadeEvents.contains code then some 3
  else if Ev.MTR_STAMP ≤ code ∧ code ≤ Ev.MTR_ABSENT then some 4
  else if recorderEvents.contains code then some 5
  else if Ev.UPD_STAGED ≤ code ∧ code ≤ Ev.UPD_ABORTED then some 6
  else if code = Ev.MGT_RESTART ∨ code = Ev.MGT_IMAGE_REJECTED then some (6 + unit)
  else if code = Ev.MGT_LC_CHANGE then some 7
  else none

/-- The compute die an event names: of the admission, Seam, droop, thermal and sentinel events, and the one of the budget
that names a die. -/
def eventDie (e : Event) : Option Die :=
  if h : e.unit < 8 then
    if (0x2001 ≤ e.code ∧ e.code ≤ 0x2010) ∨ e.code = Ev.BUD_PACE_SHORT ∨ (0x4004 ≤ e.code ∧ e.code ≤ 0x4007) ∨
        (0x6001 ≤ e.code ∧ e.code ≤ 0x600A) ∨ (0x7001 ≤ e.code ∧ e.code ≤ 0x7014) then some ⟨e.unit, h⟩ else none
  else none

namespace FlashRec

/-- A number's low bytes, the least significant first, ahead of the rest. -/
def bytes (r : FlashRec) : List Nat :=
  [r.mark % 256, 1] ++ bytesOf 2 r.code ++ bytesOf 4 r.seq ++ bytesOf 3 r.pcyc ++ bytesOf 5 r.opsec ++ bytesOf 8 r.time ++
    bytesOf 8 r.cyc ++ bytesOf 2 r.unit ++ [r.nreg % 256, r.flags % 256] ++ bytesOf 2 r.layer ++ bytesOf 2 r.tag ++
    bytesOf 4 r.detail ++ bytesOf 4 r.crc ++ List.replicate 8 0 ++ bytesOf 8 r.rep ++
    (List.range 48).flatMap fun k => bytesOf 4 (nth r.body k)

/-- The CRC of R420, over bytes 0x01 to 0x2B, 0x30 to 0x37 and 0x40 to 0xFF. -/
def sum (r : FlashRec) : Nat :=
  let b := r.bytes
  crc32c ((b.take 0x2C).drop 1 ++ (b.take 0x38).drop 0x30 ++ b.drop 0x40)

/-- A record in the flash is valid (R424). -/
def valid (r : FlashRec) : Bool := r.mark == 0x5A && r.crc == r.sum
/-- Its repeat count (R423). -/
def repeats (r : FlashRec) : Nat := 64 - popCount 64 r.rep
/-- The lowest bit of REPEAT that is still set is cleared. -/
def again (r : FlashRec) : FlashRec := { r with rep := r.rep &&& (r.rep - 1) }
/-- It is of a non-maskable event. -/
def nmi (r : FlashRec) : Bool := bit r.flags 0

end FlashRec

namespace State

def modRcd (s : State) (g : RecSt → RecSt) : State := { s with rcd := g s.rcd }

/-! Staging (R421–R426). -/

/-- The values of a snapshot list, at most `room` words, and whether some entry could not be sampled (R421). -/
def sampleList (s : State) : List Nat → Nat → List Nat × Bool
  | [], _ => ([], false)
  | o :: t, room =>
    if o = 0 ∨ room = 0 then ([], false)
    else match s.hit o with
      | none => let r := s.sampleList t (room - 1); (0 :: r.1, true)
      | some h =>
        if h.wide && h.base == o then
          if room < 2 then ([0], true)
          else
            let r := s.sampleList t (room - 2)
            (s.word .plp o :: s.word .plp (o + 4) :: r.1, r.2)
        else let r := s.sampleList t (room - 1); (s.word .plp o :: r.1, r.2)

/-- The record of an event as it stands now, with what goes into its BODY (R420–R422). DESIGN CHOICE, log 14. -/
def makeRec (s : State) (e : Event) (detail flags : Nat) (body : List Nat) (list : Bool) : FlashRec :=
  let k := e.code / 0x1000 - 1
  let vals := if list then s.sampleList ((List.range 48).map fun j => s.rd (R.REC_LIST_OFFSET k j)) (48 - body.length) else ([], false)
  let d := (eventDie e).getD 0
  let (layer, op) := s.running d
  let r : FlashRec := {
    code := e.code, seq := s.rd R.REC_HEAD_SEQ, pcyc := s.rd R.REC_POWER_PCYC, opsec := s.opsec % 2 ^ 40
    time := s.lkTime, cyc := s.cyc, unit := e.unit, nreg := vals.1.length
    flags := flags + b2n (isNmi e.code) + 2 * b2n s.frozen + 16 * b2n vals.2
    layer := layer, tag := op % 2 ^ 12 + 2 ^ 12 * (if s.adm[d].run.isSome then d.val else 0xF)
    detail := detail % 2 ^ 32, body := body ++ vals.1 }
  { r with crc := r.sum }

/-- The staging RAM changes; STATUS.STAGED shows its length. -/
def setStaged (s : State) (l : List FlashRec) : State := (s.modRcd fun q => { q with staged := l }).wr R.REC_STATUS_STAGED l.length

/-- A record is dropped and counted (R426). -/
def dropRec (s : State) : State :=
  (s.modRcd fun q => { q with dropped := q.dropped + 1 }).count R.REC_CNT_LOST_COUNT

/-- The list without its last element that satisfies a condition. -/
def dropLast {α : Type} (p : α → Bool) (l : List α) : List α := (l.reverse.eraseP p).reverse

/-- A record enters the staging RAM and takes HEAD.SEQ; a full RAM does not take an ordinary one, and gives up its newest
ordinary one to a non-maskable one (R425, R426). DEDUCED, log 49. -/
def stage (s : State) (r : FlashRec) : State :=
  let l := s.rcd.staged
  let put (s : State) (l : List FlashRec) : State :=
    ((s.setStaged (l ++ [r])).wr R.REC_HEAD_SEQ (r.seq + 1)).count (R.REC_AO_COUNT 10)
  if l.length < 256 then put s l
  else if r.nmi && l.any (fun x => !x.nmi) then put s.dropRec (dropLast (fun x => !x.nmi) l)
  else s.dropRec

/-- The newest record, staged or programmed, that an event repeats (R423). -/
def recurs (s : State) (e : Event) (r : FlashRec) : Bool :=
  (r.seq + 1) % 2 ^ 32 == s.rd R.REC_HEAD_SEQ && r.code == e.code && r.unit == e.unit && r.detail == e.detail % 2 ^ 32 &&
    decide (r.repeats < 64)

/-- An event is recorded: as a repeat of the newest record, as the three parts of a dump, or as a record of its own. -/
def record (s : State) (e : Event) : State :=
  if e.body.length = 128 then
    s.each [0, 1, 2] fun k s =>
      s.stage (s.makeRec e k 8 (((e.body.drop (48 * k)).take 48) ++ List.replicate (48 - min 48 (128 - 48 * k)) 0) false)
  else if s.rcd.staged.any (s.recurs e) then
    s.setStaged (s.rcd.staged.map fun r => if s.recurs e r then r.again else r)
  else if s.rcd.slots.any fun p => p.2.mark == 0x5A && s.recurs e p.2 then
    s.modRcd fun q => { q with slots := q.slots.map fun p =>
      if p.2.mark == 0x5A && s.recurs e p.2 then (p.1, p.2.again) else p }
  else s.stage (s.makeRec e e.detail (if e.body.length = 16 then 4 else 0) (e.body.take 48) true)

/-! Package freeze (R45, R438). -/

/-- A cascade freeze is scheduled. -/
def casFreezePending (s : State) : Bool := s.cas.sched.any fun o => o.kind == 0

/-- A freeze is pending or in effect, of the package or of the cascade. -/
def freezeHeld (s : State) : Bool := s.frozen || s.rcd.freezeAt.isSome || s.casFreezePending
/-- A request for a freeze meets one: it is counted and ignored (R334, R344, R444). -/
def ignoreFreeze (s : State) : State := s.modCas fun c => { c with ignored := c.ignored + 1 }

/-- A package freeze is requested: the governor schedules it on an alignment edge at least 60 ns ahead and sends it to every
satellite. DEDUCED, log 15. -/
def freezeRequest (s : State) (trigger : Bool) : State :=
  if s.freezeHeld then s.ignoreFreeze
  else
    let t := 20 * cdiv (s.now + 60) 20
    let s := s.modRcd fun q => { q with freezeAt := some (t, trigger) }
    s.each sats fun (x : Sat) s => s.sendSeam x (some t) .freeze

/-- The freeze edge. -/
def pkgFreezeEdge (s : State) : State :=
  match s.rcd.freezeAt with
  | none => s
  | some (t, trig) =>
    let s := ((s.advance t).toEdge.modRcd fun q => { q with freezeAt := none }).freezeEdge
    (s.flag R.REC_TRIG_FROZEN true).raiseIf trig Ev.REC_FREEZE

/-- THAW is written: the thaw is scheduled on an alignment edge at least 60 ns ahead; THAW reads 1 until then. -/
def thawRequest (s : State) : State :=
  if !s.on R.REC_TRIG_FROZEN || s.rcd.thawAt.isSome then s
  else
    let t := 20 * cdiv (s.now + 60) 20
    ((s.flag R.REC_TRIG_THAW true).modRcd fun q => { q with thawAt := some t }).each sats fun (x : Sat) s => s.sendSeam x (some t) .thaw

/-- The thaw edge: a package freeze ends; a cascade freeze that still holds keeps the package frozen. -/
def pkgThawEdge (s : State) : State :=
  match s.rcd.thawAt with
  | none => s
  | some t =>
    let s := ((s.advance t).toEdge.modRcd fun q => { q with thawAt := none }).flag R.REC_TRIG_FROZEN false |>.flag R.REC_TRIG_THAW false
    let s := if s.casFrozen then s else s.thawEdge
    s.raise Ev.REC_THAW

/-- A satellite that missed the freeze stops on the first alignment edge after its Seam is up (R45, R510). -/
def lateFreeze (s : State) (x : Sat) : State :=
  if !s.late x || !s.seamUp x then s else (s.toEdge.stopSat x).raise Ev.SEAM_FREEZE_MISS x

/-! The trigger (R438). -/

/-- The freeze of SCOPE is requested. -/
def triggerRequest (s : State) : State :=
  let s := s.modRcd fun q => { q with post := none }
  match s.rd R.REC_TRIG_SCOPE with
  | 1 => s.freezeRequest true
  | 2 => if s.freezeHeld then s.ignoreFreeze else s.requestSched 0 0
  | _ => s

/-- An armed trigger fires; after POST windows it requests its freeze. One that fires while a freeze is pending or in effect
has its request ignored (R438, R444). DEDUCED, log 50. -/
def triggerFire (s : State) : State :=
  if !s.on R.REC_TRIG_ARMED then s
  else
    let s := (s.flag R.REC_TRIG_ARMED false).flag R.REC_TRIG_FIRED true
    if s.rd R.REC_TRIG_POST = 0 then s.triggerRequest
    else if s.freezeHeld then s.when (s.rd R.REC_TRIG_SCOPE == 1 || s.rd R.REC_TRIG_SCOPE == 2) (·.ignoreFreeze)
    else s.modRcd fun q => { q with post := some (s.now - s.frozenTime + 2048 * s.rd R.REC_TRIG_POST) }

/-- An event code matches an entry of the trigger. -/
def triggerMatch (s : State) (code : Nat) : Bool :=
  (List.range 8).any fun j =>
    let m := s.rd (R.REC_TRIG_CODE_MASK j)
    m != 0 && code &&& m == s.rd (R.REC_TRIG_CODE_CODE j) &&& m

/-- The effect of TRIGGER_POST_EXPIRY: while the package is frozen no window passes (R45, R438). -/
def triggerPost (s : State) : State :=
  match s.rcd.post with
  | some t => if s.frozen then s else (s.advance (t + s.frozenTime)).triggerRequest
  | none => s

/-! EVENT_STAGE (R133, R372, R425, R437, R440, R441). -/

/-- A non-maskable event interrupts the TRP, which reports it to the BMC; while the TRP does not run it is held (R133,
R393, R407). -/
def nmiReport (s : State) (code detail : Nat) : State :=
  let s := s.flag (R.MGT_P_IRQ_NMI 0) true
  if s.runs .trp then s.emit (.nmiToBmc code detail)
  else { s with mgt := { s.mgt with nmiHeld := s.mgt.nmiHeld ++ [(code, detail)] } }

/-- What an event sets off beside its record. -/
def eventEffects (s : State) (e : Event) : State :=
  let nmi := isNmi e.code
  let s := (s.count (R.REC_AO_COUNT 4)).when nmi (·.count (R.REC_AO_COUNT 5))
  let s := match functionOf e.code e.unit with
    | some k => if nmi then s.signalNmi k e.code else s.signal k (some e.code)
    | none => s
  let s := if e.code = Ev.CLK_SRC_FAIL ∨ e.code = Ev.CLK_PLL_UNLOCK then
      s.nmiReport e.code e.detail else s
  let s := if e.code = Ev.MTR_FAULT ∨ e.code = Ev.MTR_LOG then
      s.queueTx ⟨0xF0, bytesOf 2 e.code ++ bytesOf 2 e.unit ++ bytesOf 4 e.detail⟩ else s
  let pass := match eventDie e with
    | some d => s.trcPass d
    | none => true
  let s := if pass then s.trace 2 e.unit 0 [e.code + 2 ^ 32 * (e.detail % 2 ^ 32)] else s
  if s.on R.REC_TRIG_ARMED && s.triggerMatch e.code then s.triggerFire else s

/-- The oldest event raised is taken: it has its effects, and it is recorded unless FILTER drops it. DEDUCED, log 49. -/
def eventStage (s : State) : State :=
  match s.raised with
  | [] => s
  | e :: t =>
    let s := ({ s with raised := t }).eventEffects e
    if isNmi e.code || bit (s.rd R.REC_CTL_FILTER) (e.code / 0x1000 - 1) then s.record e else s

/-- Once space frees, a record of the number dropped is staged (R426). -/
def stageLost (s : State) : State :=
  if s.rcd.dropped = 0 ∨ 256 ≤ s.rcd.staged.length then s
  else (s.modRcd fun q => { q with dropped := 0 }).raise Ev.REC_STAGE_LOST 0xFFFF s.rcd.dropped

/-! The flash (R418, R424, R427, R429–R431). -/

/-- The partition takes records. -/
def recReady (s : State) : Bool :=
  s.rcd.scanned && !s.on R.REC_STATUS_FORMAT_BAD && !s.on R.REC_STATUS_UNREADABLE && !s.on R.REC_STATUS_ERASING

/-- A record is programmed into a slot; a power cut between the two steps leaves MARK and REPEAT unprogrammed (R424). -/
def programSlot (s : State) (slot : Nat) (r : FlashRec) (cut : Bool) : State :=
  let r : FlashRec := if cut then { r with mark := 0xFF, rep := 2 ^ 64 - 1 } else { r with mark := 0x5A }
  let s := s.modRcd fun q => { q with slots := Tab.put q.slots slot r }
  if cut then s else s.count R.REC_CNT_WRITTEN_COUNT

/-- A record made and programmed at once, past the staging RAM: REC_FORMAT and REC_FULL (R427, R429). -/
def programNow (s : State) (slot code detail : Nat) : State :=
  let e : Event := { code, detail }
  let r := s.makeRec e detail 0 [] true
  (((s.programSlot slot r false).wr R.REC_HEAD_SEQ (r.seq + 1)).eventEffects e)

/-- A staged record leaves the staging RAM. -/
def unstage (s : State) (r : FlashRec) : State := s.setStaged (s.rcd.staged.erase r)

/-- The TRP programs the oldest record of a non-maskable event: into the next ordinary slot, then into the reserved ones;
with these used, which NMI_FULL shows, it is lost (R427). -/
def programNmi (s : State) (r : FlashRec) (cut : Bool) : State :=
  let wp := s.rd R.REC_WP_SLOT
  if wp < 65471 then
    let s := s.programSlot wp r cut
    if cut then s else (s.unstage r).wr R.REC_WP_SLOT (wp + 1)
  else if s.rcd.nmiSlot < 65536 then
    let s := s.programSlot s.rcd.nmiSlot r cut
    if cut then s
    else
      let s := (s.unstage r).modRcd fun q => { q with nmiSlot := q.nmiSlot + 1 }
      if s.rcd.nmiSlot < 65536 then s else (s.flag R.REC_STATUS_NMI_FULL true).raise Ev.REC_NMI_FULL
  else (s.unstage r).count R.REC_CNT_LOST_COUNT

/-- The PLP programs the oldest ordinary record, or REC_FULL into slot 65,471 in its place. -/
def programOrd (s : State) (r : FlashRec) (cut : Bool) : State :=
  let wp := s.rd R.REC_WP_SLOT
  if s.on R.REC_STATUS_FULL then s
  else if 65471 ≤ wp then (s.flag R.REC_STATUS_FULL true).programNow 65471 Ev.REC_FULL 0
  else
    let s := s.programSlot wp r cut
    if cut then s else (s.unstage r).wr R.REC_WP_SLOT (wp + 1)

/-- The next staged record is programmed: those of non-maskable events first, by the TRP; the others by the PLP
once it has mounted (R425, R429). DEDUCED, log 49. -/
def recordProgram (s : State) (cut : Bool) : State :=
  if !s.recReady then s
  else match s.rcd.staged.find? (·.nmi), s.runs .trp with
    | some r, true => s.programNmi r cut
    | _, _ => match s.rcd.staged.find? (fun r => !r.nmi), s.serves .plp && s.on R.REC_STATUS_MOUNTED with
      | some r, true => s.programOrd r cut
      | _, _ => s

/-- The first slot of a range that is not used (R429): slots are used from the range's first on. -/
def firstFree (lo hi : Nat) : Tab FlashRec → Nat
  | [] => lo
  | (k, _) :: t => if k < lo then firstFree lo hi t else if k = lo ∧ k < hi then firstFree (lo + 1) hi t else lo

/-- The partition is formatted: REC_FORMAT goes into slot 0. -/
def format (s : State) (detail : Nat) : State := s.programNow 0 Ev.REC_FORMAT detail

/-- Steps 2 to 6 of the mount. DEDUCED, log 49. -/
def mountScan (s : State) : State :=
  let q := s.rcd
  let wp := firstFree 1 65472 q.slots
  let np := firstFree 65472 65536 q.slots
  let recent := q.slots.filter fun p => (decide (wp ≤ p.1 + 256) && decide (1 ≤ p.1)) || decide (65472 ≤ p.1)
  let torn := (recent.filter fun p => p.2.mark == 0xFF).map (·.1)
  let valid := (q.slots.filter fun p => (p.1 == 0 || recent.any (fun r => r.1 == p.1)) && p.2.valid).map (·.2)
  let s := s.modRcd fun q => { q with
    slots := q.slots.map fun p => if torn.contains p.1 then (p.1, { p.2 with mark := 0 }) else p, nmiSlot := np, scanned := true }
  let s := (s.wr R.REC_WP_SLOT wp).when (decide (65471 < wp)) (·.flag R.REC_STATUS_FULL true)
  let s := s.flag R.REC_STATUS_NMI_FULL (np == 65536)
  let s := s.each torn fun k s => s.raise Ev.REC_TORN 0xFFFF k
  let best : Option FlashRec := valid.foldl (fun b r => match b with
    | none => some r
    | some x => some (if x.seq < r.seq then r else x)) none
  let s := match best with
    | none => s
    | some r =>
      let op := r.opsec + (if r.code = Ev.REC_ALIVE then 900 * r.repeats else 0)
      let s := s.modRcd fun q => { q with opBase := op, opAt := s.now }
      (s.wr R.REC_HEAD_SEQ (r.seq + 1)).wr R.REC_POWER_PCYC r.pcyc
  let s := if s.rcd.powered then
      ((s.wr R.REC_POWER_PCYC (s.rd R.REC_POWER_PCYC + 1)).modRcd fun q => { q with powered := false }).raise Ev.REC_POWER_ON 0xFFFF
        (s.rd R.REC_RESET_LOST_COUNT)
    else s
  s.flag R.REC_STATUS_MOUNTED true

/-- The PLP mounts the partition (R429). DEDUCED, log 49. -/
def mount (s : State) (answers : Bool) : State :=
  if !s.runs .plp then s
  else if !answers then s.flag R.REC_STATUS_UNREADABLE true
  else
    let s := s.flag R.REC_STATUS_UNREADABLE false
    match Tab.find s.rcd.slots 0 with
    | none => (s.format 0).mountScan
    | some r => if r.valid && r.code == Ev.REC_FORMAT then s.mountScan else s.flag R.REC_STATUS_FORMAT_BAD true

/-- KEY has been written and GO is written: the erase begins, if the SVP or the TRP asks while the package is PROVISIONED or
DEPLOYED; GO reads 1 until it ends (R431). The last SEQ before the erase is a free value where there is none.
DEDUCED, log 49. -/
def eraseGo (s : State) (who : Init) : State :=
  if (who == .svp || who == .trp) && (s.lcState == 1 || s.lcState == 2) && s.rd R.REC_ERASE_KEY == 0xC0DE &&
      !s.on R.REC_STATUS_ERASING then
    let last : Nat × State := if s.rd R.REC_HEAD_SEQ = 0 then s.draw else (s.rd R.REC_HEAD_SEQ - 1, s)
    let s := last.2.modRcd fun q => { q with eraseSeq := last.1 }
    ((s.flag R.REC_ERASE_GO true).flag R.REC_STATUS_ERASING true).raise Ev.REC_ERASE_START
  else s

/-- The erase ends and the PLP, which runs, formats the partition, and mounts it where it has not yet been (R429, R431).
DEDUCED, log 49. -/
def eraseEnd (s : State) : State :=
  if !s.on R.REC_STATUS_ERASING || !s.serves .plp then s
  else
    let s := s.modRcd fun q => { q with slots := [], nmiSlot := 65472 }
    let s := ((s.flag R.REC_STATUS_ERASING false).flag R.REC_ERASE_GO false).format s.rcd.eraseSeq
    let s := ((s.flag R.REC_STATUS_FULL false).flag R.REC_STATUS_NMI_FULL false).flag R.REC_STATUS_ACKED false
    let s := (s.flag R.REC_STATUS_FORMAT_BAD false).wr R.REC_WP_SLOT 1
    if s.on R.REC_STATUS_MOUNTED then s else s.mountScan

/-- OPSEC passes a multiple of 900 s (R428). -/
def alive (s : State) : State :=
  let k := s.opsec / 900 + 1
  (s.advance (s.rcd.opAt + 1000000000 * (900 * k - s.rcd.opBase))).raise Ev.REC_ALIVE

/-! Reading back (R433). -/

/-- A record placed in a list by rising SEQ. -/
def insertRec (r : FlashRec) : List FlashRec → List FlashRec
  | [] => [r]
  | a :: t => if r.seq < a.seq then r :: a :: t else a :: insertRec r t

/-- The records found in the flash or in the staging RAM from a SEQ on, by rising SEQ. -/
def recordsFrom (s : State) (seq n : Nat) : List FlashRec :=
  let l := ((s.rcd.slots.filter fun p => p.2.valid).map (·.2)) ++ s.rcd.staged
  let l := l.filter fun r => decide (seq ≤ r.seq) && decide (r.seq < s.rd R.REC_HEAD_SEQ)
  (l.foldr insertRec []).take n

/-! Ring copies (R436). -/

/-- The effect of RING_SELECT (R436). DEDUCED, log 50. -/
def ringSelect (s : State) (unit : Nat) (chan : Bool) : State :=
  let s := ((s.wr R.REC_RING_SEL_UNIT unit).flag R.REC_RING_SEL_CHAN chan).flag R.REC_RING_SEL_BUSY true
  let r := (Tab.find s.rings (if chan then 0x10000 + unit else unit)).getD ⟨0, []⟩
  s.modRcd fun q => { q with copy := some (r.count, r.entries) }

/-- The effect of RING_COPY_DONE (R436). DEDUCED, log 50. -/
def ringDone (s : State) : State :=
  match s.rcd.copy with
  | none => s
  | some (n, l) =>
    let s := s.each (List.range 64) fun j s =>
      let i := (n + 63 - j) % 64
      s.wr (R.REC_RING_ENTRY j) (nth l i)
    ((s.wr R.REC_RING_HEAD_COUNT n).flag R.REC_RING_SEL_BUSY false).modRcd fun q => { q with copy := none }

/-! The trace port (R439, R440, R443). -/

/-- Every lane is up. -/
def traceUp (s : State) : Bool := s.rd R.TRC_STATUS_LANE_UP == 15

/-- The effect of TRACE_LANE_UP (R439). -/
def trcLaneUp (s : State) (k : Fin 4) : State := s.setMask R.TRC_STATUS_LANE_UP (2 ^ k.val)
/-- The effect of TRACE_LANE_DOWN (R439). -/
def trcLaneDown (s : State) (k : Fin 4) : State :=
  if bit (s.rd R.TRC_STATUS_LANE_UP) k then (s.clrMask R.TRC_STATUS_LANE_UP (2 ^ k.val)).raise Ev.TRC_LANE_DOWN k else s

/-- Packets leave the FIFO, oldest first, as far as a number of words goes. -/
def drainTrace : Nat → Nat → State → State
  | 0, _, s => s
  | n + 1, room, s =>
    match s.trcFifo with
    | [] => s
    | p :: t =>
      if room < p.words.length + 1 then s
      else drainTrace n (room - (p.words.length + 1))
        ((((s.setFifo t).emit (.traceWords s.rcd.lane (trcSent p))).modRcd fun q => { q with
          lane := (q.lane + p.words.length + 1) % 4 }).count (R.REC_AO_COUNT 11) (p.words.length + 1))

/-- Words that the port can send in the window that ends: 3,103, or fewer where the alignment blocks after EN have taken
a part of it (R439, R443). -/
def traceRoom (s : State) : Nat := match s.rcd.alignTill with
  | some t => min 3103 ((s.now - t) * 15152 / 10000)
  | none => 3103

/-- Control blocks of a type with two bytes after it, before the scrambler (R439). -/
def ctlBlock (type a b : Nat) : Nat := type + 2 ^ 8 * a + 2 ^ 16 * b

/-- The port sends what it can of a list of packets in a window, and idle control blocks in the room that is left; the other
packets stay in the FIFO (R439, R443). -/
def traceSend (s : State) (l rest : List TrcPkt) : State :=
  if !s.on R.TRC_CTL_EN || !s.traceUp then s
  else
    let n := s.traceRoom
    let s := drainTrace l.length n (s.setFifo l)
    let sent := trcWords l - trcWords s.trcFifo
    let s := s.setFifo (s.trcFifo ++ rest)
    if sent < n then s.emit (.traceIdle (ctlBlock 0x1E 0 0) (n - sent)) else s

/-- The port sends what it can in a window (R443). -/
def traceWindow (s : State) : State := s.traceSend s.trcFifo []

/-- While the package is frozen the port goes on every 2,048 ns: it sends SYNC, the FREEZE packet of the edge and idles, and
the other packets stay in the FIFO (R443). The cycle count in SYNC stands still. DEDUCED, log 15. -/
def traceFrozen (s : State) : State :=
  let s := { s with now := 2048 * (s.now / 2048 + 1) }
  let s := s.traceAlways 1 0 [s.cyc, s.lkTime]
  let now (p : TrcPkt) : Bool := p.type == 1 || p.type == 9
  s.traceSend (s.trcFifo.filter now) (s.trcFifo.filter fun p => !now p)

/-- Alignment blocks, each with its lane's number, are sent on all four lanes: continuously until 10 µs after EN was set, and from then on every 16,384
blocks, which are 43,253.76 ns (R439). The blocks are shown before the scrambler. DEDUCED, log 50. -/
def traceAlign (s : State) : State :=
  if !s.on R.TRC_CTL_EN || !s.traceUp then s
  else
    let s := match s.rcd.alignTill with
      | some t =>
        if s.now < t then s
        else (s.advance (t + cdiv (4325376 * (s.rcd.alignN + 1)) 100)).modRcd fun q => { q with alignN := q.alignN + 1 }
      | none => s
    s.emit (.traceAlign ((List.range 4).map fun k => ctlBlock 0x4B 0xA5 k))

/-- A LOST packet for each source that has lost some, once 64 words are free. DEDUCED, log 50. -/
def traceLost (s : State) : State :=
  if !s.on R.TRC_CTL_EN || s.frozen || decide (8192 < trcWords s.trcFifo + 64) || s.trcDrop.toList.all (· == 0) then s
  else
    let s := s.each (List.finRange 5) fun (k : Fin 5) s =>
      if s.trcDrop[k] = 0 then s else s.traceAlways 8 0 [s.trcDrop[k] % 2 ^ 32 + 2 ^ 32 * k.val]
    ({ s with trcDrop := Vector.replicate 5 0 }).raiseOnce Ev.TRC_LOST 0xFFFF

/-- EN is written: alignment blocks are sent for 10 µs after it is set (R439). -/
def traceEnable (s : State) (b : Bool) : State :=
  let was := s.on R.TRC_CTL_EN
  let s := s.flag R.TRC_CTL_EN b
  if b && !was then s.modRcd fun q => { q with alignTill := some (s.now + 10000), alignN := 0, lane := 0 } else s

end State

/-- EVENT_STAGE (R425). -/
def execEventStage (s : State) : Res := .next s.eventStage
/-- RECORD_PROGRAM (R424). -/
def execRecordProgram (cut : Bool) (s : State) : Res := .next (s.when s.live (·.recordProgram cut))
/-- STAGE_LOST_RECORD (R426). -/
def execStageLostRecord (s : State) : Res := .next (s.when s.live (·.stageLost))
/-- OPSEC_ALIVE (R428). -/
def execOpsecAlive (s : State) : Res := .next (s.when s.rgcOn (·.alive))
/-- RECORDER_MOUNT (R429). -/
def execRecorderMount (answers : Bool) (s : State) : Res := .next (s.when s.live (·.mount answers))
/-- RECORDER_ERASE_END (R431). -/
def execRecorderEraseEnd (s : State) : Res := .next (s.when s.live (·.eraseEnd))
/-- FULL_ACK (R432). -/
def execFullAck (s : State) : Res := .next (s.when s.live (·.flag R.REC_STATUS_ACKED true))
/-- RING_SELECT (R436). -/
def execRingSelect (unit : Nat) (chan : Bool) (s : State) : Res := .next (s.when s.live (·.ringSelect unit chan))
/-- RING_COPY_DONE (R436). -/
def execRingCopyDone (s : State) : Res := .next (s.when s.live (·.ringDone))
/-- TRIGGER_FIRE (R438). -/
def execTriggerFire (s : State) : Res := .next (s.when s.live (·.triggerFire))
/-- TRIGGER_POST_EXPIRY (R438). -/
def execTriggerPostExpiry (s : State) : Res := .next (s.when s.live (·.triggerPost))
/-- TRIGGER_THAW (R438). -/
def execTriggerThaw (s : State) : Res := .next (s.when s.live (·.thawRequest))
/-- TRACE_LANE_UP (R439). -/
def execTraceLaneUp (k : Fin 4) (s : State) : Res := .next (s.when s.live (·.trcLaneUp k))
/-- TRACE_LANE_DOWN (R439). -/
def execTraceLaneDown (k : Fin 4) (s : State) : Res := .next (s.when s.live (·.trcLaneDown k))
/-- TRACE_ALIGNMENT (R439). -/
def execTraceAlignment (s : State) : Res := .next (s.when s.live (·.traceAlign))
/-- TRACE_LOST_PACKET (R443). -/
def execTraceLostPacket (s : State) : Res := .next (s.when s.live (·.traceLost))
/-- PACKAGE_FREEZE_REQUEST (R45). -/
def execPackageFreezeRequest (s : State) : Res := .next (s.when s.live (·.freezeRequest false))
/-- PACKAGE_FREEZE_EDGE (R45). -/
def execPackageFreezeEdge (s : State) : Res := .next (s.when s.live (·.pkgFreezeEdge))
/-- LATE_DIE_FREEZE (R45). -/
def execLateDieFreeze (x : Sat) (s : State) : Res := .next (s.when s.live (·.lateFreeze x))

end Sys2Proof.Machine
end

