-- ==== Sys2Proof/Machine/Limits.lean ====
section
/-!
DEFINITION. Machine/Limits.lean: limits and their ceilings (R11, R79, R88, R165, R218, R260).
-/
namespace Sys2Proof.Machine
namespace State

/-- Limits with their ceilings. -/
def ceilings : List (Fld × Fld) :=
  [(R.ADM_RAMP_STEP, R.ADM_RAMP_CEIL_STEP_CEIL), (R.ADM_RAMP_FAST_STEP, R.ADM_RAMP_CEIL_FAST_CEIL),
   (R.ADM_PKG_SLOPE_STEP, R.ADM_PKG_SLOPE_STEP_CEIL), (R.BUD_PKG_CAP_SUST, R.BUD_PKG_CEIL_SUST_CEIL),
   (R.BUD_PKG_CAP_PEAK, R.BUD_PKG_CEIL_PEAK_CEIL), (R.BUD_BURST_MAX, R.BUD_BURST_MAX_CEIL),
   (R.THM_TRIP_TRIP, R.THM_TRIP_TRIP_CEIL)] ++
  loops.flatMap fun (l : Loop) =>
    [(R.BUD_RAIL_LIM_LIMIT l, R.BUD_RAIL_CEIL_CEIL l), (R.RGC_L_VMAX_VMAX l, R.RGC_L_VMAX_VMAX_CEIL l),
     (R.RGC_L_SLEW_SLEW l, R.RGC_L_SLEW_SLEW_CEIL l)]

/-- The value a write leaves in a limit: the lower of the value written and the ceiling; for ALLOW the higher of the value
and the floor (R11, R79). -/
def bounded (s : State) (f : Fld) (v : Nat) : Nat :=
  if f = R.ADM_UNCORE_ALLOW then max v (s.rd R.ADM_UNCORE_ALLOW_FLOOR)
  else match ceilings.find? fun p => p.1 == f with
    | some p => min v (s.rd p.2)
    | none => v

/-- What follows at once from a limit that has changed: a loop's target, and that of a VSET still to be acknowledged, stay at
or below VMAX, and CAP at or below what LIMIT allows (R165, R191, R218). -/
def limitFollows (s : State) (l : Loop) : State :=
  let s := s.capFalls l
  let m := s.rd (R.RGC_L_VMAX_VMAX l)
  let s := s.modLoop l fun L => { L with vset := L.vset.map fun v => { v with target := min v.target m } }
  if m < s.rd (R.RGC_L_TGT_TARGET l) then s.setTarget l m else s

/-- A limit takes a written value; the credit of bursts never exceeds MAX (R91). -/
def writeLimit (s : State) (f : Fld) (v : Nat) : State :=
  let s := s.wr f (s.bounded f v)
  let s := if f = R.THM_TRIP_TRIP then s.tripEvalAll else s
  let s := if f = R.BUD_BURST_MAX then s.wr R.BUD_STATUS_BURST_LEFT (min (s.rd f) (s.rd R.BUD_STATUS_BURST_LEFT)) else s
  match loops.find? fun (l : Loop) => f == R.BUD_RAIL_LIM_LIMIT l || f == R.RGC_L_VMAX_VMAX l with
  | some l => s.limitFollows l
  | none => s

/-- The TRP writes a ceiling, or the floor of ALLOW: a limit beyond it moves to it in the same cycle. TRIP_CEIL takes at
most FUSE (R260). -/
def writeCeiling (s : State) (f : Fld) (v : Nat) : State :=
  let s := s.wr f (if f = R.THM_TRIP_TRIP_CEIL then min v (s.rd R.THM_TRIP_FUSE) else v)
  if f = R.ADM_UNCORE_ALLOW_FLOOR then
    (if s.rd R.ADM_UNCORE_ALLOW < s.rd f then s.wr R.ADM_UNCORE_ALLOW (s.rd f) else s)
  else match ceilings.find? fun p => p.2 == f with
    | some p => if s.rd f < s.rd p.1 then s.writeLimit p.1 (s.rd f) else s
    | none => s

end State
end Sys2Proof.Machine
end

