-- ==== Sys2Proof/Machine/HostOps.lean ====
section
/-!
DEFINITION. Machine/HostOps.lean: what the commands of the host interface share: queues, the start and the end of a
command (R359–R366).
-/
namespace Sys2Proof.Machine

/-- STATUS codes of R363. -/
abbrev stSuccess : Nat := 0
abbrev stBadOpc : Nat := 1
abbrev stBadField : Nat := 2
abbrev stBadVer : Nat := 3
abbrev stHostFault : Nat := 4
abbrev stPartial : Nat := 5
abbrev stRejected : Nat := 6
abbrev stPeerUnavail : Nat := 7
abbrev stNoFeature : Nat := 8

def queues : List Queue := List.finRange 32

/-- SQ_TAIL and CQ_HEAD in a doorbell line (R367). -/
def lineTail (l : List Nat) : Nat := bits (nth l 0) 0 12
def lineHead (l : List Nat) : Nat := bits (nth l 1) 0 12

/-- A 64-bit value from the word at a place and the next one. -/
def pairAt (l : List Nat) (k : Nat) : Nat := nth l k % 2 ^ 32 + nth l (k + 1) % 2 ^ 32 * 2 ^ 32
/-- The fields of a descriptor from its sixteen words (R360). -/
def descOf (l : List Nat) : Desc where
  ver := bits (nth l 0) 0 4
  opc := bits (nth l 0) 8 8
  cid := bits (nth l 0) 16 16
  arg0 := bits (nth l 1) 0 32
  addr := pairAt l 2
  addr2 := pairAt l 4
  arg1 := bits (nth l 6) 0 32
  arg2 := bits (nth l 7) 0 32

namespace State

def modQueue (s : State) (q : Queue) (g : QueueSt → QueueSt) : State := { s with queue := s.queue.set q (g s.queue[q]) }
/-- STATE of a queue: 0 disabled, 1 running, 2 stalled, 3 error, 4 draining. -/
def qState (s : State) (q : Queue) : Nat := s.rd (R.HIF_Q_STS_STATE q)
/-- STATE changes, and with it the queue's bit of LK_HIF_ACTIVE. -/
def setQState (s : State) (q : Queue) (v : Nat) : State :=
  (s.wr (R.HIF_Q_STS_STATE q) v).wr R.HIF_ACTIVE_Q (withBit (s.rd R.HIF_ACTIVE_Q) q (v == 1))
/-- Entries of a submission and of a completion queue. -/
def sqSize (s : State) (q : Queue) : Nat := 2 ^ s.rd (R.HIF_Q_CFG_SQ_LOG q)
def cqSize (s : State) (q : Queue) : Nat := 2 ^ s.rd (R.HIF_Q_CFG_CQ_LOG q)

/-- Commands that run now. -/
def busyCmds (s : State) : Nat := (queues.filter fun (q : Queue) => s.queue[q].started).length

/-- Fetched commands are started in round-robin order of queue number, at most 8 at once (R364). -/
def startNext : Nat → State → State
  | 0, s => s
  | n + 1, s =>
    if 8 ≤ s.busyCmds then s
    else
      let order := queues.drop (s.lastStart + 1) ++ queues.take (s.lastStart + 1)
      match order.find? fun (q : Queue) => s.queue[q].cmd.isSome && !s.queue[q].started && s.queue[q].fin.isNone with
      | some q => startNext n { s.modQueue q (fun x => { x with started := true }) with lastStart := q.val }
      | none => s

/-- A command ends: its completion waits to be written, and another may start. -/
def finish (s : State) (q : Queue) (status result detail : Nat) : State :=
  match s.queue[q].cmd with
  | none => s
  | some (c, h) =>
    let f : Cpl := ⟨c.cid, h, status, result, detail⟩
    startNext 8 (s.modQueue q fun x => { x with cmd := none, started := false, work := none, fin := some f })

/-- The vector of a queue owes a message, which signals every completion written since the last one (R373). -/
def signalQueue (s : State) (q : Queue) : State := (s.modQueue q fun x => { x with unsig := 0 }).owe q

/-- A queue enters state error and owes its vector a message at once (R366, R373). -/
def queueError (s : State) (q : Queue) (err : Nat) : State :=
  if s.qState q = 3 then s
  else (((s.setQState q 3).wr (R.HIF_Q_STS_ERR q) err).signalQueue q).raise Ev.HIF_QUEUE_ERR q err

/-- The first new descriptor of a queue is fetched: while it runs, has none in hand and its tail lies ahead (R359, R364). -/
def fetchNext (s : State) (q : Queue) : State :=
  let x := s.queue[q]
  let h := s.rd (R.HIF_Q_STS_SQ_HEAD q)
  if s.qState q = 1 && x.cmd.isNone && x.fin.isNone && x.tail != h then s.emit (.fetch q h) else s

/-- The completion queue has no free entry (R365). -/
def cqFull (s : State) (q : Queue) : Bool := (s.rd (R.HIF_Q_CQ_CQ_TAIL q) + 1) % s.cqSize q == s.queue[q].head

/-- A reading of a queue's doorbell line is acted on (R365, R366, R369). -/
def doorbell (s : State) (q : Queue) (d : Doorbell) : State :=
  match d with
  | none => s.queueError q 5
  | some l =>
    if s.sqSize q ≤ lineTail l then s.queueError q 1
    else if s.cqSize q ≤ lineHead l then s.queueError q 2
    else
      let s := s.modQueue q fun x => { x with tail := lineTail l, head := lineHead l }
      let s := if s.qState q = 2 && !s.cqFull q then s.setQState q 1 else s
      s.fetchNext q

/-- A reading differs from what was last acted on. -/
def doorbellNew (s : State) (q : Queue) (d : Doorbell) : Bool :=
  d.map (fun l => (lineTail l, lineHead l)) != some (s.queue[q].tail, s.queue[q].head)

end State
end Sys2Proof.Machine
end

