-- ==== Sys2Proof/Machine/Sentinel.lean ====
section
/-!
DEFINITION. Machine/Sentinel.lean: the commands of the fault sentinel: reports, map changes, margins, self-test, libraries,
epochs and retirement (R270–R305).
-/
namespace Sys2Proof.Machine

/-! The report word (R270, R271). -/

def repVer (w : Nat) : Nat := bits w 124 4
def repKind (w : Nat) : Nat := bits w 120 4
def repSrc (w : Nat) : Nat := bits w 118 2
def repDie (w : Nat) : Nat := bits w 114 4
def repUnit (w : Nat) : Nat := bits w 104 10
def repArg0 (w : Nat) : Nat := bits w 64 32
def repArg1 (w : Nat) : Nat := bits w 32 32
def repArg2 (w : Nat) : Nat := bits w 0 32
/-- Where a word stands in its report cycle: by die and unit (R303). -/
def repPlace (w : Nat) : Nat := 1024 * repDie w + repUnit w
def placeIn (w : Nat) : List Nat → List Nat
  | [] => [w]
  | x :: l => if repPlace w ≤ repPlace x then w :: x :: l else x :: placeIn w l
/-- The words of a report cycle, by ascending die and unit. -/
def cycleOrder (ws : List Nat) : List Nat := ws.foldr placeIn []

/-- A word of version 1, a listed kind and a unit that exists, from a source that sends that kind. -/
def repGood (w : Nat) : Bool :=
  repVer w == 1 && decide (repDie w < 8) && decide (repSrc w < 3) && (repSrc w != 0 || decide (repUnit w < 576)) &&
  (match repKind w with
    | 1 | 6 => repSrc w == 0
    | 2 | 3 => decide (repSrc w < 2)
    | 4 => repSrc w == 1
    | 5 => repSrc w == 2
    | _ => false)

namespace State

/-- A report is taken if it is good and of a row's kind; a bad one is discarded with a record of kind SEN_REPORT_BAD. -/
def onReport (s : State) (w kind : Nat) (g : Die → State → State) : State :=
  if !repGood w then s.senRecord Ev.SEN_REPORT_BAD { detail := repArg2 w }
  else if repKind w ≠ kind then s
  else if h : repDie w < 8 then g ⟨repDie w, h⟩ s else s

/-- The epoch a step implies; a report that names another raises SEN_EPOCH_SKEW once in a window (R273). -/
def epochOf (s : State) (step : Nat) : Nat := step / max 1 (s.rd R.SEN_CTL_DIGEST_STEPS)
def skew (s : State) (d : Die) (step epoch : Nat) : State :=
  if s.epochOf step = epoch || (Ev.SEN_EPOCH_SKEW, 0xFFFF) ∈ s.once then s
  else { s with once := (Ev.SEN_EPOCH_SKEW, 0xFFFF) :: s.once }.senRecord Ev.SEN_EPOCH_SKEW
    { die := some d, epoch := s.epochOf step, step, detail := epoch }

/-! The map (R278–R282). -/

/-- A slot takes a state; FREE and RETIRED count. -/
def setSlot (s : State) (d : Die) (c k code : Nat) : State :=
  let was := s.rd (R.SEN_STATE_SLOT d c k)
  let s := s.wr (R.SEN_STATE_SLOT d c k) code
  let s := s.wr (R.SEN_DIE_STATUS_FREE d) (s.rd (R.SEN_DIE_STATUS_FREE d) + b2n (code == 0) - b2n (was == 0))
  s.wr (R.SEN_DIE_STATUS_RETIRED d) (sat 7 (s.rd (R.SEN_DIE_STATUS_RETIRED d) + b2n (code == 3) - b2n (was == 3)))

/-- The lowest free slot of a cluster that no map change in progress takes. -/
def freeSlot (s : State) (d : Die) (c : Nat) : Option Nat :=
  (List.range 36).find? fun k => s.rd (R.SEN_STATE_SLOT d c k) == 0 &&
    !(s.sen.changes.any fun m => m.die == d && m.cluster == c && m.new == k)

/-- The logical engine on a slot. -/
def logicalOn (s : State) (d : Die) (c k : Nat) : Option Nat :=
  (List.range 32).find? fun j => s.rd (R.SEN_MAP_LOG d c j) == k

/-- A map change is sent; the time it has for MAP_DONE runs from the map command's arrival (R280). -/
def startChange (s : State) (m : MapChange) : State :=
  let s := s.toSat m.die (.map m.cluster m.logical m.old m.new m.planned)
  s.modSen fun q => { q with changes := q.changes ++
    [{ m with due := if s.seamUp m.die.sat then s.now + 10040 else 0 }] }
def dropChange (s : State) (m : MapChange) : State :=
  s.modSen fun q => { q with changes := q.changes.filter fun x => !(x.die == m.die && x.cluster == m.cluster && x.new == m.new) }

/-- No slot is left for a logical engine (R282). -/
def unmapped (s : State) (d : Die) (c logical old : Nat) : State :=
  ((s.wr (R.SEN_MAP_LOG d c logical) 0x3F).flag (R.SEN_DIE_STATUS_DEGRADED d) true).senRecord Ev.SEN_NO_SPARE
    { die := some d, site := 36 * c + old, detail := logical, cluster := c, spare := 0x3F }

/-- A logical engine moves UNPLANNED to the lowest free slot, if there is one. DEDUCED, log 35. -/
def spareFor (s : State) (d : Die) (c logical old : Nat) (again : Bool) : State :=
  match s.freeSlot d c with
  | some k => s.startChange { die := d, cluster := c, logical, old, new := k, planned := false, again, due := 0 }
  | none => s.unmapped d c logical old

/-- A slot is retired for good. -/
def retireSlot (s : State) (d : Die) (c k : Nat) (reason : Nat) : State :=
  let s := (s.setSlot d c k 3).senRecord Ev.SEN_RETIRED
    { die := some d, site := 36 * c + k, action := actRetired, reason, cluster := c }
  (s.toSat d (.remove (36 * c + k))).ringSite d (36 * c + k) 4 Ev.SEN_RETIRED

/-! Margining (R284, R285). -/

def clusterKey (d : Die) (c : Nat) : Nat := 16 * d.val + c
def ladderDone (s : State) (d : Die) (c : Nat) : Bool := s.sen.exhausted.contains (clusterKey d c)

/-- The next step of the ladder for a cluster: clock, voltage, or none left. -/
def ladderStep (s : State) (d : Die) (c : Nat) : State :=
  let clockOk := bit (s.rd (R.ADM_SEAM_STS_FEAT d)) 2 && !bit (s.rd (R.CLK_DIE_CMARGIN_CLUSTER d)) c
  let voltOk := decide (s.rd (R.SEN_DIE_STATUS_VSTEP d) < s.rd R.SEN_MARGIN_CFG_VSTEP_MAX)
  let clock (s : State) : State :=
    (s.setMask (R.CLK_DIE_CMARGIN_CLUSTER d) (2 ^ c)).senRecord Ev.SEN_MARGIN
      { die := some d, action := actMargined, cluster := c }
  let volt (s : State) : State :=
    let s := s.wr (R.SEN_DIE_STATUS_VSTEP d) (s.rd (R.SEN_DIE_STATUS_VSTEP d) + 1)
    let clamped := decide (s.rd (R.RGC_L_VMAX_VMAX d.loop) < s.need d (s.voltRatio d))
    (s.senRecord Ev.SEN_MARGIN
      { die := some d, action := actMargined, cluster := c, detail := b2n clamped }).askMargin d
  if !s.on R.SEN_CTL_MARGIN_POLICY && clockOk then clock s
  else if voltOk then volt s
  else if clockOk then clock s
  else
    (s.modSen fun q => { q with exhausted := clusterKey d c :: q.exhausted.filter (· != clusterKey d c) }).senRecord
      Ev.SEN_MARGIN_EXHAUSTED { die := some d, cluster := c }

/-- The failures of a cluster that still lie in the counting window. -/
def failsOf (s : State) (d : Die) (c : Nat) : List Nat :=
  ((Tab.find s.sen.fails (clusterKey d c)).getD []).filter fun t =>
    decide (s.now - s.frozenTime < t + 1000000000 * s.rd R.SEN_MARGIN_CFG_WIN_S)
def setFails (s : State) (d : Die) (c : Nat) (l : List Nat) : State :=
  (s.modSen fun q => { q with fails := if l.isEmpty then Tab.del q.fails (clusterKey d c) else Tab.put q.fails (clusterKey d c) l }).wr
    (R.SEN_DIE_CLFAULT_CL d c) (sat 4 l.length)

/-- A failure in a cluster counts; CL_N of them take a step. In a freeze the count holds (R303). A ROWCOL_FAIL that fails a
pattern run is one failure. DEDUCED, log 34. -/
def failed (s : State) (d : Die) (c : Nat) : State :=
  if s.frozen then s else
  let l := (s.now - s.frozenTime) :: s.failsOf d c
  if s.rd R.SEN_MARGIN_CFG_CL_N ≤ l.length then (s.setFails d c []).ladderStep d c else s.setFails d c l

/-! Self-test (R287–R289). -/

/-- The patterns of the library in use for a die's type. -/
def patterns (s : State) (d : Die) : List Pattern :=
  match s.sen.lib with
  | some l => l.pats.filter fun p => p.type == s.rd (R.ADM_SEAM_STS_DIE_TYPE d)
  | none => []

/-- Why a test of a slot cannot start now: the lowest reason of R289, 0 if it can. A carrying slot of a die without PLANNED
map changes is not borrowed (R494). -/
def testReason (s : State) (d : Die) (c k : Nat) : Nat :=
  let carrying := s.rd (R.SEN_STATE_SLOT d c k) == 1
  if carrying && ((s.freeSlot d c).isNone || !bit (s.rd (R.ADM_SEAM_STS_FEAT d)) 1) then 1
  else if s.fenced d || s.safeTier d || !s.seamUp d.sat then 2
  else if (s.patterns d).isEmpty then 3
  else if (if h : c < 16 then s.rd (R.CLK_DIE_GATE_STS_CL d c) != 0 || s.gateAsked d ⟨c, h⟩ != 0 else false) then 4
  else if s.frozen then 5
  else if s.rd (R.ADM_DIE_STATUS_POOL d) < 64 then 6 else 0

def modTest (s : State) (t : SenTest) (g : SenTest → Option SenTest) : State :=
  s.modSen fun q => { q with tests := q.tests.filterMap fun x =>
    if x.die == t.die && x.cluster == t.cluster && x.slot == t.slot then g x else some x }

/-- The next pattern of a test starts on its slot. -/
def runPattern (s : State) (t : SenTest) : State :=
  match t.left with
  | some (p :: _) => (s.emit (.testRun t.die (36 * t.cluster + t.slot) p.pid t.run)).ringSite t.die (36 * t.cluster + t.slot) 6 p.pid
  | _ => s

/-- A slot in state test joins the scan for class TEST and runs every pattern. -/
def beginRuns (s : State) (t : SenTest) : State :=
  let t := { t with left := some (s.patterns t.die) }
  let s := s.modTest t fun _ => some t
  (s.toSat t.die (.insert (36 * t.cluster + t.slot) true)).runPattern t

/-- A slot has a test under way. -/
def testOn (s : State) (d : Die) (c k : Nat) : Option SenTest :=
  s.sen.tests.find? fun t => t.die == d && t.cluster == c && t.slot == k

/-- A map change in progress to a slot. DEDUCED, log 35. -/
def changeTo (s : State) (d : Die) (c k : Nat) : Option MapChange :=
  s.sen.changes.find? fun m => m.die == d && m.cluster == c && m.new == k

/-- A test that can start begins: a carrying slot by a PLANNED move, a free one at once; one that cannot is deferred with
its reason. A slot under test is not tested twice, and one that a map change takes is left until the change ends.
DEDUCED, log 34. -/
def tryTest (s : State) (d : Die) (c k : Nat) (asked : Bool) : State :=
  let r := s.testReason d c k
  if let some t := s.testOn d c k then
    s.modTest t fun t => some { t with asked := t.asked || asked }
  else if (s.changeTo d c k).isSome then s
  else if r ≠ 0 then s.deferTest d (36 * c + k) r asked
  else
    let t : SenTest := { die := d, cluster := c, slot := k, asked }
    let s := s.modSen fun q => { q with tests := q.tests ++ [t] }
    if s.rd (R.SEN_STATE_SLOT d c k) = 1 then
      match s.freeSlot d c, s.logicalOn d c k with
      | some n, some j => s.startChange { die := d, cluster := c, logical := j, old := k, new := n, planned := true, due := 0 }
      | _, _ => s.modTest t fun _ => none
    else (s.setSlot d c k 2).beginRuns t

/-- A test ends; one that was asked for shows its result. -/
def testEnd (s : State) (t : SenTest) (pass : Bool) : State :=
  let s := s.modTest t fun _ => none
  if t.asked then
    ((s.wr R.SEN_TEST_REQ_RESULT (if pass then 1 else 2)).flag R.SEN_TEST_REQ_BUSY false).flag R.SEN_TEST_REQ_START false
  else s

/-- The test of a slot is given up, before or during its runs; whether one was asked for. -/
def testDrop (s : State) (d : Die) (c k : Nat) : Bool × State :=
  match s.testOn d c k with
  | some t => (t.asked, s.modTest t fun _ => none)
  | none => (false, s)

/-- A test asked for is tried again while it waits. A retired slot is never used again (R278), nor is a site that does not
exist: the request ends, with a RESULT the spec does not state, a free value. DEDUCED, log 34. -/
def retryAsked (s : State) : State :=
  let d : Die := Fin.ofNat 8 (s.sen.askFor / 1024)
  let n := s.sen.askFor % 1024
  if !s.on R.SEN_TEST_REQ_BUSY || s.sen.tests.any (·.asked) then s
  else if 576 ≤ n || s.rd (R.SEN_STATE_SLOT d (n / 36) (n % 36)) == 3 then
    let (v, s) := s.draw
    ((s.wr R.SEN_TEST_REQ_RESULT (v % 4)).flag R.SEN_TEST_REQ_BUSY false).flag R.SEN_TEST_REQ_START false
  else s.tryTest d (n / 36) (n % 36) true

/-! Reports (R281, R284, R288, R293, R297, R302). -/

/-- The planned move of a slot in progress. -/
def planOf (s : State) (d : Die) (c k : Nat) : Option MapChange :=
  s.sen.changes.find? fun m => m.die == d && m.cluster == c && m.old == k && m.planned

/-- A slot that carries an engine has failed: it leaves admission, its engine moves, and it is tested, or retired where its
cluster's ladder is exhausted (R285). A planned move of it in progress becomes UNPLANNED (R303). -/
def removeSlot (s : State) (d : Die) (c k : Nat) : State :=
  let s := (s.toSat d (.remove (36 * c + k))).ringSite d (36 * c + k) 4 Ev.SEN_ROWCOL_FAIL
  let s := s.setSlot d c k 2
  let s := match s.planOf d c k with
    | some m => (s.dropChange m).startChange { m with planned := false }
    | none => match s.logicalOn d c k with
      | some j => s.spareFor d c j k false
      | none => s
  let (asked, s) := s.testDrop d c k
  if s.ladderDone d c then (s.retireSlot d c k 0).retryAsked else s.tryTest d c k asked

/-- A pattern run fails: the slot is retired (R288). -/
def testFail (s : State) (d : Die) (c k : Nat) (epoch step detail : Nat) : State :=
  let s := match s.testOn d c k with
    | some t => s.testEnd t false
    | none => s
  let s := s.senRecord Ev.SEN_TEST_FAIL
    { die := some d, site := 36 * c + k, action := actRetired, epoch, step, detail, cluster := c }
  s.retireSlot d c k 0

/-- A step before the one the job was rolled back to: its reports no longer touch an epoch (R301). DEDUCED, log 36. -/
def staleStep (s : State) (step : Nat) : Bool := decide (step < s.sen.fromStep)

/-- The effect of a ROWCOL_FAIL word (R281): VERDICT_EN removes and spares a carrying slot, a slot under a pattern run is
retired, and nothing is done to a slot of a fenced die (R303). -/
def rowcolWord (s : State) (w : Nat) : State :=
  s.onReport w 1 fun d s =>
    let c := repUnit w / 36
    let k := repUnit w % 36
    let step := repArg0 w
    let s := s.skew d step (repArg1 w)
    let e := s.epochOf step
    let st := s.rd (R.SEN_STATE_SLOT d c k)
    let held := bit (repArg2 w) 0
    let removes := s.on R.SEN_CTL_VERDICT_EN && !s.fenced d && st == 1
    let fails := !s.fenced d && st == 2 && (s.testOn d c k).any (·.left.isSome)
    let retracts := !held && !s.staleStep step
    let spare := if removes then ((s.planOf d c k).map (·.new)).orElse fun _ => s.freeSlot d c else none
    let s := (s.count (R.SEN_DIE_CNT_FAIL_COUNT d)).ringSite d (repUnit w) 8 step
    let s := s.senRecord Ev.SEN_ROWCOL_FAIL
      { die := some d, site := repUnit w, epoch := e, step, detail := repArg2 w, cluster := c, spare := spare.getD 0
        action := (if removes then actRemoved else 0) + (if spare.isSome then actSpared else 0) +
          (if fails || (removes && s.ladderDone d c) then actRetired else 0) +
          (if retracts && s.retractsFor false e then actRetract else 0) }
    let s := if retracts then s.retractFor false e else s
    let s := if removes then s.removeSlot d c k else if fails then s.testFail d c k e step (repArg2 w) else s
    s.failed d c

/-- The effect of ROWCOL_FAIL: the words of one report cycle in ascending site order (R281, R303). -/
def rowcolFail (s : State) (ws : List Nat) : State :=
  s.each (cycleOrder ws) fun w s => s.rowcolWord w

/-- The effect of CV_MISMATCH (R297). -/
def cvMismatch (s : State) (w : Nat) : State :=
  s.onReport w 2 fun d s =>
    let e := repArg1 w
    (s.senRecord Ev.SEN_CV_MISMATCH
      { die := some d, site := if repSrc w = 0 then repUnit w else 0x3FF, epoch := e, detail := repArg2 w, action := actRetract }).sendRetract e

/-- The effect of POISON (R302). -/
def poison (s : State) (w : Nat) : State :=
  s.onReport w 3 fun d s =>
    let s := s.skew d (repArg0 w) (repArg1 w)
    let e := s.epochOf (repArg0 w)
    let retract := s.on R.SEN_CTL_POISON_RETRACT && !s.staleStep (repArg0 w)
    let job := s.on R.BUD_JOB_CTL_RUNNING
    let s := s.senRecord Ev.SEN_POISON
      { die := some d, site := if repSrc w = 0 then repUnit w else 0x3FF, epoch := e, step := repArg0 w, detail := repArg2 w
        action := (if job then actAborted else 0) + (if retract && s.retractsFor true e then actRetract else 0) }
    let s := if s.on R.SEN_STATUS_ABORT then s else (s.flag R.SEN_STATUS_ABORT true).emit (.abortLine true)
    let s := if job then s.flag R.BUD_JOB_CTL_STOP true else s
    if retract then s.retractFor true e else s

/-- A weight check value is folded into its die's digest of the epoch (R293). -/
def weightCv (s : State) (w : Nat) : State :=
  s.onReport w 4 fun d s =>
    if !s.on R.SEN_CTL_DIGEST_EN then s
    else
      let x := crc32c (bytesOf 4 (repArg0 w) ++ bytesOf 4 (repArg2 w))
      let e := repArg1 w
      s.modSenDie d fun q =>
        let (a, n) := (Tab.find q.fold e).getD (0, 0)
        { q with fold := Tab.put q.fold e ((a + x) % 2 ^ 32, (n + 1) % 2 ^ 32) }

/-- An epoch closes on a die with its last STEP_END: the digest stands, goes to the comparer, and the epoch may be
verified (R293, R295, R297). -/
def closeEpoch (s : State) (d : Die) (e : Nat) : State :=
  let (a, n) := (Tab.find s.sen.die[d].fold e).getD (0, 0)
  let g := a * 2 ^ 32 + n
  let s := s.modSenDie d fun q => { q with fold := Tab.del q.fold e, closed := Tab.put q.closed e g }
  let s := (s.wr (R.SEN_DIE_DIGEST_DIGEST d) g).wr (R.SEN_DIE_DIGEST_EPOCH_EPOCH d) e
  let s := match s.sen.verdicts.find? (fun v => v.1 == s.rd (R.SEN_DIE_GROUP_GROUP d) && v.2.1 == e) with
    | some v => s.takeVerdict d v.1 e v.2.2.1 v.2.2.2
    | none => s
  (if s.grouped d e then s.sendDigest d e g else s).verify e

/-- The effect of STEP_END (R297). DEDUCED, log 36. -/
def stepEnd (s : State) (w : Nat) : State :=
  s.onReport w 5 fun d s =>
    let step := repArg0 w
    let s := s.skew d step (repArg1 w)
    let e := s.epochOf step
    if s.staleStep step then s
    else
      let s := s.wr R.SEN_EPOCH_CUR e
      if s.retracted e || (step + 1) % max 1 (s.rd R.SEN_CTL_DIGEST_STEPS) ≠ 0 then s else s.closeEpoch d e

/-- The signature record of a run (R292). -/
def exportRun (s : State) (t : SenTest) (p : Pattern) (obs : Nat) (pass : Bool) : State :=
  let x := s.rd R.SEN_FLEET_EXPORT
  if !(x == 2 || (x == 1 && !pass)) then s
  else
    let u (k v : Nat) : List Nat := cborHead 0 k ++ cborHead 0 v
    let d := t.die
    s.queueTx ⟨0xF1, cborHead 5 13 ++ u 0 1 ++ u 1 s.index ++ u 2 d ++ u 3 (36 * t.cluster + t.slot) ++ u 4 p.pid ++
      u 5 (s.rd R.SEN_LIB_VER_VER) ++ u 6 p.expect ++ u 7 obs ++ cborHead 0 8 ++ cborBool pass ++ u 9 s.lkTime ++
      u 10 (s.rd (R.RGC_L_TGT_TARGET d.loop)) ++
      u 11 s.clkDie[d].cluster[Fin.ofNat 16 t.cluster].ratio ++
      cborHead 0 12 ++ cborInt (signed 16 (s.rd (R.THM_DIE_STATUS_T_DIE d)))⟩

/-- A pattern run ends with its signature: the next pattern follows, the slot is freed after the last, or retired after a
failure (R288). The run number counts from 0 in each test, modulo 2^16; a signature of another pattern or run is ignored, and
the record of a failed run holds the observed signature in DETAIL. DESIGN CHOICE, log 34. -/
def testSig (s : State) (w : Nat) : State :=
  s.onReport w 6 fun d s =>
    let c := repUnit w / 36
    let k := repUnit w % 36
    match s.testOn d c k with
    | some t => match t.left with
      | some (p :: more) =>
        if bits (repArg0 w) 0 16 ≠ p.pid || bits (repArg0 w) 16 16 ≠ t.run % 2 ^ 16 then s
        else
          let pass := repArg1 w == p.expect
          let s := (s.count R.SEN_CNT_TESTS_COUNT).ringSite d (repUnit w) 7 (b2n pass)
          let s := s.exportRun t p (repArg1 w) pass
          if !pass then (s.testFail d c k 0 0 (repArg1 w)).failed d c
          else if more.isEmpty then ((s.testEnd t true).setSlot d c k 0).toSat d (.remove (repUnit w))
          else
            let t := { t with left := some more, run := t.run + 1 }
            (s.modTest t fun _ => some t).runPattern t
      | _ => s
    | none => s

/-! The queue (R275, R276). -/

/-- Once space frees, one record carries the number of records not queued. -/
def queueOvf (s : State) : State :=
  let n := s.sen.unqueued
  if n = 0 || decide (256 ≤ s.sen.txq.length) then s
  else (s.modSen fun q => { q with unqueued := 0 }).senRecord Ev.SEN_QUEUE_OVF { detail := n }

/-- The SVP, while it renders its services, sends the oldest item to the BMC (R275, R407). -/
def sendRecord (s : State) : State :=
  match s.sen.txq with
  | t :: l => if s.serves .svp then (s.setTxq l).emit (.bmcEvent t.cls t.bytes) else s
  | [] => s

/-! Map changes (R280). -/

/-- A site's part in the scan changes at the next stroke boundary. -/
def scanChange (s : State) (d : Die) (site code : Nat) (first : Bool) : State :=
  s.modAdm d fun a => { a with slotNext := a.slotNext ++ [(site, code, first)] }

/-- A moved slot's test begins its runs, unless a library taken into use meanwhile has none for the die: then it is deferred
(R288, R289). -/
def movedTest (s : State) (t : SenTest) : State :=
  if (s.patterns t.die).isEmpty then (s.modTest t fun _ => none).deferTest t.die (36 * t.cluster + t.slot) 3 t.asked
  else s.beginRuns t

/-- MAP_DONE: the map names the new slot, which joins the scan first; a moved slot leaves it and is tested. A test asked for
that waited for the change is tried again (R287). -/
def mapDone (s : State) (d : Die) (c k : Nat) : State :=
  match s.changeTo d c k with
  | none => s
  | some m =>
    let s := ((s.dropChange m).wr (R.SEN_MAP_LOG d c m.logical) k).setSlot d c k 1
    let s := (s.count (R.SEN_DIE_CNT_SWAP_COUNT d)).scanChange d (36 * c + k) 1 true
    let s := s.senRecord Ev.SEN_SPARED
      { die := some d, site := 36 * c + m.old, action := actSpared, spare := k, cluster := c, detail := m.logical }
    let s := s.ringSite d (36 * c + k) 5 (m.logical + 256 * b2n m.planned)
    if !m.planned then s.retryAsked
    else
      let s := (s.scanChange d (36 * c + m.old) 0 false).setSlot d c m.old 2
      match s.testOn d c m.old with
      | some t => (s.movedTest t).retryAsked
      | none => s.retryAsked

/-- The effect of MAP_READY (R280). -/
def mapReady (s : State) (d : Die) (c k : Nat) : State :=
  s.modSen fun q => { q with changes := q.changes.map fun m =>
    if m.die == d && m.cluster == c && m.new == k && m.planned then { m with ready := true } else m }

/-- No MAP_DONE in time: the new slot is retired, and the change is repeated once with the next free slot. -/
def mapTimeout (s : State) (d : Die) (c k : Nat) : State :=
  match s.changeTo d c k with
  | none => s
  | some m =>
    if m.due = 0 then s
    else
      let s := (s.advance m.due).dropChange m
      let s := s.senRecord Ev.SEN_MAP_TIMEOUT { die := some d, site := 36 * c + k, action := actRetired, cluster := c, detail := m.logical }
      let s := s.retireSlot d c k 0
      match s.freeSlot d c, m.again with
      | some n, false => (s.startChange { m with new := n, again := true, ready := false }).retryAsked
      | _, _ =>
        if !m.planned then (s.unmapped d c m.logical m.old).retryAsked
        else
          let (asked, s) := s.testDrop d c m.old
          s.deferTest d (36 * c + m.old) 1 asked

/-! Margins cleared (R286). -/

/-- The effect of MARGIN_CLR_VSTEP (R286). Clearing a margin gives the ladder a step again, so that the clusters concerned
are no longer exhausted. DESIGN CHOICE, log 35. -/
def clearVstep (s : State) (d : Die) : State :=
  ((s.wr (R.SEN_DIE_STATUS_VSTEP d) 0).modSen fun q => { q with exhausted := q.exhausted.filter fun k => k / 16 != d.val }).lowerVoltage d
/-- The effect of MARGIN_CLR_CLUSTER (R286). -/
def clearClusters (s : State) (d : Die) (mask : Nat) : State :=
  (s.clrMask (R.CLK_DIE_CMARGIN_CLUSTER d) mask).modSen fun q => { q with
    exhausted := q.exhausted.filter fun k => !(k / 16 == d.val && bit mask (k % 16)) }

/-! Self-test commands (R287). -/

/-- A slot the periodic tests take: free or, on a die with PLANNED map changes, carrying. -/
def testable (s : State) (n : Nat) : Bool :=
  let k := s.rd (R.SEN_STATE_SLOT (n / 576) (n % 576 / 36) (n % 36))
  k == 0 || (k == 1 && bit (s.rd (R.ADM_SEAM_STS_FEAT (n / 576))) 1)

/-- The next such slot from one on, in ascending die, cluster and slot order, of the 4,608 slots. -/
def nextTestable (s : State) : Nat → Nat → Option Nat
  | 0, _ => none
  | k + 1, n => if s.testable n then some n else s.nextTestable k ((n + 1) % 4608)

/-- Slots in state test without a test are tried again. -/
def retryFailed (s : State) : State :=
  s.each dies fun (d : Die) s => s.each (List.range 576) fun n s =>
    if s.rd (R.SEN_STATE_SLOT d (n / 36) (n % 36)) == 2 && (s.testOn d (n / 36) (n % 36)).isNone then
      s.tryTest d (n / 36) (n % 36) false else s

/-- The effect of SELF_TEST_PERIOD (R287). -/
def testPeriod (s : State) : State :=
  let p := s.rd R.SEN_TEST_PERIOD_MS
  if !s.on R.SEN_CTL_TEST_EN || p = 0 then s
  else
    let t := if s.sen.nextTest = 0 then s.now + 1000000 * p else s.sen.nextTest
    let s := (s.advance t).modSen fun q => { q with nextTest := t + 1000000 * p }
    let s := s.retryAsked.retryFailed
    match s.nextTestable 4608 s.sen.nextSlot with
    | none => s
    | some n =>
      let d : Die := ⟨n / 576 % 8, Nat.mod_lt _ (by decide)⟩
      let ok := s.testReason d (n % 576 / 36) (n % 36) = 0
      let s := s.tryTest d (n % 576 / 36) (n % 36) false
      s.modSen fun q => { q with nextSlot := if ok then (n + 1) % 4608 else n }

/-- START with the slot named in DIE and SITE. DEDUCED, log 34. -/
def testReq (s : State) (d : Die) (site : Nat) : State :=
  if s.on R.SEN_TEST_REQ_START then s
  else
    let s := (s.wr R.SEN_TEST_REQ_DIE d).wr R.SEN_TEST_REQ_SITE site
    let s := ((s.flag R.SEN_TEST_REQ_START true).flag R.SEN_TEST_REQ_BUSY true).wr R.SEN_TEST_REQ_RESULT 0
    ((s.wr R.SEN_TEST_REQ_REASON 0).modSen fun q => { q with askFor := 1024 * d.val + site % 1024 }).retryAsked

/-! Libraries (R290, R291). -/

/-- Entry `i` of a library (R290). -/
def patternAt (b : List Nat) (i : Nat) : Pattern :=
  let o := 32 + 32 * i
  { pid := numAt b o 2, cls := numAt b (o + 2) 1, fmt := numAt b (o + 3) 1, sp := numAt b (o + 4) 1, type := numAt b (o + 5) 1
    len := numAt b (o + 6) 2, seed := numAt b (o + 8) 8, expect := numAt b (o + 0x10) 4 }

/-- A library as its bytes spell it: the header, then COUNT entries (R290). -/
def libraryOf (b : List Nat) (signed : Bool) : Library :=
  { ver := numAt b 0 2, count := numAt b 2 2, libVer := numAt b 4 4, libId := numAt b 8 2, keySlot := numAt b 0xA 2
    bodyLen := numAt b 0xC 4, pats := (List.range (numAt b 2 2)).map (patternAt b), whole := b.length == numAt b 0xC 4 + 96, signed }

/-- VER, COUNT and BODY_LEN agree with one another and with the bytes that came, and each entry is one of R290: a class of 0
to 5 and a length of 1 to 4,096 strokes. DEDUCED, log 37. -/
def libraryOk (l : Library) : Bool :=
  l.ver == 1 && decide (1 ≤ l.count) && decide (l.count ≤ 256) && l.bodyLen == 32 + 32 * l.count && l.whole &&
    l.pats.all fun p => decide (p.cls ≤ 5) && decide (1 ≤ p.len) && decide (p.len ≤ 4096)

/-- A library passes the checks of the TRP (R291). -/
def takesLibrary (s : State) (l : Library) : Bool :=
  l.signed && s.keyFor l.keySlot 1 && decide (((s.libStored.map (·.libVer)).getD 0) < l.libVer) && libraryOk l

/-- The TRP checks a library that arrives while PUSH is 1. The spec gives no codes for REASON: a free value.
DEDUCED, log 37. -/
def libraryArrives (s : State) (l : Library) : State :=
  if s.rd R.SEN_FLEET_PUSH ≠ 1 || s.rd (R.MGT_P_STATE_STATE 0) ≠ 2 then s
  else if s.takesLibrary l then
    ({ s with libStored := some l }.modSen fun q => { q with libNext := some l }).senRecord Ev.SEN_LIB_LOADED { detail := l.libVer }
  else
    let (v, s) := s.draw
    s.senRecord Ev.SEN_LIB_REJECTED { detail := l.libVer, reason := v % 256 }

/-- A library is taken into use. DEDUCED, log 37. -/
def useLibrary (s : State) (l : Library) : State :=
  let s := s.modSen fun q => { q with lib := some l, libNext := none }
  (((s.flag R.SEN_STATUS_LIB_VALID true).wr R.SEN_LIB_LIB_ID l.libId).wr R.SEN_LIB_COUNT l.count).wr R.SEN_LIB_VER_VER l.libVer

/-- The effect of LIBRARY_SWITCH (R291). A test keeps one library for all its runs: the switch waits while any test has
runs left. DESIGN CHOICE, log 37. -/
def librarySwitch (s : State) : State :=
  match s.sen.libNext with
  | some l => if s.sen.tests.any (fun t => t.left.isSome) then s else s.useLibrary l
  | none => s

/-! Epochs (R295, R296, R301, R302) and retirement (R305). -/

/-- The effect of DIGEST_WAIT_EXPIRY (R295). -/
def digestWait (s : State) (group epoch : Nat) : State :=
  match s.sen.cmps.find? (fun c => c.group == group && c.epoch == epoch) with
  | some c => (s.advance c.due).formVerdict c
  | none => s

/-- The effect of EXPELLED_CLEAR (R296). -/
def expelledClear (s : State) (d : Die) : State :=
  if s.on (R.SEN_DIE_STATUS_EXPELLED d) then
    (s.flag (R.SEN_DIE_STATUS_EXPELLED d) false).modSenDie d fun q => { q with rejoin := s.rd R.SEN_EPOCH_CUR + 1 }
  else s

/-- The host has rolled back: step reports are taken from the retracted epoch on. DEDUCED, log 36. -/
def retractAck (s : State) : State :=
  if !s.on R.SEN_STATUS_RETRACT_PEND then s
  else
    let e := s.rd R.SEN_RETRACT_EPOCH
    let s := (s.flag R.SEN_STATUS_RETRACT_PEND false).modSen fun q => { q with
      fromStep := e * s.rd R.SEN_CTL_DIGEST_STEPS, sentFor := [] }
    s.each dies fun (d : Die) s => s.modSenDie d fun q => { q with fold := q.fold.filter fun p => decide (p.1 < e) }

/-- The effect of ABORT_CLEAR (R302). -/
def abortClear (s : State) : State :=
  if s.on R.SEN_STATUS_ABORT then (s.flag R.SEN_STATUS_ABORT false).emit (.abortLine false) else s

/-- GO while the block is disabled: the slot is retired, and an engine it carries moves. DEDUCED, log 35. -/
def slotRetire (s : State) (d : Die) (c k : Nat) : State :=
  if s.on R.GLB_GOV_CTL_ENABLE || s.on R.GLB_STATUS_ENABLED || decide (36 ≤ k) || decide (16 ≤ c) then s
  else
    let s := (s.wr (R.SEN_DIE_RETIRE_SLOT d) k).wr (R.SEN_DIE_RETIRE_CLUSTER d) c
    let st := s.rd (R.SEN_STATE_SLOT d c k)
    if st = 3 then s
    else
      let s := (s.testDrop d c k).2.retireSlot d c k 0
      let s : State := if st = 1 then match s.planOf d c k, s.logicalOn d c k with
        | some m, _ => (s.dropChange m).startChange { m with planned := false }
        | none, some j => s.spareFor d c j k false
        | none, none => s
      else match s.changeTo d c k with
        | some m => if m.planned then ((s.dropChange m).testDrop d c m.old).2 else (s.dropChange m).spareFor d c m.logical m.old m.again
        | none => s
      s.retryAsked

end State

/-- ROWCOL_FAIL (R281). -/
def execRowcolFail (ws : List Nat) (s : State) : Res := .next (s.when s.live (·.rowcolFail ws))
/-- CV_MISMATCH (R297). -/
def execCvMismatch (w : Nat) (s : State) : Res := .next (s.when s.live (·.cvMismatch w))
/-- POISON (R302). -/
def execPoison (w : Nat) (s : State) : Res := .next (s.when s.live (·.poison w))
/-- WEIGHT_CV (R293). -/
def execWeightCv (w : Nat) (s : State) : Res := .next (s.when s.live (·.weightCv w))
/-- STEP_END (R297). -/
def execStepEnd (w : Nat) (s : State) : Res := .next (s.when s.live (·.stepEnd w))
/-- TEST_SIG (R288). -/
def execTestSig (w : Nat) (s : State) : Res := .next (s.when s.live (·.testSig w))
/-- SEN_QUEUE_OVF (R276). -/
def execSenQueueOvf (s : State) : Res := .next (s.when s.live (·.queueOvf))
/-- SEN_RECORD_SEND (R275). -/
def execSenRecordSend (s : State) : Res := .next (s.when s.live (·.sendRecord))
/-- MAP_DONE (R280). -/
def execMapDone (d : Die) (c : Cluster) (slot : Nat) (s : State) : Res := .next (s.when s.live (·.mapDone d c slot))
/-- MAP_READY (R280). -/
def execMapReady (d : Die) (c : Cluster) (slot : Nat) (s : State) : Res := .next (s.when s.live (·.mapReady d c slot))
/-- MAP_TIMEOUT (R280). -/
def execMapTimeout (d : Die) (c : Cluster) (slot : Nat) (s : State) : Res := .next (s.when s.live (·.mapTimeout d c slot))
/-- MARGIN_CLR_VSTEP (R286). -/
def execMarginClrVstep (d : Die) (s : State) : Res := .next (s.when s.live (·.clearVstep d))
/-- MARGIN_CLR_CLUSTER (R286). -/
def execMarginClrCluster (d : Die) (mask : Nat) (s : State) : Res := .next (s.when s.live (·.clearClusters d mask))
/-- SELF_TEST_PERIOD (R287). -/
def execSelfTestPeriod (s : State) : Res := .next (s.when s.live (·.testPeriod))
/-- TEST_REQ_START (R287). -/
def execTestReqStart (d : Die) (site : Nat) (s : State) : Res := .next (s.when s.live (·.testReq d site))
/-- LIBRARY_COMPONENT (R291). -/
def execLibraryComponent (bytes : List Nat) (sigOk : Bool) (s : State) : Res :=
  .next (s.when s.live (·.libraryArrives (State.libraryOf bytes sigOk)))
/-- LIBRARY_SWITCH (R291). -/
def execLibrarySwitch (s : State) : Res := .next (s.when s.live (·.librarySwitch))
/-- DIGEST_WAIT_EXPIRY (R295). -/
def execDigestWaitExpiry (group epoch : Nat) (s : State) : Res := .next (s.when s.live (·.digestWait group epoch))
/-- EXPELLED_CLEAR (R296). -/
def execExpelledClear (d : Die) (s : State) : Res := .next (s.when s.live (·.expelledClear d))
/-- RETRACT_ACK (R301). -/
def execRetractAck (s : State) : Res := .next (s.when s.live (·.retractAck))
/-- ABORT_CLEAR (R302). -/
def execAbortClear (s : State) : Res := .next (s.when s.live (·.abortClear))
/-- SLOT_RETIRE (R305). -/
def execSlotRetire (d : Die) (c : Cluster) (slot : Nat) (s : State) : Res := .next (s.when s.live (·.slotRetire d c slot))

end Sys2Proof.Machine
end

