-- ==== Sys2Proof/Machine/Budget.lean ====
section
/-!
DEFINITION. Machine/Budget.lean: the learned budget table (R96–R103), the estimate and its comparison with the
measurement (R94, R108–R110), the division of the cap (R86, R104–R106), bursts (R90, R91), the operating point (R107),
the shares (R64), load steps (R72, R100) and the decision of a window (R42).
Currents are numbers of 1/2,457,600,000 A, in which every term of R94 and R104 is whole.
-/
namespace Sys2Proof.Machine

/-- Units of current in 1 A, in 1/16 A and in a token of 90 mA (R47). -/
abbrev unitA : Nat := 2457600000
abbrev unit16 : Nat := 153600000
abbrev unitTok : Nat := 221184000


/-! Entries of the learned table (R97), as twelve words. -/

namespace LtEntry
/-- A valid entry, of the version that the block reads (R13). -/
def valid (e : List Nat) : Bool := bits (nth e 0) 0 4 == 1 && bit (nth e 1) 0
def holds (e : List Nat) (layer op : Nat) : Bool := valid e && bits (nth e 0) 16 16 == layer && bits (nth e 0) 4 12 == op
def conf (e : List Nat) : Nat := bits (nth e 1) 4 4
def bin (e : List Nat) (b : Nat) : Nat := bits (nth e (2 + b / 2)) (16 * (b % 2)) 13
def putWord (e : List Nat) (k v : Nat) : List Nat := (List.range 12).map fun j => if j = k then v else nth e j
def setConf (e : List Nat) (c : Nat) : List Nat := putWord e 1 (putBits (nth e 1) 4 4 c)
def setBin (e : List Nat) (b v : Nat) : List Nat := putWord e (2 + b / 2) (putBits (nth e (2 + b / 2)) (16 * (b % 2)) 13 v)
/-- A run ends: RUNS, and CONF of a run that was not marked as missed (R102). -/
def ended (e : List Nat) (missed : Bool) : List Nat :=
  let e := putWord e 1 (putBits (nth e 1) 16 16 (sat 16 (bits (nth e 1) 16 16 + 1)))
  if missed then e else setConf e (min 15 (conf e + 1))
/-- The entry as it is written out: its reserved bits are zero (R13, R97). -/
def written (e : List Nat) : List Nat :=
  [nth e 0, nth e 1 &&& 0xFFFF00F1] ++ ((List.range 8).map fun k => nth e (k + 2) &&& 0x1FFF1FFF) ++ [0, 0]
/-- VALID and CONF cleared. -/
def invalid (e : List Nat) : List Nat := putWord e 1 (putBits (putBits (nth e 1) 0 1 0) 4 4 0)
/-- A new entry for a key, every bin at one value. -/
def fresh (layer op o : Nat) : List Nat := [1 + op * 2 ^ 4 + layer * 2 ^ 16, 1] ++ List.replicate 8 (o + o * 2 ^ 16) ++ [0, 0]
end LtEntry

/-- Index of a layer and operator in the learned table (R96). -/
def ltIndex (layer op : Nat) : Nat := (op % 4096) ^^^ (layer % 4096) ^^^ (bits layer 12 4 * 0x111)

namespace State

def modRail (s : State) (l : Loop) (g : RailSt → RailSt) : State := { s with rail := s.rail.set l (g s.rail[l]) }

/-- An entry of the learned table, and its change. DEDUCED, log 21. -/
def entry (s : State) (k : Nat) : List Nat := (Tab.find s.gov.table k).getD (List.replicate 12 0)
/-- An entry of the learned table is written; one of zeros leaves the table. DEDUCED, log 21. -/
def setEntry (s : State) (k : Nat) (e : List Nat) : State :=
  let e := (List.range 12).map fun j => nth e j % 2 ^ 32
  s.modGov fun g => { g with table := if e.all (· == 0) then Tab.del g.table k else Tab.put g.table k e }

/-- The bin of a window of a run (R98). -/
def binOf (s : State) (k : Nat) : Nat := min 15 (k / max 1 (s.rd R.BUD_LT_CFG_BIN_WIN))
def measured (s : State) (l : Loop) : Bool := s.on (R.BUD_RAIL_STATUS_MEASURED l)
/-- A rail is in measured mode in the window that the next boundary begins (R108, R110). -/
def measuredNext (s : State) (l : Loop) : Bool := (s.measured l || s.rail[l].enter) && !s.rail[l].leave

/-- A die's observations count (R103, R118). -/
def learns (s : State) (d : Die) : Bool :=
  s.on R.BUD_CTL_LT_LEARN && !s.measured d.loop && s.seamUp d.sat && s.inShare d

/-- The open bin of a die's run closes with its observation (R101, R102); the entries invalidated at the same boundary
keep what that left (R118), and a die that contributes no observation when the bin closes teaches nothing (R103, R109).
DEDUCED, log 21. -/
def closeBin (s : State) (d : Die) (b : Nat) (inval : List Nat) : State :=
  match s.govDie[d].run with
  | none => s
  | some r =>
    let setRun (s : State) (r : RunSt) : State := s.modGovDie d fun g => { g with run := some r }
    let k := ltIndex r.layer r.op
    let e := s.entry k
    match r.obs with
    | none => s
    | some o =>
      let o := sat 13 o
      let r := { r with obs := none }
      if r.dead || inval.contains k || !s.learns d then setRun s r
      else if LtEntry.holds e r.layer r.op then
        let p := LtEntry.bin e b
        if p < o then
          let miss := decide (p * (100 + s.rd R.BUD_CTL_TOL_PCT) < 100 * o)
          let e := LtEntry.setBin e b o
          setRun (s.setEntry k (if miss then LtEntry.setConf e (LtEntry.conf e - 4) else e))
            { r with matched := true, missed := r.missed || miss }
        else setRun (s.setEntry k (LtEntry.setBin e b (p - (p - o) / 2 ^ s.rd R.BUD_CTL_DECAY_SHIFT))) { r with matched := true }
      else if b ≠ 0 then setRun s r
      else if !LtEntry.valid e || decide (LtEntry.conf e < s.rd R.BUD_CTL_REPLACE_CONF) then
        setRun (s.setEntry k (LtEntry.fresh r.layer r.op o)) r
      else setRun (s.setEntry k (LtEntry.setConf e (LtEntry.conf e - 1))) { r with dead := true }

/-- A run ends at OP_END or a new OP_START (R101, R102); the governor does not learn from a measured die (R109). -/
def endRun (s : State) (d : Die) : State :=
  match s.govDie[d].run with
  | none => s
  | some r =>
    let s := s.closeBin d (match r.start with
      | some w => s.binOf (s.window - w)
      | none => 0) []
    let s := match s.govDie[d].run with
      | some r =>
        let k := ltIndex r.layer r.op
        if r.matched && s.on R.BUD_CTL_LT_LEARN && !s.measured d.loop && LtEntry.holds (s.entry k) r.layer r.op then
          s.setEntry k (LtEntry.ended (s.entry k) r.missed)
        else s
      | none => s
    s.modGovDie d fun g => { g with run := none }

/-- A run at a window boundary: it starts, or the window just ended gives its observation, and the bin that ends closes
(R98, R101). -/
def runBoundary (s : State) (d : Die) (inval : List Nat) : State :=
  match s.govDie[d].run with
  | none => s
  | some r =>
    match r.start with
    | none => s.modGovDie d fun g => { g with run := some { r with start := some s.window } }
    | some w =>
      let k := s.window - 1 - w
      let s : State := match s.govDie[d].closing, s.learns d with
        | some p, true =>
          let o := cdiv (p.win.reqPeak * 16) (max 1 p.win.scale)
          s.modGovDie d fun g => { g with run := some { r with obs := some (max o (r.obs.getD 0)) } }
        | _, _ => s
      if s.binOf (k + 1) = s.binOf k then s else s.closeBin d (s.binOf k) inval

/-- An entry may be used for prediction on a die (R99, R109). -/
def usable (s : State) (d : Die) (layer op : Nat) : Bool :=
  let e := s.entry (ltIndex layer op)
  s.on R.BUD_CTL_LT_EN && LtEntry.holds e layer op && decide (s.rd R.BUD_CTL_USE_CONF ≤ LtEntry.conf e) && !s.measuredNext d.loop

/-- D_pred (R99). -/
def predicted (s : State) (d : Die) : Option Nat :=
  match s.govDie[d].run with
  | some r => match r.start with
    | some w =>
      if s.usable d r.layer r.op then
        some (cdiv (LtEntry.bin (s.entry (ltIndex r.layer r.op)) (s.binOf (s.window - w + 1)) * (s.lastWin d).scale) 16)
      else none
    | none => none
  | none => none
/-- The die's demand in tokens. -/
def demand (s : State) (d : Die) : Nat := max (s.lastWin d).reqPeak ((s.predicted d).getD 0)

/-! Estimate and measurement (R94, R108–R110). -/

/-- V_r of R86, in mV: the target, and while V_ref, taken without a pre-arm's offset (R183), is still on its way down to it
that. DEDUCED, log 19. -/
def volt (s : State) (l : Loop) : Nat :=
  max (s.rd (R.RGC_L_TGT_TARGET l)) ((s.loop[l].vref - s.loop[l].vofs) / 1000)
/-- M of a rail, in 1/16 A. -/
def meas (s : State) (l : Loop) : Nat := s.rd (R.RGC_L_TEL_I_AVG l)

/-- I_leak at a temperature in 1/16 °C, in 1/320 A. -/
def leakAt (s : State) (l : Loop) (t : Int) : Int :=
  let p0 : Int := s.rd (R.BUD_RAIL_LEAK_P45 l)
  let p1 : Int := s.rd (R.BUD_RAIL_LEAK_P65 l)
  let p2 : Int := s.rd (R.BUD_RAIL_LEAK_P85 l)
  let p3 : Int := s.rd (R.BUD_RAIL_LEAK_P105 l)
  if t ≤ 720 then 320 * p0
  else if t ≤ 1040 then 320 * p0 + (p1 - p0) * (t - 720)
  else if t ≤ 1360 then 320 * p1 + (p2 - p1) * (t - 1040)
  else if t ≤ 1680 then 320 * p2 + (p3 - p2) * (t - 1360)
  else 320 * p3

/-- The estimate of a rail from its satellite's report (R94). -/
def estimate (s : State) (l : Loop) (r : WinRpt) : Nat :=
  let leak := (s.leakAt l r.tMax).toNat
  if l.val < 8 then
    leak * s.volt l * 10240 + r.win.gWin * 6912000 +
      ((List.range 15).map fun j => s.rd (R.BUD_WGT_W l (j + 1)) * nth r.act j * 75000).foldl (· + ·) 0
  else
    leak * 7680000 +
      ((List.range 4).map fun j => s.rd (R.BUD_WGT_W l j) * nth r.act (4 * (l.val - 8) + j) * 75000).foldl (· + ·) 0

/-- The report of the window just ended that covers a rail. -/
def railRpt (s : State) (l : Loop) : Option WinRpt := match l.die? with
  | some d => s.govDie[d].rpt
  | none => s.rptIo

/-- Estimate and measurement of a rail are compared, and its windows counted; without a report the last estimate stands
and the count is held (R108, R110, R118). -/
def compare (s : State) (l : Loop) : State :=
  let s := s.wr (R.BUD_RAIL_EST_MEAS l) (s.meas l)
  match s.railRpt l with
  | none => s
  | some r =>
    let e := s.estimate l r
    let s := (s.modRail l fun q => { q with est := e }).wr (R.BUD_RAIL_EST_EST l) (sat 14 (e / unit16))
    let lim := if s.rail[l].lim = 0 then s.rd (R.BUD_RAIL_LIM_LIMIT l) else s.rail[l].lim
    let differs := decide (s.rd R.BUD_MISMATCH_PCT * lim * unit16 < 100 * ((e : Int) - (s.meas l * unit16 : Nat)).natAbs)
    let n := if differs != s.measured l then s.rd (R.BUD_RAIL_STATUS_RUN l) + 1 else 0
    let s := s.wr (R.BUD_RAIL_STATUS_RUN l) (min 511 n)
    if s.measured l then s.modRail l fun q => { q with leave := decide (489 ≤ n), enter := false }
    else s.modRail l fun q => { q with enter := decide (s.rd R.BUD_MISMATCH_WIN ≤ n) && decide (0 < n), leave := false }

/-- Index of the learned entry of the layer and operator running on a rail's die, if there is one. -/
def runEntry (s : State) (l : Loop) : Option Nat :=
  match l.die?.bind fun d => s.govDie[d].run with
  | some r => if LtEntry.holds (s.entry (ltIndex r.layer r.op)) r.layer r.op then some (ltIndex r.layer r.op) else none
  | none => none

/-- A rail enters or leaves measured mode at a boundary (R108, R110). -/
def modeBoundary (s : State) (l : Loop) : State :=
  let q := s.rail[l]
  let s := s.modRail l fun q => { q with enter := false, leave := false }
  let s :=
    if q.enter then
      let s := ((s.flag (R.BUD_RAIL_STATUS_MEASURED l) true).wr (R.BUD_RAIL_STATUS_RUN l) 0).raise Ev.MODEL_MISMATCH l
        (s.rd (R.BUD_RAIL_EST_EST l) + s.rd (R.BUD_RAIL_EST_MEAS l) * 2 ^ 16)
      match s.runEntry l with
      | some k => s.setEntry k (LtEntry.invalid (s.entry k))
      | none => s
    else if q.leave then
      ((s.flag (R.BUD_RAIL_STATUS_MEASURED l) false).wr (R.BUD_RAIL_STATUS_RUN l) 0).raise Ev.MODEL_AGREE l
    else s
  if s.measured l then s.count (R.BUD_RAIL_CNT_MEASURED_COUNT l) else s

/-! The division of the cap (R86, R104). -/

def eff (s : State) (l : Loop) : Nat := max 1 (s.rd (R.BUD_RAIL_EFF_EFF l))
/-- The least common multiple of the efficiencies: powers are counted in 1/(unitA × this) W. -/
def effLcm (s : State) : Nat := loops.foldl (fun n (l : Loop) => Nat.lcm n (s.eff l)) 1
/-- The 12 V power of a rail at a voltage and current. -/
def power (s : State) (n : Nat) (l : Loop) (mv i : Nat) : Nat := mv * i * (n / s.eff l)
/-- A number of watts in that unit. -/
def watts (n w : Nat) : Nat := w * unitA * n

/-- LIMIT of a rail in the divisions of R104 and R111: with phases out of use its capability takes the place of LIMIT
(R218). DEDUCED, log 19. -/
def limIn (s : State) (l : Loop) : Nat :=
  if s.nAv l = s.nph l then s.rd (R.BUD_RAIL_LIM_LIMIT l) else min (s.rd (R.BUD_RAIL_LIM_LIMIT l)) (s.rd (R.RGC_L_PHLOSS_CAP l))

/-- Q of a rail that is reserved rather than shared: L8 to L15, and those of fenced and safe-tier dies, from the
measurement (R104); an overloaded rail L8 to L15 at OVL_PCT of its reference (R213). DEDUCED, log 18 and 19. -/
def reservation (s : State) (l : Loop) : Nat :=
  let lim := s.limIn l
  let m := s.meas l * unit16
  if 8 ≤ l.val && s.on (R.RGC_L_OVL_FEATHER l) then s.rd (R.RGC_L_PROT_OVL_PCT l) * s.iRef l * 1536000
  else if s.measuredNext l then min (lim * unit16) (m + s.rd R.BUD_MISMATCH_GUARD_PCT * lim * 1536000)
  else min (lim * unit16) ((if l.val < 8 then m else max s.rail[l].est m) + s.rd R.BUD_RES_RES_GUARD * lim * 1536000)

/-- A rail is reserved. -/
def reservedRail (s : State) (l : Loop) : Bool := match l.die? with
  | some d => !s.inShare d
  | none => true
def reservedPower (s : State) (n : Nat) : Nat :=
  ((loops.filter s.reservedRail).map fun (l : Loop) => s.power n l (s.volt l) (s.reservation l)).foldl (· + ·) 0

/-- F, D and H of R104. -/
def floorI (s : State) : Nat := s.rd R.ADM_UNCORE_ALLOW * unitA + 64 * unitTok
def topI (s : State) (d : Die) : Nat := s.limIn d.loop * unit16
def wantI (s : State) (d : Die) : Nat := min (s.topI d) (s.rd R.ADM_UNCORE_ALLOW * unitA + s.demand d * unitTok)

/-- Power of the shared rails at given currents. -/
def sharedPower (s : State) (n : Nat) (f : Die → Nat) : Nat :=
  ((dies.filter s.inShare).map fun (d : Die) => s.power n d.loop (s.volt d.loop) (f d)).foldl (· + ·) 0

/-- The limits of the shared rails under a cap, in 1/16 A, with the branch of R104 taken: 0 to 2. DEDUCED, log 19. -/
def divide (s : State) (n cap : Nat) : List (Die × Nat) × Nat :=
  let ds := dies.filter s.inShare
  let b : Int := (cap : Int) - s.reservedPower n
  let pf := s.sharedPower n fun _ => s.floorI
  let pd := s.sharedPower n s.wantI
  let ph := s.sharedPower n s.topI
  let cut (d : Die) (i : Int) (den : Nat) : Die × Nat := (d, min (s.limIn d.loop) (i.toNat / (den * unit16)))
  if b < pf then (ds.map fun d => cut d s.floorI 1, 0)
  else if (pd : Int) ≤ b then
    if ph = pd then (ds.map fun d => cut d (s.topI d) 1, 1)
    else
      let x := min (ph - pd) (b - pd).toNat
      (ds.map fun d => cut d (s.wantI d * (ph - pd) + x * (s.topI d - s.wantI d) : Nat) (ph - pd), 1)
  else
    let y := (b - pf).toNat
    (ds.map fun d => cut d ((s.floorI : Int) * (pd - pf) + y * ((s.wantI d : Int) - s.floorI)) (pd - pf), 2)

/-- The burst of the next window (R90, R91). DEDUCED, log 20. -/
def burstDecision (s : State) (demanded sust : Nat) : Bool :=
  let left := s.rd R.BUD_STATUS_BURST_LEFT
  if s.gov.burst then decide (sust < demanded) && decide (2 < left)
  else s.on R.BUD_CTL_BURST_EN && left == s.rd R.BUD_BURST_MAX && decide (0 < left) && decide (sust < demanded)

/-- The governor divides the cap for the next window: limits, CAP_BOUND, BUD_CAP_UNMET and the burst (R104, R106, R109). -/
def shareCap (s : State) : State :=
  let n := s.effLcm
  let sust := watts n (s.rd R.BUD_PKG_CAP_SUST)
  let demanded := s.reservedPower n + s.sharedPower n s.wantI
  let b := s.burstDecision demanded sust
  let s := s.modGov fun g => { g with burstNext := b }
  let (lims, branch) := s.divide n (if b then min (watts n (s.rd R.BUD_PKG_CAP_PEAK)) demanded else sust)
  let s := s.flag R.BUD_STATUS_CAP_BOUND (branch == 2)
  let s := s.raiseIf (branch == 0) Ev.BUD_CAP_UNMET
  let s := s.each lims fun (d, i) s =>
    let i := if s.measuredNext d.loop then (100 - s.rd R.BUD_MISMATCH_GUARD_PCT) * i / 100 else i
    s.modRail d.loop fun q => { q with limNext := some i }
  s.each (dies.filter fun d => !s.inShare d) fun d s =>
    s.modRail d.loop fun q => { q with limNext := some (s.reservation d.loop / unit16) }

/-- P_in from the measurements of the window just ended, and the credit it returns: a window of a burst returns none
(R86, R91). -/
def powerIn (s : State) : State :=
  let n := s.effLcm
  let p := (loops.map fun (l : Loop) => s.power n l (s.volt l) (s.meas l * unit16)).foldl (· + ·) 0
  let s := s.wr R.BUD_PIN_WATTS (sat 13 (p / watts n 1))
  let left := s.rd R.BUD_STATUS_BURST_LEFT
  if s.gov.burst || s.gov.burstWas || decide (watts n (s.rd R.BUD_PKG_CAP_SUST) < p) || decide (s.rd R.BUD_BURST_MAX ≤ left) then s
  else if s.gov.refill + 1 < s.rd R.BUD_BURST_REFILL then s.modGov fun g => { g with refill := g.refill + 1 }
  else (s.modGov fun g => { g with refill := 0 }).wr R.BUD_STATUS_BURST_LEFT (left + 1)

/-! Pools (R48, R109, R111). -/

/-- The pool of a limit in 1/16 A (R48); one above 8,191 tokens, which the field POOL cannot show, stays at 8,191.
DESIGN CHOICE, log 19. -/
def poolOf (s : State) (lim : Nat) : Nat := sat 13 ((lim - 16 * s.rd R.ADM_UNCORE_ALLOW) * 100 / 144)
/-- U of R109, in units. -/
def unaccounted (s : State) (d : Die) : Nat :=
  max (s.rd R.ADM_UNCORE_ALLOW * unitA) (s.meas d.loop * unit16 - (s.lastWin d).gWin * 6912000)
/-- The limit a rail is given next: that held for it, or the one in effect. DEDUCED, log 19. -/
def limNext (s : State) (d : Die) : Nat := s.rail[d.loop].limNext.getD (s.rd (R.BUD_RAIL_STATUS_LIM_EFF d.loop))

/-- The pool the governor's division gives a die for the next window; SAFE_POOL at the safe tier, none on a fenced die. -/
def divisionPool (s : State) (d : Die) : Nat :=
  if s.fenced d then 0
  else if s.safeTier d then s.rd R.ADM_SEAM_CFG_SAFE_POOL
  else if s.measuredNext d.loop then sat 13 ((s.limNext d * unit16 - s.unaccounted d) / unitTok)
  else s.poolOf (s.limNext d)

/-- The thermal requests of a die for the next window (R256–R258). -/
def thermalRequest (s : State) (d : Die) : State :=
  let s := (s.withdraw d srcSoft).withdraw d srcHard
  let p := s.thmPct d * (if s.inShare d then s.poolOf (s.limNext d) else s.divisionPool d) / 100
  if s.fenced d then s
  else if s.thmHard d.sat || s.thmHard 8 then
    s.modGovDie d fun g => { g with poolReq := Tab.put g.poolReq srcHard p
                                    ratioReq := Tab.put g.ratioReq srcHard (s.rd R.THM_THROT_HARD_RATIO) }
  else if s.thmPct d < 100 then s.modGovDie d fun g => { g with poolReq := Tab.put g.poolReq srcSoft p }
  else s

/-- PACE_CAP (R111). DEDUCED, log 23. -/
def paceCap (s : State) : Nat :=
  let n := s.effLcm
  let io := ((loops.filter fun (l : Loop) => decide (8 ≤ l.val)).map fun (l : Loop) =>
    s.power n l (s.volt l) (s.limIn l * unit16)).foldl (· + ·) 0
  let ds := dies.filter s.inShare
  let each := (watts n (s.rd R.BUD_PKG_CAP_SUST) - io) / max 1 ds.length
  let pool (d : Die) : Nat :=
    let i := each / max 1 (s.need d s.gov.paceRatio * (n / s.eff d.loop)) / unit16
    s.poolOf (min i (s.limIn d.loop)) * s.thmPct d / 100
  match ds.map pool with
  | [] => 0
  | p :: t => t.foldl min p

/-! The operating point (R107, R132, R145). -/

/-- The block is enabled in the window that the next boundary begins (R351, R353). -/
def enabledNext (s : State) : Bool :=
  (s.on R.GLB_STATUS_ENABLED && !s.gov.offAsked) || s.gov.check == some none

/-- The fastest ratio code allowed. -/
def opMax (s : State) : Nat :=
  min 6 (if s.rd R.CLK_SRC_ACTIVE = 2 then max (s.rd R.BUD_OPSEL_OPMAX) (s.rd R.CLK_SRC_CTL_INT_OPMAX) else s.rd R.BUD_OPSEL_OPMAX)

/-- At a window boundary on the internal oscillator the governor slows a die whose command of the window is faster than
INT_OPMAX, as after a switch that came when the window's command had been sent (R130, R132). -/
def applyIntOpmax (s : State) (d : Die) : State :=
  let k := min 6 (s.rd R.CLK_SRC_CTL_INT_OPMAX)
  let g := s.govDie[d]
  if s.rd R.CLK_SRC_ACTIVE ≠ 2 || decide (k ≤ g.ratio) then s
  else ((s.announceFall d g.pool k).modGovDie d fun g => { g with ratio := k, changed := s.window }).sendSeam d.sat
    (some s.nextStroke) (.reduce g.pool (some k) none)

/-- Throughput of a die at a ratio, in engines of 50 MHz (R107). -/
def throughput (s : State) (d : Die) (w : WinCount) (k : Nat) : Nat :=
  let c := cdiv (cdiv w.baseSum w.reqCount * (s.scale k + s.margin d.loop)) 16
  (if c = 0 then w.sitePeak else min w.sitePeak (s.divisionPool d / c)) * (240 / divisor k)

/-- The ratio of R107 for a die; a present ratio faster than the fastest allowed is left at once (R132).
DEDUCED, log 23. -/
def chooseRatio (s : State) (d : Die) : Nat :=
  let g := s.govDie[d]
  let lo := s.opMax
  match g.rpt with
  | none => max g.ratio lo
  | some r =>
    if r.win.reqCount = 0 then max g.ratio lo
    else
      let t := s.throughput d r.win
      let best := ((List.range 7).filter fun k => decide (lo ≤ k)).foldl (fun b k => if t b ≤ t k then k else b) lo
      if g.ratio < lo then best
      else if t g.ratio * (100 + s.rd R.BUD_OPSEL_HYST_PCT) < t best * 100 && decide (g.changed + s.rd R.BUD_OPSEL_HOLD ≤ s.window) then best
      else g.ratio

/-- The governor's operating point for a die: that of a schedule in fixed-pace mode (R112), else the choice of R107; a held
die goes no faster, and while the block is disabled ÷16 stands. -/
def setRatio (s : State) (d : Die) : State :=
  let g := s.govDie[d]
  let k :=
    if !s.enabledNext then 6
    else if s.gov.pace.isSome || !s.gov.paceNext.isEmpty then max (min 6 s.gov.paceRatio) s.opMax
    else if s.inShare d then s.chooseRatio d else max g.ratio s.opMax
  let k := if s.hold[d].held then max k g.ratio else k
  if k = g.ratio then s else s.modGovDie d fun g => { g with ratio := k, changed := s.window }

/-! Inputs of a window (R42, R69, R145). -/

/-- The governor learns that a hint has ended; a disarmed or dropped one whose step was announced releases the pre-arm,
unless another announced one remains. -/
def hintOver (s : State) (d : Die) (id : Nat) (disarmed : Bool) : State :=
  let was := s.govDie[d].announced.contains id
  let s := s.modGovDie d fun g => { g with hints := g.hints.filter (·.id != id), announced := g.announced.filter (· != id) }
  if disarmed && was && s.govDie[d].announced.isEmpty then s.sendRgc (.release d.loop) else s

/-- After ACK_RETRY timeouts in a row the governor holds the die at its present ratio. -/
def timeoutTaken (s : State) (d : Die) (n : Nat) : State :=
  if n < s.rd R.CLK_RAMP_ACK_RETRY || s.hold[d].held then s
  else
    let s := (s.modHold d fun h => { h with held := true, released := false }).raise Ev.CLK_OP_HELD d
    s.modGovDie d fun g => { g with ratio := max g.ratio (s.ratio d) }

def takeReport (s : State) (x : Sat) (r : Report) : State :=
  match r with
  | .late => s.count (R.REC_AO_COUNT 2)
  | .temps t => match t with
    | some v => s.takeTemp x v
    | none => s
  | .opStart layer op => match x.die? with
    | some d => (s.endRun d).modGovDie d fun g => { g with run := some { layer, op } }
    | none => s
  | .opEnd => match x.die? with
    | some d => s.endRun d
    | none => s
  | .hint id layer op lead => match x.die? with
    | some d => s.modGovDie d fun g => { g with hints := g.hints ++ [{ id, layer, op, lead }] }
    | none => s
  | .hintEnded id disarmed => match x.die? with
    | some d => s.hintOver d id disarmed
    | none => s
  | .window r => match x.die? with
    | some d =>
      let s := s.modGovDie d fun g => { g with rpt := some r, lastRpt := some r }
      match r.timeouts with
      | some n => s.timeoutTaken d n
      | none => s
    | none => { s with rptIo := some r, lastIo := some r }

/-- Every input that has arrived at the deadline, 256 ns after the boundary, is held for the window; a later one waits for
the next (R42). Reports that the Seam had not carried when it went down wait for it; a window's report or a
conversion's results that are still there have come. -/
def takeIn (s : State) : State :=
  let here (i : Nat × Sat × Report) : Bool :=
    decide (i.1 ≤ 2048 * s.window + 256 + s.frozenTime) && (s.seamUp i.2.1 || lostOnWay i.2.2)
  let l := s.inbox.filter here
  { s with inbox := s.inbox.filter fun i => !here i }.each l fun i s => s.takeReport i.2.1 i.2.2

/-! Shares and load steps (R64, R72, R100, R182). -/

/-- The die holds a fast-catch reservation. -/
def reserves (s : State) (d : Die) : Bool :=
  s.fastAble d && !s.measuredNext d.loop && !s.govDie[d].announced.isEmpty

/-- The share of a die for the next window. -/
def shareOf (s : State) (d : Die) : Nat :=
  let pkg := s.rd R.ADM_PKG_SLOPE_STEP
  let n := (dies.filter s.reserves).length
  let base := min (s.rd R.ADM_RAMP_STEP) (pkg / 8)
  let v :=
    if !s.reserves d then base
    else if n = 8 then min (s.rd R.ADM_RAMP_FAST_STEP) (pkg / 8)
    else min (s.rd R.ADM_RAMP_FAST_STEP) ((pkg - (8 - n) * base) / max 1 n)
  if s.measuredNext d.loop then min v (s.rd R.BUD_MISMATCH_SLOPE * 64 / 90) else v

/-- A change of tokens, given against the mean grant of the last window, in 1/16 A. -/
def stepDi (s : State) (d : Die) (tokens : Nat) : Int := 144 * (32 * (tokens : Int) - (s.lastWin d).gWin) / 3200

/-- The step of a hint: up to the predicted demand of its first bin, or to the pool (R100). -/
def hintStep (s : State) (d : Die) (h : GovHint) : Int :=
  if s.usable d h.layer h.op then
    s.stepDi d (cdiv (LtEntry.bin (s.entry (ltIndex h.layer h.op)) 0 * (s.lastWin d).scale) 16)
  else s.stepDi d (s.poolWanted d (s.divisionPool d))

/-- The rises of the hints just taken in; one that pre-arms the loop makes the die hold a reservation (R64, R183). -/
def hintSteps (s : State) (d : Die) : State × List Int :=
  let l := (s.govDie[d].hints.filter (·.fresh)).map fun h => (h.id, s.hintStep d h)
  let up := l.filter fun p => decide (0 < p.2)
  let arm := (up.filter fun p => decide ((16 * s.rd R.RGC_PREARM_MIN_A : Int) ≤ p.2)).map (·.1)
  (s.modGovDie d fun g => { g with hints := g.hints.map fun h => { h with fresh := false }, announced := g.announced ++ arm }, up.map (·.2))

/-- The difference a running operator's prediction makes, where it is at least STEP_MIN (R100). -/
def runSteps (s : State) (d : Die) : List Int :=
  match s.predicted d with
  | some t =>
    let x : Int := 32 * (t : Int) - (s.lastWin d).gWin
    if s.rd R.BUD_LT_CFG_STEP_MIN * 3200 ≤ 9 * x.natAbs then [s.stepDi d t] else []
  | none => []

/-- The pool and ratio the governor commands for the next window (R32, R353, R354). Until a die has stepped to the ratio
commanded its pool is not enlarged: step 4 of R35 comes after step 3 (R34). -/
def ratioNext (s : State) (d : Die) : Nat := s.ratioWanted d s.govDie[d].ratio
def poolNext (s : State) (d : Die) : Nat :=
  let p := if s.enabledNext then s.poolWanted d (s.divisionPool d) else 0
  if s.ratioNext d < s.ratio d then min p s.govDie[d].pool else p

/-- The command for a die's next window is sent; one that carries the capability pool for the loop's present N_av clears
PHASE in the RGC (R38, R42, R219). -/
def sendWindow (s : State) (d : Die) : State :=
  let p := s.poolNext d
  let nav := if (Tab.find s.govDie[d].poolReq srcPhase).isSome then some (s.nAv d.loop) else none
  let c : WinCmd := ⟨p, s.ratioNext d, s.shareOf d, s.measuredNext d.loop, nav, s.hold[d].held && !s.on (R.CLK_DIE_DIV_HELD d)⟩
  if !s.seamUp d.sat then s
  else
    let s := (s.modGovDie d fun g => { g with pool := p }).sendSeam d.sat (some (2048 * (s.window + 1))) (.window c)
    if nav.isSome then s.rgcCuff d.loop .phase false else s

/-- Load steps leave for the RGC. -/
def sendSteps (s : State) (d : Die) (l : List Int) : State :=
  s.each l fun di s => s.sendRgc (.loadStep d.loop di (s.shareOf d * 90 / 64) (s.window + 1))

/-- The set-points of L11 to L15 follow VNOM: one that has changed goes to the RGC (R165). -/
def setPoints (s : State) : State :=
  s.each (loops.filter fun (l : Loop) => decide (11 ≤ l.val)) fun l s =>
    let v := s.clampTarget l (s.rd (R.RGC_L_VNOM_VNOM l))
    if s.regulates l && s.rd (R.RGC_L_TGT_TARGET l) != v then s.sendRgc (.setPoint l v) else s

/-- Set-points on the control bus reach the RGC, one governor cycle after they were sent (R37, R165). No other command lies
between: the block's next instant is the earlier of the two. DEDUCED, log 24. -/
def takeSetPoints (s : State) : State :=
  s.each s.bus fun e s => match e.2 with
    | .setPoint l v =>
      let s := { s.advance e.1 with bus := s.bus.erase e }
      if s.regulates l then s.setTarget l (s.clampTarget l v) else s
    | _ => s

/-- The decision of the present window, at its input deadline 256 ns after the boundary (R42). A command that cannot
reach its satellite by the next boundary is an overrun (R43). DEDUCED, log 20. -/
def windowDecision (s : State) : State :=
  if s.frozen || s.windowIdx = 0 || s.gov.decided = some s.window then s
  else
    let s := (s.advance (2048 * s.window + 256 + s.frozenTime)).modGov fun g => { g with decided := some s.window }
    let s := s.each dies fun d s => if s.hold[d].released then s.modHold d fun _ => {} else s
    let s := s.takeIn
    let s := (s.each loops fun l s => s.compare l).powerIn.shareCap
    let s := s.each dies fun d s => (s.thermalRequest d).setRatio d
    let (s, ups) := dies.foldl (fun (p : State × List (Die × List Int)) (d : Die) =>
      if !p.1.fenced d then (let q := p.1.hintSteps d; (q.1, p.2 ++ [(d, q.2)])) else p) (s, [])
    let s := s.each ups fun (d, l) s => s.sendSteps d (l ++ s.runSteps d ++ s.fallSteps d (s.poolNext d) (s.ratioNext d))
    let s := s.when (2048 * (s.window + 1) < s.cyc + 40) (·.count (R.REC_AO_COUNT 1))
    let s := (s.each dies fun d s => s.sendWindow d).setPoints.takeSetPoints
    (s.wr R.BUD_PACE_CAP_CAP s.paceCap).paceUp

/-! Jobs and accesses to the learned table (R115, R117, R120). -/

/-- A JOB_CTL write: a START while a job runs, a STOP while none does, or both in one write, is rejected.
DEDUCED, log 22. -/
def jobRequest (s : State) (start stop : Bool) : State :=
  if start == stop || start == s.on R.BUD_JOB_CTL_RUNNING then
    (if start || stop then (s.flag R.BUD_JOB_CTL_ERR true).raise Ev.BUD_JOB_ERR else s)
  else s.flag (if start then R.BUD_JOB_CTL_START else R.BUD_JOB_CTL_STOP) true

/-- LT_ACC.READ copies the entry at INDEX at once. -/
def ltAccRead (s : State) : State :=
  let e := s.entry (s.rd R.BUD_LT_ACC_INDEX)
  s.each (List.range 12) fun k s => s.wr (R.BUD_LT_DATA_WORD k) (nth e k)

/-- WRITE and INVAL_ALL wait for the next window boundary, and BUSY shows it. -/
def ltAccAsk (s : State) (f : Fld) : State := (s.flag f true).flag R.BUD_LT_ACC_BUSY true

end State

/-- WINDOW_DECISION (R42). -/
def execWindowDecision (s : State) : Res := .next (s.when s.live (·.windowDecision))
/-- LT_ACC_READ (R120). -/
def execLtAccRead (s : State) : Res := .next (s.when s.live (·.ltAccRead))
/-- LT_ACC_WRITE (R120). -/
def execLtAccWrite (s : State) : Res := .next (s.when s.live (·.ltAccAsk R.BUD_LT_ACC_WRITE))
/-- LT_ACC_INVAL_ALL (R120). -/
def execLtAccInvalAll (s : State) : Res := .next (s.when s.live (·.ltAccAsk R.BUD_LT_ACC_INVAL_ALL))
/-- JOB_START (R115). -/
def execJobStart (alsoStop : Bool) (s : State) : Res := .next (s.when s.live (·.jobRequest true alsoStop))
/-- JOB_STOP (R115). -/
def execJobStop (alsoStart : Bool) (s : State) : Res := .next (s.when s.live (·.jobRequest alsoStart true))

end Sys2Proof.Machine
end

