-- ==== Sys2Proof/Machine/Hints.lean ====
section
/-!
DEFINITION. Machine/Hints.lean: the commands of the hint port and of the cost table: HEAVY_AHEAD, OP_START, OP_END,
ARM_TIMEOUT and COST_SWAP (R54, R66–R70).
-/
namespace Sys2Proof.Machine
namespace State

/-- A condition of R70 holds: hints that arrive are discarded without event. -/
def hintless (s : State) (d : Die) : Bool :=
  !s.seamUp d.sat || s.safeTier d || s.fenced d || !s.vcl[d.sat].sat.up

/-- The TAG packet of a running layer and operator that change (R440). -/
def traceTag (s : State) (d : Die) (layer op : Nat) (stop : Bool) : State :=
  s.trace 7 d 4 [layer + op * 2 ^ 16 + d.val * 2 ^ 28 + b2n stop * 2 ^ 32]

/-- A HEAVY_AHEAD becomes the pending hint and is forwarded, unless HINT_EN is 0 or a condition of R70 holds (R67–R70).
DEDUCED, log 18. -/
def heavyAhead (s : State) (d : Die) (layer op lead : Nat) : State :=
  if !s.on R.ADM_CTL_HINT_EN || s.hintless d then s
  else
    let a := s.adm[d]
    let h : Hint := { id := a.hintSeq, layer, op, lead }
    let s := s.modAdm d fun a => { a with hintSeq := a.hintSeq + 1 }
    let s := match a.pend with
      | some p => (s.report d.sat (.hintEnded p.id false)).raise Ev.ADM_HINT_REPLACED d
      | none => s
    let s := (s.setHints d (some h) a.act).report d.sat (.hint h.id layer op lead)
    s.raiseIf (!Hint.canArm s h) Ev.ADM_HINT_LATE d lead

/-- An OP_START sets the running layer and operator. One that matches the pending hint makes it active, with its arm,
after any active hint has ended; one of another layer or operator than the active hint's ends that hint (R67, R69). -/
def opStart (s : State) (d : Die) (layer op : Nat) : State :=
  let s := ((s.modAdm d fun a => { a with run := some (layer, op) }).report d.sat (.opStart layer op)).traceTag d layer op false
  let is (h : Hint) : Bool := h.layer == layer && h.op == op
  match s.adm[d].pend with
  | some p =>
    if is p then
      let s := s.endActive d
      s.setHints d none (some p)
    else if (s.adm[d].act.map is).getD true then s else s.endActive d
  | none => if (s.adm[d].act.map is).getD true then s else s.endActive d

/-- An OP_END clears the running layer and operator and ends the active hint of its operator (R67, R69). -/
def opEnd (s : State) (d : Die) (layer op : Nat) : State :=
  let s := ((s.modAdm d fun a => { a with run := none }).report d.sat .opEnd).traceTag d layer op true
  match s.adm[d].act with
  | some h => if h.layer == layer && h.op == op then s.endActive d else s
  | none => s

/-- A word arrives at the hint port: one of an unknown version or of the reserved type is discarded with ADM_HINT_BAD
(R66). -/
def hintWord (s : State) (d : Die) (w : Nat) : State :=
  if !s.live then s
  else if hintVer w ≠ 1 ∨ hintType w = 3 then s.raise Ev.ADM_HINT_BAD d
  else if hintType w = 0 then s.opStart d (hintLayer w) (hintOp w)
  else if hintType w = 1 then s.heavyAhead d (hintLayer w) (hintOp w) (hintLead w)
  else s.opEnd d (hintLayer w) (hintOp w)

/-- The pending hint's timeout passes: it is disarmed and reported, and ADM_PREARM_TIMEOUT is raised (R69). The strokes it
counts stand while the satellite is frozen. -/
def armTimeout (s : State) (d : Die) : State :=
  match s.adm[d].pend.bind (·.deadline) with
  | some t =>
    if s.seam[d.sat].stopped then s
    else ((s.advance (s.now + (t - s.own d.sat))).endPending d).raise Ev.ADM_PREARM_TIMEOUT d
  | none => s

/-- Bits of COST_SWAP.DIE are set; each die's bank is copied at the next window boundary (R54). -/
def costSwap (s : State) (mask : Nat) : State := s.setMask R.ADM_COST_SWAP_DIE (mask % 256)

end State

/-- HEAVY_AHEAD (R69). -/
def execHeavyAhead (d : Die) (w : Nat) (s : State) : Res := .next (s.hintWord d w)
/-- OP_START (R67). -/
def execOpStart (d : Die) (w : Nat) (s : State) : Res := .next (s.hintWord d w)
/-- OP_END (R67). -/
def execOpEnd (d : Die) (w : Nat) (s : State) : Res := .next (s.hintWord d w)
/-- ARM_TIMEOUT (R69). -/
def execArmTimeout (d : Die) (s : State) : Res := .next (s.when s.live (·.armTimeout d))
/-- COST_SWAP (R54). -/
def execCostSwap (mask : Nat) (s : State) : Res := .next (s.when s.live (·.costSwap mask))

end Sys2Proof.Machine
end

