-- ==== Sys2Proof/Machine/Fabric.lean ====
section
/-!
DEFINITION. Machine/Fabric.lean: the memory map of the management fabric with each initiator's rights, the words its RAM
holds, the processors' protection entries, and the areas of the main flash with who may program them (R384–R387, R402, R447).
-/
namespace Sys2Proof.Machine

/-- A right on the fabric: to read, to write, to execute; `half` where a mailbox's roles limit the first two. -/
inductive Right where
  | read | write | execute | half
  deriving DecidableEq, Repr

/-- A range of the fabric and the rights of TRP, PLP, SVP and host there (R384). -/
structure Region where
  base : Nat
  size : Nat
  trp  : List Right
  plp  : List Right
  svp  : List Right
  host : List Right
  deriving DecidableEq, Repr

/-- The fabric's memory map (R384). -/
def fabric : List Region := [
  ⟨0x00000000, 0x10000, [.read, .execute], [], [], []⟩,
  ⟨0x00010000, 0x30000, [.read, .write, .execute], [], [], []⟩,
  ⟨0x00040000, 0x10000, [.read, .write], [], [], []⟩,
  ⟨0x00080000, 0x800, [.read, .write], [], [], []⟩,
  ⟨0x00100000, 0x80000, [.read, .write], [.read, .write, .execute], [], []⟩,
  ⟨0x00180000, 0x80000, [.read, .write], [], [.read, .write, .execute], []⟩,
  ⟨0x00200000, 0x10000, [.read, .write], [.read, .write, .half], [.read, .write, .half], []⟩,
  ⟨0x00210000, 0x30000, [.read, .write], [.read, .write], [.read, .write], []⟩,
  ⟨0x10000000, 0x100000, [.read, .write], [.read, .write], [.read, .write], [.read, .write]⟩,
  ⟨0x20000000, 0x4000000, [.read], [.read], [.read], []⟩,
  ⟨0x30000000, 0x10000, [.read, .write], [], [.read, .write], []⟩]

/-- The rights of an initiator in a range. -/
def Region.rights (g : Region) (who : Init) : List Right := match who with
  | .trp => g.trp | .plp => g.plp | .svp => g.svp | .host => g.host
/-- An address lies in a range of some size. -/
def within (base size a : Nat) : Bool := decide (base ≤ a) && decide (a < base + size)

/-- In the long-message buffers requester and responder of a mailbox read both halves; the requester writes the request
half, the lower one, and the responder the reply half (R384). DEDUCED, log 47. -/
def halfOk (who : Init) (q : Right) (a : Nat) : Bool :=
  let k := (a - 0x200000) / 0x2000
  let req := who.code == R.mbxReq k
  let rsp := who.code == R.mbxRsp k
  match q with
  | .read => req || rsp
  | .write => if a % 0x2000 < 0x1000 then req else rsp
  | _ => false

/-- The fabric firewall lets an initiator have an access of a kind at an address; an address outside the map is refused
(R384, R385). DEDUCED, log 47. -/
def mayAccess (who : Init) (q : Right) (a : Nat) : Bool :=
  match fabric.find? fun g => within g.base g.size a with
  | some g => (g.rights who).contains q && (!(g.rights who).contains .half || halfOk who q a)
  | none => false

/-- The register window on the fabric. -/
def inWindow (a : Nat) : Bool := within 0x10000000 0x100000 a
/-- A processor's own SRAM, outside of which its stores go through the buffer (R402). -/
def ownSram (p : Proc) (a : Nat) : Bool := match p with
  | .trp => within 0x10000 0x40000 a
  | .plp => within 0x100000 0x80000 a
  | .svp => within 0x180000 0x80000 a
/-- A load from here is an ordering point: the register window, the flash window, the service port controller (R402). -/
def ordersLoad (a : Nat) : Bool := inWindow a || within 0x20000000 0x4000000 a || within 0x30000000 0x10000 a
/-- The shared SRAM, where an AMO or LR/SC is allowed (R402). -/
def sharedSram (a : Nat) : Bool := within 0x210000 0x30000 a
/-- The processors' SRAMs and the shared one. -/
def inSram (a : Nat) : Bool := within 0x10000 0x40000 a || within 0x100000 0x100000 a || sharedSram a
def inLong (a : Nat) : Bool := within 0x200000 0x10000 a
def inKeys (a : Nat) : Bool := within 0x80000 0x800 a
/-- Where the image of a processor is loaded (R388). -/
def sramBase (p : Proc) : Nat := match p with
  | .trp => 0x10000
  | .plp => 0x100000
  | .svp => 0x180000

/-- The satellite that holds a register of the window: those listed once per die in the areas of admission, of clocks and
droop, and of the thermal sensors (R31, R37, R402). DEDUCED, log 47. -/
def regSat (off : Nat) : Option Sat :=
  let sat (base size : Nat) : Option Sat := some (Fin.ofNat 9 ((off - base) / size))
  if within 0x10100 0x800 off then sat 0x10100 0x100
  else if within 0x11000 0x1000 off then sat 0x11000 0x200
  else if within 0x12000 0x1000 off then sat 0x12000 0x200
  else if within 0x30100 0x800 off then sat 0x30100 0x100
  else if within 0x60100 0x900 off then sat 0x60100 0x100
  else none

/-! Physical memory protection (R386, R387), by the RISC-V privileged specification. PRESUMED, log 47. -/

/-- The lowest bits of a number that are set, up to the first that is not. -/
def trailingOnes : Nat → Nat → Nat
  | 0, _ => 0
  | n + 1, v => if v % 2 = 1 then trailingOnes n (v / 2) + 1 else 0
/-- An entry, with the address of the one before it, covers an address: by TOR, NA4 or NAPOT. -/
def pmpCovers (cfg lo hi a : Nat) : Bool :=
  match bits cfg 3 2 with
  | 1 => decide (4 * lo ≤ a) && decide (a < 4 * hi)
  | 2 => a / 4 == hi
  | 3 => let n := 2 ^ (trailingOnes 32 hi + 1); a / 4 / n == hi / n
  | _ => false
/-- The bit of pmpcfg that lets a right. -/
def pmpBit (q : Right) : Nat := match q with
  | .write => 1
  | .execute => 2
  | _ => 0

/-- A key slot as its 128 bytes (R391). -/
def keyBytes (k : Option KeySlot) : List Nat := match k with
  | some k => bytesOf 2 k.ver ++ bytesOf 2 k.use ++ List.replicate 28 0 ++ bytesOf 48 k.x ++ bytesOf 48 k.y
  | none => List.replicate 128 0
/-- A list with an item set, and zeros up to it. -/
def putAt (l : List Nat) (k v : Nat) : List Nat := (List.range (max l.length (k + 1))).map fun j => if j = k then v else nth l j

/-- The flash controller refuses a program or erase request: that of a processor other than the one to which R447 gives the
area; the vendor key block's and those of the areas it gives to none, always (R392, R447). -/
def flashRefuses (p : Proc) (off : Nat) : Bool :=
  if off < 0x20000 || within 0x100000 0x280000 off then p != .trp
  else if within 0x50000 0x60000 off then p != .plp
  else if within 0x400000 0x400000 off then p != .svp
  else true

namespace State

def modMgt (s : State) (g : MgtSt → MgtSt) : State := { s with mgt := g s.mgt }
def modProc (s : State) (p : Proc) (g : ProcSt → ProcSt) : State :=
  s.modMgt fun m => { m with proc := m.proc.set p.fin (g m.proc[p.fin]) }
def proc (s : State) (p : Proc) : ProcSt := s.mgt.proc[p.fin]

/-- An address of the window belongs to a satellite that is dead: its Seam is down, or its die is fenced (R402). -/
def deadTarget (s : State) (a : Nat) : Bool :=
  inWindow a && (regSat (a - 0x10000000)).any fun x => !s.seamUp x || s.on (R.ADM_SEAM_STS_FENCED x)

/-- The kind by which an access outside of a processor's own SRAM fails before its target acts, if it does: misaligned, which
counts as a device's error; refused by the firewall; its target dead (R375, R385, R403). DEDUCED, log 47. -/
def accessFails (s : State) (p : Proc) (q : Right) (a size : Nat) : Option Nat :=
  if ownSram p a then none
  else if !mayAccess p.init q a then some 2
  else if a % 2 ^ size ≠ 0 then some 3
  else if s.deadTarget a then some 1 else none

/-- The kind by which a buffered store fails, if it does: as any access; or by an error of the device, which the flash
controller gives a program or erase request only where R447 refuses it (R402, R403). -/
def storeKind (s : State) (p : Proc) (e : BufStore) (kind : Nat) (flash : Option Nat) : Option Nat :=
  match s.accessFails p .write e.addr e.size with
  | some k => some k
  | none => if kind = 3 && !ownSram p e.addr && flash.all (flashRefuses p) then some 3 else none

/-- The kind by which a load fails, if it does. A read of the key slots gives any processor but the TRP zero without an
error (R385). -/
def loadKind (s : State) (p : Proc) (a size : Nat) (err : Bool) : Option Nat :=
  if inKeys a && p != .trp then none
  else match s.accessFails p .read a size with
    | some k => some k
    | none => if err && !ownSram p a then some 3 else none

/-- A processor's protection entries let an access of M-mode: the first entry that covers its address does not bind it, or
has the right; none covers it (R386, R387). PRESUMED, log 47. -/
def pmpLets (s : State) (p : Proc) (q : Right) (a : Nat) : Bool :=
  let cfg := (s.proc p).pmp.toList
  let addr := (s.proc p).pmpAddr.toList
  match (List.range 16).find? fun k => pmpCovers (nth cfg k) (if k = 0 then 0 else nth addr (k - 1)) (nth addr k) a with
  | some k => !bit (nth cfg k) 7 || bit (nth cfg k) (pmpBit q)
  | none => true

/-- A processor writes a protection entry; a locked one stands, and so does the address below a locked TOR range (R386).
PRESUMED, log 47. -/
def pmpWrite (s : State) (p : Proc) (k : Fin 16) (cfg addr : Nat) : State :=
  let cfgs := (s.proc p).pmp
  let next := nth cfgs.toList (k + 1)
  if bit cfgs[k] 7 then s
  else s.modProc p fun q => { q with
    pmp := q.pmp.set k (cfg % 256)
    pmpAddr := if bit next 7 && bits next 3 2 == 1 then q.pmpAddr else q.pmpAddr.set k (addr % 2 ^ 32) }

/-! What the RAM on the fabric holds (R384). -/

/-- A word of an SRAM; what nothing has written since the wipe reads as zero (R412). -/
def ramWord (s : State) (a : Nat) : Nat := (Tab.find s.mgt.sram (a / 4)).getD 0
/-- A word of an SRAM is written; zeros leave no entry. -/
def setRam (s : State) (a v : Nat) : State :=
  s.modMgt fun m => { m with
    sram := if v % 2 ^ 32 = 0 then Tab.del m.sram (a / 4) else Tab.put m.sram (a / 4) (v % 2 ^ 32) }

/-- A word of a long-message buffer, the request half below the reply half. -/
def longWord (s : State) (a : Nat) : Nat :=
  let m := s.mgt.mbx[Fin.ofNat 8 ((a - 0x200000) / 0x2000)]
  nth (if a % 0x2000 < 0x1000 then m.req else m.rsp) (a % 0x1000 / 4)
def setLong (s : State) (a v : Nat) : State :=
  let k : Mbx := Fin.ofNat 8 ((a - 0x200000) / 0x2000)
  let j := a % 0x1000 / 4
  s.modMgt fun m => { m with mbx := m.mbx.set k (if a % 0x2000 < 0x1000
    then { m.mbx[k] with req := putAt m.mbx[k].req j v } else { m.mbx[k] with rsp := putAt m.mbx[k].rsp j v }) }

/-- A word of the key slots. -/
def keyWord (s : State) (a : Nat) : Nat := numAt (keyBytes (s.mgt.keys.toList.getD (a % 0x800 / 128) none)) (a % 128 / 4 * 4) 4
/-- An image is loaded at the start of a processor's SRAM (R388). -/
def loadSram (s : State) (p : Proc) (words : List Nat) : State :=
  s.each ((List.range words.length).zip words) fun w s => s.setRam (sramBase p + 4 * w.1) w.2
/-- A processor's SRAM is wiped (R406). -/
def wipeSram (s : State) (p : Proc) : State :=
  s.modMgt fun m => { m with sram := m.sram.filter fun e => !ownSram p (4 * e.1) }

end State
end Sys2Proof.Machine
end

