-- ==== Sys2Proof/Machine/Boot.lean ====
section
/-!
DEFINITION. Machine/Boot.lean: image slots and boot control, headers of images, stored settings, trials and fallback
(R448, R451, R456, R457, R459).
-/
namespace Sys2Proof.Machine

def procs : List Proc := [.trp, .plp, .svp]

/-- The header of an image (R451). -/
def headerOf (b : List Nat) : ImgHdr where
  ver := numAt b 0 2
  proc := numAt b 2 1
  len := numAt b 4 4
  imgVer := numAt b 8 8
  maj := numAt b 0x10 1 / 16
  min := numAt b 0x10 1 % 16
  accept := numAt b 0x12 2
  setVer := numAt b 0x14 2
  setMin := numAt b 0x16 2
  svn := numAt b 0x18 4
  cmds := (List.range (min 64 (numAt b 0x1C 2))).map fun k => numAt b (0x30 + 2 * k) 2

/-- A key in the slot layout of R391, from a place on. -/
def keyAt (b : List Nat) (k : Nat) : KeySlot where
  ver := numAt b k 2
  use := numAt b (k + 2) 2
  x := numAt b (k + 0x20) 48
  y := numAt b (k + 0x50) 48

/-- The keys of the vendor key block, root, images and life cycle; none where the boot ROM does not accept it: another
version, the hash of the root key not the fused one, or a signature that fails (R13, R392). -/
def keyBlock (b : BootIn) : Option (KeySlot × KeySlot × KeySlot) :=
  if numAt b.block 0 2 == 1 && b.rootOk && b.sigOk then
    some (keyAt b.block 0x008, keyAt b.block 0x088, keyAt b.block 0x108)
  else none

/-- The fields of a provisioning record (R389). -/
def provOf (b : List Nat) (sigOk : Bool) : ProvRec :=
  let n := numAt b 2 2
  let m := numAt b 4 2
  { ver := numAt b 0 2, uid := numAt b 8 8, lcN := numAt b 0x10 4
    ceils := (List.range (min n 512)).map fun k => (numAt b (0x30 + 8 * k) 4, numAt b (0x34 + 8 * k) 4)
    keys := (List.range (min m 13)).map fun k => keyAt b (0x30 + 8 * n + 128 * k)
    fits := decide (n ≤ 512) && decide (m ≤ 13) && b.length == 0x30 + 8 * n + 128 * m + 96
    signed := sigOk }

/-- The fields of a life-cycle token (R411). -/
def tokenOf (b : List Nat) (sigOk : Bool) : LcToken where
  ver := numAt b 0 2
  target := numAt b 2 1
  n := numAt b 4 4
  uid := numAt b 8 8
  nonce := (List.range 4).map fun j => numAt b (0x10 + 4 * j) 4
  slot := numAt b 0x20 2
  signed := sigOk

namespace State

def modFlash (s : State) (g : FlashSt → FlashSt) : State := { s with flash := g s.flash }
def modUpd (s : State) (g : UpdSt → UpdSt) : State := { s with upd := g s.upd }

/-- The bytes in a slot: as built by an update, or as the package left the factory. -/
def imageOf (s : State) (p : Proc) (slot : Nat) : List Nat :=
  (Tab.find s.flash.image (2 * p.idx + slot)).getD (if slot = 0 then Config.factoryImage p.idx else [])

/-- The log is cut to the entries in force, which are copied into the other sector once one is full (R448). -/
def bootTidy (s : State) : State :=
  if s.flash.used < 2048 then s
  else
    let l := procs.flatMap fun p => [0, 1].filterMap (s.bootEntry p)
    let l := s.flash.boot.filter fun e => l.contains e
    s.modFlash fun f => { f with boot := l, used := l.length, sector := 1 - f.sector }

/-- A slot's state changes: in place where that only programs bits to 0, else with an entry appended (R448). The newest
entry of a slot stands, and an entry put last is the newest. DEDUCED, log 51. -/
def bootWrite (s : State) (p : Proc) (slot state ver svn : Nat) : State :=
  let e : BootEntry := { proc := p, slot, state, ver, svn }
  match s.bootEntry p slot with
  | some o =>
    if o.ver = ver ∧ o.state &&& state = state ∧ o.svn = svn then
      s.modFlash fun f => { f with boot := f.boot.map fun b => if b = o then e else b }
    else (s.modFlash fun f => { f with boot := f.boot ++ [e], used := f.used + 1 }).bootTidy
  | none => (s.modFlash fun f => { f with boot := f.boot ++ [e], used := f.used + 1 }).bootTidy

/-- A slot is marked with a state, its version as it stands. -/
def bootMark (s : State) (p : Proc) (slot state : Nat) : State :=
  match s.bootEntry p slot with
  | some o => s.bootWrite p slot state o.ver o.svn
  | none => s

/-- The slot of a processor in a state, by the codes of R462. -/
def slotIn (s : State) (p : Proc) (code : Nat) : Option Nat := [0, 1].find? fun k => s.bootState p k == code

/-! What is staged (R454, R460). -/

/-- UPD_STATUS shows the state of the update and the processor of the next step. -/
def setUpd (s : State) (st : Nat) : State :=
  (s.wr R.UPD_STATUS_STATE st).wr R.UPD_STATUS_STEP (match s.upd.steps.head? with
    | some p => p.init.code
    | none => 0)

/-- What is staged or still to be activated is cancelled: its slots are BAD, and the state is idle. -/
def cancelStaged (s : State) : State :=
  let l := (s.upd.staged ++ s.upd.steps).eraseDups
  let s := s.each l fun (p : Proc) s => s.bootMark p (1 - (s.inUse p).getD 0) 0
  (s.modUpd fun u => { u with staged := [], steps := [], taken := false, last := none, held := none }).setUpd 0

/-! Stored settings (R459). -/

/-- A settings copy that has been marked in force and is valid: of version 1, with a CRC that holds (R13, R459). -/
def copyStands (c : SetCopy) : Bool := c.inForce && c.fmt == 1 && c.crc == setSum c.setVer c.gen c.data
/-- The copy in force: of two the one of the higher generation. -/
def settings (s : State) (p : Proc) : Option SetCopy :=
  let (x, y) := s.flash.sets[p.fin]
  match x.filter copyStands, y.filter copyStands with
  | some a, some b => some (if a.gen < b.gen then b else a)
  | some a, none => some a
  | none, b => b
/-- The version of the stored settings; 0 where none is stored. -/
def setVersion (s : State) (p : Proc) : Nat := (s.settings p).elim 0 (·.setVer)

/-- A new image on trial converts the settings into the other copy, which is not yet in force. -/
def migrate (s : State) (p : Proc) : State :=
  match (s.proc p).trial, (s.proc p).image with
  | some _, some h =>
    if (s.proc p).migrated then s
    else
      let data := Config.converted p.idx h.setVer ((s.settings p).elim [] (·.data))
      let c : SetCopy := { setVer := h.setVer, gen := ((s.settings p).elim 0 (·.gen) + 1) % 2 ^ 32, data, inForce := false }
      let (x, y) := s.flash.sets[p.fin]
      let inX := s.settings p == x && x.isSome
      (s.modFlash fun f => { f with sets := f.sets.set p.fin (if inX then (x, some c) else (some c, y)) }).modProc p
        fun q => { q with migrated := true }
  | _, _ => s

/-- The settings of a confirmed image come into force; those of the image before stay readable as the older copy. -/
def settle (s : State) (p : Proc) : State :=
  let g (c : Option SetCopy) : Option SetCopy := c.map fun c => { c with inForce := true }
  let (x, y) := s.flash.sets[p.fin]
  (s.modFlash fun f => { f with sets := f.sets.set p.fin (g x, g y) }).modProc p fun q => { q with migrated := false }

/-- A fallback leaves the copy in force as it is; the other is erased before it is written again. -/
def unsettle (s : State) (p : Proc) : State :=
  let (x, y) := s.flash.sets[p.fin]
  (s.modFlash fun f => { f with sets := f.sets.set p.fin (x.filter (·.inForce), y.filter (·.inForce)) }).modProc p
    fun q => { q with migrated := false }

/-! Trials (R456, R457). -/

/-- The activation is over once its last step has been confirmed or has fallen back. -/
def stepsOver (s : State) (p : Proc) : State :=
  if s.upd.taken && s.upd.last == some p && s.upd.steps.isEmpty then
    (s.modUpd fun u => { u with taken := false, last := none }).setUpd 0
  else s

/-- A trial ends without confirmation: the slot is BAD, and the fallback is counted and raised. -/
def fallBack (s : State) (p : Proc) (slot : Nat) : State :=
  let s := s.stepsOver p
  let s := ((s.bootMark p slot 0).modProc p fun q => { q with trial := none }).unsettle p
  ((s.flag (R.UPD_P_SLOT_TRIAL p.idx) false).count R.UPD_CNT_FALLBACK_COUNT).raise Ev.UPD_FALLBACK p.init.code

/-- The slot to start, and whether it starts on trial: a TRIAL slot is programmed ATTEMPTED; one found ATTEMPTED has
failed, and the image in use starts (R457). -/
def chooseSlot (s : State) (p : Proc) : State × Nat × Bool :=
  let s := match s.slotIn p 2 with
    | some k => s.fallBack p k
    | none => s
  match s.slotIn p 1 with
  | some k => (s.bootMark p k 0x3F, k, true)
  | none => (s, (s.inUse p).getD 0, false)

/-- The other slot may be started in the place of one whose signature fails: it is not BAD, empty or the failed one. -/
def otherSlot (s : State) (p : Proc) (k : Nat) : Option Nat := if s.bootState p (1 - k) = 3 then some (1 - k) else none

/-- An image that an update has put into a slot has a header of version 1 (R13, R451); one of the factory's is taken to. -/
def headerKnown (s : State) (p : Proc) (slot : Nat) : Bool := match Tab.find s.flash.image (2 * p.idx + slot) with
  | some b => (headerOf b).ver == 1
  | none => true

/-- The image to run, by the signature verdicts of the slots: the one chosen, or the other where its signature fails or its
header is of another version (R13); each failure raises MGT_IMAGE_REJECTED (R388, R457). DESIGN CHOICE, log 9. -/
def pickImage (s : State) (p : Proc) (okA okB : Bool) : State × Option (Nat × Bool) :=
  let ok (k : Nat) : Bool := (if k = 0 then okA else okB) && s.headerKnown p k
  let (s, k, trial) := s.chooseSlot p
  if ok k then (s, some (k, trial))
  else
    let s := s.raise Ev.MGT_IMAGE_REJECTED p.init.code k
    let s := if trial then s.fallBack p k else s
    match s.otherSlot p k with
    | some o => if ok o then (s, some (o, false)) else (s.raise Ev.MGT_IMAGE_REJECTED p.init.code o, none)
    | none => (s, none)

end State
end Sys2Proof.Machine
end

