-- ==== Sys2Proof/Machine/Mgmt.lean ====
section
/-!
DEFINITION. Machine/Mgmt.lean: the management complex: start, ceilings and keys, mailboxes, restarts and the life cycle
(R383–R417).
-/
namespace Sys2Proof.Machine

/-- The processor of an initiator code. -/
def procOfCode (c : Nat) : Option Proc := match c with
  | 1 => some .trp | 2 => some .plp | 3 => some .svp | _ => none
/-- Bytes packed into words, the least significant first. -/
def wordsOf : List Nat → List Nat
  | [] => []
  | b0 :: b1 :: b2 :: b3 :: t => (b0 + 2 ^ 8 * b1 + 2 ^ 16 * b2 + 2 ^ 24 * b3) :: wordsOf t
  | l => [numAt l 0 4]
/-- Words as bytes, the least significant first. -/
def bytesOfWords (ws : List Nat) : List Nat := ws.flatMap (bytesOf 4)

namespace State

/-- STATE of a processor: 0 in reset, 1 loading, 2 running, 3 restarting. -/
def pState (s : State) (p : Proc) : Nat := s.rd (R.MGT_P_STATE_STATE p.idx)
def setKey (s : State) (slot : Nat) (k : Option KeySlot) : State :=
  if h : slot < 16 then s.modMgt fun m => { m with keys := m.keys.set slot k } else s

/-! Start (R386, R388, R391, R392, R400). -/

/-- The TRP's entries 0 to 5 as the boot ROM locks them: pmpcfg, and pmpaddr for an image of some length (R386). -/
def trpPmp : Vector Nat 16 := #v[0x9D, 0x8D, 0x8D, 0x8B, 0x9B, 0x9B, 0, 0, 0, 0, 0, 0, 0, 0, 0, 0]
def trpPmpAddr (len : Nat) : Vector Nat 16 :=
  #v[0x1FFF, 0x4000, (0x10000 + len) / 4, 0x10000, 0x11FFF, 0x200FF, 0, 0, 0, 0, 0, 0, 0, 0, 0, 0]

/-- A fresh nonce is drawn from the random source (R411). -/
def newNonce (s : State) : State :=
  s.each (List.range 4) fun j s =>
    let (v, s) := s.draw
    s.wr (R.MGT_LC_NONCE_NONCE j) v

/-- Two images accept each other's format major (R400). -/
def compatible (a b : ImgHdr) : Bool := bit a.accept b.maj && bit b.accept a.maj

/-- A running processor whose image does not get on with that of another. -/
def peerBad (s : State) (p : Proc) : Bool :=
  match (s.proc p).image with
  | some a => s.runs p && procs.any fun q => q != p && s.runs q && match (s.proc q).image with
    | some b => !compatible a b
    | none => false
  | none => false

/-- At a release the TRP compares every pair of running images; the event names the processor released if it is in a bad
pair, else the first that is. DEDUCED, log 47. -/
def checkPeers (s : State) (p : Proc) : State :=
  let s := s.each procs fun (q : Proc) s => s.flag (R.MGT_P_STATE_PEER_BAD q.idx) (s.peerBad q)
  match (p :: procs).find? s.peerBad with
  | some q => s.raise Ev.MGT_PEER_VERSION q.init.code
  | none => s

/-- The non-maskable events held while the TRP did not run are taken at its release, and reported (R407). -/
def takeHeld (s : State) : State :=
  let s := s.each s.mgt.nmiHeld fun e s => s.emit (.nmiToBmc e.1 e.2)
  s.modMgt fun m => { m with nmiHeld := [] }

/-- The words of a processor's dump. -/
def dumpOf (s : State) (p : Proc) : List Nat := (List.range 128).map fun k => s.rd (R.MGT_DUMP_WORD p.idx k)

/-- A release that ends a restart: CAUSE is recorded, and the restart counted and raised (R406). -/
def countRestart (s : State) (p : Proc) (r : Option (RestartStage × Nat)) : State :=
  match r with
  | some (_, cause) =>
    ((s.wr (R.MGT_P_STATE_CAUSE p.idx) cause).wr (R.MGT_P_CNT_RESTART_COUNT p.idx)
      (s.rd (R.MGT_P_CNT_RESTART_COUNT p.idx) + 1)).raise Ev.MGT_RESTART p.init.code 0 (s.dumpOf p)
  | none => s

/-- A processor is released with the image of a slot in its SRAM: it runs, and on trial if the slot is new (R388, R406, R454,
R456). -/
def releaseProc (s : State) (p : Proc) (slot : Nat) (trial : Bool) : State :=
  let h := headerOf (s.imageOf p slot)
  let i := p.idx
  let s := (s.countRestart p (s.proc p).restart).loadSram p (wordsOf (s.imageOf p slot))
  let s := s.modProc p fun q => { q with
    pmp := if p = .trp then trpPmp else Vector.replicate 16 0
    pmpAddr := if p = .trp then trpPmpAddr h.len else Vector.replicate 16 0
    latch := none, kicked := s.now - s.frozenTime, restart := none, buf := []
    image := some h, trial := if trial then some s.now else none, migrated := false }
  let s := ((s.wr (R.MGT_P_STATE_STATE i) 2).wr (R.MGT_P_IMAGE_MIN i) h.min).wr (R.MGT_P_IMAGE_MAJ i) h.maj
  let s := (s.wr (R.MGT_P_IMAGE_ACCEPT i) h.accept).wr (R.MGT_P_IMAGE_SLOT i) slot
  let s := ((s.wr (R.UPD_P_SLOT_ACTIVE i) slot).flag (R.UPD_P_SLOT_TRIAL i) trial).flag (R.UPD_P_SLOT_CONFIRM i) false
  let s := s.raiseIf trial Ev.UPD_ACTIVATED p.init.code
  let s := if p = .plp then s else s.migrate p
  (s.checkPeers p).when (p == .trp) (·.takeHeld)

/-- The boot ROM fills key slots 0, 1 and 4, verifies the TRP's image and releases it; without a valid key block, or with
no image that verifies, the TRP stays in its boot ROM (R388, R392). -/
def trpStart (s : State) (b : BootIn) : State :=
  let s := s.wr (R.MGT_P_STATE_STATE 0) 1
  match keyBlock b with
  | none => s.modMgt fun m => { m with keyRetry := some (s.now + 1000000000) }
  | some (root, img, life) =>
    let s := ((s.setKey 0 (some root)).setKey 1 (some img)).setKey 4 (some life)
    let s := s.modMgt fun m => { m with keyRetry := none, ceilDone := false }
    let ok := s.keyFor 1 0
    match s.pickImage .trp (ok && b.okA) (ok && b.okB) with
    | (s, some (k, trial)) => (s.releaseProc .trp k trial).newNonce
    | (s, none) => s

/-- The effect of TRP_BOOT (R388). -/
def trpBoot (s : State) (b : BootIn) : State := if s.pState .trp = 0 then s.trpStart b else s

/-- Every second the boot ROM reads the vendor key block again. -/
def keyRetry (s : State) (b : BootIn) : State :=
  match s.mgt.keyRetry with
  | some t => (s.advance t).trpStart b
  | none => s

/-! Provisioning (R389–R391). -/

/-- The ceilings the TRP writes as the lower of the record's value and the fused value. -/
def ceilFields : List Fld := ceilings.map (·.2)
/-- The masks and PUSH, which limit no other field. -/
def provFields : List Fld := R.SEN_FLEET_PUSH :: (List.range 5).map R.THM_TRIP_MASK_SITE

/-- The fused value of a ceiling. -/
def fused (s : State) (f : Fld) : Nat := if f = R.THM_TRIP_TRIP_CEIL then s.rd R.THM_TRIP_FUSE else f.rst
/-- A record's value of a field. -/
def provVal (r : ProvRec) (f : Fld) : Option Nat := (r.ceils.find? fun c => c.1 == f.off).map fun c => bits c.2 f.lo f.w

/-- A record applies to this package (R389). -/
def provValid (s : State) (r : ProvRec) : Bool :=
  r.ver == 1 && r.fits && r.uid == Config.uid && r.lcN == s.lcN && r.signed && s.keyFor 0 3

/-- The TRP writes every ceiling, from a valid record or from the fused values. DEDUCED, log 47. -/
def writeCeilings (s : State) (r : Option ProvRec) : State :=
  let val (f : Fld) : Option Nat := r.bind fun r => provVal r f
  let s := s.each ceilFields fun f s =>
    match val f with
    | some v => (s.writeCeiling f (min v (s.fused f))).raiseIf (decide (s.fused f < v)) Ev.MGT_PROV_CLAMP 0xFFFF f.off
    | none => s.writeCeiling f (s.fused f)
  let fl := R.ADM_UNCORE_ALLOW_FLOOR
  let s := s.writeCeiling fl (max ((val fl).getD fl.rst) fl.rst)
  let s := s.each provFields fun f s => match val f with
    | some v => (s.wr f (min v f.rst)).raiseIf (decide (f.rst < v)) Ev.MGT_PROV_CLAMP 0xFFFF f.off
    | none => s.wr f f.rst
  s.flag R.BUD_PKG_CEIL_PROV r.isSome

/-- The key slots that a record fills, in its order. -/
def provSlots : List Nat := [2, 3, 5, 6, 7, 8, 9, 10, 11, 12, 13, 14, 15]

/-- The TRP's image verifies provisioning, fills the key slots, writes the ceilings and loads the stored library
(R291, R388). In SCRAPPED it loads no key (R410). DEDUCED, log 47. -/
def provision (s : State) (r : ProvRec) : State :=
  if !s.runs .trp || s.mgt.ceilDone then s
  else
    let ok := s.provValid r
    let s := if ok then s else s.raise Ev.MGT_PROV_INVALID
    let s := s.each provSlots fun k s => s.setKey k none
    let s := if ok && s.lcState != 4 then s.each (provSlots.zip r.keys) fun p s => s.setKey p.1 (some p.2) else s
    let s := (s.writeCeilings (if ok then some r else none)).modMgt fun m => { m with ceilDone := true }
    match s.libStored with
    | some l => if s.sen.lib.isNone && l.signed && s.keyFor l.keySlot 1 && libraryOk l then s.useLibrary l else s
    | none => s

/-- The TRP verifies and releases the PLP's image, and then the SVP's (R388). -/
def imageRelease (s : State) (p : Proc) (okA okB : Bool) : State :=
  let turn := match p with
    | .trp => false
    | .plp => true
    | .svp => s.pState .plp != 0
  if !turn || !s.serves .trp || !s.mgt.ceilDone || s.pState p != 0 then s
  else
    let s := s.wr (R.MGT_P_STATE_STATE p.idx) 1
    let ok := s.keyFor 1 0
    match s.pickImage p (ok && okA) (ok && okB) with
    | (s, some (k, trial)) => s.releaseProc p k trial
    | (s, none) => s

/-- A pmpcfg byte is locked, with its W and X bits as given. -/
def pmpOk (c : Nat) (w : Option Bool) (x : Bool) : Bool := bit c 7 && bit c 2 == x && w.all (· == bit c 1)

/-- STARTED is set, and the processor renders its services again (R407). -/
def setStarted (s : State) (p : Proc) : State :=
  (s.flag (R.MGT_P_STATE_STARTED p.idx) true).modProc p fun q => { q with paused := false }

/-- A processor writes STARTED with its entries as they stand, a locked one as it was: those of the PLP and the SVP must lock
entries 0 to 3 with the X and W bits of R387; the TRP's stand since its boot ROM. DEDUCED, log 47. -/
def startedWrite (s : State) (p : Proc) (c0 c1 c2 c3 : Nat) : State :=
  if !s.runs p then s
  else if p = .trp then s.setStarted p
  else
    let m := (s.proc p).pmp
    let c (k : Fin 16) (v : Nat) : Nat := if bit m[k] 7 then m[k] else v
    let d0 := c 0 c0; let d1 := c 1 c1; let d2 := c 2 c2; let d3 := c 3 c3
    let s := s.modProc p fun q => { q with pmp := (((q.pmp.set 0 d0).set 1 d1).set 2 d2).set 3 d3 }
    if pmpOk d0 (some false) true && pmpOk d1 (some false) true && pmpOk d2 none false && pmpOk d3 none false then
      s.setStarted p
    else s

/-- The PLP has loaded the weights and leakage points of the characterisation record, and migrated its settings, and sets
READY (R95, R388, R459). -/
def plpReady (s : State) (weights : List (Loop × Fin 16 × Nat)) (leak : List (Loop × Nat × Nat × Nat × Nat)) : State :=
  if !s.runs .plp then s
  else
    let s := if s.on R.GLB_GOV_CTL_ENABLE then s
      else
        let s := s.each weights fun w s =>
          if (w.1.val < 8 && w.2.1.val = 0) || (8 ≤ w.1.val && 4 ≤ w.2.1.val) then s else s.wr (R.BUD_WGT_W w.1 w.2.1) w.2.2
        s.each leak fun x s =>
          (((s.wr (R.BUD_RAIL_LEAK_P45 x.1) x.2.1).wr (R.BUD_RAIL_LEAK_P65 x.1) x.2.2.1).wr (R.BUD_RAIL_LEAK_P85 x.1)
            x.2.2.2.1).wr (R.BUD_RAIL_LEAK_P105 x.1) x.2.2.2.2
    (s.migrate .plp).flag (R.MGT_P_STATE_READY 1) true

/-! Mailboxes (R394–R401). -/

def modMbx (s : State) (k : Mbx) (g : MbxSt → MbxSt) : State := s.modMgt fun m => { m with mbx := m.mbx.set k (g m.mbx[k]) }
def go (s : State) (k : Mbx) : Bool := s.on (R.MBX_CTL_GO k)
/-- Word `j` of a mailbox. -/
def mbxWord (s : State) (k : Mbx) (j : Nat) : Nat := s.rd (R.MBX_DATA_DATA k j)
/-- The words of a mailbox from one on. -/
def setWords (s : State) (k : Mbx) (j : Nat) (l : List Nat) : State :=
  s.each ((List.range l.length).zip l) fun p s => if j + p.1 < 16 then s.wr (R.MBX_DATA_DATA k (j + p.1)) p.2 else s
/-- The bit of a mailbox in its responder's IRQ register. -/
def mbxIrq (s : State) (k : Mbx) (b : Bool) : State :=
  match procOfCode (R.mbxRsp k) with
  | some p => s.wr (R.MGT_P_IRQ_MBX p.idx) (withBit (s.rd (R.MGT_P_IRQ_MBX p.idx)) k b)
  | none => s
/-- The host vector of mailboxes 0 to 2 is signalled, without a record. -/
def mbxSignal (s : State) (k : Mbx) : State := if k.val < 3 then s.signal (7 + k.val) none else s

/-- A format-2 header of the forerunner (R399). -/
def isV2 (w0 : Nat) : Bool := bits w0 24 4 == 2
/-- A header of the present format passes; one of format 2 only on mailboxes 0 to 2 while V2_EN is 1. -/
def headerOk (s : State) (k : Mbx) : Bool :=
  let w := s.mbxWord k 0
  bits w 4 4 == 3 || (decide (k.val < 3) && s.on R.MBX_GLB_V2_EN && isV2 w)
/-- The message is read by format 2. -/
def asV2 (s : State) (k : Mbx) : Bool := bits (s.mbxWord k 0) 4 4 != 3 && isV2 (s.mbxWord k 0)
/-- The message is of a format that a reader does not know: it reads no more than the header (R13). DEDUCED, log 44. -/
def asOther (s : State) (k : Mbx) : Bool := bits (s.mbxWord k 0) 4 4 != 3 && !isV2 (s.mbxWord k 0)

/-- Bytes of payload in a message of the present format: LEN, of which 44 fit, or 4,096 with LONG (R397). -/
def payLen (s : State) (k : Mbx) : Nat :=
  let w := s.mbxWord k 0
  min (bits w 16 16) (if bit w 9 then 4096 else 44)
/-- The words of the reply present in a mailbox: its header and its payload. -/
def replyWords (s : State) (k : Mbx) : List Nat :=
  let w := s.mbxWord k 0
  if s.asV2 k then (List.range 2).map (s.mbxWord k) ++ (List.range (min 14 (bits w 8 8))).map fun j => s.mbxWord k (2 + j)
  else if s.asOther k then (List.range 5).map (s.mbxWord k)
  else
    let n := cdiv (s.payLen k) 4
    (List.range 5).map (s.mbxWord k) ++
      (if bit w 9 then (List.range n).map fun j => nth s.mgt.mbx[k].rsp j else (List.range (min 11 n)).map fun j => s.mbxWord k (5 + j))
/-- Its length in bytes. -/
def replyLen (s : State) (k : Mbx) : Nat :=
  let w := s.mbxWord k 0
  if s.asV2 k then 8 + 4 * min 14 (bits w 8 8) else if s.asOther k then 20 else 20 + s.payLen k

/-- The reply buffer of the MSG command that a queue has sent takes its reply (R363). -/
def replyFits (s : State) (q : Queue) : Bool :=
  match s.queue[q].work with
  | some (.msgSent _ _ b) => b
  | _ => true

/-- A queue's command takes the reply of a mailbox it holds; the mailbox is free again (R401). DEDUCED, log 44. -/
def msgReply (s : State) (k : Mbx) : State :=
  match s.mgt.mbx[k].held with
  | none => s
  | some q =>
    let s := (s.modMbx k fun m => { m with held := none }).flag (R.MBX_STS_QUEUE k) false
    match s.queue[q].cmd with
    | some (c, _) =>
      let n := min (s.replyLen k) c.arg1
      if s.replyFits q then (s.emit (.hostBytes q c.addr2 ((bytesOfWords (s.replyWords k)).take n))).finish q stSuccess n 0
      else s.finish q stHostFault 0 0
    | none => s

/-- A request ends: GO clears and the responder's bit with it. -/
def mbxEnd (s : State) (k : Mbx) : State := (s.flag (R.MBX_CTL_GO k) false).mbxIrq k false

/-- A reply is present. -/
def mbxReply (s : State) (k : Mbx) : State :=
  (((s.mbxEnd k).flag (R.MBX_STS_REPLY k) true).mbxSignal k).msgReply k

/-- GO takes effect: the header is checked, and the request passed to the responder (R395, R399). -/
def mbxPass (s : State) (k : Mbx) : State :=
  if s.headerOk k then ((s.flag (R.MBX_CTL_GO k) true).mbxIrq k true).modMbx k fun m => { m with goAt := s.now }
  else
    let w := if isV2 (s.mbxWord k 0) then 1 else 2
    let s := s.wr (R.MBX_DATA_DATA k w) ((s.mbxWord k w) / 2 ^ 16 * 2 ^ 16 + 3)
    let s := (s.flag (R.MBX_STS_BAD_VER k) true).flag (R.MBX_STS_REPLY k) true
    (s.raise Ev.MGT_MBX_BAD_VER k).msgReply k

/-- The requester writes GO, its long payload in the request half. -/
def mailboxGo (s : State) (k : Mbx) (who : Init) (long : List Nat) : State :=
  if s.go k || who.code != R.mbxReq k || s.mgt.mbx[k].held.isSome then s
  else (s.modMbx k fun m => { m with req := long }).mbxPass k

/-- The responder writes DONE; without GO it is late and ignored. -/
def mailboxDone (s : State) (k : Mbx) (who : Init) (long : List Nat) : State :=
  if !s.go k || who.code != R.mbxRsp k then s else (s.modMbx k fun m => { m with rsp := long }).mbxReply k

/-- A request ends early (R396, R408). -/
def abortMbx (s : State) (k : Mbx) : State := if s.go k then (s.mbxEnd k).flag (R.MBX_STS_ABORTED k) true else s
/-- The effect of MAILBOX_ABORT (R396). -/
def mailboxAbort (s : State) (k : Mbx) (who : Init) : State :=
  if who.code != R.mbxReq k || s.mgt.mbx[k].held.isSome then s else s.abortMbx k
/-- The effect of MAILBOX_NOTE (R396). -/
def mailboxNote (s : State) (k : Mbx) (who : Init) : State :=
  if who.code != R.mbxRsp k || 3 ≤ k.val then s else (s.flag (R.MBX_STS_NOTE k) true).mbxSignal k

/-- GO has stayed 1 for TMO.MS; a request of a MSG command has its own timeout (R396, R401). -/
def mailboxTimeout (s : State) (k : Mbx) : State :=
  if !s.go k || s.mgt.mbx[k].held.isSome then s
  else
    let s := s.advance (s.mgt.mbx[k].goAt + 1000000 * s.rd (R.MBX_TMO_MS k))
    (((s.mbxEnd k).flag (R.MBX_STS_TIMEOUT k) true)).raise Ev.MGT_MBX_TIMEOUT k

/-- A message of more than 44 bytes of payload goes through the long-message buffer, with LONG set (R397, R401). -/
def asLong (ws : List Nat) : Bool := bits (nth ws 0) 4 4 == 3 && decide (44 < bits (nth ws 0) 16 16)
def markLong (ws : List Nat) : List Nat := match ws with
  | w :: t => if asLong ws then putBits w 9 1 1 :: t.take 4 else ws.take 16
  | [] => []

/-- A MSG command takes its mailbox once GO is 0 (R401). -/
def msgTake (s : State) (q : Queue) : State :=
  match s.queue[q].work with
  | some (.msgWait k ws till ok) =>
    if s.go k || s.mgt.mbx[k].held.isSome then s
    else
      let s := ((s.setWords k 0 (markLong ws)).modMbx k fun m => { m with held := some q, req := ws.drop 5 }).flag
        (R.MBX_STS_QUEUE k) true
      (s.modQueue q fun x => { x with work := some (.msgSent k till ok) }).mbxPass k
  | _ => s
/-- Whichever command waits for a mailbox takes it when it is free. -/
def msgWaiters (s : State) : State := s.each queues fun (q : Queue) s => s.msgTake q

/-- A MSG command has had no reply for 100 ms (R401). DEDUCED, log 44. -/
def msgTimeout (s : State) (q : Queue) : State :=
  match s.queue[q].work with
  | some (.msgWait _ _ till _) => (s.advance till).finish q stPeerUnavail 0 0
  | some (.msgSent k till _) =>
    let s := (((s.advance till).mbxEnd k).modMbx k fun m => { m with held := none }).flag (R.MBX_STS_QUEUE k) false
    (s.finish q stPeerUnavail 0 0).msgWaiters
  | _ => s

/-! Replies every image gives (R397, R398). -/

/-- CMD and LEN in bytes of the request in a mailbox. -/
def mbxCmd (s : State) (k : Mbx) : Nat := if s.asV2 k then bits (s.mbxWord k 0) 0 8 else bits (s.mbxWord k 1) 0 16
def mbxLen (s : State) (k : Mbx) : Nat := if s.asV2 k then 4 * bits (s.mbxWord k 0) 8 8 else bits (s.mbxWord k 0) 16 16
/-- It lies in the request half of the long-message buffer (R397). -/
def mbxLong (s : State) (k : Mbx) : Bool := !s.asV2 k && bit (s.mbxWord k 0) 9
/-- Its payload's words. -/
def mbxPayload (s : State) (k : Mbx) : List Nat :=
  if s.asV2 k then (List.range 14).map fun j => s.mbxWord k (2 + j)
  else if s.mbxLong k then s.mgt.mbx[k].req
  else (List.range 11).map fun j => s.mbxWord k (5 + j)
/-- The responder writes a reply of some words and `len` bytes over the request, in its format, and DONE. -/
def answer (s : State) (k : Mbx) (status len : Nat) (words : List Nat) : State :=
  let w0 := s.mbxWord k 0
  let s :=
    if s.asV2 k then
      (s.setWords k 0 [bits w0 0 8 + 2 ^ 8 * cdiv len 4 + 2 ^ 16 * bits w0 16 8 + 2 ^ 24 * 2 + 2 ^ 28 * 1, status]).setWords k 2
        (words.take 14)
    else
      (s.setWords k 0 [2 ^ 4 * bits w0 4 4 + 2 ^ 8 * 1 + 2 ^ 16 * len, s.mbxWord k 1,
        status + 2 ^ 16 * R.mbxRsp k + 2 ^ 20 * R.mbxReq k, 0, 0]).setWords k 5 (words.take 11)
  s.mbxReply k

/-- The responder of a mailbox runs and finds a request of a command there (R408). -/
def asked (s : State) (k : Mbx) (cmd : Nat) : Option Proc :=
  match procOfCode (R.mbxRsp k) with
  | some p => if s.go k && s.runs p && s.mbxCmd k == cmd then some p else none
  | none => none

/-- A running image accepts the format of the message: one of format 3 only with that major in its ACCEPT (R400). -/
def accepts (s : State) (p : Proc) (k : Mbx) : Bool :=
  s.asV2 k || match (s.proc p).image with
    | some h => bit h.accept 3
    | none => false

/-- A request gets BAD_VER where the image does not accept its format, BAD_LEN where its length is not one for the command,
and its reply otherwise (R397, R400). -/
def replyTo (s : State) (p : Proc) (k : Mbx) (lenOk : Bool) (reply : State → State) : State :=
  if !s.accepts p k then s.answer k 3 0 [] else if !lenOk then s.answer k 2 0 [] else reply s

/-- The effect of GET_VERSION (R398). DEDUCED, log 47. -/
def getVersion (s : State) (k : Mbx) : State :=
  match s.asked k 1 with
  | none => s
  | some p =>
    s.replyTo p k (s.mbxLen k == 0) fun s =>
      let h := (s.proc p).image.getD (headerOf [])
      s.answer k 0 12 [bits h.imgVer 0 32, bits h.imgVer 32 32, h.maj + 2 ^ 8 * h.min + 2 ^ 16 * h.accept]

/-- The effect of ECHO (R398). -/
def echo (s : State) (k : Mbx) : State :=
  match s.asked k 2 with
  | none => s
  | some p => s.replyTo p k (decide (s.mbxLen k ≤ 44)) fun s => s.answer k 0 (s.mbxLen k) (s.mbxPayload k)

/-- LK_MGT_Pp_STATE as a word. -/
def stateWord (s : State) (i : Nat) : Nat := s.word .trp (0x90800 + i * 0x100)

/-- The effect of GET_STATE (R398). -/
def getState (s : State) (k : Mbx) : State :=
  match s.asked k 3 with
  | none => s
  | some p => s.replyTo p k (s.mbxLen k == 0) fun s => s.answer k 0 12 ((List.range 3).map s.stateWord)

/-! The life cycle (R410, R411). -/

/-- A reply of the TRP to a life-cycle command, on a mailbox or on the trusted endpoint. -/
def lcAnswer (s : State) (via : Option Mbx) (status : Nat) (words : List Nat) : State :=
  match via with
  | some k => s.answer k status (4 * words.length) words
  | none => s.emit (.trusted (status :: words))

/-- The TRP finds a command of its own on mailboxes 0, 3 and 4, or on the trusted endpoint. After a restart life-cycle tokens
wait until it has set STARTED (R407). -/
def trpAsked (s : State) (via : Option Mbx) (cmd : Nat) : Bool :=
  match via with
  | some k => s.asked k cmd == some .trp && s.serves .trp
  | none => s.serves .trp

/-- A request to the TRP gets BAD_VER or BAD_LEN on a mailbox as on any; on the trusted endpoint only its length can be
wrong. -/
def lcReply (s : State) (via : Option Mbx) (lenOk : Bool) (reply : State → State) : State :=
  match via with
  | some k => s.replyTo .trp k lenOk reply
  | none => if lenOk then reply s else s.lcAnswer none 2 []

/-- The effect of LC_NONCE (R411). -/
def lcNonce (s : State) (via : Option Mbx) : State :=
  if s.trpAsked via 0x501 then
    s.lcReply via (via.all fun k => s.mbxLen k == 0) fun s =>
      s.lcAnswer via 0 ((List.range 4).map fun j => s.rd (R.MGT_LC_NONCE_NONCE j))
  else s

/-- The key slots allowed for a transition from the present state to a target (R410). -/
def lcSlots (s : State) (target : Nat) : List Nat :=
  match s.lcState, target with
  | 0, 1 => [4]
  | 1, 2 => [2, 4]
  | 2, 3 => if s.lcN < 23 then [2] else []
  | 3, 1 => [4]
  | 4, _ => []
  | _, 4 => [2, 4]
  | _, _ => []

/-- The TRP answers a token: an accepted one blows the next bit, or bit 23, and requests a block reset; a refused one changes
nothing. A checked token has used up its nonce. A token that arrives on a mailbox other than 0 is not permitted to its
requester (R397, R411). DEDUCED, log 47. -/
def takeToken (s : State) (via : Option Mbx) (t : LcToken) : State :=
  if s.on R.GLB_STATUS_ENABLED || via.any (fun k => k.val != 0) then (s.lcAnswer via 5 []).raise Ev.MGT_LC_TOKEN_BAD
  else
    let nonce := (List.range 4).map fun j => s.rd (R.MGT_LC_NONCE_NONCE j)
    let allowed := (s.lcSlots t.target).contains t.slot && s.keyFor t.slot 2
    let good := t.ver == 1 && t.uid == Config.uid && t.n == s.lcN && t.nonce == nonce && t.signed
    if allowed && good then
      let s := { (s.lcAnswer via 0 []) with fuses := withBit s.fuses (if t.target = 4 then 23 else s.lcN) true }
      { s.newNonce.cancelStaged.raise Ev.MGT_LC_CHANGE with resetReq := some 4 }
    else ((s.newNonce.lcAnswer via (if allowed then 6 else 5) []).raise Ev.MGT_LC_TOKEN_BAD)

/-- LC_TOKEN: the 160 bytes of a token lie in the request half of the mailbox, with LONG, or arrive on the trusted endpoint
(R398, R411). -/
def lcToken (s : State) (via : Option Mbx) (bytes : List Nat) (sigOk : Bool) : State :=
  if !s.trpAsked via 0x502 then s
  else
    let b := match via with
      | some k => (bytesOfWords s.mgt.mbx[k].req).take 160
      | none => bytes
    let lenOk := match via with
      | some k => s.mbxLong k && s.mbxLen k == 160
      | none => bytes.length == 160
    s.lcReply via lenOk fun s => s.takeToken via (tokenOf b sigOk)

/-! Restarts (R406–R409). -/

/-- The crash dump's words (R409). -/
def dumpWords (s : State) (p : Proc) (cause : Nat) (c : CoreDump) : List Nat :=
  let t := s.lkTime
  let v := (s.proc p).image.elim 0 (·.imgVer)
  let pad (n : Nat) (l : List Nat) : List Nat := (List.range n).map fun k => bits (nth l k) 0 32
  let pmp := (List.range 4).map fun k => numAt (s.proc p).pmp.toList (4 * k) 4
  let count (k : Nat) : List Nat :=
    let v := Config.coreCount p.idx k s.cyc
    [bits v 0 32, bits v 32 32]
  let store (k : Nat) : List Nat := match (s.proc p).buf[k]? with
    | some e => [bits e.addr 0 32, bits e.data 0 32, e.size % 4 + 2 ^ 8 * 1, 0]
    | none => [0, 0, 0, 0]
  [1 + 2 ^ 16 * p.init.code + 2 ^ 24 * cause, bits (s.rd (R.MGT_P_CNT_RESTART_COUNT p.idx)) 0 32, bits t 0 32, bits t 32 32,
   bits v 0 32, bits v 32 32, 0, 0] ++ (0 :: (pad 32 c.x).drop 1) ++ pad 9 c.csr ++ count 0 ++ count 1 ++ [0, 0, 0] ++ pmp ++
   pad 16 (s.proc p).pmpAddr.toList ++
   [(s.proc p).busAddr, (s.proc p).busInfo, 0, 0] ++ (List.range 8).flatMap store ++ pad 16 c.pcs

/-- A restart begins: the processor stops, its dump is written, and its services pause; a request during a restart is ignored.
The PLP must mount the recorder's partition again (R429). A trial image falls back, which gives the restart cause 6 (R457).
DEDUCED, log 48. -/
def restart (s : State) (p : Proc) (cause : Nat) (c : CoreDump) : State :=
  if !s.runs p then s
  else
    let i := p.idx
    let trial := (s.proc p).trial.isSome
    let cause := if trial then 6 else cause
    let ws := s.dumpWords p cause c
    let s := s.each ((List.range 128).zip ws) fun x s => s.wr (R.MGT_DUMP_WORD i x.1) x.2
    let s := if trial then s.fallBack p (s.rd (R.UPD_P_SLOT_ACTIVE i)) else s
    let s := ((s.wr (R.MGT_P_STATE_STATE i) 3).flag (R.MGT_P_STATE_STARTED i) false).flag (R.MGT_P_STATE_READY i) false
    let s := s.modProc p fun q => { q with
      busAddr := 0, busInfo := 0, latch := none, restart := some (.draining, cause), trial := none, paused := true }
    let s := s.when (p == .plp) (·.flag R.REC_STATUS_MOUNTED false)
    let s := s.each (List.finRange 8) fun (k : Mbx) s => if R.mbxReq k = p.init.code then s.abortMbx k else s
    if p = .svp && s.upd.active then
      (s.modUpd fun u => { u with active := false, comps := [], cur := none }).setUpd (if s.upd.staged.isEmpty then 0 else 3)
    else s

/-- RESTART.GO is written: by the processor itself, or with the key by an initiator of R383. DEDUCED, log 48. -/
def restartGo (s : State) (p : Proc) (who : Init) (c : CoreDump) : State :=
  let key := s.rd (R.MGT_P_RESTART_KEY p.idx) == 0xC0DE
  if who = p.init then s.restart p 2 c
  else if p = .trp || !key then s
  else match who with
    | .trp => s.restart p 3 c
    | .host => s.restart p 4 c
    | _ => s

/-- The trusted endpoint restarts the PLP or the SVP; the TRP serves it (R393). -/
def trustedRestart (s : State) (p : Proc) (c : CoreDump) : State :=
  if p = .trp || !s.runs .trp then s else s.restart p 5 c

/-- The effect of WATCHDOG_EXPIRY. In a package freeze the watchdogs hold (R406, R413). -/
def watchdogExpiry (s : State) (p : Proc) (c : CoreDump) : State :=
  if !s.runs p || s.frozen then s
  else (s.advance ((s.proc p).kicked + s.frozenTime + 1000000 * s.rd (R.MGT_P_WDT_PERIOD p.idx))).restart p 1 c
/-- The effect of WATCHDOG_KICK (R406). -/
def watchdogKick (s : State) (p : Proc) : State := s.modProc p fun q => { q with kicked := s.now - s.frozenTime }

/-- A processor that restarts ahead of another: the TRP, then the PLP, then the SVP (R408). Images wait for a TRP that has
restarted to set STARTED (R407). DEDUCED, log 48. -/
def turnOf (s : State) (p : Proc) : Bool :=
  let busy (q : Proc) : Bool := (s.proc q).restart.isSome || !s.serves q
  match p with
  | .trp => true
  | .plp => !busy .trp
  | .svp => !busy .trp && (s.proc .plp).restart.isNone

/-- The image verifies, and the processor is released at its reset address. DEDUCED, log 48. -/
def restartRelease (s : State) (p : Proc) (b : BootIn) : State :=
  match (s.proc p).restart with
  | some (.loading, _) =>
    if !s.turnOf p then s
    else
      if p = .trp then s.trpStart b
      else
        let ok := s.keyFor 1 0
        match s.pickImage p (ok && b.okA) (ok && b.okB) with
        | (s, some (k, trial)) => s.releaseProc p k trial
        | (s, none) => s
  | _ => s

end State

/-- TRP_BOOT (R388). -/
def execTrpBoot (boot : BootIn) (s : State) : Res := .next (s.when s.live (·.trpBoot boot))
/-- KEY_BLOCK_RETRY (R392). -/
def execKeyBlockRetry (boot : BootIn) (s : State) : Res := .next (s.when s.live (·.keyRetry boot))
/-- TRP_IMAGE_VERIFIED (R388). -/
def execTrpImageVerified (prov : List Nat) (sigOk : Bool) (s : State) : Res :=
  .next (s.when s.live (·.provision (provOf prov sigOk)))
/-- MAILBOX_TIMEOUT (R396). -/
def execMailboxTimeout (k : Mbx) (s : State) : Res := .next (s.when s.live fun s => (s.mailboxTimeout k).msgWaiters)
/-- MSG_TIMEOUT (R401). -/
def execMsgTimeout (q : Queue) (s : State) : Res := .next (s.when s.live (·.msgTimeout q))
/-- GET_VERSION (R398). -/
def execGetVersion (k : Mbx) (s : State) : Res := .next (s.when s.live fun s => (s.getVersion k).msgWaiters)
/-- ECHO (R398). -/
def execEcho (k : Mbx) (s : State) : Res := .next (s.when s.live fun s => (s.echo k).msgWaiters)
/-- GET_STATE (R398). -/
def execGetState (k : Mbx) (s : State) : Res := .next (s.when s.live fun s => (s.getState k).msgWaiters)
/-- LC_NONCE (R411). -/
def execLcNonce (via : Option Mbx) (s : State) : Res := .next (s.when s.live fun s => (s.lcNonce via).msgWaiters)
/-- LC_TOKEN (R411). -/
def execLcToken (via : Option Mbx) (bytes : List Nat) (sigOk : Bool) (s : State) : Res :=
  .next (s.when s.live fun s => (s.lcToken via bytes sigOk).msgWaiters)
/-- TRUSTED_RESTART_REQUEST (R393). -/
def execTrustedRestartRequest (p : Proc) (core : CoreDump) (s : State) : Res := .next (s.when s.live (·.trustedRestart p core))
/-- WATCHDOG_EXPIRY (R406). -/
def execWatchdogExpiry (p : Proc) (core : CoreDump) (s : State) : Res := .next (s.when s.live (·.watchdogExpiry p core))

end Sys2Proof.Machine
end

