-- ==== Sys2Proof/Machine/Update.lean ====
section
/-!
DEFINITION. Machine/Update.lean: updates over the service port: transfer, build and checks, staged activation,
confirmation and the trial limit (R449–R460).
-/
namespace Sys2Proof.Machine

/-- The processor of an image component; 0x0010 is the pattern library (R450). -/
def compProc (id : Nat) : Option Proc := match id with
  | 1 => some .trp | 2 => some .plp | 3 => some .svp | _ => none
def knownComp (id : Nat) : Bool := (compProc id).isSome || id == 0x10

/-- What the operations of a delta have built (R452): the image, whether every COPY lay within the base, whether all were
DATA, and whether they ended with END. -/
structure DeltaBuild where
  img   : List Nat := []
  inside : Bool := true
  plain : Bool := true
  ended : Bool := false
  deriving DecidableEq, Repr

/-- The operations of a delta, one after another. -/
def deltaOps (base : List Nat) : Nat → List Nat → DeltaBuild → DeltaBuild
  | 0, _, b => b
  | n + 1, ops, b =>
    let len (k : Nat) : Nat := numAt ops k 3
    match ops.head? with
    | some 0 => { b with ended := ops.length == 1 }
    | some 1 =>
      if ops.length < 7 then b
      else deltaOps base n (ops.drop 7) { b with
        img := b.img ++ (base.drop (len 1)).take (len 4), plain := false
        inside := b.inside && decide (len 1 + len 4 ≤ base.length) }
    | some 2 =>
      if ops.length < 4 + len 1 then b
      else deltaOps base n (ops.drop (4 + len 1)) { b with img := b.img ++ (ops.drop 4).take (len 1) }
    | some 3 =>
      if ops.length < 5 then b
      else deltaOps base n (ops.drop 5) { b with img := b.img ++ List.replicate (len 1) (numAt ops 4 1), plain := false }
    | _ => b

/-- The image a delta makes from a base. -/
def deltaBuild (base delta : List Nat) : DeltaBuild := deltaOps base delta.length (delta.drop 64) {}

namespace State

/-- A response of the SVP's endpoint. DESIGN CHOICE, log 14. -/
def pldmReply (s : State) (cmd code : Nat) (data : List Nat := []) : State := s.emit (.pldm cmd code data)

/-- STATE while an update goes on: verifying or receiving a component, or with what is staged. -/
def updShow (s : State) : State :=
  s.setUpd (match s.upd.cur.bind fun i => s.upd.comps[i]? with
    | some c => if c.result.isSome && !s.upd.staged.isEmpty then 3 else if c.whole then 2 else 1
    | none => if s.upd.staged.isEmpty then (if s.upd.active then 1 else 0) else 3)

/-- The component in transfer. -/
def curComp (s : State) : Option UpdComp := s.upd.cur.bind fun i => s.upd.comps[i]?
def setComp (s : State) (c : UpdComp) : State :=
  s.modUpd fun u => { u with comps := match u.cur with
    | some i => u.comps.set i c
    | none => u.comps }

/-! Service addresses (R449). -/

/-- The effect of ENTDAA (R449). -/
def entdaa (s : State) (svp trp : Nat) : State := (s.wr R.UPD_SVC_DA_SVP svp).wr R.UPD_SVC_DA_TRP trp
/-- The effect of SET_ENDPOINT_ID (R449). -/
def setEndpoint (s : State) (trp : Bool) (eid : Nat) : State :=
  (s.wr (if trp then R.UPD_SVC_EID_TRP else R.UPD_SVC_EID_SVP) eid).pldmReply 15 0 [eid]

/-! Transfer (R450, R460). -/

/-- The spec leaves what the identifiers are to DSP0267: a free value. -/
def queryIds (s : State) : State :=
  let (v, s) := s.draw
  s.pldmReply 1 0 [v]

/-- Versions in use and staged, by processor, and that of the library. -/
def fwParams (s : State) : State :=
  let ver (p : Proc) (k : Nat) : Nat := (s.bootEntry p k).elim 0 (·.ver)
  s.pldmReply 2 0 (procs.flatMap (fun (p : Proc) =>
    let k := (s.inUse p).getD 0
    [ver p k, if p ∈ s.upd.staged ++ s.upd.steps then ver p (1 - k) else 0]) ++ [(s.libStored.map (·.libVer)).getD 0])

/-- The effect of REQUEST_UPDATE (R450, R460). -/
def requestUpdate (s : State) : State :=
  if s.lcState = 0 || s.lcState = 4 then s.pldmReply 3 1
  else if s.upd.active || !s.upd.staged.isEmpty || s.rd R.UPD_STATUS_STATE = 4 then s.pldmReply 3 2
  else ((s.modUpd fun u => { u with active := true, comps := [], cur := none }).updShow).pldmReply 3 0

/-- The effect of PASS_COMPONENT_TABLE (R450). -/
def passTable (s : State) (id : Nat) : State := s.pldmReply 4 (if s.upd.active && knownComp id then 0 else 1)

/-- A component's transfer starts while the components take at most 4 MiB together. -/
def updateComp (s : State) (id size : Nat) : State :=
  let total := (s.upd.comps.map (·.size)).foldl (· + ·) 0
  if s.upd.active && knownComp id && s.upd.cur.isNone && decide (total + size ≤ 4194304) then
    ((s.modUpd fun u => { u with comps := u.comps ++ [{ id, size }], cur := some u.comps.length }).updShow).pldmReply 5 0
  else s.pldmReply 5 1

/-- Data arrive where the SVP has asked for them, at most 512 bytes. -/
def fwData (s : State) (bytes : List Nat) : State :=
  match s.curComp with
  | some c =>
    if c.whole || 512 < bytes.length || c.size < c.bytes.length + bytes.length then s.pldmReply 6 1
    else (s.setComp { c with bytes := c.bytes ++ bytes }).pldmReply 6 0
  | none => s.pldmReply 6 1

/-- The effect of TRANSFER_COMPLETE (R450). -/
def transferEnd (s : State) : State :=
  match s.curComp with
  | some c =>
    if c.bytes.length = c.size && !c.whole then ((s.setComp { c with whole := true }).updShow).pldmReply 7 0
    else s.pldmReply 7 1
  | none => s.pldmReply 7 1

/-! Build and checks (R453). -/

/-- Images that run, or are staged to run, on the other processors. -/
def otherImages (s : State) (p : Proc) : List ImgHdr :=
  (procs.filter (· != p)).flatMap fun (q : Proc) =>
    let k := (s.inUse q).getD 0
    headerOf (s.imageOf q k) :: (if q ∈ s.upd.staged then [headerOf (s.imageOf q (1 - k))] else [])

/-- The reason of the first check that fails; 0 where all pass. A header of another version is not read on: the check that
would read it fails (R13). The verdicts say whether BASE_HASH is the hash of the base
and whether the signature verifies. DESIGN CHOICE, log 9; DEDUCED, log 51. -/
def checkImage (s : State) (p : Proc) (delta : List Nat) (b : DeltaBuild) (hashOk sigOk : Bool) : Nat :=
  let dp := procOfCode (numAt delta 2 1)
  let k := dp.map fun q => (s.inUse q).getD 0
  let baseVer := match dp, k with
    | some q, some k => (s.bootEntry q k).elim 0 (·.ver)
    | _, _ => 0
  let h := headerOf b.img
  let own := (s.inUse p).getD 0
  if numAt delta 0 2 ≠ 1 then 1
  else if !b.plain && !(numAt delta 8 8 == baseVer && hashOk && b.inside) then 1
  else if h.ver ≠ 1 || !b.ended || b.img.length ≠ h.len + 96 then 2
  else if !(sigOk && s.keyFor 1 0) then 3
  else if dp ≠ some p || h.proc ≠ p.init.code || (if p = .trp then 196608 else 458752) < h.len then 4
  else if h.svn < (s.bootEntry p own).elim 0 (·.svn) then 5
  else if s.setVersion p < h.setMin || h.setVer < s.setVersion p then 6
  else if (s.otherImages p).any fun o => !compatible h o then 7
  else 0

/-- VerifyComplete: the TRP builds an image into the slot that is not in use, and checks it; a slot stays BAD until its
trial. A delta of another version is not built, and a header of another version not read on (R13). A library is checked
under R291; its result is 1 where it is not taken, for which the spec gives no code. DEDUCED, log 51. -/
def verifyDone (s : State) (hashOk sigOk : Bool) : State :=
  match s.curComp with
  | none => s.pldmReply 8 1
  | some c =>
    if !c.whole || c.result.isSome || !s.runs .trp then s.pldmReply 8 1
    else match compProc c.id with
      | none =>
        let l := libraryOf c.bytes sigOk
        let r := if s.rd R.SEN_FLEET_PUSH = 1 && s.takesLibrary l then 0 else 1
        let s := (s.libraryArrives l).setComp { c with result := some r }
        s.updShow.pldmReply 8 r
      | some p =>
        let base := match procOfCode (numAt c.bytes 2 1) with
          | some q => s.imageOf q ((s.inUse q).getD 0)
          | none => []
        let known := numAt c.bytes 0 2 == 1
        let b := if known then deltaBuild base c.bytes else {}
        let h := if (headerOf b.img).ver = 1 then headerOf b.img else headerOf []
        let k := 1 - (s.inUse p).getD 0
        let r := s.checkImage p c.bytes b hashOk sigOk
        let s := (s.bootWrite p k 0 h.imgVer h.svn).when known fun s =>
          s.modFlash fun f => { f with image := Tab.put f.image (2 * p.idx + k) b.img }
        if r = 0 then
          let s := (s.setComp { c with result := some 0 }).modUpd fun u => { u with staged := p :: u.staged.erase p }
          ((s.raise Ev.UPD_STAGED p.init.code).updShow).pldmReply 8 0
        else
          let s := s.modUpd fun u => { u with staged := u.staged.erase p, comps := u.comps.erase c, cur := none }
          (((s.wr R.UPD_STATUS_ERR r).raise Ev.UPD_VERIFY_FAIL p.init.code r).updShow).pldmReply 8 r

/-- ApplyComplete: a component that has passed is done with. -/
def applyDone (s : State) : State :=
  match s.curComp with
  | some c =>
    if c.result = some 0 then ((s.modUpd fun u => { u with cur := none }).updShow).pldmReply 9 0 else s.pldmReply 9 1
  | none => s.pldmReply 9 1

/-! Activation (R454, R455, R460). -/

/-- ActivateFirmware: the staged processors are to be activated in the order SVP, PLP, TRP. -/
def activate (s : State) : State :=
  if !s.upd.active || s.upd.cur.isSome then s.pldmReply 10 1
  else
    let l := [Proc.svp, .plp, .trp].filter fun p => s.upd.staged.contains p
    let s := s.modUpd fun u => { u with active := false, comps := [], staged := [], steps := l, taken := false, last := none }
    (s.setUpd (if l.isEmpty then 0 else 4)).pldmReply 10 0

/-- The effect of GET_STATUS (R450). -/
def getStatus (s : State) : State := s.pldmReply 11 0 [s.rd R.UPD_STATUS_STATE, s.rd R.UPD_STATUS_ERR]

/-- The effect of CANCEL_UPDATE_COMPONENT (R450). -/
def cancelComp (s : State) : State :=
  match s.curComp with
  | some c =>
    let s := match c.result, compProc c.id with
      | some 0, some p => (s.bootMark p (1 - (s.inUse p).getD 0) 0).modUpd fun u => { u with staged := u.staged.erase p }
      | _, _ => s
    ((s.modUpd fun u => { u with comps := u.comps.erase c, cur := none }).updShow).pldmReply 12 0
  | none => s.pldmReply 12 1

/-- The effect of CANCEL_UPDATE (R460). -/
def cancelUpdate (s : State) : State :=
  if s.rd R.UPD_STATUS_STATE = 4 || (!s.upd.active && s.upd.staged.isEmpty) then s.pldmReply 13 1
  else ((s.modUpd fun u => { u with active := false, comps := [], cur := none }).cancelStaged).pldmReply 13 0

/-- SET_REGATTA is refused once a step has been taken. -/
def setRegatta (s : State) (t : Nat) : State :=
  if s.upd.taken then s.pldmReply 14 1 else (s.wr R.UPD_REGATTA_TIME t).pldmReply 14 0

/-- The next step is due: the first at TIME, or at once where that is 0. An image of the step before that has not
confirmed cancels the rest; otherwise the new slot is TRIAL and the processor restarts with CAUSE 6. A step due in a
freeze waits for the thaw edge. DEDUCED, log 51. -/
def regattaStep (s : State) (c : CoreDump) : State :=
  match s.upd.steps with
  | [] => s
  | p :: rest =>
    if !s.runs .trp then s
    else if s.frozen then s.modUpd fun u => { u with held := some c }
    else
      let due := if s.upd.taken then s.upd.due else s.rd R.UPD_REGATTA_TIME
      let s := (if due = 0 then s else s.advance (s.whenLk due)).toEdge
      let at_ := if due = 0 then s.lkTime else due
      if s.upd.last.isSome then (s.raise Ev.UPD_ABORTED p.init.code).cancelStaged
      else
        let k := 1 - (s.inUse p).getD 0
        let s := s.modUpd fun u => { u with
          steps := rest, taken := true, last := some p, due := at_ + 1000000000 * s.rd R.UPD_REGATTA_CFG_STEP_S }
        (((s.setUpd 4).bootMark p k 0x7F).restart p 6 c)

/-- On a thaw edge the step that came due in the freeze is taken (R338, R460). -/
def regattaHeld (s : State) : State :=
  match s.upd.held with
  | some c => if s.frozen then s else (s.modUpd fun u => { u with held := none }).regattaStep c
  | none => s

/-! Confirmation and the trial limit (R456, R457). -/

/-- A processor writes CONFIRM, which reads 1 from then until its next release. DEDUCED, log 51. -/
def updateConfirm (s : State) (p : Proc) : State :=
  let q := s.proc p
  let ready := s.on (R.MGT_P_STATE_STARTED p.idx) && (p != .plp || s.on (R.MGT_P_STATE_READY 1))
  if !(s.runs p && ready && q.trial.isSome && q.restart.isNone) then s
  else
    let k := s.rd (R.UPD_P_SLOT_ACTIVE p.idx)
    let s := s.bootMark p k 0x1F
    let s := if s.bootState p (1 - k) = 3 || s.bootState p (1 - k) = 4 then s else s.bootMark p (1 - k) 0
    let s := ((s.modProc p fun q => { q with trial := none }).settle p).flag (R.UPD_P_SLOT_TRIAL p.idx) false
    let s := (s.flag (R.UPD_P_SLOT_CONFIRM p.idx) true).raise Ev.UPD_CONFIRMED p.init.code
    let s := s.stepsOver p
    s.modUpd fun u => { u with last := if u.last = some p then none else u.last }

/-- 300 s have passed from the release of an image on trial. -/
def trialTimeout (s : State) (p : Proc) (c : CoreDump) : State :=
  match (s.proc p).trial with
  | some t => (s.advance (t + 300000000000)).restart p 6 c
  | none => s

/-- A command of the SVP's endpoint is served while the SVP renders its services (R407). -/
def served (s : State) (g : State → State) : Res := .next (s.when (s.live && s.serves .svp) g)

end State

/-- ENTDAA (R449). -/
def execEntdaa (svp trp : Nat) (s : State) : Res := .next (s.when s.live (·.entdaa svp trp))
/-- SET_ENDPOINT_ID (R449). -/
def execSetEndpointId (trp : Bool) (eid : Nat) (s : State) : Res := .next (s.when s.live (·.setEndpoint trp eid))
/-- QUERY_DEVICE_IDENTIFIERS (R450). -/
def execQueryDeviceIdentifiers (s : State) : Res := s.served (·.queryIds)
/-- GET_FIRMWARE_PARAMETERS (R450). -/
def execGetFirmwareParameters (s : State) : Res := s.served (·.fwParams)
/-- REQUEST_UPDATE (R450, R460). -/
def execRequestUpdate (s : State) : Res := s.served (·.requestUpdate)
/-- PASS_COMPONENT_TABLE (R450). -/
def execPassComponentTable (id : Nat) (s : State) : Res := s.served (·.passTable id)
/-- UPDATE_COMPONENT (R450). -/
def execUpdateComponent (id size : Nat) (s : State) : Res := s.served (·.updateComp id size)
/-- REQUEST_FIRMWARE_DATA (R450). -/
def execRequestFirmwareData (bytes : List Nat) (s : State) : Res := s.served (·.fwData bytes)
/-- TRANSFER_COMPLETE (R450). -/
def execTransferComplete (s : State) : Res := s.served (·.transferEnd)
/-- VERIFY_COMPLETE (R453). -/
def execVerifyComplete (hashOk sigOk : Bool) (s : State) : Res := s.served (·.verifyDone hashOk sigOk)
/-- APPLY_COMPLETE (R450). -/
def execApplyComplete (s : State) : Res := s.served (·.applyDone)
/-- ACTIVATE_FIRMWARE (R454). -/
def execActivateFirmware (s : State) : Res := s.served (·.activate)
/-- GET_STATUS (R450). -/
def execGetStatus (s : State) : Res := s.served (·.getStatus)
/-- CANCEL_UPDATE_COMPONENT (R450). -/
def execCancelUpdateComponent (s : State) : Res := s.served (·.cancelComp)
/-- CANCEL_UPDATE (R460). -/
def execCancelUpdate (s : State) : Res := s.served (·.cancelUpdate)
/-- SET_REGATTA (R454, R460). -/
def execSetRegatta (t : Nat) (s : State) : Res := s.served (·.setRegatta t)
/-- REGATTA_STEP (R454, R455). -/
def execRegattaStep (core : CoreDump) (s : State) : Res := .next (s.when s.live (·.regattaStep core))
/-- TRIAL_TIMEOUT (R457). -/
def execTrialTimeout (p : Proc) (core : CoreDump) (s : State) : Res := .next (s.when s.live (·.trialTimeout p core))

end Sys2Proof.Machine
end

