-- ==== Sys2Proof/Machine/Meter.lean ====
section
/-!
DEFINITION. Machine/Meter.lean: the sealed meter: energy, conditions, readings, stamps, the audit log, saves and the seal
(R464–R488).
-/
namespace Sys2Proof.Machine

/-- The bit of FLAGS, the bit of LK_MTR_STATUS and the TYPE of the audit entries of a condition (R472, R479, R486). -/
def condFlag : MtrCond → Nat
  | .overrange => 0 | .voltOor => 1 | .reverse => 2 | .tamper => 5
def condStatus : MtrCond → Nat
  | .overrange => 3 | .voltOor => 4 | .reverse => 5 | .tamper => 6
def condType : MtrCond → Nat
  | .overrange => 7 | .voltOor => 8 | .reverse => 9 | .tamper => 11

/-- The two words of a 64-bit number. -/
def words2 (v : Nat) : List Nat := [bits v 0 32, bits v 32 32]
/-- A value with its temperature correction, in millionths. -/
def corrected (v : Nat) (ppm : Int) : Int := (v : Int) * (1000000 + ppm) / 1000000

namespace State

def modMtr (s : State) (g : MtrSt → MtrSt) : State := { s with mtr := g s.mtr }
def bumpSeq (s : State) : State := s.wr R.MTR_COPY_SEQ (s.rd R.MTR_COPY_SEQ + 1)
/-- A copy into the mirror: SEQ rises by 1 before it starts and by 1 after it ends, within 20 µs (R473, R484). A reader sees
the odd value until then. DEDUCED, log 52. -/
def copy (s : State) (g : State → State) : State :=
  let t := max s.now s.mtr.copyTill + Config.copyTime (s.rd R.MTR_COPY_SEQ) % 20001
  (g s.bumpSeq).bumpSeq.modMtr fun m => { m with copyTill := t }
/-- Words are written from an offset on. -/
def putWords (s : State) (at_ : Nat → Fld) (ws : List Nat) : State :=
  s.each ((List.range ws.length).zip ws) fun p s => s.wr (at_ p.1) (p.2 % 2 ^ 32)
/-- Words are copied into the mirror from an offset on. -/
def mirror (s : State) (at_ : Nat → Fld) (ws : List Nat) : State := s.copy (·.putWords at_ ws)
/-- An event of the block's side of the mirror. -/
def mtrEvent (s : State) (code : Nat) (detail : Nat := 0) : State := s.raiseIf s.live code 0xFFFF detail
/-- LK_MTR_STATUS shows the meter's state. -/
def mtrStatus (s : State) : State := s.copy fun s =>
  let m := s.mtr
  let s := (s.flag R.MTR_STATUS_MEASURING m.running).flag R.MTR_STATUS_SEALED m.sealed
  let s := (s.flag R.MTR_STATUS_FAULT m.fault).flag R.MTR_STATUS_OVERRANGE (bit m.now 0)
  let s := (s.flag R.MTR_STATUS_VOLT_OOR (bit m.now 1)).flag R.MTR_STATUS_REVERSE (bit m.now 2)
  (s.flag R.MTR_STATUS_TAMPER (bit m.now 5)).wr R.MTR_STATUS_UNSIGNED m.queue.length
/-- LOG_SEQ has advanced: the block is told at most once in a window (R488). -/
def tellLog (s : State) : State :=
  if s.mtr.told = s.mtr.logSeq || !s.live || (Ev.MTR_LOG, 0xFFFF) ∈ s.once then s
  else (s.raiseOnce Ev.MTR_LOG 0xFFFF s.mtr.logSeq).modMtr fun m => { m with told := m.logSeq }

/-- The 48 bytes of an audit entry (R479). -/
def auditBytes (s : State) (type arg arg2 : Nat) : List Nat :=
  let m := s.mtr
  let b := [1, type] ++ bytesOf 2 arg ++ bytesOf 4 m.logSeq ++ bytesOf 4 m.mpcyc ++ bytesOf 4 arg2 ++ bytesOf 8 m.mus ++
    bytesOf 8 m.energy ++ List.replicate 8 0
  b ++ bytesOf 4 (crc32c b) ++ List.replicate 4 0
/-- An audit entry is made: it takes LOG_SEQ, its type is counted, and it is copied into the mirror (R480).
DEDUCED, log 52. -/
def auditEntry (s : State) (type arg arg2 : Nat) : State :=
  let b := s.auditBytes type arg arg2
  let k := s.mtr.logSeq % 1024
  let n := (s.mtr.counts.toList.getD (type - 1) 0) + 1
  let s := s.modMtr fun m => { m with audit := (b :: m.audit).take 1024, logSeq := m.logSeq + 1
                                      counts := if h : type - 1 < 11 then m.counts.set (type - 1) n else m.counts }
  (s.copy fun s => ((s.putWords (R.MTR_AUDIT_WORD k) (wordsOf b)).wr (R.MTR_CNT_COUNT (type - 1)) n).wr R.MTR_LOG_LOG_SEQ
    s.mtr.logSeq).tellLog

/-! Energy and conditions (R468, R470). -/

/-- Of two voltages in mV the one farther from the nominal 12 V. -/
def farther (a b : Nat) : Nat := if (a - 12000) + (12000 - a) < (b - 12000) + (12000 - b) then b else a

/-- The correction in millionths of a constant at a temperature of the meter's diode, in °C and sixteenths (R468, R482). -/
def tempPpm (m : MtrSt) (perDeg deg frac : Int) : Int := perDeg * (16 * deg + frac - m.cal.t0) / 16

/-- A product: voltages of the divider and the shunt in nV, with the temperature of the meter's diode in °C and sixteenths.
DEDUCED, log 52. -/
def meterProduct (s : State) (vdiv vsh deg frac : Int) : State :=
  if !s.mtr.powered then s
  else if !s.mtr.running then s.modMtr fun m => { m with mus := m.mus + 1, up := m.up + 1 }
  else
    let v := corrected s.mtr.cal.kv (tempPpm s.mtr s.mtr.cal.tkv deg frac) * vdiv / 1000000 - vsh
    let r := corrected s.mtr.cal.rsh (tempPpm s.mtr s.mtr.cal.trsh deg frac)
    let p := (v * vsh / (r * 1000)).toNat + s.mtr.rem
    let counted := decide (r ≤ 2 * vsh) && decide (0 < v)
    let mv := (v / 1000000).toNat
    let ca := (vsh * 100 / r).toNat
    let add (a : Nat × Nat × Nat) : Nat × Nat × Nat := (a.1 + 1, a.2.1 + mv, a.2.2 + ca)
    let ovr := decide (420 * r < vsh)
    let oor := decide (v < 10800000000) || decide (13200000000 < v)
    let conds := withBit (withBit (withBit 0 0 ovr) 1 oor) 2 (decide (v * vsh < 0))
    s.modMtr fun m => { m with
      lastNow := conds
      peak := if !ovr then m.peak else if bit m.now 0 then max m.peak ca else ca
      extreme := if !oor then m.extreme else if bit m.now 1 then farther m.extreme mv else mv
      mus := m.mus + 1, up := m.up + 1, accMs := add m.accMs, accSec := add m.accSec
      energy := if counted then m.energy + p / 1000000000 else m.energy
      rem := if counted then p % 1000000000 else m.rem }

/-- A condition holds now: TAMPER by its pin, the others by the last product: a current above 420 A, a terminal voltage
outside 10.8 V to 13.2 V, a product below 0 (R470). -/
def condHolds (s : State) (c : MtrCond) (open_ : Bool) : Bool := match c with
  | .tamper => open_
  | _ => bit s.mtr.lastNow (condFlag c)

/-- A condition begins or ends, with the peak current or extreme voltage its entry names. DEDUCED, log 52. -/
def conditionChange (s : State) (c : MtrCond) (open_ : Bool) : State :=
  let k := condFlag c
  let begins := s.condHolds c open_
  if !s.mtr.powered || bit s.mtr.now k == begins then s
  else
    let s := s.modMtr fun m => { m with
      now := withBit m.now k begins, sincePer := withBit m.sincePer k true, sinceStp := withBit m.sinceStp k true }
    let value := match c with
      | .overrange => s.mtr.peak
      | .voltOor => s.mtr.extreme
      | _ => 0
    let s := (s.auditEntry (condType c) (b2n begins) value).mtrStatus
    if begins then s.mtrEvent Ev.MTR_RANGE (condStatus c) else s

/-! Readings, stamps and the mirror (R472, R473, R475, R476). -/

def meanOf (a : Nat × Nat × Nat) : Nat × Nat := if a.1 = 0 then (0, 0) else (a.2.1 / a.1, a.2.2 / a.1)

/-- FLAGS of a reading from what has held since the one before in its family. -/
def flagsOf (m : MtrSt) (since : Nat) : Nat :=
  withBit (withBit (since ||| m.now) 3 m.sealed) 4 m.fault
/-- The words of a reading; a signature is zero while unsealed. -/
def readingWords (m : MtrSt) (kind flags : Nat) (q : StampReq) (sig : List Nat) : List Nat :=
  let v := sat 16 m.mean.1
  let i := sat 16 m.mean.2
  [1 + 2 ^ 16 * kind + 2 ^ 24 * flags, m.rseq] ++ words2 Config.meterSn ++ words2 q.energy ++ words2 q.mus ++
    [m.mpcyc, q.job] ++ words2 q.time ++ [q.nonce, v + 2 ^ 16 * i, Config.meterFwVer, m.logSeq] ++
    (List.range 12).map Config.meterFwHash ++ List.replicate 4 0 ++
    (List.range 24).map fun k => if m.sealed then nth sig k else 0
/-- RSEQ counts readings since sealing. -/
def nextReading (s : State) : State := s.modMtr fun m => { m with rseq := if m.sealed then m.rseq + 1 else m.rseq }

/-- The effect of MIRROR_COPY (R473). -/
def mirrorCopy (s : State) : State :=
  if !s.mtr.powered then s
  else
    let (v, i) := meanOf s.mtr.accMs
    let s := s.copy fun s => (((s.wr R.MTR_ENERGY_MJ s.mtr.energy).wr R.MTR_MUS_US s.mtr.mus).wr R.MTR_INST_V_MV (sat 16 v)).wr
      R.MTR_INST_I_CA (sat 16 i)
    (s.modMtr fun m => { m with accMs := (0, 0, 0) }).tellLog

/-- The effect of METER_PERIODIC_READING (R473). DESIGN CHOICE, log 9. -/
def periodicReading (s : State) (sig : List Nat) : State :=
  if !s.mtr.powered then s
  else
    let s := (s.modMtr fun m => { m with mean := meanOf m.accSec, accSec := (0, 0, 0) }).nextReading
    let m := s.mtr
    let s := s.mirror R.MTR_READING_WORD (readingWords m 0 (flagsOf m m.sincePer) ⟨0, 0, 0, 0, m.energy, m.mus, 0⟩ sig)
    s.modMtr fun m => { m with sincePer := m.now }

/-- The hardware sets RESULT at the end of a handshake, and PEND reads 1 until then (R475). -/
def stampAnswer (s : State) (till r : Nat) : State :=
  (s.wr R.MGT_MTR_REQ_RESULT s.stampResult).modMgt fun m => { m with stampAck := some (till, r) }

/-- GO of a stamp request, with KIND as written and whether the meter answers the handshake. A stamp latches ENERGY, MUS and
FLAGS as it is accepted; a meter that does not answer is absent after 1 µs. DEDUCED, log 52. -/
def stampRequest (s : State) (who : Init) (kind : Nat) (answers : Bool) : State :=
  if who ≠ .plp || s.stampPend then s
  else
    let s := s.wr R.MGT_MTR_REQ_KIND kind
    if kind = 0 then s
    else if !answers || !s.mtr.powered then
      let s := s.advance (s.now + 1000)
      (s.stampAnswer s.now 0).mtrEvent Ev.MTR_ABSENT
    else
      let m := s.mtr
      let r := if !m.sealed || m.fault then 3 else if 4 ≤ m.queue.length then 2 else 1
      let q : StampReq := ⟨kind, s.rd R.MGT_MTR_JOB_ID, s.rd R.MGT_MTR_NONCE_VALUE, s.lkTime, m.energy, m.mus, flagsOf m m.sinceStp⟩
      let s := s.stampAnswer (s.now + Config.ackTime s.now % 251) r
      if r = 1 then (s.modMtr fun m => { m with queue := m.queue ++ [q], sinceStp := m.now }).mtrStatus
      else s.mtrEvent Ev.MTR_REFUSED r

/-- The oldest accepted stamp is signed and published. -/
def stampSigned (s : State) (sig : List Nat) : State :=
  match s.mtr.queue with
  | [] => s
  | q :: t =>
    let s := s.nextReading
    let m := s.mtr
    let s := s.mirror (R.MTR_STAMP_WORD (m.stamps % 16)) (readingWords m q.kind q.flags q sig)
    let s := s.modMtr fun m => { m with queue := t, stamps := m.stamps + 1 }
    ((s.copy (·.wr R.MTR_STAMP_HEAD_STAMP_COUNT s.mtr.stamps)).mtrStatus).mtrEvent Ev.MTR_STAMP

/-! Saves, start and faults (R471, R481). -/

def saveOf (m : MtrSt) (fail : Bool) : MtrSave := ⟨m.energy, m.rseq, m.mpcyc, m.stamps, m.logSeq, fail, m.up⟩
/-- The effect of METER_SAVE (R471). -/
def meterSave (s : State) : State :=
  if s.mtr.powered then s.modMtr fun m => { m with saves := [saveOf m false] } else s

/-- The mirror as it is before the meter's first copy. -/
def mirrorOff (s : State) : State := { s with regs := s.regs.filter fun e => decide (e.1 < 0xf0000 * 64) }

/-- VMSTBY fails: the entry and the save are made, and the meter goes off. -/
def powerFailSave (s : State) : State :=
  if !s.mtr.powered then s
  else
    let s := s.auditEntry 3 0 0
    let s := s.modMtr fun m => { m with
      saves := saveOf m true :: m.saves.filter fun x => !x.atFail
      powered := false, running := false, queue := [] }
    s.mirrorOff

/-- FAULT is set, and the meter stops counting until its next power-up. -/
def meterFault (s : State) : State :=
  ((s.modMtr fun m => { m with fault := true, running := false }).mtrStatus).mtrEvent Ev.MTR_FAULT

/-- The meter starts: whether its power-fail save is valid, and the first bytes of its firmware's hash where that is not the
one fused at sealing. DEDUCED, log 52. -/
def meterPowerUp (s : State) (saveOk : Bool) (badHash : Option Nat) : State :=
  let m := s.mtr
  let fail := (m.saves.head?.filter fun x => x.atFail && saveOk)
  let used := match fail with
    | some x => some x
    | none => m.saves.find? fun x => !x.atFail
  let v : MtrSave := used.getD ⟨0, 0, 0, 0, 0, false, 0⟩
  let since := (m.up - v.up) / 1000000
  let s := s.mirrorOff.modMtr fun m => { m with
    powered := true, running := true, fault := false, energy := v.energy, rem := 0, mus := 0, rseq := v.rseq
    mpcyc := v.mpcyc + 1, stamps := v.stamps, logSeq := v.logSeq, now := 0, lastNow := 0, sincePer := 0, sinceStp := 0, queue := []
    accMs := (0, 0, 0), accSec := (0, 0, 0), mean := (0, 0) }
  let s := s.copy fun s => (((s.wr R.MTR_SN_SN Config.meterSn).wr R.MTR_FW_VER_VER Config.meterFwVer).wr R.MTR_MPCYC_COUNT
    s.mtr.mpcyc).wr R.MTR_STAMP_HEAD_STAMP_COUNT s.mtr.stamps
  let s := (s.mirror R.MTR_FW_HASH_WORD ((List.range 12).map Config.meterFwHash)).mirror R.MTR_CERT_WORD s.mtr.cert
  let s := s.copy fun s => s.each (List.range 11) fun t s => s.wr (R.MTR_CNT_COUNT t) (s.mtr.counts.toList.getD t 0)
  let s := s.each s.mtr.audit.reverse fun b s => s.mirror (R.MTR_AUDIT_WORD (numAt b 4 4 % 1024)) (wordsOf b)
  let s := s.auditEntry 2 0 (b2n fail.isSome)
  let s := if fail.isNone && used.isSome then s.auditEntry 4 0 since else s
  let s := match badHash with
    | some h => if s.mtr.sealed then (s.auditEntry 5 0 h).meterFault else s
    | none => s
  s.mtrStatus

/-- The crystal fails: stamps not yet signed are dropped (R485). -/
def xtalFail (s : State) : State :=
  if !s.mtr.powered then s else ((s.auditEntry 10 0 0).modMtr fun m => { m with queue := [] }).meterFault
/-- The effect of SELFTEST_FAIL (R481). -/
def selftestFail (s : State) (t : MtrTest) : State :=
  let a := match t with
    | .current => 1 | .voltage => 2 | .reference => 3
  if !s.mtr.powered then s else (s.auditEntry 6 a 0).meterFault

/-- CAL_ID of some calibration constants (R474). -/
def calIdOf (c : MtrCal) : Nat := crc32c (Config.calBytes c.kv c.rsh c.tkv c.trsh c.t0)
/-- The words of the certificate of a public key and constants, with the vendor's signature of 24 words (R474). -/
def certWords (x y : Nat) (c : MtrCal) (sig : List Nat) : List Nat :=
  [1, 0] ++ words2 Config.meterSn ++ wordsOf (bytesOf 48 x) ++ wordsOf (bytesOf 48 y) ++
    (List.range 12).map (fun k => Config.meterFwHash k % 2 ^ 32) ++
    [Config.meterFwVer % 2 ^ 32, calIdOf c, 0, 0] ++ List.replicate 4 0 ++ (List.range 24).map fun k => nth sig k % 2 ^ 32

/-- Steps 2 and 3 of sealing: the constants are written and the key pair is generated, free values; the public key is
published (R474, R482). -/
def sealKey (s : State) (c : MtrCal) : State :=
  let (d, s) := s.draw
  let (x, s) := s.draw
  let (y, s) := s.draw
  let s := s.modMtr fun m => { m with cal := c, key := some (d % 2 ^ 384, x % 2 ^ 384, y % 2 ^ 384) }
  s.copy fun s => (s.putWords (fun j => R.MTR_CERT_WORD (4 + j)) (wordsOf (bytesOf 48 x))).putWords
    (fun j => R.MTR_CERT_WORD (16 + j)) (wordsOf (bytesOf 48 y))

/-- The seal command through the calibration port: constants, key pair, the vendor's certificate and the fuse, once; the meter
then leaves the chain but for its boundary cells (R482, R483). DEDUCED, log 52. -/
def sealMeter (s : State) (kv rsh : Nat) (tc : Int × Int × Int) (sig : List Nat) : State :=
  if !s.mtr.powered || s.mtr.sealed || s.chain[9] != .meterCal then s
  else
    let s := s.sealKey ⟨kv, rsh, tc.1, tc.2.1, tc.2.2⟩
    let (x, y) := (s.mtr.key.map (·.2)).getD (0, 0)
    let cert := certWords x y s.mtr.cal sig
    let s := (s.modMtr fun m => { m with cert }).mirror R.MTR_CERT_WORD cert
    let s := s.modMtr fun m => { m with sealed := true, rseq := 0, stamps := 0, logSeq := 0 }
    let s := ((s.auditEntry 1 0 (calIdOf s.mtr.cal)).copy (·.wr R.MTR_STAMP_HEAD_STAMP_COUNT 0)).mtrStatus
    { s with chain := s.chain.set 9 .bypass }

/-- KIND and JOB_ID of the newest stamp in the ring, zeros where there is none (R472). -/
def newestInRing (s : State) : Nat × Nat :=
  let n := s.rd R.MTR_STAMP_HEAD_STAMP_COUNT
  if n = 0 then (0, 0)
  else
    let w (j : Nat) : Nat := if s.mtr.powered then s.rd (R.MTR_STAMP_WORD ((n - 1) % 16) j) else 0
    (bits (w 0) 16 8, w 9)

/-- The PLP's first act at each start of its own: where the last change of RUNNING has no stamp with its KIND and JOB_ID,
it requests that stamp (R407, R477). DEDUCED, log 52. -/
def plpFirst (s : State) : State :=
  if s.gov.jobKind = 0 || s.newestInRing == (s.gov.jobKind, s.gov.jobId) then s
  else (s.wr R.MGT_MTR_JOB_ID s.gov.jobId).stampRequest .plp s.gov.jobKind true

/-- A release of a processor; the PLP that starts with it has its first act, after a restart once it sets STARTED (R407). -/
def releasing (s : State) (p : Proc) (g : State → State) : State :=
  let t := g s
  t.when (p == .plp && t.serves .plp && !s.serves .plp) (·.plpFirst)

end State

/-- IMAGE_RELEASE (R388, R477). -/
def execImageRelease (p : Proc) (okA okB : Bool) (s : State) : Res :=
  .next (s.when s.live fun s => s.releasing p (·.imageRelease p okA okB))
/-- RESTART_RELEASE (R406, R477). -/
def execRestartRelease (p : Proc) (boot : BootIn) (s : State) : Res :=
  .next (s.when s.live fun s => s.releasing p (·.restartRelease p boot))
/-- METER_PRODUCT (R468). -/
def execMeterProduct (vdiv vsh deg frac : Int) (s : State) : Res := .next (s.meterProduct vdiv vsh deg frac)
/-- METER_CONDITION_CHANGE (R470). -/
def execMeterConditionChange (c : MtrCond) (open_ : Bool) (s : State) : Res := .next (s.conditionChange c open_)
/-- MIRROR_COPY (R473). -/
def execMirrorCopy (s : State) : Res := .next s.mirrorCopy
/-- METER_PERIODIC_READING (R473). -/
def execMeterPeriodicReading (sig : List Nat) (s : State) : Res := .next (s.periodicReading sig)
/-- METER_SAVE (R471). -/
def execMeterSave (s : State) : Res := .next s.meterSave
/-- METER_POWER_FAIL_SAVE (R471). -/
def execMeterPowerFailSave (s : State) : Res := .next s.powerFailSave
/-- METER_POWER_UP (R471, R481). -/
def execMeterPowerUp (saveOk : Bool) (badHash : Option Nat) (s : State) : Res := .next (s.meterPowerUp saveOk badHash)
/-- METER_XTAL_FAIL (R481, R485). -/
def execMeterXtalFail (s : State) : Res := .next s.xtalFail
/-- SELFTEST_FAIL (R481). -/
def execSelftestFail (t : MtrTest) (s : State) : Res := .next (s.selftestFail t)
/-- STAMP_SIGNED (R476). -/
def execStampSigned (sig : List Nat) (s : State) : Res := .next (s.stampSigned sig)
/-- SEAL_COMMAND (R482). -/
def execSealCommand (kv rsh : Nat) (tc : Int × Int × Int) (sig : List Nat) (s : State) : Res :=
  .next (s.sealMeter kv rsh tc sig)

end Sys2Proof.Machine
end

