-- ==== Sys2Proof/Machine/Package.lean ====
section
/-!
DEFINITION. Machine/Package.lean: block reset, start-up, the 12 V input and the loss of standby power (R262, R412,
R499–R505).
-/
namespace Sys2Proof.Machine

/-- Offsets of the window that a block reset leaves: the regulator area but for LK_RGC_VCL_STATUS, the clock generator
control, the trip latch with its limit and masks, RST_INFO, RESET_LOST, the counters of R437 and the meter window.
DEDUCED, log 45. -/
def resetKeeps (off : Nat) : Bool :=
  (decide (0x40000 ≤ off) && decide (off < 0x50000) && off != 0x44010) || off == 0x30000 || off == 0x30004 ||
    (decide (0x30020 ≤ off) && decide (off < 0x30030)) || off == 0x6000c || off == 0x60010 ||
    (decide (0x60020 ≤ off) && decide (off < 0x60034)) || off == 0x100c || off == 0xa0014 ||
    (decide (0xa0100 ≤ off) && decide (off < 0xa0160)) || decide (0xf0000 ≤ off)

namespace State

/-- The entries of the window whose offsets a rule keeps. -/
def keepRegs (s : State) (keep : Nat → Bool) : State := { s with regs := s.regs.filter fun e => keep (e.1 / 64) }

/-- The wipe of R412: estimators and learned table, mailboxes and their buffers, the SRAMs, staging RAM, trace buffers, key
slots and dumps. -/
def wipe (s : State) : State :=
  let s := s.keepRegs fun off =>
    !((decide (0x90000 ≤ off) && decide (off < 0x90400)) || (decide (0x91000 ≤ off) && decide (off < 0x91800)))
  { s with
    rail := Vector.replicate 16 {}, gov := {}, govDie := Vector.replicate 8 {}
    mgt := { s.mgt with mbx := Vector.replicate 8 {}, keys := Vector.replicate 16 none, sram := [] }
    rcd := { s.rcd with staged := [] }, trcFifo := [], trcDrop := Vector.replicate 5 0, rings := [] }

/-- The events raised so far have their effects before the reset applies. -/
def drainEvents : Nat → State → State
  | 0, s => s
  | n + 1, s => drainEvents n s.eventStage

/-- A loop across a block reset: it goes on, without the VSETs of its link (R500). -/
def loopKeeps (L : LoopSt) : LoopSt :=
  { L with vset := none, held := none, lastAck := none, cuff := 0, ffLeft := 0 }

/-- The state once a block reset applies: what R499, R500 and R430 keep, and the rest as at reset. LK_TIME starts again
from 0. -/
def resetState (s : State) : State :=
  let r : State := State.reset
  { r with
    pending := s.pending, now := s.now, strokeIdx := s.strokeIdx, windowIdx := s.windowIdx, alignIdx := s.alignIdx
    phase := .blockReset, regs := s.regs, raised := s.raised, out := s.out, freeCtr := s.freeCtr
    frozenNs := s.frozenTime, clk := s.clk, rgc := s.rgc, loop := s.loop.map loopKeeps, trip := s.trip
    libStored := s.libStored, lk := { t0 := s.now, off := -(2 * s.now) }, fuses := s.fuses
    siteFuse := s.siteFuse, tripTrim := s.tripTrim, chain := s.chain
    thm := { nextDemand := s.now + 250000, nextCal := s.now + 10000000000 }
    rcd := { slots := s.rcd.slots, powered := s.rcd.powered, opBase := s.rcd.opBase, opAt := s.rcd.opAt }
    flash := s.flash, mtr := s.mtr, nextPoll := s.now + 10000 }

/-- A block reset of a cause applies: every engine is held, every die goes to ÷16, and the root islands reset.
DEDUCED, log 22 and 45. -/
def blockReset (s : State) (cause : Nat) : State :=
  let s := s.drainEvents s.raised.length
  let s := s.advance (s.now + 1000)
  let s := s.each dies fun d s =>
    let s := (s.emit (.brst d true)).emit (.hold d State.allSites true)
    if s.fenced d then s.emit (.fenceLine d false) else s
  let s := s.each sats fun x s => s.modVcl x fun _ => {}
  let s := s.each loops fun l s => s.endPreArm l
  let lost := if s.on R.BUD_JOB_CTL_RUNNING then [(⟨Ev.BUD_JOB_LOST, 0xFFFF, s.gov.jobId, []⟩ : Event)] else []
  let s := s.wr R.REC_RESET_LOST_COUNT (sat 9 s.rcd.staged.length)
  let s := { s with raised := ⟨Ev.HIF_BLOCK_RESET, 0xFFFF, cause, []⟩ :: lost }
  let n := s.rd R.GLB_RST_INFO_COUNT
  let s := (s.resetState.keepRegs resetKeeps).wipe
  ((s.wr R.GLB_RST_INFO_CAUSE cause).wr R.GLB_RST_INFO_COUNT (sat 16 (n + 1))).flag R.MGT_LC_WIPING true |>.tripEvalAll

/-- The wipe ends and the root islands leave reset, once L10 and L15 power them and the root PLL is locked (R25). After a
block reset every fence cause that
still holds fences its die again, a VR_ALERT# still low is acted on again, and a package on its internal oscillator is
degraded again (R226, R327, R500, R505). DEDUCED, log 45. -/
def resetRelease (s : State) : State :=
  if s.phase ≠ .blockReset || !s.regulates 10 || !s.regulates 15 || !s.on R.CLK_SRC_PLL_LOCK then s
  else
    let s := { s with phase := .running }
    let s := (s.flag R.MGT_LC_WIPING false).syncSource
    let s := { s with
      thm := { s.thm with nextDemand := s.now + 250000, nextCal := s.now + 10000000000 }, nextPoll := s.now + 10000 }
    if s.rd R.GLB_RST_INFO_CAUSE = 0 then s
    else
      let s := s.each dies fun d s => (s.emit (.brst d false)).emit (.hold d State.allSites false)
      let s := s.each dies fun d s =>
        let l := d.loop
        if s.parked l then s.fence d 6
        else if !s.regulates l then s.fence d 2
        else if 2 < s.rd (R.RGC_L_PHLOSS_LOST l) then s.fence d 3
        else s
      s.each loops fun l s => if s.alerted l && s.regulates l then s.alertOn l else s

/-- RST_STBY# is released: the crystal proof can begin, and the trip latch is armed 1 ms later (R127, R505). -/
def standbyRelease (s : State) : State :=
  if s.phase = .held && s.trip.armed.isNone then
    ({ s with trip := { s.trip with armed := some (s.now + 1000000) } }).modClkGen fun c => { c with started := true }
  else s

/-- The start-up controller writes ON, 100 µs after the RGC left reset and with P12V_OK high (R504). -/
def startupOn (s : State) : State :=
  match s.rgc.leftReset with
  | some t =>
    if s.rgc.startupDone || s.rgc.p12vLost then s
    else ((s.advance (t + 100000)).modRgc fun r => { r with startupDone := true, p12v := true }).seqOn false
  | none => s

/-- P12V_OK has been low for 1 µs while a loop regulates: every loop is treated as on VR_ALERT# (R504). -/
def p12vLoss (s : State) : State :=
  if s.rgc.p12vLost || !(loops.any fun l => s.regulates l || s.mode l == 1) then s
  else
    let s := s.advance (s.now + 1000)
    let was := loops.filter fun l => s.alerted l
    let s := s.modRgc fun r => { r with p12vLost := true, p12v := false }
    s.each loops fun l s => if s.regulates l && !was.contains l then s.alertOn l else s
/-- The effect of P12V_OK_RETURN (R504). -/
def p12vReturn (s : State) : State :=
  let s' := s.modRgc fun r => { r with p12vLost := false, p12v := true }
  if !s.rgc.p12vLost then s'
  else s'.each loops fun l s => if s.alerted l then s else s.alertOff l

/-! The IEEE 1149.1 chain (R502, R503). -/

/-- The instruction that acts at a device of the chain: one that is not allowed acts as BYPASS. RST_BLK# is low while the
root islands do not run; device 9 is Unkaern. DEDUCED, log 45. -/
def tapActs (s : State) (device : Nat) (i : TapInstr) : TapInstr :=
  let low := s.phase != .running
  let gone := device == 9 && s.mtr.sealed
  let ok := match i with
    | .bypass | .idcode | .sample => true
    | .extest | .clamp | .highz => low && s.on R.RGC_SEQ_STATUS_OFF_DONE
    | .scan | .memTest | .debug => low && s.lcState != 2 && !gone
    | .meterCal => device == 9 && !gone
  if ok then i else .bypass

/-- The IDCODE of a device (R502): the stepping, 0 for a compute die whose satellite speaks as one of stepping A0 (R494),
the part and the maker. -/
def idcode (s : State) (device : Nat) : Nat :=
  let old := match sats[device - 1]? with
    | some x => decide (1 ≤ device) && decide (device ≤ 8) && s.seam[x].ver == 0x20
    | none => false
  let part := if device = 0 then 0x4C33 else if device = 9 then 0x5545 else Config.diePart % 2 ^ 16
  (if old then 0 else 1) * 2 ^ 28 + part * 2 ^ 12 + Config.idMaker % 2 ^ 12

/-- An instruction whose leaving wipes (R503). DEDUCED, log 45. -/
def isScan (i : TapInstr) : Bool := i == .scan || i == .memTest || i == .debug

/-- The devices of the chain leave their instructions: those that acted as IDCODE have shifted their codes, and where a
scan instruction acted the wipe of R412 runs before the reset may end. With RST_BLK# high it acted as BYPASS (R502, R503,
R510). DEDUCED, log 45. -/
def scanExit (s : State) (ir : List TapInstr) : State :=
  let was := s.chain.mapFinIdx fun k _ _ => s.tapActs k (ir.getD k .bypass)
  let s : State := { s with chain := was }
  let s := s.each (List.range 10) fun k s => if was.toList.getD k .bypass = .idcode then s.emit (.tdo k (s.idcode k)) else s
  if was.toList.any isScan then s.wipe.flag R.MGT_LC_WIPING true else s

/-- Standby power is removed: what flash, fuses and the meter hold remains, and the count of records lost in the last reset,
which the next REC_POWER_ON reports (R430). DEDUCED, log 45. -/
def standbyLoss (s : State) : State :=
  let r : State := State.reset
  { r with
    pending := s.pending, out := s.out, freeCtr := s.freeCtr, regs := s.regs, libStored := s.libStored, fuses := s.fuses
    siteFuse := s.siteFuse, tripTrim := s.tripTrim
    rcd := { slots := s.rcd.slots }, flash := s.flash, mtr := s.mtr } |>.keepRegs fun off =>
      decide (0xf0000 ≤ off) || off == R.REC_RESET_LOST_COUNT.off

end State

/-- STANDBY_RESET_RELEASE (R505). -/
def execStandbyResetRelease (s : State) : Res := .next s.standbyRelease
/-- STARTUP_ON_WRITE (R504). -/
def execStartupOnWrite (s : State) : Res := .next (s.when s.rgcOn (·.startupOn))
/-- P12V_OK_LOSS (R504). -/
def execP12vOkLoss (s : State) : Res := .next (s.when s.rgcOn (·.p12vLoss))
/-- P12V_OK_RETURN (R504). -/
def execP12vOkReturn (s : State) : Res := .next (s.when s.rgcOn (·.p12vReturn))
/-- SCAN_EXIT (R503). -/
def execScanExit (ir : List TapInstr) (s : State) : Res := .next (s.scanExit ir)
/-- BLOCK_RESET (R499): by the reset pin, or as requested. -/
def execBlockReset (cause : Fin 6) (s : State) : Res :=
  .next (s.when (s.live && (cause == 5 || s.resetReq == some cause.val)) (·.blockReset cause))
/-- BLOCK_RESET_RELEASE (R499, R505). -/
def execBlockResetRelease (s : State) : Res := .next s.resetRelease
/-- STANDBY_POWER_LOSS (R262). -/
def execStandbyPowerLoss (s : State) : Res := .next s.standbyLoss

end Sys2Proof.Machine
end

