-- ==== Sys2Proof/Machine/HostCtl.lean ====
section
/-!
DEFINITION. Machine/HostCtl.lean: controls of the host interface: enable and disable, queues, vectors and functions, bad
accesses and the request of a block reset (R351–R353, R359, R365–R377).
-/
namespace Sys2Proof.Machine
namespace State

/-! Enable and disable (R351–R353). -/

/-- ENABLE is written 1: RWL fields lock and the enable check begins; a write while ENABLE reads 1 is ignored.
DEDUCED, log 25. -/
def govEnable (s : State) : State :=
  if s.on R.GLB_GOV_CTL_ENABLE then s
  else
    let s := (s.flag R.GLB_GOV_CTL_ENABLE true).flag R.GLB_STATUS_CHECKING true
    ((s.wr R.GLB_STATUS_REFUSE_CODE 0).wr R.GLB_STATUS_REFUSE_ARG 0xFFFF).modGov fun g => { g with check := none }

/-- The command already sent for a die's next window is overtaken by one of pool 0 and ÷16, or, where that cannot reach its
satellite by the boundary, by a reduction for the first stroke after it (R354). DEDUCED, log 25. -/
def recallCheck (s : State) (d : Die) : State :=
  if s.gov.decided ≠ some s.window then s
  else
    let s := s.modGovDie d fun g => { g with pool := 0, ratio := 6 }
    let edge := 2048 * (s.window + 1)
    if s.nextStroke ≤ edge then
      s.sendSeam d.sat (some edge) (.window ⟨0, 6, s.shareOf d, s.measuredNext d.loop, none, false⟩)
    else s.sendSeam d.sat (some s.nextStroke) (.reduce 0 (some 6) none)

/-- ENABLE is written 0: a check is abandoned at once, and what a check that has passed let the governor command is recalled;
an enabled block is disabled at the next window boundary. DEDUCED, log 25. -/
def govDisable (s : State) : State :=
  if s.on R.GLB_STATUS_ENABLED then s.modGov fun g => { g with offAsked := true }
  else
    let passed := s.gov.check == some none
    let s := ((s.flag R.GLB_GOV_CTL_ENABLE false).flag R.GLB_STATUS_CHECKING false).modGov fun g => { g with check := none }
    s.when passed (·.each dies fun d s => s.recallCheck d)

/-! Queues (R359, R365, R366, R373). -/

/-- EN is written 1: the queue starts from index 0, and its doorbell line is read. Completions not yet signalled stay so
(R373). DEDUCED, log 43. -/
def queueEnable (s : State) (q : Queue) (d : Doorbell) : State :=
  if s.on (R.HIF_Q_CFG_EN q) || s.qState q ≠ 0 then s
  else
    let s := (s.flag (R.HIF_Q_CFG_EN q) true).wr (R.HIF_Q_STS_SQ_HEAD q) 0
    let s := ((s.wr (R.HIF_Q_CQ_CQ_TAIL q) 0).flag (R.HIF_Q_CQ_PHASE q) true).wr (R.HIF_Q_STS_ERR q) 0
    ((s.modQueue q fun x => { unsig := x.unsig, oldest := x.oldest }).setQState q 1).doorbell q d

/-- EN is written 0: nothing more is fetched, and the command in progress runs to its completion. -/
def queueDisable (s : State) (q : Queue) : State :=
  let s := s.flag (R.HIF_Q_CFG_EN q) false
  if s.qState q = 0 then s else s.setQState q 4

/-- A completion that the full CQ of a queue leaving state error cannot take is not written (R366). -/
def unwritable (s : State) (q : Queue) : Bool := s.rd (R.HIF_Q_STS_ERR q) != 0 && s.cqFull q

/-- A draining queue with no command in progress and no completion to write is disabled. DEDUCED, log 43. -/
def queueDrained (s : State) (q : Queue) : State :=
  let x := s.queue[q]
  if s.qState q = 4 && x.cmd.isNone then
    (if x.fin.isNone then s.setQState q 0
     else if s.unwritable q then (s.modQueue q fun x => { x with fin := none }).setQState q 0 else s)
  else s

/-- The eight words of a completion entry (R361). -/
def cplWords (s : State) (q : Queue) (f : Cpl) : List Nat :=
  [1 + q.val * 2 ^ 8 + f.cid % 2 ^ 16 * 2 ^ 16, f.sqHead % 2 ^ 12 + f.status * 2 ^ 16, bits f.result 0 32, bits f.result 32 32,
   bits f.detail 0 32, 0, 0, s.rd (R.HIF_Q_CQ_PHASE q) * 2 ^ 31]

/-- The completion of a finished command is written to the next entry of the CQ; with no free entry the queue stalls.
DEDUCED, log 43. -/
def completionWrite (s : State) (q : Queue) (ok : Bool) : State :=
  match s.queue[q].fin with
  | none => s
  | some f =>
    if s.cqFull q then (if s.qState q = 1 then s.setQState q 2 else s)
    else if !ok then (s.modQueue q fun x => { x with fin := none }).queueError q 4
    else
      let k := s.rd (R.HIF_Q_CQ_CQ_TAIL q)
      let s := s.emit (.completion q (s.rd (R.HIF_Q_CQ_BASE_ADDR q) + 32 * k) (s.cplWords q f))
      let s := if k + 1 < s.cqSize q then s.wr (R.HIF_Q_CQ_CQ_TAIL q) (k + 1)
        else (s.wr (R.HIF_Q_CQ_CQ_TAIL q) 0).flag (R.HIF_Q_CQ_PHASE q) (!s.on (R.HIF_Q_CQ_PHASE q))
      let s := (s.count (R.HIF_Q_CNT_CMD_COUNT q)).count R.HIF_CNT_CMD_COUNT
      let s := s.modQueue q fun x =>
        { x with fin := none, unsig := x.unsig + 1, oldest := if x.unsig = 0 then s.now else x.oldest }
      let s := if s.qState q = 3 || s.rd (R.HIF_Q_CFG_COAL_N q) ≤ s.queue[q].unsig then s.signalQueue q else s
      s.fetchNext q

/-- COAL_US µs have passed since the oldest completion not yet signalled. -/
def coalesce (s : State) (q : Queue) : State :=
  let u := s.rd (R.HIF_Q_CFG_COAL_US q)
  if s.queue[q].unsig = 0 || u = 0 then s else (s.advance (s.queue[q].oldest + 1000 * u)).signalQueue q

/-! Vectors and functions (R372). -/

/-- MASK is written; a message held by it is sent when it becomes 0. -/
def maskWrite (s : State) (v : Nat) (m : Bool) : State :=
  let s := s.flag (R.INT_V_CTL_MASK v) m
  if !m && s.on (R.INT_V_CTL_PEND v) then (s.flag (R.INT_V_CTL_PEND v) false).sendMessage v else s

/-- A write of 1 to EVT clears it and COUNT. -/
def evtClear (s : State) (k : Nat) : State := (s.flag (R.INT_F_CAUSE_EVT k) false).wr (R.INT_F_CAUSE_COUNT k) 0

/-! Bad accesses and the block reset (R375, R377). -/

/-- How an access of the host is bad: 2 narrower than 4 bytes; 3 of 5 to 7 bytes or wider than 8; 1 misaligned; 0 for a good
one. -/
def accessKind (off size : Nat) : Nat :=
  if size < 4 then 2 else if size ≠ 4 ∧ size ≠ 8 then 3 else if off % size ≠ 0 then 1 else 0

/-- A bad access is refused and recorded. In a block reset a read of any kind gets all ones with an error, a write is
dropped, and neither is recorded (R378). DEDUCED, log 43. -/
def badAccess (s : State) (off size : Nat) (write : Bool) : State :=
  let k := accessKind off size
  if s.phase = .blockReset then (if write then s else s.emit .badRead)
  else if !s.live || k = 0 then s
  else
    let s := (s.wr R.GLB_ACCESS_ERR_OFFSET off).wr R.GLB_ACCESS_ERR_KIND k
    let s := (s.flag R.GLB_ACCESS_ERR_VALID true).raise Ev.HIF_ACCESS_BAD 0xFFFF off
    if write then s else s.emit .badRead

/-- RST_INFO.CAUSE of a reset an initiator asks for (R376). -/
def resetCause (who : Init) : Nat := match who with
  | .host => 1
  | _ => 2

/-- GO requests a block reset while KEY reads 0xC0DE; otherwise it clears with no effect. -/
def resetGo (s : State) (who : Init) : State :=
  if s.rd R.GLB_RESET_KEY = 0xC0DE then { s.flag R.GLB_RESET_GO true with resetReq := some (resetCause who) } else s

end State

/-- GOV_ENABLE (R351). -/
def execGovEnable (s : State) : Res := .next (s.when s.live (·.govEnable))
/-- GOV_DISABLE (R353). -/
def execGovDisable (s : State) : Res := .next (s.when s.live (·.govDisable))
/-- QUEUE_ENABLE (R359). -/
def execQueueEnable (q : Queue) (d : Doorbell) (s : State) : Res := .next (s.when s.live (·.queueEnable q d))
/-- QUEUE_DISABLE (R359). -/
def execQueueDisable (q : Queue) (s : State) : Res := .next (s.when s.live (·.queueDisable q))
/-- QUEUE_DRAINED (R359). -/
def execQueueDrained (q : Queue) (s : State) : Res := .next (s.when s.live (·.queueDrained q))
/-- COMPLETION_WRITE (R361, R365). -/
def execCompletionWrite (q : Queue) (ok : Bool) (s : State) : Res := .next (s.when s.live (·.completionWrite q ok))
/-- COALESCE_TIMEOUT (R373). -/
def execCoalesceTimeout (q : Queue) (s : State) : Res := .next (s.when s.live (·.coalesce q))
/-- VECTOR_UNMASK (R372). -/
def execVectorUnmask (v : Fin 42) (s : State) : Res := .next (s.when s.live (·.maskWrite v false))
/-- FUNCTION_EVT_CLEAR (R372). -/
def execFunctionEvtClear (k : Fin 10) (s : State) : Res := .next (s.when s.live (·.evtClear k))
/-- BAD_ACCESS (R375). -/
def execBadAccess (off size : Nat) (write : Bool) (s : State) : Res := .next (s.badAccess off size write)

end Sys2Proof.Machine
end

