-- ==== Sys2Proof/Machine/Vcl.lean ====
section
/-!
DEFINITION. Machine/Vcl.lean: the commands of the voltage command links: the frames and the links' own state
(R141, R188–R194).
-/
namespace Sys2Proof.Machine
namespace State

/-- The loops a link serves (R163, R189). -/
def servedBy (x : Sat) : List Loop := loops.filter fun l => satOf l == x && decide (l.val ≤ 10)

/-- The other end of a link. -/
def other : VclEnd → VclEnd
  | .satellite => .rgc
  | .rgc => .satellite

/-- A frame reaches a side that is up: a good one, the first on its way that is it, is noted and handed on; a bad one,
the first on its way spoiled, is discarded and counted (R37, R189). DEDUCED, log 30. -/
def receive (s : State) (x : Sat) (e : VclEnd) (f : VclFrame) (g : State → State) : State :=
  let l := (s.side x (other e)).flight
  if !s.live || !(s.side x e).up then s
  else if f.good then match l.find? fun q => q.frame == f with
    | some q =>
      let s := (s.advance (q.start + 16)).modSide x (other e) fun v => { v with flight := v.flight.erase q }
      g (s.modSide x e fun v => { v with last := s.now })
    | none => s
  else
    let s := s.modSide x (other e) fun v => { v with flight := v.flight.tail }
    (s.modSide x e fun v => { v with discards := (s.now :: v.discards).take 8 }).count R.RGC_VCL_CNT_CRC_COUNT

/-- A VSET is served: the loop's target becomes its own with its margin, clamped, and VACK waits for it (R190–R192). -/
def serveVset (s : State) (l : Loop) (seq mv : Nat) : State :=
  let t := s.clampTarget l mv
  ((s.setTarget l t).modLoop l fun L => { L with vset := some ⟨seq, t⟩ }).flag (R.RGC_L_TGT_ACKED l) false

/-- A VACK for a VSET leaves the RGC. -/
def sendVack (s : State) (l : Loop) (v : Vset) : State := s.sendVcl (satOf l) .rgc (VclFrame.make 8 v.seq l v.target 0)

/-- A VSET that asks more than the end of a pre-arm reaches a loop (R190, R192). DEDUCED, log 30. -/
def takeVset (s : State) (l : Loop) (seq mv : Nat) : State :=
  let L := s.loop[l]
  if s.regulates l then
    if L.vset = some ⟨seq, s.clampTarget l mv⟩ then s
    else match L.lastAck with
      | some v => if v.seq = seq then s.sendVack l v else s.serveVset l seq mv
      | none => s.serveVset l seq mv
  else if s.mode l = 1 then s.modLoop l fun L => { L with held := some ⟨seq, mv⟩ }
  else s.sendVcl (satOf l) .rgc (VclFrame.make 0xB seq l 1 0)

/-- A VSET frame reaches the RGC. One with PA_REL ends the pre-arm, and one with PA_REL and an unchanged target does no
more than that (R186, R190). -/
def vset (s : State) (x : Sat) (f : VclFrame) : State :=
  if f.type ≠ 1 then s else
  match (servedBy x).find? fun l => l.val == f.loop with
  | none => s
  | some l =>
    let mv := bits f.w1 0 11 + 15 * bits f.w2 0 2
    if bit f.w2 15 then
      let s := (s.stopFf l).endPreArm l
      if s.clampTarget l mv = s.rd (R.RGC_L_TGT_TARGET l) then s else s.takeVset l f.seq mv
    else s.takeVset l f.seq mv

/-- S8's newest VSET of a loop is answered: it is repeated no longer (R192). -/
def vsetEnded (s : State) (x : Sat) (f : VclFrame) : State :=
  s.each ((servedBy x).filter fun (l : Loop) => l.val == f.loop && s.vsetTx[l].seq == f.seq) fun l s =>
    s.modTx l fun t => { t with again := none }

/-- A VACK frame reaches a satellite: one for its newest VSET updates V_ack, ends the raise and takes a lowered margin
out of the cost (R51, R141). -/
def vack (s : State) (x : Sat) (f : VclFrame) : State :=
  if f.type ≠ 8 then s else
  match x.die? with
  | none => s.vsetEnded x f
  | some d =>
    let l := d.loop
    let t := s.vsetTx[l]
    if f.loop ≠ l.val || f.seq ≠ t.seq then s
    else
      let s := if t.due.isSome then s.setVack d (bits f.w1 0 11) else s
      let s := (s.modTx l fun t => { t with due := none, again := none }).flag (R.CLK_DIE_DIV_ACK_WAIT d) false
      ((s.modClk d fun c => { c with timeouts := if t.due.isSome then 0 else c.timeouts, mCost := t.m }).lowerVoltage d)

/-- A CUFF frame reaches a satellite. The PHASE cause clears with the governor's marked command, not with a frame
(R73, R219). -/
def cuffFrame (s : State) (x : Sat) (causes : Nat) : State :=
  match x.die? with
  | none => s
  | some d => s.rgcCauses d (causes ||| (s.adm[d].causes &&& (2 ^ CuffCause.droop.bit + 2 ^ CuffCause.phase.bit)))

/-- A PREARM frame reaches a satellite (R68, R70). -/
def preArmFrame (s : State) (x : Sat) (f : VclFrame) : State :=
  if f.type ≠ 0xA then s else
  match x.die? with
  | none => s
  | some d => if bit f.w1 0 then s.armHints d else s.unarm d

/-- A VNAK for the newest VSET ends its raise as a timeout does (R192). -/
def vnak (s : State) (x : Sat) (f : VclFrame) : State :=
  if f.type ≠ 0xB then s else
  match x.die? with
  | none => s.vsetEnded x f
  | some d => if s.vsetTx[d.loop].due.isSome && f.seq == s.vsetTx[d.loop].seq then s.raiseFails d else s

/-- V_ref has reached the target and the output has held for ACK_N samples: VACK is sent (R191). -/
def voltageReached (s : State) (l : Loop) : State :=
  let L := s.loop[l]
  match L.vset with
  | some v =>
    if s.regulates l && s.atTarget l && decide (s.rd R.RGC_VCL_CFG_ACK_N ≤ L.okRun) && s.vcl[satOf l].rgc.up then
      ((s.sendVack l v).modLoop l fun L => { L with vset := none, lastAck := some v }).flag (R.RGC_L_TGT_ACKED l) true
    else s
  | none => s

/-- 2 µs after an unacknowledged raise it is sent again with its SEQ (R192). -/
def vsetRepeat (s : State) (l : Loop) : State :=
  let t := s.vsetTx[l]
  match t.again with
  | some a =>
    let s := s.advance a
    if (s.side (satOf l) .satellite).up then
      (s.modTx l fun t => { t with again := some (a + 2000) }).sendVcl (satOf l) .satellite (VclFrame.make 1 t.seq l t.a t.m)
    else s.modTx l fun t => { t with again := some (a + 2000) }
  | none => s

/-- A side that has sent nothing for 1 µs sends a PING or the present CUFF state (R194). -/
def idleSend (s : State) (x : Sat) (e : VclEnd) : State :=
  if !(s.side x e).up then s
  else
    let s := s.advance ((s.side x e).sent + 1000)
    match e with
    | .satellite => s.sendVcl x e (VclFrame.make 2 0 x.val 0 0)
    | .rgc => match (servedBy x).head? with
      | some l => s.sendVcl x e (s.cuffNow l)
      | none => s

/-- A side declares its link down (R194). -/
def goDown (s : State) (x : Sat) (e : VclEnd) : State :=
  if !(s.side x e).up then s
  else
    let s := (s.modSide x e fun v => { v with up := false, discards := [], flight := [] }).modVcl x fun v =>
      { v with nextTry := if v.sat.up = v.rgc.up then s.now else min v.nextTry s.now, failed := if v.sat.up = v.rgc.up then 0 else v.failed }
    match e with
    | .satellite => match x.die? with
      | some d => s.dropHints d
      | none => s
    | .rgc =>
      let s := ((s.clrMask R.RGC_VCL_STATUS_UP (2 ^ x.val)).count R.RGC_VCL_CNT_DOWN_COUNT).raise Ev.RGC_VCL_DOWN x
      let s := s.each (servedBy x) fun l s => s.endPreArm l
      match x.die? with
      | some d => (s.place d srcVcl (some (min (s.rd R.ADM_CUFF_LVL_LEVEL_PCT) (s.rd R.ADM_CUFF_LVL_ALERT_PCT) *
          s.rd (R.ADM_DIE_STATUS_POOL d) / 100)) none none).modVcl x fun v => { v with capHeld := true }
      | none => s

/-- No valid frame for 3 µs, or 8 discards within 1 µs. -/
def vclDown (s : State) (x : Sat) (e : VclEnd) : State :=
  let v := s.side x e
  let many := v.discards.length == 8 && decide (s.now < v.discards.getLast?.getD 0 + 1000)
  if many then s.goDown x e else (if v.up then s.advance (v.last + 3000) else s).goDown x e

/-- A down link starts to retrain, at once and every 10 µs; it carries no frame meanwhile, so both sides are down. -/
def vclRetrain (s : State) (x : Sat) : State :=
  let v := s.vcl[x]
  if v.training.isSome || (v.sat.up && v.rgc.up) || bit (s.rd R.RGC_VCL_STATUS_DEAD) x then s
  else
    let s := s.advance v.nextTry
    ((s.goDown x .satellite).goDown x .rgc).modVcl x fun v => { v with training := some s.now, nextTry := s.now + 10000 }

/-- S8 asks VNOM of L8 to L10 with its margin; a raise is repeated until it is answered (R165, R190, R192). -/
def askNominal (s : State) (l : Loop) : State :=
  let v := s.rd (R.RGC_L_VNOM_VNOM l)
  s.newVset l v (s.margin l) none (if s.rd (R.RGC_L_TGT_TARGET l) < v + 15 * s.margin l then some (s.now + 2000) else none)

/-- VNOM of L8 to L10 is no longer what S8 asked last: it asks again while the link is up, else once it is (R165).
DEDUCED, log 30. -/
def followNominal (s : State) (x : Sat) : State :=
  if x.die?.isSome || !(s.side x .satellite).up then s
  else s.each ((servedBy x).filter fun (l : Loop) => s.vsetTx[l].a != s.rd (R.RGC_L_VNOM_VNOM l)) fun l s => s.askNominal l

/-- The first request of a satellite whose link comes up after a reset: its ratio's voltage, or VNOM of L8 to L10
(R190, R499). -/
def firstVset (s : State) (x : Sat) : State :=
  match x.die? with
  | some d => s.askVoltage d (s.voltRatio d)
  | none => s.each (servedBy x) fun l s => s.askNominal l

/-- A retraining ends; after three failures in a row the link is dead and the die is fenced (R194, R496). -/
def retrainEnd (s : State) (x : Sat) (ok : Bool) : State :=
  let v := s.vcl[x]
  if v.training.isNone then s
  else if ok then
    let up : VclSide := { up := true, last := s.now, sent := s.now }
    let s := (s.modVcl x fun v => { v with sat := up, rgc := up, training := none, failed := 0, fresh := false }).setMask
      R.RGC_VCL_STATUS_UP (2 ^ x.val)
    if v.fresh then s.firstVset x
    else
      let s := s.raise Ev.RGC_VCL_UP x
      match x.die? with
      | some d => s.retarget d
      | none => s.followNominal x
  else
    let s := s.modVcl x fun v => { v with training := none, failed := v.failed + 1 }
    if v.failed + 1 < 3 then s
    else
      let s := (s.setMask R.RGC_VCL_STATUS_DEAD (2 ^ x.val)).raise Ev.RGC_VCL_DEAD x
      match x.die? with
      | some d => s.fence d 4
      | none => s

/-- Writing 1 to DEAD bits starts retraining again (R197). -/
def deadClear (s : State) (mask : Nat) : State :=
  (s.each sats fun x s =>
    if bit mask x && bit (s.rd R.RGC_VCL_STATUS_DEAD) x then s.modVcl x fun v => { v with failed := 0, nextTry := s.now }
    else s).clrMask R.RGC_VCL_STATUS_DEAD mask

end State

/-- VSET (R190–R192). -/
def execVset (x : Sat) (f : VclFrame) (s : State) : Res := .next (s.receive x .rgc f (·.vset x f))
/-- PING (R194): it keeps the link alive. -/
def execPing (x : Sat) (f : VclFrame) (s : State) : Res := .next (s.receive x .rgc f id)
/-- VACK (R141). -/
def execVack (x : Sat) (f : VclFrame) (s : State) : Res := .next (s.receive x .satellite f (·.vack x f))
/-- CUFF (R75, R193). -/
def execCuff (x : Sat) (f : VclFrame) (s : State) : Res :=
  .next (s.receive x .satellite f fun s =>
    if f.type = 9 then s.cuffFrame x (bits f.w1 0 2 + 8 * bits f.w1 2 2) else s)
/-- PREARM (R70). -/
def execPrearm (x : Sat) (f : VclFrame) (s : State) : Res := .next (s.receive x .satellite f (·.preArmFrame x f))
/-- VNAK (R192). -/
def execVnak (x : Sat) (f : VclFrame) (s : State) : Res := .next (s.receive x .satellite f (·.vnak x f))
/-- VOLTAGE_REACHED (R191). -/
def execVoltageReached (l : Loop) (s : State) : Res := .next (s.when s.live (·.voltageReached l))
/-- VSET_REPEAT (R192). -/
def execVsetRepeat (l : Loop) (s : State) : Res := .next (s.when s.live (·.vsetRepeat l))
/-- VCL_IDLE_SEND (R194). -/
def execVclIdleSend (x : Sat) (e : VclEnd) (s : State) : Res := .next (s.when s.live (·.idleSend x e))
/-- VCL_DOWN (R194). -/
def execVclDown (x : Sat) (e : VclEnd) (s : State) : Res := .next (s.when s.live (·.vclDown x e))
/-- VCL_RETRAIN (R194). -/
def execVclRetrain (x : Sat) (s : State) : Res := .next (s.when s.live (·.vclRetrain x))
/-- VCL_RETRAIN_END (R194). -/
def execVclRetrainEnd (x : Sat) (ok : Bool) (s : State) : Res := .next (s.when s.live (·.retrainEnd x ok))
/-- VCL_DEAD_CLEAR (R197). -/
def execVclDeadClear (mask : Nat) (s : State) : Res := .next (s.when s.live (·.deadClear mask))

end Sys2Proof.Machine
end

