-- ==== Sys2Proof/Machine/RegWrite.lean ====
section
/-!
DEFINITION. Machine/RegWrite.lean: a write of the register window by an initiator, with what each field's write does, and
a processor's read through its snapshot latch (R7, R10, R11, R375, R385, R395, R405, R461, R487).
-/
namespace Sys2Proof.Machine

/-- A write to a register: the bits it covers, from `lo` on, and what it brings there. -/
structure RegVal where
  lo : Nat
  w  : Nat
  v  : Nat
  deriving DecidableEq, Repr

namespace State

/-- The write covers a field, or half of a 64-bit one. -/
def covers (x : RegVal) (f : Fld) : Bool := decide (f.lo < x.lo + x.w) && decide (x.lo < f.lo + f.w)
/-- What the write makes of a field: the written bits, with the other half of a 64-bit field as it stands. -/
def written (s : State) (x : RegVal) (f : Fld) : Nat :=
  if x.lo ≤ f.lo && f.lo + f.w ≤ x.lo + x.w then bits x.v (f.lo - x.lo) f.w
  else if f.lo < x.lo then putBits (s.rd f) (x.lo - f.lo) x.w x.v
  else putBits (s.rd f) 0 (x.lo + x.w - f.lo) x.v
/-- A one-bit field is written with 1. -/
def ones (x : RegVal) (f : Fld) : Bool := covers x f && bit x.v (f.lo - x.lo)

/-- RWL fields are locked. -/
def locked (s : State) : Bool := s.on R.GLB_GOV_CTL_ENABLE

/-- A field is stored under its access code (R7, R11). DEDUCED, log 13. -/
def putField (s : State) (who : Init) (x : RegVal) (f : Fld) : State :=
  if !covers x f then s
  else match f.acc with
    | .ro | .ros | .w1s => s
    | .rw => s.writeLimit f (s.written x f)
    | .rwl => if s.locked then s else s.writeLimit f (s.written x f)
    | .rwt => if who = .trp && s.serves .trp then s.writeCeiling f (s.written x f) else s
    | .w1c => s.clrMask f (s.written x f)

/-- Every field of a register but some, in order. -/
def putFields (s : State) (who : Init) (h : RegHit) (x : RegVal) (but : List Fld) : State :=
  s.each (h.flds.filter fun f => !but.contains f) fun f s => s.putField who x f

/-- The doorbell line of a queue that a plain write of CFG enables: its content is not among the write's operands. -/
def anyDoorbell (s : State) : Doorbell × State :=
  let (a, s) := s.draw
  let (b, s) := s.draw
  let (c, s) := s.draw
  (if c % 2 = 0 then none else some (a % 2 ^ 32 :: b % 2 ^ 32 :: List.replicate 14 0), s)
/-- `n` free words. -/
def anyWords (n : Nat) (s : State) : List Nat × State :=
  (List.range n).foldl (fun p _ => let (v, t) := p.2.draw; (p.1 ++ [v % 2 ^ 32], t)) ([], s)
/-- What a processor that a plain write of RESTART stops holds: none of it is among the write's operands. -/
def anyCore (s : State) : CoreDump × State :=
  let (x, s) := anyWords 32 s
  let (c, s) := anyWords 9 s
  let (p, s) := anyWords 16 s
  (⟨x, c, p⟩, s)

/-- The words of a processor's four entries as they stand (R387). -/
def startedNow (s : State) (p : Proc) : State :=
  let m := (s.proc p).pmp
  s.startedWrite p m[0] m[1] m[2] m[3]

/-- The die, loop, satellite, queue and so on of a register's index. -/
def dieOf (h : RegHit) : Die := Fin.ofNat 8 h.n
def satAt (h : RegHit) : Sat := Fin.ofNat 9 h.n
def loopOf (h : RegHit) : Loop := Fin.ofNat 16 h.n
def queueOf (h : RegHit) : Queue := Fin.ofNat 32 h.n
def mbxOf (h : RegHit) : Mbx := Fin.ofNat 8 h.n

/-- Registers of the admission, budget and clock areas whose writes do more than store a field. -/
def writeFront (s : State) (who : Init) (h : RegHit) (x : RegVal) : Option State :=
  let is (f : Fld) : Bool := h.base == f.off
  let d := dieOf h
  if is R.ADM_COST_SWAP_DIE then some (s.costSwap (s.written x R.ADM_COST_SWAP_DIE))
  else if is R.ADM_FENCE_REQ then some ((s.fenceReq (s.written x R.ADM_FENCE_REQ)).lift (s.written x R.ADM_FENCE_LIFT))
  else if is (R.ADM_SEAM_CTL_RETRAIN h.n) then
    some (if ones x (R.ADM_SEAM_CTL_RETRAIN h.n) then s.retrainWrite (satAt h) else s)
  else if is R.ADM_SEAM_CFG_MIN_VER then
    some ((s.putFields who h x [R.ADM_SEAM_CFG_MIN_VER]).minVer (s.written x R.ADM_SEAM_CFG_MIN_VER))
  else if is R.BUD_JOB_CTL_START then
    some ((s.putFields who h x []).jobRequest (ones x R.BUD_JOB_CTL_START) (ones x R.BUD_JOB_CTL_STOP))
  else if is R.BUD_LT_ACC_INDEX then
    let s := s.putFields who h x []
    let s := s.when (ones x R.BUD_LT_ACC_READ) (·.ltAccRead)
    let s := s.when (ones x R.BUD_LT_ACC_WRITE) (·.ltAccAsk R.BUD_LT_ACC_WRITE)
    some (s.when (ones x R.BUD_LT_ACC_INVAL_ALL) (·.ltAccAsk R.BUD_LT_ACC_INVAL_ALL))
  else if is R.CLK_SRC_CTL_RETURN then
    some ((s.putFields who h x []).when (ones x R.CLK_SRC_CTL_RETURN) (·.clkReturn))
  else if is R.CLK_FMC_CTL_START then
    some ((s.putFields who h x []).when (ones x R.CLK_FMC_CTL_START) (·.fmcStart))
  else if is (R.CLK_DIE_DIV_HELD h.n) then
    some (if ones x (R.CLK_DIE_DIV_HELD h.n) && s.on (R.CLK_DIE_DIV_HELD d) then
      (s.flag (R.CLK_DIE_DIV_HELD d) false).modHold d fun q => { q with released := true } else s)
  else if is (R.CLK_DIE_GATE_CL h.n 0) then
    some (s.each clusters fun c s =>
      let v := s.written x (R.CLK_DIE_GATE_CL d c)
      if v = s.rd (R.CLK_DIE_GATE_CL d c) then s else s.gateWrite d c v)
  else if is (R.CLK_DIE_DROOP_EN_DET h.n) then some ((((s.putFields who h x []).droopSync d).droopCheck d).droopBegin d)
  else if is (R.CLK_DIE_DROOP_STUCK_DET h.n) then some (s.droopReadmit d (s.written x (R.CLK_DIE_DROOP_STUCK_DET d)))
  else none

/-- Registers of the regulator area. A phase at or above NPH has no registers, and holds their reset values (R199). PARK written 0 ends the parking; a loop already parked is not parked again. -/
def writeRgc (s : State) (who : Init) (h : RegHit) (x : RegVal) : Option State :=
  let is (f : Fld) : Bool := h.base == f.off
  let l := loopOf h
  if is (R.RGC_L_CFG_NPH h.n) then
    let s := s.putFields who h x []
    let lo := 0x40100 + h.n * 0x400 + s.rd (R.RGC_L_CFG_NPH h.n) * 0x40
    let s := s.keepRegs fun off => !(decide (lo ≤ off) && decide (off < 0x40400 + h.n * 0x400))
    some (s.modLoop l fun L => { L with phases := L.phases.mapIdx fun i p => if s.rd (R.RGC_L_CFG_NPH h.n) ≤ i then {} else p })
  else if is (R.RGC_L_VNOM_VNOM h.n) then some ((s.putFields who h x []).followNominal (satOf l))
  else if is R.RGC_VCL_STATUS_DEAD then some (s.deadClear (s.written x R.RGC_VCL_STATUS_DEAD))
  else if is (R.RGC_L_APPLY_APPLY h.n) then
    some (s.when (ones x (R.RGC_L_APPLY_APPLY h.n)) (·.flag (R.RGC_L_APPLY_APPLY h.n) true))
  else if is R.RGC_SW_CTL_SRC then
    let s := s.refNow.putFields who h x []
    some (if s.on R.RGC_SW_CTL_SRC then s else s.syncOff)
  else if is R.RGC_SEQ_CTL_ON then
    let s := s.putFields who h x []
    let on := ones x R.RGC_SEQ_CTL_ON
    let off := ones x R.RGC_SEQ_CTL_OFF
    some (if on then s.seqOn off else s.when off (·.seqOff on))
  else if is (R.RGC_L_ALERT_EN h.n) then
    let was := s.alerted l
    some ((s.putFields who h x []).alertFollows l was)
  else if is (R.RGC_L_SENSE_RETRY h.n) then
    some ((s.putFields who h x []).when (ones x (R.RGC_L_SENSE_RETRY h.n)) (·.senseRetry l))
  else if is (R.RGC_L_FAULT_PARK h.n) then
    let p := R.RGC_L_FAULT_PARK h.n
    let was := s.on p
    let s := s.putFields who h x [p]
    let s := s.when (ones x (R.RGC_L_FAULT_SHORT_LATCH h.n)) (·.latchClear l)
    some (if !covers x p || s.locked then s
      else if ones x p then (if was then s else s.park l) else (s.flag p false).showHalt.showSeq)
  else if is (R.RGC_L_CAL_START h.n) then
    some ((s.putFields who h x []).when (ones x (R.RGC_L_CAL_START h.n)) (·.calStart l))
  else if is (R.RGC_L_HOLD_CTL_CLR h.n) then
    some (s.when (ones x (R.RGC_L_HOLD_CTL_CLR h.n)) (·.flag (R.RGC_L_HOLD_CTL_CLR h.n) true))
  else if is (R.RGC_PH_LOSS_READMIT h.n h.i) then
    some (s.when (ones x (R.RGC_PH_LOSS_READMIT h.n h.i)) (·.readmit l (Fin.ofNat 12 h.i)))
  else none

/-- Registers of the thermal and the sentinel area. -/
def writeThmSen (s : State) (who : Init) (h : RegHit) (x : RegVal) : Option State :=
  let is (f : Fld) : Bool := h.base == f.off
  let d := dieOf h
  if is R.THM_CTL_DEMAND_NOW then
    let s := s.putFields who h x []
    let s := s.when (ones x R.THM_CTL_DEMAND_NOW) (·.flag R.THM_CTL_DEMAND_NOW true)
    some (s.when (ones x R.THM_CTL_CAL_START) (·.calAsk))
  else if is R.THM_TRIP_TEST_START then
    some ((s.putFields who h x []).when (ones x R.THM_TRIP_TEST_START) (·.tripTestStart))
  else if is (R.THM_DIE_BROKEN_SITE h.n) then some (s.diodeReadmit (satAt h) (s.written x (R.THM_DIE_BROKEN_SITE h.n)))
  else if is (R.THM_TRIP_MASK_SITE h.n) then
    some (if who = .trp then s.tripMask (Fin.ofNat 5 h.n) (s.written x (R.THM_TRIP_MASK_SITE h.n)) else s)
  else if is R.SEN_TEST_REQ_START then
    if s.on R.SEN_TEST_REQ_START then some (s.putFields who h x [R.SEN_TEST_REQ_START])
    else
      let s := s.putFields who h x []
      some (s.when (ones x R.SEN_TEST_REQ_START) fun s =>
        s.testReq (Fin.ofNat 8 (s.rd R.SEN_TEST_REQ_DIE)) (s.rd R.SEN_TEST_REQ_SITE))
  else if is R.SEN_CTL_DIGEST_EN || is (R.SEN_DIE_GROUP_GROUP h.n) then some (s.putFields who h x []).verifyNext
  else if is R.SEN_STATUS_ABORT then
    let s := s.putFields who h x [R.SEN_STATUS_RETRACT_PEND, R.SEN_STATUS_ABORT]
    some ((s.when (ones x R.SEN_STATUS_RETRACT_PEND) (·.retractAck)).when (ones x R.SEN_STATUS_ABORT) (·.abortClear))
  else if is (R.SEN_DIE_STATUS_EXPELLED h.n) then
    some (s.when (ones x (R.SEN_DIE_STATUS_EXPELLED h.n)) (·.expelledClear d))
  else if is (R.SEN_DIE_MARGIN_CLR_CL h.n) then
    let m := s.written x (R.SEN_DIE_MARGIN_CLR_CL h.n)
    some ((s.when (ones x (R.SEN_DIE_MARGIN_CLR_VSTEP h.n)) (·.clearVstep d)).when (m != 0) (·.clearClusters d m))
  else if is (R.SEN_DIE_RETIRE_GO h.n) then
    some ((s.putFields who h x []).when (ones x (R.SEN_DIE_RETIRE_GO h.n)) fun s =>
      s.slotRetire d (s.rd (R.SEN_DIE_RETIRE_CLUSTER d)) (s.rd (R.SEN_DIE_RETIRE_SLOT d)))
  else none

/-- Registers of the cascade area. -/
def writeCas (s : State) (who : Init) (h : RegHit) (x : RegVal) : Option State :=
  let is (f : Fld) : Bool := h.base == f.off
  if is R.CAS_SCHED_FREEZE then
    let s := s.putFields who h x []
    let s := s.when (ones x R.CAS_SCHED_FREEZE) (·.requestSched 0 0)
    let s := s.when (ones x R.CAS_SCHED_THAW) (·.requestSched 1 0)
    some (s.when (ones x R.CAS_SCHED_RESET) fun s => s.requestSched 2 (s.rd R.CAS_SCHED_SCOPE))
  else if is R.CAS_CTL_JOIN then
    let join := s.on R.CAS_CTL_JOIN
    let s := s.putFields who h x []
    some (if s.on R.CAS_CTL_JOIN = join then s.choose else s.joinWritten)
  else if is R.CAS_PACE_CFG_EN then
    let s := s.putFields who h x []
    some (if s.on R.CAS_PACE_CFG_EN then s else s.modCas fun c => { c with pace := none })
  else if is R.CAS_STEER_PPM then some (s.putFields who h x []).syncSteer
  else if is R.CAS_OBJ_CFG_TYPE then
    some (s.objCfg (s.written x R.CAS_OBJ_CFG_TYPE) (ones x R.CAS_OBJ_CFG_MEMBER) (ones x R.CAS_OBJ_CFG_NOTIFY)
      (ones x R.CAS_OBJ_CFG_ERR))
  else if is R.CAS_OBJ_VAL_VALUE then some (s.objWrite (s.rd R.CAS_OBJ_SEL_INDEX) (s.written x R.CAS_OBJ_VAL_VALUE))
  else if is R.CAS_ARRIVE_GO then
    let s := s.putFields who h x []
    some (s.when (ones x R.CAS_ARRIVE_GO) fun s => s.barrierArrive (s.rd R.CAS_ARRIVE_INDEX))
  else if is R.CAS_BC_CTL_SEND then some (s.when (ones x R.CAS_BC_CTL_SEND) (·.hostCast))
  else none

/-- Registers of the host interface. The fields that place a queue are dropped while EN is 1 or STATE is not 0 (R359). -/
def writeHost (s : State) (who : Init) (h : RegHit) (x : RegVal) : Option State :=
  let is (f : Fld) : Bool := h.base == f.off
  let q := queueOf h
  let fixed := s.on (R.HIF_Q_CFG_EN q) || s.qState q != 0
  if is (R.HIF_Q_SQ_BASE_ADDR h.n) || is (R.HIF_Q_CQ_BASE_ADDR h.n) || is (R.HIF_Q_DB_ADDR_ADDR h.n) then
    some (if fixed then s else s.putFields who h x [])
  else if is (R.HIF_Q_CFG_EN h.n) then
    let e := R.HIF_Q_CFG_EN h.n
    let s := s.putFields who h x (e :: if fixed then [R.HIF_Q_CFG_SQ_LOG h.n, R.HIF_Q_CFG_CQ_LOG h.n] else [])
    some (if ones x e then
        (if fixed then s else (let p := s.anyDoorbell; p.2.queueEnable q p.1))
      else if covers x e then s.queueDisable q else s)
  else if is R.GLB_GOV_CTL_ENABLE then
    some (if !covers x R.GLB_GOV_CTL_ENABLE then s else if ones x R.GLB_GOV_CTL_ENABLE then s.govEnable else s.govDisable)
  else if is R.GLB_RESET_KEY then some ((s.when (ones x R.GLB_RESET_GO) (·.resetGo who)).putFields who h x [])
  else if is (R.INT_V_CTL_MASK h.n) then some (s.maskWrite h.n (ones x (R.INT_V_CTL_MASK h.n)))
  else if is (R.INT_F_CAUSE_EVT h.n) then
    some ((s.putFields who h x [R.INT_F_CAUSE_EVT h.n]).when (ones x (R.INT_F_CAUSE_EVT h.n)) (·.evtClear h.n))
  else none

/-- DATA of a mailbox is written by the responder between GO and DONE, by the requester at all other times; while a MSG
command holds the mailbox the host's writes are dropped (R395, R401). -/
def mayWriteData (s : State) (k : Mbx) (who : Init) : Bool :=
  if s.go k then who.code == R.mbxRsp k
  else who.code == R.mbxReq k && !(who == .host && s.mgt.mbx[k].held.isSome)

/-- V2_EN can be set only while the capability bit MBX_V2 is 1 (R399). -/
def writeV2 (s : State) (who : Init) (h : RegHit) (x : RegVal) : State :=
  if ones x R.MBX_GLB_V2_EN && !bit (s.rd (R.ID_CAP_CAP 0)) 12 then s else s.putFields who h x []

/-- Registers of the management area. -/
def writeMgt (s : State) (who : Init) (h : RegHit) (x : RegVal) : Option State :=
  let is (f : Fld) : Bool := h.base == f.off
  let k := mbxOf h
  let p := procAt h.n
  if decide (0x90000 ≤ h.base) && decide (h.base < 0x90400) && decide (h.base % 0x80 < 0x40) then
    some (if s.mayWriteData k who then s.putFields who h x [] else s)
  else if is (R.MBX_CTL_GO h.n) then
    let m := s.mgt.mbx[k]
    let s := s.when (ones x (R.MBX_CTL_GO h.n)) fun s => s.mailboxGo k who m.req
    let s := s.when (ones x (R.MBX_CTL_DONE h.n)) fun s => s.mailboxDone k who m.rsp
    let s := s.when (ones x (R.MBX_CTL_ABORT h.n)) (·.mailboxAbort k who)
    some (s.when (ones x (R.MBX_CTL_NOTE h.n)) (·.mailboxNote k who)).msgWaiters
  else if is R.MBX_GLB_V2_EN then some (s.writeV2 who h x)
  else if is (R.MBX_TMO_MS h.n) then some (if who.code = R.mbxReq h.n then s.putFields who h x [] else s)
  else if is (R.MGT_P_STATE_STARTED h.n) then
    let own := who == p.init
    let s := s.when (own && ones x (R.MGT_P_STATE_STARTED h.n)) (·.startedNow p)
    some (s.when (own && p == .plp && ones x (R.MGT_P_STATE_READY h.n)) (·.plpReady [] []))
  else if is (R.MGT_P_RESTART_GO h.n) then
    let s := s.when (ones x (R.MGT_P_RESTART_GO h.n)) fun s => (let c := s.anyCore; c.2.restartGo p who c.1)
    some (s.putFields who h x [])
  else if is (R.MGT_P_WDT_KICK h.n) then
    let s := if who = p.init || who = .trp then s.putFields who h x [] else s
    some (s.when (who == p.init && ones x (R.MGT_P_WDT_KICK h.n)) (·.watchdogKick p))
  else if is R.MGT_MTR_REQ_GO then
    if who ≠ .plp then some s
    else
      let s := s.putFields who h x []
      some (s.when (ones x R.MGT_MTR_REQ_GO) fun s => s.stampRequest who (s.rd R.MGT_MTR_REQ_KIND) s.mtr.powered)
  else if is R.MGT_MTR_JOB_ID || is R.MGT_MTR_NONCE_VALUE then some (if who = .plp then s.putFields who h x [] else s)
  else none

/-- Registers of the recorder and the update area. -/
def writeRec (s : State) (who : Init) (h : RegHit) (x : RegVal) : Option State :=
  let is (f : Fld) : Bool := h.base == f.off
  if is R.REC_CTL_FULL_ACK then
    some ((s.putFields who h x []).when (ones x R.REC_CTL_FULL_ACK) (·.flag R.REC_STATUS_ACKED true))
  else if is R.REC_ERASE_GO then
    if (who = .svp || who = .trp) && (s.lcState = 1 || s.lcState = 2) then
      some ((s.when (ones x R.REC_ERASE_GO) (·.eraseGo who)).putFields who h x [])
    else some s
  else if is R.REC_TRIG_FIRE then
    let s := s.putFields who h x []
    some ((s.when (ones x R.REC_TRIG_FIRE) (·.triggerFire)).when (ones x R.REC_TRIG_THAW) (·.thawRequest))
  else if is R.REC_RING_SEL_UNIT then some (s.ringSelect (s.written x R.REC_RING_SEL_UNIT) (ones x R.REC_RING_SEL_CHAN))
  else if is R.TRC_CTL_EN then some ((s.putFields who h x [R.TRC_CTL_EN]).traceEnable (ones x R.TRC_CTL_EN))
  else if is R.UPD_REGATTA_TIME || is R.UPD_REGATTA_CFG_STEP_S then some (if who = .svp then s.putFields who h x [] else s)
  else if decide (0xb0100 ≤ h.base) && decide (h.base < 0xb0160) then
    let p := procAt h.n
    some (s.when (is (R.UPD_P_SLOT_CONFIRM h.n) && who == p.init && ones x (R.UPD_P_SLOT_CONFIRM h.n)) (·.updateConfirm p))
  else none

/-- A weight that stands for no counter is not held: W0 of L0 to L7, W4 to W15 of L8 to L15 (R93, R122).
DEDUCED, log 13. -/
def noWeight (h : RegHit) : Bool :=
  decide (0x20800 ≤ h.base) && decide (h.base < 0x20c00) && (if h.n < 8 then h.i == 0 else decide (4 ≤ h.i))

/-- A register is written by an initiator; a write in the admission area may arm or disarm fast catch (R68).
DEDUCED, log 13. -/
def writeReg (s : State) (who : Init) (h : RegHit) (x : RegVal) : State :=
  if noWeight h then s
  else
    let arms := decide (0x10000 ≤ h.base) && decide (h.base < 0x11000)
    ((s.writeFront who h x).orElse fun _ => (s.writeRgc who h x).orElse fun _ => (s.writeThmSen who h x).orElse fun _ =>
      (s.writeCas who h x).orElse fun _ => (s.writeHost who h x).orElse fun _ => (s.writeMgt who h x).orElse fun _ =>
      s.writeRec who h x).getD (s.putFields who h x []) |>.when arms (·.each dies fun d s => s.showArm d)

/-- A word, or for a 64-bit access two words, is written at an offset; an unassigned offset ignores it (R10). A 64-bit
access to two 32-bit registers acts on both, the lower one first (R375). DEDUCED, log 13. -/
def busWrite (s : State) (who : Init) (off v : Nat) (wide : Bool) : State :=
  match s.hit off with
  | some h =>
    if h.wide then s.writeReg who h ⟨if h.base = off then 0 else 32, if wide then 64 else 32, v⟩
    else
      let s := s.writeReg who h ⟨0, 32, v % 2 ^ 32⟩
      if wide then match s.hit (off + 4) with
        | some h2 => s.writeReg who h2 ⟨0, 32, v / 2 ^ 32⟩
        | none => s
      else s
  | none => if wide then match s.hit (off + 4) with
      | some h2 => s.writeReg who h2 ⟨0, 32, v / 2 ^ 32⟩
      | none => s
    else s

/-- A host's write is dropped under R7: the register has a locked field, or nothing but fields of the TRP to write.
DEDUCED, log 44. -/
def drops (s : State) (off : Nat) : Bool :=
  match s.hit off with
  | some h =>
    let w := h.flds.filter fun f => f.acc != .ro && f.acc != .ros
    (s.locked && w.any fun f => f.acc == .rwl) || (!w.isEmpty && w.all fun f => f.acc == .rwt)
  | none => false

/-! A processor's accesses (R405). -/

/-- An access of a processor that is not a read of the lower word of a 64-bit register clears its snapshot latch. -/
def unlatch (s : State) (who : Init) : State := match who with
  | .host => s
  | .trp => s.modProc .trp fun q => { q with latch := none }
  | .plp => s.modProc .plp fun q => { q with latch := none }
  | .svp => s.modProc .svp fun q => { q with latch := none }

/-- A processor's read that takes nothing from the latch; that of the lower word of a 64-bit register loads it. -/
def freshRead (s : State) (p : Proc) (off : Nat) : State :=
  let s := match s.hit off with
    | some h => if h.wide && h.base == off then
        s.modProc p fun q => { q with latch := some (off + 4, s.word p.init (off + 4)) } else s
    | none => s
  s.emit (.readData p (s.word p.init off))

/-- The read of a lower word loads the latch, and a read of the upper word right after it returns it. -/
def latchRead (s : State) (p : Proc) (off : Nat) : State :=
  match (s.proc p).latch with
  | some (o, w) =>
    let s := s.modProc p fun q => { q with latch := none }
    if off = o then s.emit (.readData p w) else s.freshRead p off
  | none => s.freshRead p off

end State

/-- Writes of one cycle in the order in which they are applied: host, SVP, PLP, TRP (R33). -/
def inTurn (ws : List (Init × Nat)) : List (Init × Nat) :=
  ([.host, .svp, .plp, .trp] : List Init).flatMap fun i => ws.filter fun w => w.1 == i

end Sys2Proof.Machine
end

