-- ==== Sys2Proof/Machine/Host.lean ====
section
/-!
DEFINITION. Machine/Host.lean: the doorbells, the fetch of descriptors and the commands of the host interface (R360–R369,
R401, R433, R484).
-/
namespace Sys2Proof.Machine
namespace State

/-! Doorbells (R368, R369). -/

/-- The doorbell of an enabled queue is looked at, whatever its state (R368, R369), and that of a draining queue while it
still has a completion to write, since that one must not be lost (R359, R365). DEDUCED, log 43. -/
def watched (s : State) (q : Queue) : Bool :=
  (s.on (R.HIF_Q_CFG_EN q) && s.qState q != 0) ||
    (s.qState q == 4 && s.rd (R.HIF_Q_STS_ERR q) == 0 && s.queue[q].fin.isSome)

/-- An invalidated copy of a doorbell line has been read again. -/
def doorbellWatch (s : State) (q : Queue) (d : Doorbell) : State :=
  if bit (s.rd (R.ID_CAP_CAP 0)) 13 && s.watched q && s.doorbellNew q d then s.doorbell q d else s

/-- The poll of every 10 µs: a change it is the first to find is counted. DEDUCED, log 43. -/
def doorbellPoll (s : State) (l : List Doorbell) : State :=
  let s := { s.advance s.nextPoll with nextPoll := s.nextPoll + 10000 }
  s.each queues fun q s =>
    match l[q.val]? with
    | some d =>
      if !s.watched q || !s.doorbellNew q d then s
      else
        let s := if d.isSome then (s.count R.HIF_CNT_POLL_HIT_COUNT).raiseOnce Ev.HIF_POLL_HIT 0xFFFF else s
        s.doorbell q d
    | none => s

/-! Descriptors (R360, R362–R364). -/

/-- The STATUS with which a descriptor is turned away: VER, OPC, feature and arguments in turn; 0 if it is taken.
DEDUCED, log 44. -/
def descStatus (s : State) (c : Desc) : Nat :=
  let inside (b : Bool) : Nat := if b then stSuccess else stBadField
  let n := c.arg0 % 2 ^ 31
  if c.ver ≠ 1 then stBadVer
  else if c.opc = 0x00 then stSuccess
  else if c.opc = 0x01 then inside (decide (1 ≤ c.arg0) && decide (c.arg0 ≤ 512))
  else if c.opc = 0x02 then inside (decide (1 ≤ n) && decide (n ≤ 256))
  else if c.opc = 0x10 ∨ c.opc = 0x11 then inside (decide (c.arg0 < 4096) && decide (c.arg0 + c.arg1 ≤ 4096))
  else if c.opc = 0x12 then stSuccess
  else if c.opc = 0x20 ∨ c.opc = 0x30 then inside (c.arg0 == 1 || c.arg0 == 2)
  else if c.opc = 0x40 then inside (decide (1 ≤ c.arg1) && decide (c.arg1 ≤ 1024))
  else if c.opc = 0x50 then (if bit (s.rd (R.ID_CAP_CAP 0)) 11 then stSuccess else stNoFeature)
  else stBadOpc

/-- A descriptor has been fetched: it is checked and, if it passes, started in its turn. -/
def descriptorFetch (s : State) (q : Queue) (d : Option (List Nat)) : State :=
  let x := s.queue[q]
  let h := s.rd (R.HIF_Q_STS_SQ_HEAD q)
  if s.qState q ≠ 1 || x.cmd.isSome || x.fin.isSome || x.tail = h then s
  else match d with
    | none => s.queueError q 3
    | some l =>
      let c := descOf l
      let h := (h + 1) % s.sqSize q
      let s := (s.wr (R.HIF_Q_STS_SQ_HEAD q) h).modQueue q fun x => { x with cmd := some (c, h) }
      if s.descStatus c = stSuccess then startNext 8 s else s.finish q (s.descStatus c) 0 0

/-- The command a queue executes, if its OPC is the given one and it has not yet acted. -/
def runsCmd (s : State) (q : Queue) (opc : Nat) : Option Desc :=
  match s.queue[q].cmd with
  | some (c, _) => if s.queue[q].started && s.queue[q].work.isNone && c.opc == opc then some c else none
  | none => none

/-- A command acts, or ends with HOST_FAULT where an access to its host buffers fails. DEDUCED, log 10. -/
def asCmd (s : State) (q : Queue) (opc : Nat) (ok : Bool) (g : Desc → State → State) : State :=
  match s.runsCmd q opc with
  | none => s
  | some c => if ok then g c s else s.finish q stHostFault 0 0

/-- A command waits for a window boundary. -/
def await (s : State) (q : Queue) (w : HostWork) : State := s.modQueue q fun x => { x with work := some w }

/-! The commands (R362). -/

/-- The effect of NOP (R362). -/
def nopCmd (s : State) (q : Queue) : State := s.asCmd q 0x00 true fun _ s => s.finish q stSuccess 0 0

/-- The registers at the offsets read are sampled in one cycle. -/
def snapshotCmd (s : State) (q : Queue) (offs : List Nat) (ok : Bool) : State :=
  s.asCmd q 0x01 ok fun c s =>
    let ws := (List.range c.arg0).flatMap fun k => words2 (s.sample (nth offs k))
    (s.emit (.hostWrite q c.addr2 ws)).finish q stSuccess s.cyc 0

/-- The writes of a list are applied in order; those dropped are counted. -/
def applyWrites (s : State) (l : List (Nat × Nat)) : State × Nat :=
  l.foldl (fun p w => ((p.1.busWrite .host w.1 w.2 false), p.2 + b2n (p.1.drops w.1))) (s, 0)
/-- The writes are applied and the command completes, PARTIAL where some were dropped. -/
def doWrites (s : State) (q : Queue) (l : List (Nat × Nat)) : State :=
  let (s, n) := s.applyWrites l
  s.finish q (if n = 0 then stSuccess else stPartial) 0 n

/-- The effect of WRITE_SET (R362). -/
def writeSetCmd (s : State) (q : Queue) (pairs : List (Nat × Nat)) (ok : Bool) : State :=
  s.asCmd q 0x02 ok fun c s =>
    let l := pairs.take (c.arg0 % 2 ^ 31)
    if bit c.arg0 31 then s.await q (.writes l) else s.doWrites q l

/-- The effect of LT_READ (R362). -/
def ltReadCmd (s : State) (q : Queue) (ok : Bool) : State :=
  s.asCmd q 0x10 ok fun c s => s.await q (.ltRead c.arg0 c.arg1)

/-- The effect of LT_WRITE (R362). -/
def ltWriteCmd (s : State) (q : Queue) (entries : List (List Nat)) (ok : Bool) : State :=
  s.asCmd q 0x11 ok fun c s => s.await q (.ltWrite c.arg0 (entries.take c.arg1))

/-- The shadow bank of a die takes 128 words in the layout of R81. -/
def loadBank (s : State) (d : Die) (ws : List Nat) : State :=
  s.each (List.range 128) fun k s =>
    let w := nth ws k
    (((s.wr (R.ADM_SHADOW_COST_E0 d k) (bits w 0 6)).wr (R.ADM_SHADOW_COST_E1 d k) (bits w 8 6)).wr
      (R.ADM_SHADOW_COST_E2 d k) (bits w 16 6)).wr (R.ADM_SHADOW_COST_E3 d k) (bits w 24 6)

/-- With SWAP and some die in the mask the command waits until the hardware has cleared the COST_SWAP bits.
DEDUCED, log 44. -/
def costLoadCmd (s : State) (q : Queue) (ws : List Nat) (ok : Bool) : State :=
  s.asCmd q 0x12 ok fun c s =>
    let m := c.arg0 % 256
    let s := s.each dies fun d s => if bit m d then s.loadBank d ws else s
    if bit c.arg0 8 && m != 0 then (s.costSwap m).await q (.swap m) else s.finish q stSuccess 0 0

/-- JOB START writes JOB_ID, then START; a rejected request ends the command. -/
def jobStartCmd (s : State) (q : Queue) : State :=
  s.asCmd q 0x20 true fun c s =>
    if c.arg0 ≠ 1 then s
    else
      let s := s.wr R.BUD_JOB_ID_ID c.arg1
      let r := s.on R.BUD_JOB_CTL_RUNNING
      let s := s.jobRequest true false
      if r then s.finish q stRejected 0 0 else s.await q .jobStart

/-- The effect of JOB_CMD_STOP (R362). -/
def jobStopCmd (s : State) (q : Queue) : State :=
  s.asCmd q 0x20 true fun c s =>
    if c.arg0 ≠ 2 then s
    else
      let r := s.on R.BUD_JOB_CTL_RUNNING
      let s := s.jobRequest false true
      if r then s.await q .jobStop else s.finish q stRejected 0 0

/-- MSG waits for its mailbox, 1 of the PLP or 2 of the SVP, and for the reply, 100 ms in all. A reply buffer that fails is
found only when the reply is written to it. -/
def msgCmd (s : State) (q : Queue) (ws : List Nat) (acc : MsgAccess) : State :=
  s.asCmd q 0x30 (acc != .badRequest) fun c s =>
    (s.await q (.msgWait (if c.arg0 = 1 then 1 else 2) ws (s.now + 100000000) (acc == .good))).msgTake q

/-- REC_READ copies records in the order of SEQ; PARTIAL where fewer than asked for are found. -/
def recReadCmd (s : State) (q : Queue) (ok : Bool) : State :=
  s.asCmd q 0x40 ok fun c s =>
    let l := s.recordsFrom c.arg0 c.arg1
    (s.emit (.hostWrite q c.addr (l.flatMap fun r => wordsOf r.bytes))).finish q
      (if l.length < c.arg1 then stPartial else stSuccess) 0 l.length

/-- The newest stamp of a kind in the meter's ring; zeros where there is none. -/
def newestStamp (s : State) (kind : Nat) : List Nat :=
  let n := s.rd R.MTR_STAMP_HEAD_STAMP_COUNT
  let ks := (List.range (min 16 n)).map fun i => (n - 1 - i) % 16
  match ks.find? fun k => bits (s.rd (R.MTR_STAMP_WORD k 0)) 16 8 == kind with
  | some k => (List.range 56).map fun j => s.rd (R.MTR_STAMP_WORD k j)
  | none => List.replicate 56 0

/-- METER_READ copies the newest reading, start stamp and stop stamp; while the meter has no power its window reads as
zero. -/
def meterReadCmd (s : State) (q : Queue) (ok : Bool) : State :=
  s.asCmd q 0x50 ok fun c s =>
    let ws := (List.range 56).map (fun j => s.rd (R.MTR_READING_WORD j)) ++ s.newestStamp 1 ++ s.newestStamp 2
    let ws := if s.mtr.powered then ws else List.replicate 168 0
    (s.emit (.hostWrite q c.addr ws)).finish q stSuccess 0 672

/-! What commands do at a window boundary (R362, R381). -/

/-- WRITE_SET with WIN: its writes are applied. -/
def boundaryWrites (s : State) : State :=
  s.each queues fun q s => match s.queue[q].work with
    | some (.writes l) => s.doWrites q l
    | _ => s

/-- LT_WRITE writes its entries, and LT_READ then copies entries. -/
def boundaryTable (s : State) : State :=
  let s := s.each queues fun q s => match s.queue[q].work with
    | some (.ltWrite first es) =>
      let bad := (es.filter fun e => bits (nth e 0) 0 4 != 1).length
      let s := s.each ((List.range es.length).zip es) fun p s =>
        if bits (nth p.2 0) 0 4 = 1 then s.setEntry (first + p.1) p.2 else s
      s.finish q (if bad = 0 then stSuccess else stPartial) 0 bad
    | _ => s
  s.each queues fun q s => match s.queue[q].work with
    | some (.ltRead first n) =>
      let ws := (List.range n).flatMap fun k => LtEntry.written (s.entry (first + k))
      let a := (s.queue[q].cmd.map fun c => c.1.addr).getD 0
      (s.emit (.hostWrite q a ws)).finish q stSuccess 0 0
    | _ => s

/-- COST_LOAD with SWAP ends once the bits it set have cleared. -/
def boundarySwaps (s : State) : State :=
  s.each queues fun q s => match s.queue[q].work with
    | some (.swap m) => if s.rd R.ADM_COST_SWAP_DIE &&& m = 0 then s.finish q stSuccess 0 0 else s
    | _ => s

/-- JOB ends where RUNNING changes. -/
def boundaryJobs (s : State) (started stopped : Bool) : State :=
  s.each queues fun q s => match s.queue[q].work with
    | some .jobStart => if started then s.finish q stSuccess (s.rd R.BUD_JOB_T_START_TIME) 0 else s
    | some .jobStop => if stopped then s.finish q stSuccess (s.rd R.BUD_JOB_E_IN_UJ) 0 else s
    | _ => s

end State

/-- DOORBELL_WATCH (R368). -/
def execDoorbellWatch (q : Queue) (d : Doorbell) (s : State) : Res := .next (s.when s.live (·.doorbellWatch q d))
/-- DOORBELL_POLL (R369). -/
def execDoorbellPoll (l : List Doorbell) (s : State) : Res := .next (s.when s.live (·.doorbellPoll l))
/-- DESCRIPTOR_FETCH (R364). -/
def execDescriptorFetch (q : Queue) (d : Option (List Nat)) (s : State) : Res := .next (s.when s.live (·.descriptorFetch q d))
/-- NOP (R362). -/
def execNop (q : Queue) (s : State) : Res := .next (s.when s.live (·.nopCmd q))
/-- SNAPSHOT (R362). -/
def execSnapshot (q : Queue) (offs : List Nat) (ok : Bool) (s : State) : Res := .next (s.when s.live (·.snapshotCmd q offs ok))
/-- WRITE_SET (R362). -/
def execWriteSet (q : Queue) (pairs : List (Nat × Nat)) (ok : Bool) (s : State) : Res :=
  .next (s.when s.live (·.writeSetCmd q pairs ok))
/-- LT_READ (R362). -/
def execLtRead (q : Queue) (ok : Bool) (s : State) : Res := .next (s.when s.live (·.ltReadCmd q ok))
/-- LT_WRITE (R362). -/
def execLtWrite (q : Queue) (entries : List (List Nat)) (ok : Bool) (s : State) : Res :=
  .next (s.when s.live (·.ltWriteCmd q entries ok))
/-- COST_LOAD (R362). -/
def execCostLoad (q : Queue) (ws : List Nat) (ok : Bool) (s : State) : Res := .next (s.when s.live (·.costLoadCmd q ws ok))
/-- JOB_CMD_START (R362). -/
def execJobCmdStart (q : Queue) (s : State) : Res := .next (s.when s.live (·.jobStartCmd q))
/-- JOB_CMD_STOP (R362). -/
def execJobCmdStop (q : Queue) (s : State) : Res := .next (s.when s.live (·.jobStopCmd q))
/-- MSG (R401). -/
def execMsg (q : Queue) (ws : List Nat) (acc : MsgAccess) (s : State) : Res := .next (s.when s.live (·.msgCmd q ws acc))
/-- REC_READ (R433). -/
def execRecRead (q : Queue) (ok : Bool) (s : State) : Res := .next (s.when s.live (·.recReadCmd q ok))
/-- METER_READ (R484). -/
def execMeterRead (q : Queue) (ok : Bool) (s : State) : Res := .next (s.when s.live (·.meterReadCmd q ok))

end Sys2Proof.Machine
end

