-- ==== Sys2Proof/Machine/Proc.lean ====
section
/-!
DEFINITION. Machine/Proc.lean: what a processor does on the management fabric: its loads, its stores through the store
buffer, the ordering points, and the accesses to the register window that have commands of their own (R384–R386,
R402–R409).
-/
namespace Sys2Proof.Machine
namespace State

/-! Failures (R403). -/

/-- A store has failed: the first awaits an ordering point, and later ones are counted (R403). -/
def noteFailure (s : State) (p : Proc) (addr kind : Nat) : State :=
  (s.modProc p fun q => { q with fail := match q.fail with
    | none => some ⟨addr, kind, 0⟩
    | some f => some { f with more := sat 8 (f.more + 1) } }).flag (R.MGT_P_IRQ_BUSERR p.idx) true

/-! Stores (R402). -/

/-- A write of 8, 16 or 32 bits to the register window. -/
def busStore (s : State) (who : Init) (off v size : Nat) : State :=
  if size = 2 then s.busWrite who off v false
  else match s.hit (off / 4 * 4) with
    | some h => s.writeReg who h ⟨(if h.base = off / 4 * 4 then 0 else 32) + 8 * (off % 4), 8 * 2 ^ size, v⟩
    | none => s

/-- A store reaches its target: the register window, an SRAM, a long-message buffer or the key slots. What the service port
controller does with one is not stated. DEDUCED, log 47. -/
def storeTo (s : State) (p : Proc) (e : BufStore) : State :=
  let a := e.addr
  let into (w : Nat) : Nat := putBits w (8 * (a % 4)) (8 * 2 ^ e.size) e.data
  if inWindow a then (s.unlatch p.init).busStore p.init (a - 0x10000000) e.data e.size
  else if inSram a then s.setRam a (into (s.ramWord a))
  else if inLong a then s.setLong a (into (s.longWord a))
  else if inKeys a then
    let b := keyBytes (s.mgt.keys.toList.getD (a % 0x800 / 128) none)
    let b := (List.range 128).map fun j =>
      if a % 128 ≤ j ∧ j < a % 128 + 2 ^ e.size then bits e.data (8 * (j - a % 128)) 8 else nth b j
    s.setKey (a % 0x800 / 128) (if b.all (· == 0) then none else some (keyAt b 0))
  else s

/-- The oldest entry leaves a store buffer: its store acts, or fails; one to a dead target takes 1 µs (R37, R402). -/
def drainFirst (s : State) (p : Proc) : State :=
  match (s.proc p).buf with
  | [] => s
  | e :: t =>
    let s := s.modProc p fun q => { q with buf := t }
    match s.storeKind p e 0 none with
    | some k => (s.when (k == 1) fun s => s.advance (s.now + 1000)).noteFailure p e.addr k
    | none => s.storeTo p e

/-- A store buffer drains in program order. -/
def drainAll (s : State) (p : Proc) : State := s.each (s.proc p).buf fun _ s => s.drainFirst p

/-- A store retires into the buffer; while that is full the processor waits for its oldest entry. -/
def retire (s : State) (p : Proc) (e : BufStore) : State :=
  let s := if 8 ≤ (s.proc p).buf.length then s.drainFirst p else s
  s.modProc p fun q => { q with buf := q.buf ++ [e] }

/-- A buffered store fails at its target: the ones before it have drained. One that does not fail there acts (R385, R403,
R447). -/
def storeFailure (s : State) (p : Proc) (addr kind : Nat) (flash : Option Nat) : State :=
  if !s.runs p then s
  else match (s.proc p).buf.findIdx? fun e => e.addr == addr with
    | none => s
    | some i =>
      let s := s.each (List.range i) fun _ s => s.drainFirst p
      match (s.proc p).buf with
      | [] => s
      | e :: t =>
        let s := s.modProc p fun q => { q with buf := t }
        match s.storeKind p e kind flash with
        | some k => s.noteFailure p e.addr k
        | none => s.storeTo p e

/-! Faults and ordering points (R402–R404). -/

/-- A fault is taken: its registers are set, and the buffer drains before the handler's first instruction (R404). -/
def takeFault (s : State) (p : Proc) (pc cause addr : Nat) : State :=
  (s.modProc p fun q => { q with mepc := pc, mcause := cause, mtval := addr }).drainAll p

/-- A precise access fault with a bus error. -/
def accessFault (s : State) (p : Proc) (pc cause addr info : Nat) : State :=
  ((s.modProc p fun q => { q with busAddr := addr, busInfo := info }).raise Ev.MGT_BUSERR p.init.code addr).takeFault p pc cause
    addr

/-- A store that has failed is reported at an ordering point, whose instruction is not executed; with none the instruction
goes on as given. -/
def reportStore (s : State) (p : Proc) (pc : Nat) (go : State → State) : State :=
  match (s.proc p).fail with
  | some f =>
    ((s.modProc p fun q => { q with fail := none }).flag (R.MGT_P_IRQ_BUSERR p.idx) false).accessFault p pc 7 f.addr
      (f.kind + 8 + 2 ^ 8 * f.more)
  | none => go s

/-- At an ordering point the buffer has drained, and a failed store is reported. -/
def atOrder (s : State) (p : Proc) (pc : Nat) (go : State → State) : State := (s.drainAll p).reportStore p pc go

/-- What a load outside of the register window returns. What the boot ROM, the flash window and the service port controller
hold there is a free value. DEDUCED, log 10. -/
def loadWord (s : State) (p : Proc) (a : Nat) : Nat × State :=
  if inSram a then (s.ramWord a, s)
  else if inLong a then (s.longWord a, s)
  else if inKeys a then (if p = .trp then s.keyWord a else 0, s)
  else let (v, s) := s.draw; (v % 2 ^ 32, s)

/-- A load that its protection entries and its target let returns its data; one that fails is reported at itself (R403). A
load from the window of less than a word clears the snapshot latch (R405). -/
def load (s : State) (p : Proc) (pc a size : Nat) (err : Bool) : State :=
  if !s.pmpLets p .read a then s.takeFault p pc 5 a
  else match s.loadKind p a size err with
    | some k => s.accessFault p pc 5 a k
    | none =>
      let part (w : Nat) : Nat := bits w (8 * (a % 4)) (8 * 2 ^ size)
      if inWindow a then
        (if size = 2 then s.latchRead p (a - 0x10000000)
         else (s.unlatch p.init).emit (.readData p (part (s.word p.init ((a - 0x10000000) / 4 * 4)))))
      else let (w, s) := s.loadWord p a; s.emit (.readData p (part w))

/-- An AMO or LR/SC in the shared SRAM returns the word it finds and may leave another. -/
def amo (s : State) (p : Proc) (pc a : Nat) (leaves : Option Nat) : State :=
  if !s.pmpLets p .write a then s.takeFault p pc 7 a
  else
    let s := s.emit (.readData p (s.ramWord a))
    match leaves with
    | some v => s.setRam a v
    | none => s

/-- A store: at once in the processor's own SRAM, through the buffer elsewhere. -/
def store (s : State) (p : Proc) (pc a v size : Nat) : State :=
  if !s.pmpLets p .write a then s.takeFault p pc 7 a
  else if ownSram p a then s.storeTo p ⟨a, v, size⟩ else s.retire p ⟨a, v, size⟩

/-- The effect of ORDERING_POINT. A load elsewhere than R402 names is no ordering point; an AMO or LR/SC outside the shared
SRAM raises a store access fault at once, and a refused fetch an instruction access fault, both without a bus error (R385,
R402, R403). DEDUCED, log 47. -/
def orderingPoint (s : State) (p : Proc) (pc : Nat) (op : OrdOp) : State :=
  if !s.runs p then s
  else match op with
    | .fence => s.atOrder p pc fun s => s
    | .load a z e => if ordersLoad a then s.atOrder p pc fun s => s.load p pc a z e else s.load p pc a z e
    | .amo a v => if sharedSram a then s.atOrder p pc fun s => s.amo p pc a v else s.takeFault p pc 7 a
    | .store a v z => s.store p pc a v z
    | .fetch a => if s.pmpLets p .execute a && mayAccess p.init .execute a then s else s.takeFault p a 1 a
    | .handler => s.drainAll p
    | .pmp k c a => s.pmpWrite p k c a

/-! Accesses to the window that have commands of their own (R405). -/

/-- A processor's access to the window comes in its turn: the stores before it have drained, and its latch is cleared. -/
def turn (s : State) (who : Init) : State :=
  match procOfCode who.code with
  | some p => (s.drainAll p).unlatch who
  | none => s

/-- A register write of an initiator that can make it: of the host, or of a running processor, whose store fails where its
target is dead (R402). -/
def initWrite (s : State) (who : Init) (off v : Nat) (wide : Bool) : State :=
  match procOfCode who.code with
  | none => s.busWrite who off v wide
  | some p =>
    let s := s.turn who
    if !s.runs p then s
    else if s.deadTarget (0x10000000 + off) then (s.advance (s.now + 1000)).noteFailure p (0x10000000 + off) 1
    else s.busWrite who off v wide

/-- A read of the window is an ordering point; where that is not among the operands, the address of its instruction is free
(R402, R405). -/
def orderedRead (s : State) (p : Proc) (off : Nat) : State :=
  let s := s.drainAll p
  if (s.proc p).fail.isSome then (let (v, s) := s.draw; s.reportStore p (v % 2 ^ 32) fun s => s) else s.latchRead p off

/-! The drain of a processor that has stopped (R406, R409). -/

/-- What became of a store in the drain: performed (0), failed (2) or discarded (3). The firewall and the device's alignment
fail theirs; one to a dead target, and whatever is still pending at the end, is discarded (R406, R413). -/
def drained (s : State) (p : Proc) (e : BufStore) (final : Nat) : Nat :=
  match s.accessFails p .write e.addr e.size with
  | some 1 => 3
  | some _ => 2
  | none => if final % 4 = 1 then 3 else final % 4

/-- A drained store acts, or awaits the processor's first ordering point as one that has failed (R403). DEDUCED, log 48. -/
def drainStore (s : State) (p : Proc) (e : BufStore) (final : Nat) : State :=
  match s.drained p e final with
  | 0 => s.storeTo p e
  | 3 => s.noteFailure p e.addr 4
  | _ => s.noteFailure p e.addr ((s.accessFails p .write e.addr e.size).getD 3)

/-- The drain ends: the stores have had their effects, the dump shows what became of each, the SRAM is wiped and the image is
loaded. DEDUCED, log 48. -/
def drainEnd (s : State) (p : Proc) (states : List Nat) : State :=
  match (s.proc p).restart with
  | some (.draining, cause) =>
    let l := (s.proc p).buf
    let fin := ((List.range l.length).zip l).map fun x => s.drained p x.2 (nth states x.1)
    let s := s.each ((List.range l.length).zip l) fun x s => s.drainStore p x.2 (nth states x.1)
    let s := s.each (List.range 8) fun k s =>
      let f := R.MGT_DUMP_WORD p.idx (0x140 / 4 + 2 + 4 * k)
      s.wr f (bits (s.rd f) 0 2 + 2 ^ 8 * nth fin k)
    let s := s.raiseIf (fin.any (· == 3)) Ev.MGT_STORE_DISCARD p.init.code
    (s.modProc p fun q => { q with restart := some (.loading, cause), buf := [] }).wipeSram p
  | _ => s

/-- The store buffers of the processors that have stopped for the power-down have drained (R404). -/
def drainStopped (s : State) : State := s.each procs fun (p : Proc) s => s.when (s.pState p == 0) (·.drainAll p)

/-- STARTED is written in its turn; after a restart the PLP's first act follows (R407, R477). -/
def startedTurn (s : State) (p : Proc) (c0 c1 c2 c3 : Nat) : State :=
  let t := (s.turn p.init).startedWrite p c0 c1 c2 c3
  t.when (p == .plp && t.serves p && !s.serves p) (·.plpFirst)

end State

/-- REGISTER_WRITE (R7, R33). DEDUCED, log 12. -/
def execRegisterWrite (ws : List (Init × Nat)) (off : Nat) (wide : Bool) (s : State) : Res :=
  .next (s.when s.live fun s => s.each (inTurn ws) fun w s => s.initWrite w.1 off w.2 wide)
/-- STORE_DRAIN_END (R406). -/
def execStoreDrainEnd (p : Proc) (states : List Nat) (s : State) : Res := .next (s.when s.live (·.drainEnd p states))
/-- SNAPSHOT_LATCH_READ (R405). -/
def execSnapshotLatchRead (p : Proc) (off : Nat) (s : State) : Res := .next (s.when (s.live && s.runs p) (·.orderedRead p off))
/-- STARTED_WRITE (R387). -/
def execStartedWrite (p : Proc) (c0 c1 c2 c3 : Nat) (s : State) : Res := .next (s.when s.live (·.startedTurn p c0 c1 c2 c3))
/-- PLP_READY (R388). -/
def execPlpReady (weights : List (Loop × Fin 16 × Nat)) (leak : List (Loop × Nat × Nat × Nat × Nat)) (s : State) : Res :=
  .next (s.when s.live fun s => (s.turn .plp).plpReady weights leak)
/-- MAILBOX_GO (R395). -/
def execMailboxGo (k : Mbx) (who : Init) (long : List Nat) (s : State) : Res :=
  .next (s.when s.live fun s => (s.turn who).mailboxGo k who long)
/-- MAILBOX_DONE (R395). -/
def execMailboxDone (k : Mbx) (who : Init) (long : List Nat) (s : State) : Res :=
  .next (s.when s.live fun s => ((s.turn who).mailboxDone k who long).msgWaiters)
/-- MAILBOX_ABORT (R396). -/
def execMailboxAbort (k : Mbx) (who : Init) (s : State) : Res :=
  .next (s.when s.live fun s => ((s.turn who).mailboxAbort k who).msgWaiters)
/-- MAILBOX_NOTE (R396). -/
def execMailboxNote (k : Mbx) (who : Init) (s : State) : Res := .next (s.when s.live fun s => (s.turn who).mailboxNote k who)
/-- STORE_FAILURE (R403). -/
def execStoreFailure (p : Proc) (addr kind : Nat) (flash : Option Nat) (s : State) : Res :=
  .next (s.when s.live (·.storeFailure p addr kind flash))
/-- ORDERING_POINT (R402). -/
def execOrderingPoint (p : Proc) (pc : Nat) (op : OrdOp) (s : State) : Res := .next (s.when s.live (·.orderingPoint p pc op))
/-- WATCHDOG_KICK (R406). -/
def execWatchdogKick (p : Proc) (s : State) : Res := .next (s.when s.live fun s => (s.turn p.init).watchdogKick p)
/-- PROCESSOR_RESTART_GO (R406). -/
def execProcessorRestartGo (p : Proc) (who : Init) (core : CoreDump) (s : State) : Res :=
  .next (s.when s.live fun s => (s.turn who).restartGo p who core)
/-- RECORDER_ERASE (R431). -/
def execRecorderErase (who : Init) (s : State) : Res := .next (s.when s.live fun s => (s.turn who).eraseGo who)
/-- UPDATE_CONFIRM (R456). -/
def execUpdateConfirm (p : Proc) (s : State) : Res := .next (s.when s.live fun s => (s.turn p.init).updateConfirm p)
/-- STAMP_REQUEST (R475, R476). -/
def execStampRequest (who : Init) (kind : Nat) (answers : Bool) (s : State) : Res :=
  .next (s.when s.live fun s => (s.turn who).stampRequest who kind answers)
/-- BLOCK_RESET_GO (R377). -/
def execBlockResetGo (who : Init) (s : State) : Res := .next (s.when s.live fun s => (s.turn who).resetGo who)
/-- PACKAGE_THAW_EDGE (R438, R460). -/
def execPackageThawEdge (s : State) : Res := .next (s.when s.live fun s => s.pkgThawEdge.regattaHeld)
/-- CASCADE_THAW_EDGE (R337, R460). -/
def execCascadeThawEdge (order : List Lane) (s : State) : Res := .next (s.when s.live fun s => (s.casThawEdge order).regattaHeld)
/-- RAMP_DOWN_BEGIN (R205). Stage 1 ramps down once the store buffers have drained (R404). -/
def execRampDownBegin (l : Loop) (s : State) : Res := .next (s.when s.rgcOn fun s => s.drainStopped.rampDownBegin l)

end Sys2Proof.Machine
end

