-- ==== Sys2Proof/Machine/Flags.lean ====
section
/-!
DEFINITION. Machine/Flags.lean: the conditions of the enable check, each as the unit it names, 0xFFFF for none (R83, R124,
R162, R201, R240, R269, R309, R348, R352, R355, R356). The block has no arithmetic flags; these are its conditions.
-/
namespace Sys2Proof.Machine
namespace State

/-- A condition that names no unit. -/
def plain (b : Bool) : Option Nat := if b then some 0xFFFF else none
/-- A condition that names the first unit it holds for. -/
def firstOf (n : Nat) (p : Nat → Bool) : Option Nat := (List.range n).find? p

/-! Host interface (R355). -/

/-- Queue `q` is enabled. -/
def qOn (s : State) (q : Nat) : Bool := s.on (R.HIF_Q_CFG_EN q)
/-- The two rings of a queue, as ranges of host memory. -/
def rings2 (s : State) (q : Nat) : List (Nat × Nat) :=
  [(s.rd (R.HIF_Q_SQ_BASE_ADDR q), 64 * 2 ^ s.rd (R.HIF_Q_CFG_SQ_LOG q)),
   (s.rd (R.HIF_Q_CQ_BASE_ADDR q), 32 * 2 ^ s.rd (R.HIF_Q_CFG_CQ_LOG q))]
def overlap (a b : Nat × Nat) : Bool := decide (a.1 < b.1 + b.2) && decide (b.1 < a.1 + a.2)
/-- Two enabled queues share a doorbell line or overlap in ring memory. -/
def clash (s : State) (q r : Nat) : Bool :=
  s.qOn q && s.qOn r && q != r &&
    (s.rd (R.HIF_Q_DB_ADDR_ADDR q) == s.rd (R.HIF_Q_DB_ADDR_ADDR r) ||
     (s.rings2 q).any fun a => (s.rings2 r).any (overlap a))

def c10 (s : State) : Option Nat := firstOf 32 fun q =>
  let a := s.rd (R.HIF_Q_CFG_SQ_LOG q)
  let b := s.rd (R.HIF_Q_CFG_CQ_LOG q)
  s.qOn q && (decide (a < 4) || decide (12 < a) || decide (b < 4) || decide (12 < b) || decide (b < a) ||
    s.rd (R.HIF_Q_SQ_BASE_ADDR q) % 4096 != 0 || s.rd (R.HIF_Q_CQ_BASE_ADDR q) % 4096 != 0)
def c11 (s : State) : Option Nat := firstOf 32 fun q =>
  s.qOn q && (s.rd (R.HIF_Q_DB_ADDR_ADDR q) == 0 || s.rd (R.HIF_Q_DB_ADDR_ADDR q) % 64 != 0 ||
    (List.range 32).any (s.clash q))
def c12 (s : State) : Option Nat := firstOf 32 fun q =>
  let n := s.rd (R.HIF_Q_CFG_COAL_N q)
  s.qOn q && (n == 0 || (decide (1 < n) && s.rd (R.HIF_Q_CFG_COAL_US q) == 0))
/-- A setting that needs a feature, with the feature's bit of LK_ID_CAP0 (R350). -/
def featureSettings (s : State) : List (Nat × Bool) :=
  [(0, s.on R.ADM_CTL_FAST_EN), (1, s.on R.ADM_CTL_HINT_EN), (2, s.on R.BUD_CTL_LT_EN || s.on R.BUD_CTL_LT_LEARN),
   (3, s.on R.BUD_CTL_BURST_EN), (4, s.on R.CAS_PACE_CFG_EN), (5, s.on R.CAS_CTL_JOIN), (6, s.on R.SEN_CTL_DIGEST_EN),
   (7, s.on R.SEN_FLEET_PUSH), (8, s.on R.SEN_FLEET_EXPORT), (9, s.on R.RGC_SW_CTL_SRC || s.on R.RGC_SW_CTL_SOUT_EN),
   (10, s.on R.TRC_CTL_EN), (12, s.on R.MBX_GLB_V2_EN)]
def c13 (s : State) : Option Nat := plain (s.featureSettings.any fun f => f.2 && !bit (s.rd (R.ID_CAP_CAP 0)) f.1)
def c14 (s : State) : Option Nat := firstOf 32 fun q => s.rd (R.HIF_Q_STS_STATE q) == 3
def c15 (s : State) : Option Nat := firstOf 42 fun v =>
  !s.on (R.INT_V_CTL_MASK v) && (s.rd (R.INT_V_ADDR_ADDR v) == 0 || s.rd (R.INT_V_ADDR_ADDR v) % 4 != 0)

/-! Admission (R83). -/

def c20 (s : State) : Option Nat := plain (Nat.gcd (s.rd R.ADM_CTL_STRIDE) 576 != 1)
def c21 (s : State) : Option Nat := firstOf 8 fun d => (List.range 128).any fun k =>
  decide (16 < s.rd (R.ADM_ACTIVE_COST_E0 d k)) || decide (16 < s.rd (R.ADM_ACTIVE_COST_E1 d k)) ||
  decide (16 < s.rd (R.ADM_ACTIVE_COST_E2 d k)) || decide (16 < s.rd (R.ADM_ACTIVE_COST_E3 d k))
def c22 (s : State) : Option Nat := firstOf 8 fun d => decide (s.rd (R.BUD_RAIL_LIM_LIMIT d) ≤ 16 * s.rd R.ADM_UNCORE_ALLOW)
def c23 (s : State) : Option Nat := firstOf 8 fun d =>
  decide ((s.rd (R.BUD_RAIL_LIM_LIMIT d) - 16 * s.rd R.ADM_UNCORE_ALLOW) * 100 / 144 < 64)
def c24 (s : State) : Option Nat :=
  plain (s.rd R.ADM_RAMP_STEP == 0 || decide (s.rd R.ADM_RAMP_FAST_STEP < s.rd R.ADM_RAMP_STEP))
def c25 (s : State) : Option Nat := plain (decide (s.rd R.ADM_PKG_SLOPE_STEP < 8 * s.rd R.ADM_RAMP_STEP))
def c26 (s : State) : Option Nat :=
  plain (decide (125 < s.rd R.ADM_CUFF_CFG_PEAK_PCT) || decide (s.rd R.ADM_CUFF_CFG_PEAK_PCT < s.rd R.ADM_CUFF_CFG_AVG_PCT) ||
    decide (s.rd R.ADM_CUFF_CFG_AVG_PCT ≤ s.rd R.ADM_CUFF_CFG_REL_PCT))
/-- A bit of COST_SWAP.DIE is still set; the refusal names no die. DESIGN CHOICE, log 25. -/
def c27 (s : State) : Option Nat := plain (s.on R.ADM_COST_SWAP_DIE)
/-- A list never rises. -/
def falling : List Nat → Bool
  | a :: b :: t => decide (b ≤ a) && falling (b :: t)
  | _ => true
def c28 (s : State) : Option Nat :=
  let l := (List.range 7).map s.scale
  plain (l.contains 0 || !falling l)

/-! Budget (R124). -/

def c30 (s : State) : Option Nat := firstOf 16 fun n => s.rd (R.BUD_RAIL_LIM_LIMIT n) == 0
def c31 (s : State) : Option Nat := plain (!s.on R.BUD_PKG_CEIL_PROV)
def c32 (s : State) : Option Nat := plain (decide (s.rd R.BUD_PKG_CAP_PEAK < s.rd R.BUD_PKG_CAP_SUST))
def c33 (s : State) : Option Nat := firstOf 16 fun n =>
  decide (s.rd (R.BUD_RAIL_EFF_EFF n) < 500) || decide (1000 < s.rd (R.BUD_RAIL_EFF_EFF n))
def c34 (s : State) : Option Nat := firstOf 16 fun n =>
  ((List.range 16).all fun j => s.rd (R.BUD_WGT_W n j) == 0) && s.rd (R.BUD_RAIL_LEAK_P45 n) == 0 &&
    s.rd (R.BUD_RAIL_LEAK_P65 n) == 0 && s.rd (R.BUD_RAIL_LEAK_P85 n) == 0 && s.rd (R.BUD_RAIL_LEAK_P105 n) == 0
def c35 (s : State) : Option Nat :=
  plain (s.rd R.BUD_MISMATCH_PCT == 0 || s.rd R.BUD_MISMATCH_WIN == 0 || s.rd R.BUD_MISMATCH_SLOPE == 0 ||
    decide (50 ≤ s.rd R.BUD_MISMATCH_GUARD_PCT))
def c36 (s : State) : Option Nat :=
  plain (s.rd R.BUD_LT_CFG_BIN_WIN == 0 || s.rd R.BUD_CTL_TOL_PCT == 0 ||
    decide (s.rd R.BUD_CTL_USE_CONF < s.rd R.BUD_CTL_REPLACE_CONF))
def c37 (s : State) : Option Nat :=
  plain (s.on R.BUD_CTL_BURST_EN && (s.rd R.BUD_BURST_REFILL == 0 || s.rd R.BUD_BURST_MAX == 0))
def c38 (s : State) : Option Nat := plain (s.rd R.BUD_OPSEL_OPMAX == 7)

/-! Clocks (R162). -/

def c40 (s : State) : Option Nat := plain (s.rd R.CLK_SRC_ACTIVE == 2 && !s.on R.CLK_SRC_CTL_INT_OK)
/-- OPV codes that are out of range or rise name no unit; a code above a compute rail's ceiling names the rail. -/
def c41 (s : State) : Option Nat :=
  let l := (List.range 7).map s.opv
  if l.any (fun v => decide (v < 550) || decide (900 < v)) || !falling l then some 0xFFFF
  else firstOf 8 fun n => l.any fun v => decide (s.rd (R.RGC_L_VMAX_VMAX_CEIL n) < v)
def c42 (s : State) : Option Nat :=
  plain (decide (s.rd R.CLK_DROOP_CFG_THR1 < 10) || decide (80 < s.rd R.CLK_DROOP_CFG_THR2) ||
    decide (s.rd R.CLK_DROOP_CFG_THR2 ≤ s.rd R.CLK_DROOP_CFG_THR1))
def c43 (s : State) : Option Nat :=
  plain (s.rd R.CLK_RAMP_HOLD_AP == 0 || s.rd R.CLK_RAMP_ACK_GRACE == 0 || s.rd R.CLK_RAMP_ACK_RETRY == 0 ||
    s.rd R.CLK_DROOP_CFG_CUFF_AP == 0 || s.rd R.CLK_DROOP_CFG_RECOVER_AP == 0)
def c44 (s : State) : Option Nat :=
  plain (s.rd R.CLK_DROOP_CFG_FLOOR == 7 || s.rd R.CLK_DROOP_CFG_FLOOR == 0 || s.rd R.CLK_SRC_CTL_INT_OPMAX == 7)
/-- A die that is fenced. -/
def dieOut (s : State) (d : Nat) : Bool := s.on (R.ADM_DIE_STATUS_FENCED d)
def c45 (s : State) : Option Nat := firstOf 8 fun d =>
  let en := s.rd (R.CLK_DIE_DROOP_EN_DET d)
  !s.dieOut d && (en &&& s.rd (R.CLK_DIE_DROOP_STUCK_DET d)) == en
def c46 (s : State) : Option Nat := plain (s.rd R.CLK_DROOP_STUCK_LIMIT == 0)

/-! Regulator (R201, R240). -/

/-- Bottom and top of a loop's voltage range, in mV (R163). -/
def range163 (n : Nat) : Nat × Nat :=
  if n < 8 then (550, 900) else if n = 8 then (600, 1000) else if n = 9 then (700, 850) else if n = 10 then (700, 950)
  else if n < 15 then (1050, 1200) else (750, 900)
/-- First stage channel and number of channels of a loop. -/
def chans (s : State) (n : Nat) : Nat × Nat := (s.rd (R.RGC_L_CFG_PH_BASE n), s.rd (R.RGC_L_CFG_NPH n))
def c50 (s : State) : Option Nat := firstOf 16 fun n =>
  let (b, k) := s.chans n
  k == 0 || decide (12 < k) || decide (128 < b + k) || (List.range n).any fun m => overlap (s.chans m) (b, k)
/-- f_ref in effect, in kHz (R169, R171). -/
def refKhz (s : State) : Nat :=
  if s.on R.RGC_SW_STATUS_REF_NOW then s.rd R.RGC_SW_STATUS_SYNC_KHZ
  else if s.on R.RGC_SW_STATUS_SYNC_HOLD then 1000000000 / max 1 s.rgc.syncPs else s.rd R.RGC_SW_CTL_INT_KHZ
def c51 (s : State) : Option Nat :=
  if s.rd R.RGC_SW_CTL_INT_KHZ < 1000 ∨ 4000 < s.rd R.RGC_SW_CTL_INT_KHZ then some 0xFFFF
  else firstOf 16 fun n =>
    let k := s.rd (R.RGC_L_CFG_DIV n)
    k == 3 || decide (s.refKhz < 500 * 2 ^ k) || decide (2000 * 2 ^ k < s.refKhz)
def c52 (s : State) : Option Nat := plain (s.on R.RGC_SW_CTL_SRC && !s.on R.RGC_SW_STATUS_SYNC_LOCK)
def c53 (s : State) : Option Nat := firstOf 16 fun n =>
  let (lo, hi) := range163 n
  let m := s.rd (R.RGC_L_VMAX_VMAX n)
  let v := s.rd (R.RGC_L_VNOM_VNOM n)
  decide (hi < m) || decide (v < lo) || decide (hi < v) || decide (m < v)
/-- The pre-arm time of a compute loop exceeds 1,500 ns, with PA_SLEW capped at SLEW_CEIL (R183, R184). -/
def armSlow (s : State) (n : Nat) : Bool :=
  let v := min (s.rd R.RGC_PREARM_PA_SLEW) (s.rd (R.RGC_L_SLEW_SLEW_CEIL n))
  decide (1500 * v < 1000 * s.rd R.RGC_PREARM_PA_MV + (20 * s.rd R.RGC_VCL_CFG_ACK_N + 40) * v) || v == 0
def c54 (s : State) : Option Nat :=
  match firstOf 16 fun n => decide (s.rd (R.RGC_L_SLEW_SLEW n) < 5) with
  | some n => some n
  | none => if s.rd R.RGC_PREARM_PA_SLEW = 0 then some 0xFFFF else firstOf 8 s.armSlow
def c55 (s : State) : Option Nat := firstOf 16 fun n =>
  s.rd (R.RGC_L_SLOPE_LPH n) == 0 || decide (s.rd (R.RGC_L_SLOPE_SC_PCT n) < 50) || decide (200 < s.rd (R.RGC_L_SLOPE_SC_PCT n))
def c56 (s : State) : Option Nat := firstOf 16 fun n =>
  let rel := s.rd (R.RGC_L_NL_NL_REL n)
  let arm := s.rd (R.RGC_L_NL_NL_TH_ARM n)
  decide (arm ≤ rel) || decide (s.rd (R.RGC_L_NL_NL_OV n) ≤ rel) || decide (s.rd (R.RGC_L_NL_NL_TH n) < arm) ||
    s.rd (R.RGC_L_NLT_MAX_ON n) == 0 || s.rd (R.RGC_L_NLT_OV_MAX n) == 0
/-- LL in µΩ times LIMIT in 1/16 A against THR1 − 5 mV. -/
def c57 (s : State) : Option Nat := firstOf 8 fun n =>
  decide (16000 * s.rd R.CLK_DROOP_CFG_THR1 ≤ s.rd (R.RGC_L_COMP1_LL n) * s.rd (R.BUD_RAIL_LIM_LIMIT n) + 80000)
def c58 (s : State) : Option Nat := firstOf 9 fun x => (decide (x = 8) || !s.dieOut x) && !bit (s.rd R.RGC_VCL_STATUS_UP) x
def c59 (s : State) : Option Nat := firstOf 16 fun n => s.on (R.RGC_L_APPLY_APPLY n)
def c5A (s : State) : Option Nat :=
  match firstOf 16 fun n => !(decide (n < 8) && s.on (R.RGC_L_FAULT_PARK n)) &&
      (s.on (R.RGC_L_FAULT_SHORT_LATCH n) || s.on (R.RGC_L_FAULT_OVL_SHUT n)) with
  | some n => some n
  | none => plain (s.on R.RGC_SEQ_STATUS_HALT)
def c5B (s : State) : Option Nat := plain (!s.on R.RGC_SEQ_STATUS_DONE)
def c5C (s : State) : Option Nat := firstOf 16 fun n =>
  let st (k : Nat) : Nat := s.rd (R.RGC_L_SEQ_STAGE k)
  let ss := s.rd (R.RGC_L_SEQ_SS_SLEW n)
  let a := s.rd (R.RGC_L_PROT_SHORT_A n)
  ((List.range 16).any fun k => bit (s.rd (R.RGC_L_DEP_DEP n)) k && decide (st n ≤ st k)) ||
    ss == 0 || decide (s.rd (R.RGC_L_SLEW_SLEW_CEIL n) < ss) || a == 0 || decide (150 < a) ||
    decide (s.rd (R.RGC_L_PROT_OVL_PCT n) < 100) ||
    decide (s.rd (R.RGC_L_PROT_OVL_OFF n) * 100 ≤ s.rd (R.RGC_L_PROT_OVL_FEATHER n) * 10) ||
    s.rd (R.RGC_L_PHLOSS_DEV_A n) == 0 || s.rd (R.RGC_L_SENSE_SD_MV n) == 0 ||
    (decide (8 ≤ n) && s.on (R.RGC_L_FAULT_PARK n))

/-! Thermal (R269). -/

def c60 (s : State) : Option Nat := plain (decide (s.rd R.THM_CTL_INTERVAL < 50) || decide (10000 < s.rd R.THM_CTL_INTERVAL))
def c61 (s : State) : Option Nat :=
  let soft := s.rd R.THM_THR_SOFT
  let hard := s.rd R.THM_THR_HARD
  plain (decide (hard ≤ soft) || decide (min (s.rd R.THM_TRIP_TRIP) (s.rd R.THM_TRIP_TRIP_CEIL) ≤ hard) ||
    s.rd R.THM_THR_HYST == 0 || decide (hard - soft ≤ s.rd R.THM_THR_HYST))
def c62 (s : State) : Option Nat :=
  let m := s.rd R.THM_THROT_SOFT_MIN_PCT
  plain (m == 0 || decide (100 < m) || decide (m < s.rd R.THM_THROT_HARD_PCT) || s.rd R.THM_THROT_REL_PCT == 0 ||
    s.rd R.THM_THROT_HARD_RATIO == 7)
def c63 (s : State) : Option Nat := plain (s.rd R.THM_CTL_MISS_N == 0 || s.rd R.THM_CTL_SUSPECT_N == 0)
def c64 (s : State) : Option Nat := plain (s.on R.THM_TRIP_STS_LATCHED)
/-- The I/O die is the ninth; it has 8 sites and is never fenced. -/
def c65 (s : State) : Option Nat := firstOf 9 fun d =>
  (decide (d = 8) || !s.dieOut d) && (s.rd (R.THM_DIE_SEQ_COUNT d) == 0 ||
    (List.range (if d = 8 then 8 else 16)).all fun i => s.rd (R.THM_DIE_T_STAT d i) != 0)

/-! Sentinel (R309). -/

def c70 (s : State) : Option Nat := plain (s.rd R.SEN_CTL_DIGEST_STEPS == 0 || decide (256 < s.rd R.SEN_CTL_DIGEST_STEPS))
def c71 (s : State) : Option Nat := firstOf 8 fun d =>
  let k := s.rd (R.SEN_DIE_GROUP_SIZE d)
  decide (16 < k) || (decide (2 ≤ k) && s.rd (R.SEN_DIE_GROUP_GROUP d) == 0)
def c72 (s : State) : Option Nat := plain (s.rd R.SEN_MARGIN_CFG_CL_N == 0 || s.rd R.SEN_MARGIN_CFG_WIN_S == 0)
def c73 (s : State) : Option Nat :=
  plain (s.on R.SEN_CTL_TEST_EN && s.on R.SEN_TEST_PERIOD_MS && !s.on R.SEN_STATUS_LIB_VALID)
/-- OBJ has 14 bits, so it never reaches 16,384. -/
def c74 (s : State) : Option Nat :=
  plain ((s.on R.SEN_EPOCH_CFG_PUBLISH && decide (16384 ≤ s.rd R.SEN_EPOCH_CFG_OBJ)) || s.rd R.SEN_EPOCH_CFG_DIGEST_WAIT == 0)
/-- PUSH is 0 or 1, EXPORT 0 to 2 (R304). -/
def c75 (s : State) : Option Nat := plain (decide (2 ≤ s.rd R.SEN_FLEET_PUSH) || s.rd R.SEN_FLEET_EXPORT == 3)
def c76 (s : State) : Option Nat := plain (s.on R.SEN_STATUS_RETRACT_PEND || s.on R.SEN_STATUS_ABORT)

/-! Cascade (R348). -/

def c80 (s : State) : Option Nat :=
  let n := s.rd R.CAS_CFG_EXPECT
  plain (s.on R.CAS_CTL_JOIN && (n == 0 || decide (16384 < n) || decide (n ≤ s.rd R.CAS_ID_INDEX)))
def c81 (s : State) : Option Nat := plain (s.on R.CAS_CTL_JOIN && !s.on R.CAS_CTL_LANE_EN)
def c82 (s : State) : Option Nat := plain (s.on R.CAS_CTL_JOIN && s.rd R.CAS_STATUS_STATE != 2)
def c83 (s : State) : Option Nat := plain (s.on R.CAS_CTL_JOIN && !s.on R.CAS_TSYNC_LOCKED && !s.isCox)
/-- The settings of fixed-pace mode count on the Cox while EN is 1. -/
def c84 (s : State) : Option Nat :=
  let p := s.rd R.CAS_PACE_CFG_PCT
  plain (s.on R.CAS_PACE_CFG_EN && s.isCox && (!bit (s.rd R.CAS_VER_CFEAT) 0 || s.rd R.CAS_PACE_CFG_RATIO == 7 ||
    p == 0 || decide (100 < p) || s.rd R.CAS_PACE_CFG_PERIOD_W == 0))
def c85 (s : State) : Option Nat := (s.cas.obj.find? fun o => (o.2.member && o.2.type == 0) || o.2.err).map (·.1)
def c86 (s : State) : Option Nat := plain s.casFrozen

/-! Management, recorder and trace (R356, R432). -/

def c90 (s : State) : Option Nat := plain (s.lcState != 1 && s.lcState != 2)
/-- A processor does not run a started image, or does not accept a peer's format; it is named by its initiator code. -/
def c91 (s : State) : Option Nat :=
  (firstOf 2 fun p => s.rd (R.MGT_P_STATE_STATE p) != 2 || !s.on (R.MGT_P_STATE_STARTED p)).map (· + 1)
def c92 (s : State) : Option Nat := if s.on (R.MGT_P_STATE_READY 1) then none else some 2
def c93 (s : State) : Option Nat := (firstOf 3 fun p => s.on (R.MGT_P_STATE_PEER_BAD p)).map (· + 1)
def cA0 (s : State) : Option Nat := plain (s.on R.REC_STATUS_UNREADABLE || s.on R.REC_STATUS_FORMAT_BAD)
def cA1 (s : State) : Option Nat := plain (s.on R.REC_STATUS_FULL && !s.on R.REC_STATUS_ACKED)
def cA2 (s : State) : Option Nat :=
  if s.on R.TRC_CTL_EN then firstOf 4 fun k => !bit (s.rd R.TRC_STATUS_LANE_UP) k else none

/-- Every reason code, in ascending order, with its condition. DEDUCED, log 25. -/
def reasons : List (Nat × (State → Option Nat)) :=
  [(0x10, c10), (0x11, c11), (0x12, c12), (0x13, c13), (0x14, c14), (0x15, c15),
   (0x20, c20), (0x21, c21), (0x22, c22), (0x23, c23), (0x24, c24), (0x25, c25), (0x26, c26), (0x27, c27), (0x28, c28),
   (0x30, c30), (0x31, c31), (0x32, c32), (0x33, c33), (0x34, c34), (0x35, c35), (0x36, c36), (0x37, c37), (0x38, c38),
   (0x40, c40), (0x41, c41), (0x42, c42), (0x43, c43), (0x44, c44), (0x45, c45), (0x46, c46)] ++
  [(0x50, c50), (0x51, c51), (0x52, c52), (0x53, c53), (0x54, c54), (0x55, c55), (0x56, c56), (0x57, c57), (0x58, c58),
   (0x59, c59), (0x5A, c5A), (0x5B, c5B), (0x5C, c5C), (0x60, c60), (0x61, c61), (0x62, c62), (0x63, c63), (0x64, c64),
   (0x65, c65), (0x70, c70), (0x71, c71), (0x72, c72), (0x73, c73), (0x74, c74), (0x75, c75), (0x76, c76)] ++
  [(0x80, c80), (0x81, c81), (0x82, c82), (0x83, c83), (0x84, c84), (0x85, c85), (0x86, c86),
   (0x90, c90), (0x91, c91), (0x92, c92), (0x93, c93), (0xA0, cA0), (0xA1, cA1), (0xA2, cA2)]

/-- The first reason code that applies, with the unit it names; none if the check passes (R351). DEDUCED, log 25. -/
def enableCheck (s : State) : Option (Nat × Nat) :=
  reasons.findSome? fun r => (r.2 s).map fun u => (r.1, u)

end State
end Sys2Proof.Machine
end

