-- ==== Sys2Proof/Machine/Stroke.lean ====
section
/-!
DEFINITION. Machine/Stroke.lean: the stroke boundary: grants, requests, the allowance and the scan of the sites (R59–R63),
with what takes effect on it; the arrival of a Seam command (R38, R39); the start of a pace schedule (R112).
-/
namespace Sys2Proof.Machine

/-! The scan (R55, R59). -/

/-- A request sampled, with its base cost and its effective cost (R50). -/
structure Asked where
  site : Site
  base : Nat
  cost : Nat
  deriving DecidableEq, Repr

/-- What a scan gives: G, D, the sites chosen in scan order, and those refused with the ring's code of R435. -/
structure Scan where
  g : Nat := 0
  d : Nat := 0
  chosen  : List Grant := []
  refused : List (Site × Nat) := []
  deriving DecidableEq, Repr

/-- One request of the scan, under the allowance `a` and the pool `p`. A site under HOLD is not chosen, but its request
counts in D (R59, R75). -/
def scanOne (a p : Nat) (held : List Site) (x : Scan) (r : Asked) : Scan :=
  if r.cost = 0 then { x with refused := x.refused ++ [(r.site, 1)] }
  else if p < r.cost then { x with refused := x.refused ++ [(r.site, 2)] }
  else if x.g + r.cost ≤ a && !held.contains r.site then { x with g := x.g + r.cost, d := x.d + r.cost, chosen := x.chosen ++ [⟨r.site, r.cost⟩] }
  else { x with d := x.d + r.cost }

/-- The scan of R59 over the requests in scan order. -/
def scanSites (a p : Nat) (held : List Site) (l : List Asked) : Scan := l.foldl (scanOne a p held) {}

/-- A request takes its place by its key; of two for one site the first stands. -/
def insertAsked (key : Site → Nat) (r : Asked) : List Asked → List Asked
  | [] => [r]
  | x :: t => if key r.site < key x.site then r :: x :: t else if x.site = r.site then x :: t else x :: insertAsked key r t

namespace State

/-! The allowance (R59, R60, R68, R78). -/

/-- Fast catch is active on a die (R68, R70, R109). -/
def fastActive (s : State) (d : Die) : Bool :=
  let a := s.adm[d]
  match a.act with
  | some h => s.on R.ADM_CTL_FAST_EN && h.armed && Hint.canArm s h && a.run == some (h.layer, h.op) &&
      !s.on (R.ADM_DIE_STATUS_CUFF d) && !a.fastOff && !a.noFast && s.fastAble d
  | none => false

/-- The ramp step of a die for a stroke. -/
def rampStep (s : State) (d : Die) : Nat :=
  min (if s.fastActive d then s.rd R.ADM_RAMP_FAST_STEP else s.rd R.ADM_RAMP_STEP) (s.rd (R.ADM_DIE_RAMP_SHARE d))

/-- Au: the allowance before the Cuff's cap, with the cap of a schedule. -/
def allowance (s : State) (d : Die) : Nat :=
  let prev := if s.adm[d].unmet then s.rd (R.ADM_DIE_STROKE_ALLOW d) else s.rd (R.ADM_DIE_STROKE_GRANTED d)
  let a := min (s.rd (R.ADM_DIE_STATUS_POOL d)) (prev + s.rampStep d)
  if s.on R.BUD_PACE_ACTIVE then min a (s.rd R.BUD_PACE_TOKENS) else a

/-! Requests (R50, R56, R63). -/

/-- A site's part in the scan: 0 none, 1 every class, 2 class TEST; at reset slots 0 to 31 of each cluster carry (R278). -/
def siteRole (s : State) (d : Die) (x : Site) : Nat := (Tab.find s.adm[d].slots x).getD (if x % 36 < 32 then 1 else 0)

/-- A cluster's sites take part: its clock runs and it is not on its way to sleep (R147, R148). -/
def clusterRuns (s : State) (d : Die) (x : Site) : Bool :=
  match clusters[x / 36]? with
  | some c => s.rd (R.CLK_DIE_GATE_STS_CL d c) == 0 && (s.clkDie[d].gate[c] == .settled || s.clkDie[d].gate[c] == .leaving)
  | none => false

/-- A request is sampled: its site is in admission for its class. -/
def sampled (s : State) (d : Die) (r : Req) : Bool :=
  r.die == d && decide (r.site < 576) && !s.fenced d && s.clusterRuns d r.site &&
    (s.siteRole d r.site == 1 || (s.siteRole d r.site == 2 && r.cls == 6))

/-- The base cost of a request in its die's active bank (R52–R54). -/
def baseCost (s : State) (d : Die) (r : Req) : Nat :=
  let k := 8 * r.cls + r.fmt
  s.rd (match r.sp with
    | 0 => R.ADM_ACTIVE_COST_E0 d k | 1 => R.ADM_ACTIVE_COST_E1 d k | 2 => R.ADM_ACTIVE_COST_E2 d k
    | _ => R.ADM_ACTIVE_COST_E3 d k)

/-- The requests sampled of a die, in scan order: sites just substituted in first, then from START on (R59, R279). -/
def sampleSites (s : State) (d : Die) (reqs : List Req) : List Asked :=
  let start := s.rd (R.ADM_DIE_RAMP_START d)
  let key (x : Site) : Nat := if s.adm[d].first.contains x then 0 else 1 + (x + 576 - start % 576) % 576
  let sm := s.costScale d
  (reqs.filter (s.sampled d)).foldl (fun l r =>
    let b := s.baseCost d r
    insertAsked key ⟨r.site, b, cdiv (b * sm) 16⟩ l) []

/-! What takes effect on the boundary. -/

/-- Changes of sites' parts that have reached the satellite; a chosen grant of a site that leaves is dropped (R32, R279).
DEDUCED, log 16. -/
def applySlots (s : State) (d : Die) : State :=
  let l := s.adm[d].slotNext
  if l.isEmpty then s
  else
    let s := s.each l fun x s => s.modAdm d fun a => { a with
      slots := Tab.put a.slots x.1 x.2.1
      first := if x.2.2 then x.1 :: a.first else a.first
      chosen := if x.2.1 = 1 then a.chosen else a.chosen.filter (·.site != x.1)
      held := if x.2.1 = 0 then a.held.filter (· != x.1) else a.held }
    (s.modAdm d fun a => { a with slotNext := [] }).wr (R.ADM_DIE_STROKE_GRANTED d)
      (min (s.rd (R.ADM_DIE_STROKE_GRANTED d)) (tokens s.adm[d].chosen))

/-- The stages of the clusters on their way to sleep or back (R147, R148). -/
def gateStroke (s : State) (d : Die) : State :=
  s.each clusters fun c s => match s.clkDie[d].gate[c] with
    | .leaving => if s.gateDeferred d c then s else s.setGate d c .draining
    | .draining => s.setGate d c .stopping
    | .rejoining => s.setGate d c .settled
    | _ => s

/-- The Cuff is released once its causes have cleared and MIN_HOLD strokes have passed (R76). DEDUCED, log 16. -/
def cuffRelease (s : State) (d : Die) (k : Nat) : State :=
  if !s.on (R.ADM_DIE_STATUS_CUFF d) then s
  else
    let s := s.modAdm d fun a => { a with cuffFirst := some (a.cuffFirst.getD k) }
    let a := s.adm[d]
    if a.causes ≠ 0 || decide (k < a.cuffFirst.getD k + s.rd R.ADM_CUFF_CFG_MIN_HOLD) then s
    else
      let s := if s.fenced d || a.held.isEmpty then s else s.emit (.hold d a.held false)
      let s := if s.fenced d then s else s.each a.held fun x s => s.ringSite d x 3 0
      (s.flag (R.ADM_DIE_STATUS_CUFF d) false).modAdm d fun a => { a with
        held := if s.fenced d then a.held else [], cuffFirst := none, fastOff := true }

/-- A command is for a window boundary. -/
def isWindow (b : SeamBody) : Bool := match b with
  | .window _ => true
  | _ => false
/-- Commands whose edge has come; those of a kind then leave the list. -/
def dueCmds (s : State) (d : Die) : List SeamBody := (s.adm[d].cmds.filter fun c => decide (c.1 ≤ s.own d.sat)).map (·.2)
def dropDue (s : State) (d : Die) (window : Bool) : State :=
  let keep (c : Nat × SeamBody) : Bool := decide (s.own d.sat < c.1) || isWindow c.2 != window
  s.modAdm d fun a => { a with cmds := a.cmds.filter keep }

/-- A command's pool and ratio are applied; while the Seam is down the part that would raise the pool or speed the clock is
discarded and reported (R38, R39). -/
def applyCmd (s : State) (d : Die) (pool : Nat) (ratio : Option Nat) : State :=
  let p := s.adm[d].cmdPool
  let k := s.clkDie[d].cmdRatio
  let up := s.seamUp d.sat
  let r := ratio.getD k
  let s := s.modAdm d fun a => { a with cmdPool := if up then pool else min pool p }
  let s := s.modClk d fun c => { c with cmdRatio := if up then r else max r k }
  if !up && (decide (p < pool) || decide (r < k)) then s.report d.sat .late else s

/-- Reductions stamped for the stroke are applied (R71). -/
def applyReductions (s : State) (d : Die) : State :=
  let l := s.dueCmds d
  let s := s.dropDue d false
  let s := s.each l fun b s => match b with
    | .reduce p k _ => (s.applyCmd d (min p s.adm[d].cmdPool) (k.map (max s.clkDie[d].cmdRatio ·))).retarget d
    | _ => s
  s.applyPool d false

/-- The grants chosen at the last boundary are issued, but for sites held since (R32, R57). -/
def issueGrants (s : State) (d : Die) : State :=
  let a := s.adm[d]
  let l := if s.fenced d then [] else a.chosen.filter fun g => !a.held.contains g.site
  let s := if l.isEmpty then s else s.emit (.grant d (l.map (·.site)))
  let s := s.each l fun g s => match Tab.find s.adm[d].waits g.site with
    | some n => (s.ringSite d g.site 1 (min n 0xFFFFFF)).modAdm d fun a => { a with waits := Tab.del a.waits g.site }
    | none => s
  let t := tokens l
  (s.countDie d.sat (R.ADM_DIE_CNT_TOKENS_COUNT d) t).modAdm d fun a => { a with
    issued := l, chosen := [], win := { a.win with gWin := a.win.gWin + t } }

/-- The window's counts take a stroke in (R92). -/
def winStroke (w : WinCount) (l : List Asked) (scale : Nat) : WinCount :=
  let cost := (l.map (·.cost)).foldl (· + ·) 0
  { w with
    reqPeak := max w.reqPeak (sat 14 cost), sitePeak := max w.sitePeak l.length
    baseSum := w.baseSum + (l.map (·.base)).foldl (· + ·) 0, reqCount := w.reqCount + l.length
    scale := max w.scale scale }

/-- Strokes waited by the sites whose requests wait (R435). -/
def waitsAfter (old : Tab Nat) (l : List Asked) (x : Scan) : Tab Nat :=
  l.foldl (fun t r =>
    if x.chosen.any (·.site == r.site) then
      (match Tab.find old r.site with
        | some n => Tab.put t r.site n
        | none => t)
    else if x.refused.any (·.1 == r.site) then t
    else Tab.put t r.site ((Tab.find old r.site).getD 0 + 1)) []

/-- The die's requests are sampled and its sites scanned; `cap` is the Cuff's level while it caps the allowance (R55, R59,
R61, R69, R75). -/
def sampleAndScan (s : State) (d : Die) (reqs : List Req) (cap : Option Nat) : State :=
  let l := s.sampleSites d reqs
  let fast := s.fastActive d
  let au := s.allowance d
  let a := match cap with
    | some v => min au v
    | none => au
  let x := scanSites a (s.rd (R.ADM_DIE_STATUS_POOL d)) s.adm[d].held l
  let unmet := decide (au < x.d)
  let scale := s.costScale d
  let s := s.each x.refused fun r s =>
    (s.raiseOnce (if r.2 = 1 then Ev.ADM_COST_ZERO else Ev.ADM_UNFIT) d).ringSite d r.1 9 r.2
  let s := s.when unmet (·.countDie d.sat (R.ADM_DIE_CNT_UNMET_COUNT d))
  let s := (s.wr (R.ADM_DIE_STROKE_GRANTED d) x.g).wr (R.ADM_DIE_STROKE_ALLOW d) a
  let s := s.wr (R.ADM_DIE_RAMP_START d) ((s.rd (R.ADM_DIE_RAMP_START d) + s.rd R.ADM_CTL_STRIDE) % 576)
  let s := s.flag (R.ADM_DIE_STATUS_FAST_ACTIVE d) fast
  let s := s.modAdm d fun q => { q with
    chosen := x.chosen, unmet := unmet, waits := waitsAfter q.waits l x, win := winStroke q.win l scale, first := [] }
  if fast && !l.isEmpty && !unmet then s.endActive d else s

/-- The grants computed on a boundary are priced: the scale of the stroke that begins and of the next one (R51).
DEDUCED, log 16. -/
def price (s : State) (d : Die) : State :=
  let s := s.modClk d fun c => { c with scaleNow := c.scaleNext }
  let v := s.costS d
  s.modClk d fun c => { c with scaleNext := some v }

/-- The stroke boundary of a die (R59). DEDUCED, log 16. -/
def strokeDie (s : State) (d : Die) (reqs : List Req) (k : Nat) : State :=
  let s := (s.applySlots d).gateStroke d
  let cap := if s.on (R.ADM_DIE_STATUS_CUFF d) then some s.adm[d].level else none
  let s := (((s.cuffRelease d k).applyReductions d).issueGrants d).price d
  s.sampleAndScan d reqs cap

/-- A pool below TOKENS in fixed-pace mode is raised and counted once in a window (R113). -/
def paceShort (s : State) : State :=
  if !s.on R.BUD_PACE_ACTIVE || (Ev.BUD_PACE_SHORT, 0xFFFF) ∈ s.once then s
  else match dies.find? fun (d : Die) => decide (s.rd (R.ADM_DIE_STATUS_POOL d) < s.rd R.BUD_PACE_TOKENS) with
    | some d => (s.raiseOnce Ev.BUD_PACE_SHORT 0xFFFF d).count R.BUD_PACE_CNT_SHORT_COUNT
    | none => s

/-! The 64 ns means of the regulator (R213, R229). -/

/-- A loop's mean over 16 ns: the sliding average moves on with it, and the overload timer counts while the average is
above OVL_PCT of I_ref (R213, R229). -/
def mean16 (s : State) (l : Loop) (m : Nat) : State :=
  let s := s.modLoop l fun L => { L with means := (m :: L.means).take 67 }
  if s.drives l && decide (s.rd (R.RGC_L_PROT_OVL_PCT l) * s.iRef l < 100 * s.avgI l) then
    let n := s.loop[l].ovlNs + 16
    (s.modLoop l fun L => { L with ovlNs := n }).wr (R.RGC_L_OVL_TIMER l) (sat 16 (n / 1000))
  else s

/-- A loop's four means of a 64 ns interval that has ended: the largest 64 ns mean, and the held peak, follow theirs. -/
def meanLoop (s : State) (l : Loop) (ms : List (List Int)) : State :=
  let s := s.each (List.range 4) fun k s => s.mean16 l (s.total l (ms.getD k [])).toNat
  let m := (s.loop[l].means.take 4).foldl (· + ·) 0 / 4
  let s := s.modLoop l fun L => { L with pk64 := max L.pk64 m }
  let s :=
    if s.rd (R.RGC_L_HOLD_I_PK l) < sat 14 m then
      (s.tel (R.RGC_L_HOLD_I_PK l) (sat 14 m)).tel (R.RGC_L_HOLD_T_TIME l) (s.lkHalfAt (s.now - 64) / 2)
    else s
  s

def strokeMeans (s : State) (means : List (List (List Int))) : State :=
  if s.rgcOn then s.each loops fun l s => s.meanLoop l (means.getD l.val []) else s

/-- The stroke boundaries of the satellites that run on past a freeze they have missed (R45). DEDUCED, log 15. -/
def lateStrokes (s : State) (reqs : List Req) : State :=
  s.each dies fun d s => if s.late d.sat then s.strokeDie d reqs (s.own d.sat / 64) else s

/-- A stroke boundary (R40, R59). While the package is frozen its grid stands: only the regulator's means and the
satellites that missed the freeze go on. A satellite that missed a thaw stands (R38). -/
def strokeBoundary (s : State) (reqs : List Req) (means : List (List (List Int))) : State :=
  if s.frozen then
    let s := ({ s with now := 64 * ((s.now - s.frozenNs) / 64 + 1) + s.frozenNs }).strokeMeans means
    s.when s.live (·.lateStrokes reqs)
  else
    let k := max s.strokeIdx (cdiv s.cyc 64)
    let s : State := { s with now := 64 * k + s.frozenTime, strokeIdx := k + 1 }
    let s := s.strokeMeans means
    if !s.live then s else (s.each dies fun d s => if s.stuck d.sat then s else s.strokeDie d reqs k).paceShort

/-! Seam commands (R38, R39). -/

/-- A command of a satellite has come after its edge. -/
def seamLate (s : State) (x : Sat) (e : Nat) (window : Bool) : Bool :=
  decide (e < s.own x) || decide (e < (if window then 2048 * s.windowIdx else 64 * s.strokeIdx))

/-- A command that changes a die's settings waits for its edge; a late one is discarded, and the discard reported. The
capability pool for the present number of phases clears PHASE on its arrival (R219). -/
def seamSettings (s : State) (x : Sat) (edge : Option Nat) (nav : Option Nat) (window : Bool) (b : SeamBody) : State :=
  match x.die? with
  | none => s
  | some d =>
    let s := if nav == some (s.nAv d.loop) then s.cuffOne d .phase false else s
    let e := edge.getD (s.own x)
    if edge.isSome && s.seamLate x e window then s.report x .late
    else s.modAdm d fun a => { a with cmds := a.cmds ++ [(e, b)] }

/-- The alignment edge of a freeze or a thaw is noted; one that has passed is discarded, and the discard reported
(R38, R45). -/
def seamEdge (s : State) (x : Sat) (edge : Option Nat) (g : SeamSt → SeamSt) : State :=
  match edge with
  | some t => if t < s.now then s.report x .late else s.modSeam x g
  | none => s

/-- What a Seam command does at its satellite (R38, R194, R245, R280, R281). -/
def seamAct (s : State) (x : Sat) (c : SeamCmd) : State :=
  match c.body, x.die? with
    | .window w, _ => s.seamSettings x c.edge w.capNav true c.body
    | .reduce _ _ nav, _ => s.seamSettings x c.edge nav false c.body
    | .cuff n, some d => s.rgcCauses d (n - (n &&& 2 ^ CuffCause.droop.bit) - (n &&& 2 ^ CuffCause.phase.bit) +
        (s.adm[d].causes &&& (2 ^ CuffCause.droop.bit + 2 ^ CuffCause.phase.bit)))
    | .demand, _ => s.demandArrive x
    | .calStep _, _ => s.calStepArrive x
    | .remove k, some d => s.modAdm d fun a => { a with slotNext := a.slotNext ++ [(k, 0, false)] }
    | .insert k t, some d => s.modAdm d fun a => { a with slotNext := a.slotNext ++ [(k, if t then 2 else 1, false)] }
    | .map cl lg old new pl, some d => s.emit (.mapCmd d cl lg old new pl)
    | .freeze, _ => s.seamEdge x c.edge fun q => { q with stopAt := c.edge }
    | .thaw, _ => s.seamEdge x c.edge fun q => { q with goAt := c.edge }
    | _, _ => s

/-- The governor watches the latency of stamped commands: 8 in a row that differ from 40 ns by more than 1 ns take the Seam
down (R490). DEDUCED, log 46. -/
def seamWatch (s : State) (x : Sat) (lat : Nat) : State :=
  let n := if 39000 ≤ lat ∧ lat ≤ 41000 then 0 else s.seam[x].drift + 1
  let s := s.modSeam x fun q => { q with drift := n }
  if 8 ≤ n then s.seamGoDown x else s

/-- A Seam command on its way reaches its satellite, the first that is it; a second copy is not acted on again (R37, R38,
R491). DEDUCED, log 24. -/
def seamCommand (s : State) (x : Sat) (lat : Nat) (c : SeamCmd) : State :=
  match s.seam[x].flits.find? fun f => f.cmd == c with
  | none => s
  | some f =>
    let s := (s.advance (f.sent + cdiv lat 1000)).modSeam x fun q => { q with
      flits := q.flits.erase f, acted := (f.id :: q.acted).take 8 }
    let s := if s.seam[x].acted.tail.contains f.id then s else s.seamAct x c
    if c.edge.isSome then s.seamWatch x lat else s

/-! Fixed-pace mode (R112). -/

/-- The next schedule comes into force at the first stroke boundary at or after its start instant. LK_BUD_PACE shows its
TOKENS and RATIO from then on, and they stay as they are after its end. DESIGN CHOICE, log 23. -/
def paceStart (s : State) : State :=
  match s.gov.paceNext with
  | [] => s
  | (k, t, start, stop) :: later =>
    let s := (s.advance (20 * cdiv (s.whenLk start) 20)).toStroke
    let s := { s with gov := { s.gov with pace := some (k, t, start, stop), paceNext := later } }
    ((s.wr R.BUD_PACE_TOKENS t).wr R.BUD_PACE_RATIO k).flag R.BUD_PACE_ACTIVE true

end State

/-- STROKE_BOUNDARY (R59). -/
def execStrokeBoundary (reqs : List Req) (means : List (List (List Int))) (s : State) : Res :=
  .next (s.when s.rgcOn (·.strokeBoundary reqs means))
/-- SEAM_COMMAND_ARRIVAL (R38). -/
def execSeamCommandArrival (x : Sat) (lat : Nat) (c : SeamCmd) (s : State) : Res :=
  .next (s.when s.live (·.seamCommand x lat c))
/-- THERMAL_DEMAND_ARRIVAL (R245): a demand on its way arrives 40 ns after it was sent. -/
def execThermalDemandArrival (x : Sat) (s : State) : Res := .next (s.when s.live (·.seamCommand x 40000 ⟨none, .demand⟩))
/-- PACE_SCHEDULE_START (R112). -/
def execPaceScheduleStart (s : State) : Res := .next (s.when (s.live && !s.frozen) (·.paceStart))

end Sys2Proof.Machine
end

