-- ==== Sys2Proof/Machine/Window.lean ====
section
/-!
DEFINITION. Machine/Window.lean: the window boundary (R40, R42): what the satellites, the RGC, the governor, the host
interface and the trace port do on it.
-/
namespace Sys2Proof.Machine
namespace State

/-! The RGC latches (R42, R187, R229). -/

/-- The window values of a loop are latched and their sums begin afresh. -/
def telLoop (s : State) (l : Loop) : State :=
  let L := s.loop[l]
  let s := (s.tel (R.RGC_L_TEL_I_AVG l) (sat 14 (s.avgI l))).tel (R.RGC_L_TEL_I_PK64 l) (sat 14 L.pk64)
  let s := if L.vCnt = 0 then s
    else ((s.tel (R.RGC_L_TEL_V_MEAN l) (sat 13 (L.vSum / L.vCnt))).tel (R.RGC_L_TEL_VX_VMIN l) L.vMin).tel
      (R.RGC_L_TEL_VX_VMAX l) (sat 13 L.vMax)
  s.modLoop l fun L => { L with pk64 := 0, vSum := 0, vCnt := 0, vMin := 0x1FFF, vMax := 0 }

/-! The cost banks (R54). -/

/-- A die's shadow bank is copied into its active bank. -/
def copyBank (s : State) (d : Die) : State :=
  s.each (List.range 128) fun k s =>
    (((s.wr (R.ADM_ACTIVE_COST_E0 d k) (s.rd (R.ADM_SHADOW_COST_E0 d k))).wr
      (R.ADM_ACTIVE_COST_E1 d k) (s.rd (R.ADM_SHADOW_COST_E1 d k))).wr
      (R.ADM_ACTIVE_COST_E2 d k) (s.rd (R.ADM_SHADOW_COST_E2 d k))).wr
      (R.ADM_ACTIVE_COST_E3 d k) (s.rd (R.ADM_SHADOW_COST_E3 d k))

def swapBanks (s : State) : State :=
  let m := s.rd R.ADM_COST_SWAP_DIE
  ((s.each dies fun d s => if bit m d then s.copyBank d else s).wr R.ADM_COST_SWAP_DIE 0).boundarySwaps

/-! Enable and disable (R351–R353). -/

/-- The enable check ends one boundary after it took its values. -/
def checkStep (s : State) : State :=
  if !s.on R.GLB_STATUS_CHECKING then s
  else match s.gov.check with
    | none => s.modGov fun g => { g with check := some s.enableCheck }
    | some (some (code, arg)) =>
      let s := (s.flag R.GLB_GOV_CTL_ENABLE false).flag R.GLB_STATUS_CHECKING false
      let s := (s.wr R.GLB_STATUS_REFUSE_CODE code).wr R.GLB_STATUS_REFUSE_ARG arg
      (s.modGov fun g => { g with check := none }).raise Ev.HIF_ENABLE_REFUSED 0xFFFF (code + arg * 2 ^ 16)
    | some none =>
      let s := (s.flag R.GLB_STATUS_CHECKING false).flag R.GLB_STATUS_ENABLED true
      (s.modGov fun g => { g with check := none }).raise Ev.HIF_ENABLED

/-- A running job ends (R115). DEDUCED, log 22. -/
def endJob (s : State) : State :=
  ((s.wr R.BUD_JOB_T_STOP_TIME s.lkTime).flag R.BUD_JOB_CTL_RUNNING false).modGov fun g => { g with jobKind := 2 }

/-- An enabled block is disabled at the boundary after the write. -/
def disableStep (s : State) : State :=
  if !s.gov.offAsked then s
  else
    let s := s.modGov fun g => { g with offAsked := false }
    let s := s.each dies fun d s =>
      ((s.announceFall d 0 6).modGovDie d fun g => { g with pool := 0, ratio := 6 }).sendSeam d.sat (some s.nextStroke) (.reduce 0 (some 6) none)
    let s := if s.on R.BUD_JOB_CTL_RUNNING then s.flag R.BUD_JOB_CTL_STOP true else s
    ((s.flag R.GLB_STATUS_ENABLED false).flag R.GLB_GOV_CTL_ENABLE false).raise Ev.HIF_DISABLED

/-! Limits, energy and the burst (R85, R87, R90, R91, R116). -/

/-- The window just ended is compared with its limit (R87); the limit decided comes into effect, on L8 to L15 LIMIT
(R85). -/
def railWindow (s : State) (l : Loop) : State :=
  let lim := s.rd (R.BUD_RAIL_STATUS_LIM_EFF l)
  let isOver := decide (lim < s.meas l) || decide (5 * lim < 4 * s.rd (R.RGC_L_TEL_I_PK64 l))
  let s := if isOver then (s.raiseOnce Ev.BUD_RAIL_OVER l).count (R.BUD_RAIL_CNT_OVER_COUNT l) else s
  let top := s.rd (R.BUD_RAIL_LIM_LIMIT l)
  let next := if l.val < 8 then min top (s.rail[l].limNext.getD lim) else top
  (s.modRail l fun q => { q with lim := lim, limNext := none }).wr (R.BUD_RAIL_STATUS_LIM_EFF l) next

/-- A rail's output energy of the window, with the fraction of a µJ carried on. -/
def railEnergy (s : State) (l : Loop) : State :=
  let e := s.rail[l].eRem + 16 * s.volt l * s.meas l
  (s.modRail l fun q => { q with eRem := e % 125000 }).wr (R.BUD_RAIL_E_OUT_UJ l) (s.rd (R.BUD_RAIL_E_OUT_UJ l) + e / 125000)

/-- The job's energies of the window, with their fractions. -/
def jobEnergy (s : State) : State :=
  if !s.on R.BUD_JOB_CTL_RUNNING then s
  else
    let n := s.effLcm
    let e := s.gov.jobOutRem + (loops.map fun (l : Loop) => 16 * s.volt l * s.meas l).foldl (· + ·) 0
    let i := (loops.map fun (l : Loop) => 16 * s.volt l * s.meas l * (n / s.eff l)).foldl (· + ·) 0
    let (a, b) := s.gov.jobInRem
    let den := max 1 b * (125 * n)
    let num := a * (125 * n) + i * max 1 b
    let r := num % den
    let c := max 1 (Nat.gcd r den)
    let s := s.modGov fun g => { g with jobOutRem := e % 125000, jobInRem := (r / c, den / c) }
    (s.wr R.BUD_JOB_E_OUT_UJ (s.rd R.BUD_JOB_E_OUT_UJ + e / 125000)).wr R.BUD_JOB_E_IN_UJ (s.rd R.BUD_JOB_E_IN_UJ + num / den)

/-- A window of a burst spends a credit; the burst decided begins, or one ends. -/
def burstStep (s : State) : State :=
  let was := s.gov.burst
  let left := min (s.rd R.BUD_BURST_MAX) (s.rd R.BUD_STATUS_BURST_LEFT - b2n was)
  let now := s.gov.burstNext && (!was || decide (1 < left))
  let s := ((s.wr R.BUD_STATUS_BURST_LEFT left).flag R.BUD_STATUS_BURST_ACTIVE now).modGov fun g => { g with
    burst := now, burstWas := was, refill := if now && !was then 0 else g.refill }
  (s.raiseIf (now && !was) Ev.BUD_BURST_START).raiseIf (was && !now) Ev.BUD_BURST_END

/-! The satellites' reports and the learned table (R92, R97, R101, R108, R118, R381). -/

/-- A satellite's report of the window just ended. -/
def winRpt (s : State) (x : Sat) (acts : List (List Nat)) : WinRpt :=
  let t := s.thmDie[x].tMax.getD (-32768)
  match x.die? with
  | some d => ⟨s.adm[d].win, acts.getD x.val [], t, if s.clkDie[d].toTell then some s.clkDie[d].timeouts else none⟩
  | none => ⟨{}, acts.getD x.val [], t, none⟩

/-- Counts latched and sent, to reach the governor 40 ns later; a report is not sent over a Seam that is down (R42, R92).
DEDUCED, log 24. -/
def windowReports (s : State) (acts : List (List Nat)) : State :=
  let s := { s with rptIo := none }
  s.each sats fun x s =>
    let r := s.winRpt x acts
    let up := s.seamUp x
    let s := if up then s.report x (.window r) else s
    match x.die? with
    | some d =>
      let s := s.modGovDie d fun g => { g with rpt := none, closing := if up then some r else none }
      let s := s.modClk d fun c => { c with toTell := c.toTell && !up }
      s.modAdm d fun a => { a with win := {} }
    | none => s

/-- Invalidations, learning, then the host's writes of the table. -/
def windowTable (s : State) : State :=
  let inval := loops.filterMap fun (l : Loop) => if s.rail[l].enter then s.runEntry l else none
  let s := s.each loops fun l s => s.modeBoundary l
  let s := s.each dies fun d s => s.runBoundary d inval
  let s := if s.on R.BUD_LT_ACC_INVAL_ALL then
    s.each (s.gov.table.map (·.1)) fun k s => s.setEntry k (LtEntry.invalid (s.entry k)) else s
  let s := if s.on R.BUD_LT_ACC_WRITE then
    s.setEntry (s.rd R.BUD_LT_ACC_INDEX) ((List.range 12).map fun k => s.rd (R.BUD_LT_DATA_WORD k)) else s
  (((s.flag R.BUD_LT_ACC_INVAL_ALL false).flag R.BUD_LT_ACC_WRITE false).flag R.BUD_LT_ACC_BUSY false).boundaryTable

/-! Settings of the dies (R32, R38, R68, R77, R155, R194, R218, R228). -/

/-- CAP of a loop rises, and with it the pool its die is allowed for the phases that remain (R217, R218). -/
def capRise (s : State) (l : Loop) : State :=
  let s := s.wr (R.RGC_L_PHLOSS_CAP l) (s.capOf l)
  match l.die? with
  | some d =>
    if (Tab.find s.govDie[d].poolReq srcPhase).isNone then s
    else if s.nAv l = s.nph l then s.withdraw d srcPhase
    else s.modGovDie d fun g => { g with poolReq := Tab.put g.poolReq srcPhase (s.capPool l) }
  | none => s

/-- CAP rises, and the requests that end with a window are withdrawn. -/
def windowReleases (s : State) : State :=
  let s := s.each loops fun l s => s.capRise l
  let s := s.each dies fun d s =>
    if s.vcl[d.sat].sat.up && s.vcl[d.sat].rgc.up then
      (s.modVcl d.sat fun v => { v with capHeld := false }).withdraw d srcVcl
    else s
  s.each (loops.filter fun (l : Loop) => decide (8 ≤ l.val) && !s.alerted l) fun l s =>
    s.each dies fun d s => s.withdraw d (srcAlert l)

/-- The command for the window is applied, and the pool may grow (R32, R38, R42, R64, R109, R145). -/
def windowSettings (s : State) (d : Die) : State :=
  let l := s.dueCmds d
  let s := s.dropDue d true
  let s := s.each l fun b s => match b with
    | .window w =>
      let s := (s.applyCmd d w.pool (some w.ratio)).wr (R.ADM_DIE_RAMP_SHARE d) w.share
      let s := s.modAdm d fun a => { a with noFast := w.noFast }
      ((if w.held then s.flag (R.CLK_DIE_DIV_HELD d) true else s).retarget d).showArm d
    | _ => s
  s.applyPool d true

/-- Fast catch may resume, and the quiet windows of a storm are counted (R68, R77). -/
def windowCuff (s : State) (d : Die) : State :=
  let cuffed := s.on (R.ADM_DIE_STATUS_CUFF d)
  s.modAdm d fun a => { a with
    fastOff := a.fastOff && cuffed
    cuffWin := cuffed
    storm := match a.storm with
      | some (p, q) =>
        if a.cuffWin then some (p, 0)
        else if s.rd R.ADM_CUFF_LVL_STORM_WIN ≤ q + 1 then none else some (p, q + 1)
      | none => none }

/-- CLK_DROOP for a window in which a detector asserted: its detectors and the slowest ratio its steps reached (R155). -/
def windowDroop (s : State) (d : Die) : State :=
  let c := s.clkDie[d]
  (s.raiseIf (c.winDet != 0) Ev.CLK_DROOP d (c.winDet + c.winSlow * 2 ^ 32)).modClk d fun c => { c with winDet := 0, winSlow := 0 }

/-! Jobs (R115, R273). -/

/-- A job starts: its figures and the sentinel's epochs begin afresh. DEDUCED, log 22. -/
def startJob (s : State) : State :=
  let s := (s.wr R.BUD_JOB_E_IN_UJ 0).wr R.BUD_JOB_E_OUT_UJ 0
  let s := ((s.wr R.BUD_BWAIT_LAST_NS 0).wr R.BUD_BWAIT_MAX_NS 0).wr R.BUD_BWAIT_SUM_NS 0
  let s := (s.wr R.BUD_BWAIT_COUNT_COUNT 0).modGov fun g => { g with jobOutRem := 0, jobInRem := (0, 1), jobId := s.rd R.BUD_JOB_ID_ID, jobKind := 1 }
  let s := s.each dies fun d s => s.modSenDie d fun q => { q with fold := [], closed := [], pass := [], rejoin := 0, bad := [] }
  let s := (s.modSen fun q => { q with verdicts := [], cmps := [], fromStep := 0 }).setVerified 0xFFFFFFFF
  (s.wr R.BUD_JOB_T_START_TIME s.lkTime).flag R.BUD_JOB_CTL_RUNNING true

/-- The requests of START and STOP are acted on, and the JOB commands that wait for them end. -/
def windowJob (s : State) : State :=
  let start := s.on R.BUD_JOB_CTL_START && !s.on R.BUD_JOB_CTL_RUNNING
  let stop := s.on R.BUD_JOB_CTL_STOP && s.on R.BUD_JOB_CTL_RUNNING
  let s := (s.when start startJob).when stop endJob
  ((s.flag R.BUD_JOB_CTL_START false).flag R.BUD_JOB_CTL_STOP false).boundaryJobs start stop

/-! The trace port and the sentinel's counts (R284, R305, R440). -/

def traceDie (s : State) (d : Die) : State :=
  match s.govDie[d].closing with
  | none => s
  | some r => s.trace 4 d 2 [r.win.gWin + r.win.reqPeak * 2 ^ 32,
      s.rd (R.ADM_DIE_STATUS_POOL d) + s.ratio d * 2 ^ 16 + r.win.cuffs * 2 ^ 32,
      unsigned 16 r.tMax + s.rd (R.THM_DIE_STATUS_FRAC d) * 2 ^ 32]
def traceRail (s : State) (l : Loop) : State :=
  s.trace 5 l 2 [s.rd (R.BUD_RAIL_EST_EST l) + s.meas l * 2 ^ 32, s.rail[l].lim + s.rd (R.RGC_L_TEL_V_MEAN l) * 2 ^ 32]

def windowTrace (s : State) : State :=
  let s := s.traceAlways 1 0 [s.cyc, s.lkTime]
  ((s.each dies fun d s => s.traceDie d).each loops fun l s => s.traceRail l).traceWindow

/-- CLFAULT follows the counting window. -/
def refreshFails (s : State) : State :=
  s.each dies fun d s => s.each clusters fun c s =>
    if (Tab.find s.sen.fails (clusterKey d c)).isSome then s.setFails d c (s.failsOf d c) else s

/-! The boundary (R42). -/

/-- What the governor, the satellites and the host interface do on a window boundary, in this order; a row's rule names
what comes before what. The enable check comes before the copying that clears COST_SWAP, so that it finds a bit still
pending (R356). A storm's request goes after the boundary's pool has been applied: the pool rises one window after the
boundary that ends the last quiet window (R77). DESIGN CHOICE, log 17. -/
def windowWork (s : State) (acts : List (List Nat)) : State :=
  let s := ((s.count (R.REC_AO_COUNT 0)).checkStep).swapBanks.disableStep
  let s := (s.each loops fun l s => s.railWindow l).each loops fun l s => s.railEnergy l
  let s := (s.jobEnergy.burstStep.windowReports acts).windowTable.windowReleases
  let s := s.each dies fun d s => ((s.windowSettings d).windowCuff d).windowDroop d
  let s := s.each dies fun d s => s.applyIntOpmax d
  s.windowJob.boundaryWrites.refreshFails.windowTrace

/-- A window boundary: the grid moves on; the RGC latches whenever it runs, the rest while the root islands do. In a freeze
no window ends, and only the trace port goes on (R118, R443).
DEDUCED, log 20. -/
def windowBoundary (s : State) (acts : List (List Nat)) : State :=
  if s.frozen then s.when s.live (·.traceFrozen)
  else
    let k := max s.windowIdx (cdiv s.cyc 2048)
    let s : State := { s with now := 2048 * k + s.frozenTime, windowIdx := k + 1, once := [] }
    let s := (s.each loops fun l s => s.telLoop l).each loops fun l s => s.relArm l
    if s.live then s.windowWork acts else s

end State

/-- WINDOW_BOUNDARY (R42). -/
def execWindowBoundary (acts : List (List Nat)) (s : State) : Res := .next (s.when s.rgcOn (·.windowBoundary acts))

end Sys2Proof.Machine
end

