-- ==== Sys2Proof/Machine/Dispatch.lean ====
section
/-!
DEFINITION. Machine/Dispatch.lean: one arm per command, each a direct call of its meaning.
-/
namespace Sys2Proof.Machine

def exec (i : Instr) (s : State) : Host.Outcome State Fault Refusal :=
  match i with
  | .windowBoundary acts => Sys2Proof.Machine.execWindowBoundary acts s
  | .windowDecision => Sys2Proof.Machine.execWindowDecision s
  | .strokeBoundary reqs means => Sys2Proof.Machine.execStrokeBoundary reqs means s
  | .seamCommandArrival x lat c => Sys2Proof.Machine.execSeamCommandArrival x lat c s
  | .packageFreezeRequest => Sys2Proof.Machine.execPackageFreezeRequest s
  | .packageFreezeEdge => Sys2Proof.Machine.execPackageFreezeEdge s
  | .lateDieFreeze x => Sys2Proof.Machine.execLateDieFreeze x s
  | .packageThawEdge => Sys2Proof.Machine.execPackageThawEdge s
  | .heavyAhead die word => Sys2Proof.Machine.execHeavyAhead die word s
  | .opStart die word => Sys2Proof.Machine.execOpStart die word s
  | .opEnd die word => Sys2Proof.Machine.execOpEnd die word s
  | .armTimeout die => Sys2Proof.Machine.execArmTimeout die s
  | .costSwap mask => Sys2Proof.Machine.execCostSwap mask s
  | .ltAccRead => Sys2Proof.Machine.execLtAccRead s
  | .ltAccWrite => Sys2Proof.Machine.execLtAccWrite s
  | .ltAccInvalAll => Sys2Proof.Machine.execLtAccInvalAll s
  | .jobStart alsoStop => Sys2Proof.Machine.execJobStart alsoStop s
  | .jobStop alsoStart => Sys2Proof.Machine.execJobStop alsoStart s
  | .paceScheduleStart => Sys2Proof.Machine.execPaceScheduleStart s
  | .xtalAmplitudeGood => Sys2Proof.Machine.execXtalAmplitudeGood s
  | .sourceMonitorGate count => Sys2Proof.Machine.execSourceMonitorGate count s
  | .pllLock => Sys2Proof.Machine.execPllLock s
  | .xtalProofTimeout => Sys2Proof.Machine.execXtalProofTimeout s
  | .crystalEdgeLoss => Sys2Proof.Machine.execCrystalEdgeLoss s
  | .pllLockLoss => Sys2Proof.Machine.execPllLockLoss s
  | .pllRelockTimeout => Sys2Proof.Machine.execPllRelockTimeout s
  | .clkReturn => Sys2Proof.Machine.execClkReturn s
  | .dividerStep die => Sys2Proof.Machine.execDividerStep die s
  | .vclAckTimeout die => Sys2Proof.Machine.execVclAckTimeout die s
  | .heldRelease die => Sys2Proof.Machine.execHeldRelease die s
  | .clusterGateRequest die cl code => Sys2Proof.Machine.execClusterGateRequest die cl code s
  | .clusterClockStop die cl => Sys2Proof.Machine.execClusterClockStop die cl s
  | .clusterRestart die cl => Sys2Proof.Machine.execClusterRestart die cl s
  | .droopAssert die det uv => Sys2Proof.Machine.execDroopAssert die det uv s
  | .droopThr2Cross die det uv => Sys2Proof.Machine.execDroopThr2Cross die det uv s
  | .droopCuffCount die det => Sys2Proof.Machine.execDroopCuffCount die det s
  | .droopClear die det uv => Sys2Proof.Machine.execDroopClear die det uv s
  | .droopRecovery die => Sys2Proof.Machine.execDroopRecovery die s
  | .droopStuckLimit die det => Sys2Proof.Machine.execDroopStuckLimit die det s
  | .droopReadmit die mask => Sys2Proof.Machine.execDroopReadmit die mask s
  | .fmcStart => Sys2Proof.Machine.execFmcStart s
  | .fmcGateEnd count => Sys2Proof.Machine.execFmcGateEnd count s
  | .switchingCycle l obs => Sys2Proof.Machine.execSwitchingCycle l obs s
  | .firingRotation l => Sys2Proof.Machine.execFiringRotation l s
  | .syncLock run => Sys2Proof.Machine.execSyncLock run s
  | .syncInLoss => Sys2Proof.Machine.execSyncInLoss s
  | .syncReturn run => Sys2Proof.Machine.execSyncReturn run s
  | .undershootCrossing l v low => Sys2Proof.Machine.execUndershootCrossing l v low s
  | .undershootEnd l v cs => Sys2Proof.Machine.execUndershootEnd l v cs s
  | .overshootCrossing l v low => Sys2Proof.Machine.execOvershootCrossing l v low s
  | .brakeEnd l v => Sys2Proof.Machine.execBrakeEnd l v s
  | .loadStepAnnounce l di rate win => Sys2Proof.Machine.execLoadStepAnnounce l di rate win s
  | .prearmReached l => Sys2Proof.Machine.execPrearmReached l s
  | .prearmExpiry l => Sys2Proof.Machine.execPrearmExpiry l s
  | .prearmRelease l => Sys2Proof.Machine.execPrearmRelease l s
  | .vset sat f => Sys2Proof.Machine.execVset sat f s
  | .ping sat f => Sys2Proof.Machine.execPing sat f s
  | .vack sat f => Sys2Proof.Machine.execVack sat f s
  | .cuff sat f => Sys2Proof.Machine.execCuff sat f s
  | .prearm sat f => Sys2Proof.Machine.execPrearm sat f s
  | .vnak sat f => Sys2Proof.Machine.execVnak sat f s
  | .voltageReached l => Sys2Proof.Machine.execVoltageReached l s
  | .vsetRepeat l => Sys2Proof.Machine.execVsetRepeat l s
  | .vclIdleSend sat side => Sys2Proof.Machine.execVclIdleSend sat side s
  | .vclDown sat side => Sys2Proof.Machine.execVclDown sat side s
  | .vclRetrain sat => Sys2Proof.Machine.execVclRetrain sat s
  | .vclRetrainEnd sat ok => Sys2Proof.Machine.execVclRetrainEnd sat ok s
  | .vclDeadClear mask => Sys2Proof.Machine.execVclDeadClear mask s
  | .loopApply l => Sys2Proof.Machine.execLoopApply l s
  | .rgcCuffCause l cause active => Sys2Proof.Machine.execRgcCuffCause l cause active s
  | .seqOn alsoOff => Sys2Proof.Machine.execSeqOn alsoOff s
  | .softStartBegin l v => Sys2Proof.Machine.execSoftStartBegin l v s
  | .powerGood l => Sys2Proof.Machine.execPowerGood l s
  | .seqOff alsoOn => Sys2Proof.Machine.execSeqOff alsoOn s
  | .rampDownBegin l => Sys2Proof.Machine.execRampDownBegin l s
  | .loopOff l => Sys2Proof.Machine.execLoopOff l s
  | .ssShortDetect l => Sys2Proof.Machine.execSsShortDetect l s
  | .ssRetry l v => Sys2Proof.Machine.execSsRetry l v s
  | .shortLatchClear l => Sys2Proof.Machine.execShortLatchClear l s
  | .faultPark l => Sys2Proof.Machine.execFaultPark l s
  | .phaseShortTrip l p => Sys2Proof.Machine.execPhaseShortTrip l p s
  | .regulationShort l => Sys2Proof.Machine.execRegulationShort l s
  | .ovlFeather l => Sys2Proof.Machine.execOvlFeather l s
  | .ovlTimerReset l => Sys2Proof.Machine.execOvlTimerReset l s
  | .ovlShutdown l => Sys2Proof.Machine.execOvlShutdown l s
  | .ovlShutClear l => Sys2Proof.Machine.execOvlShutClear l s
  | .phaseRemoval l p => Sys2Proof.Machine.execPhaseRemoval l p s
  | .capabilityChange l => Sys2Proof.Machine.execCapabilityChange l s
  | .phaseReadmit l p => Sys2Proof.Machine.execPhaseReadmit l p s
  | .phaseTrialEnd l p => Sys2Proof.Machine.execPhaseTrialEnd l p s
  | .remoteSenseLoss l => Sys2Proof.Machine.execRemoteSenseLoss l s
  | .senseRetry l => Sys2Proof.Machine.execSenseRetry l s
  | .senseRetryEnd l => Sys2Proof.Machine.execSenseRetryEnd l s
  | .bothSenseLoss l => Sys2Proof.Machine.execBothSenseLoss l s
  | .vrAlertAssert l => Sys2Proof.Machine.execVrAlertAssert l s
  | .vrAlertDeassert l => Sys2Proof.Machine.execVrAlertDeassert l s
  | .holdClear l => Sys2Proof.Machine.execHoldClear l s
  | .calStart l => Sys2Proof.Machine.execCalStart l s
  | .calPhaseReady l => Sys2Proof.Machine.execCalPhaseReady l s
  | .calDerateConfirmed l => Sys2Proof.Machine.execCalDerateConfirmed l s
  | .calOffsetMeasure l cs => Sys2Proof.Machine.execCalOffsetMeasure l cs s
  | .calGainTrim l => Sys2Proof.Machine.execCalGainTrim l s
  | .calPhaseDefer l => Sys2Proof.Machine.execCalPhaseDefer l s
  | .thermalDemandTimer => Sys2Proof.Machine.execThermalDemandTimer s
  | .demandNow => Sys2Proof.Machine.execDemandNow s
  | .demandIssue => Sys2Proof.Machine.execDemandIssue s
  | .thermalDemandArrival sat => Sys2Proof.Machine.execThermalDemandArrival sat s
  | .conversionComplete sat read => Sys2Proof.Machine.execConversionComplete sat read s
  | .thmCalStart => Sys2Proof.Machine.execThmCalStart s
  | .thmCalPeriod => Sys2Proof.Machine.execThmCalPeriod s
  | .thmCalStep => Sys2Proof.Machine.execThmCalStep s
  | .thmCalStepEnd read => Sys2Proof.Machine.execThmCalStepEnd read s
  | .diodeReadmit sat mask => Sys2Proof.Machine.execDiodeReadmit sat mask s
  | .tripComparatorAssert site t => Sys2Proof.Machine.execTripComparatorAssert site t s
  | .tripLatch => Sys2Proof.Machine.execTripLatch s
  | .tripRecord => Sys2Proof.Machine.execTripRecord s
  | .tripIoRailsOff => Sys2Proof.Machine.execTripIoRailsOff s
  | .tripMaskWrite k v => Sys2Proof.Machine.execTripMaskWrite k v s
  | .tripTestStart => Sys2Proof.Machine.execTripTestStart s
  | .tripTestEnd level => Sys2Proof.Machine.execTripTestEnd level s
  | .rowcolFail words => Sys2Proof.Machine.execRowcolFail words s
  | .cvMismatch word => Sys2Proof.Machine.execCvMismatch word s
  | .poison word => Sys2Proof.Machine.execPoison word s
  | .weightCv word => Sys2Proof.Machine.execWeightCv word s
  | .stepEnd word => Sys2Proof.Machine.execStepEnd word s
  | .testSig word => Sys2Proof.Machine.execTestSig word s
  | .senQueueOvf => Sys2Proof.Machine.execSenQueueOvf s
  | .senRecordSend => Sys2Proof.Machine.execSenRecordSend s
  | .mapDone die cluster slot => Sys2Proof.Machine.execMapDone die cluster slot s
  | .mapReady die cluster slot => Sys2Proof.Machine.execMapReady die cluster slot s
  | .mapTimeout die cluster slot => Sys2Proof.Machine.execMapTimeout die cluster slot s
  | .marginClrVstep die => Sys2Proof.Machine.execMarginClrVstep die s
  | .marginClrCluster die mask => Sys2Proof.Machine.execMarginClrCluster die mask s
  | .selfTestPeriod => Sys2Proof.Machine.execSelfTestPeriod s
  | .testReqStart die site => Sys2Proof.Machine.execTestReqStart die site s
  | .libraryComponent bytes sigOk => Sys2Proof.Machine.execLibraryComponent bytes sigOk s
  | .librarySwitch => Sys2Proof.Machine.execLibrarySwitch s
  | .digest lane frame => Sys2Proof.Machine.execDigest lane frame s
  | .digestWaitExpiry group epoch => Sys2Proof.Machine.execDigestWaitExpiry group epoch s
  | .verdict lane frame => Sys2Proof.Machine.execVerdict lane frame s
  | .expelledClear die => Sys2Proof.Machine.execExpelledClear die s
  | .retract lane frame => Sys2Proof.Machine.execRetract lane frame s
  | .retractAck => Sys2Proof.Machine.execRetractAck s
  | .abortClear => Sys2Proof.Machine.execAbortClear s
  | .slotRetire die cluster slot => Sys2Proof.Machine.execSlotRetire die cluster slot s
  | .hello lane frame => Sys2Proof.Machine.execHello lane frame s
  | .ack lane frame => Sys2Proof.Machine.execAck lane frame s
  | .tsyncReq lane frame half => Sys2Proof.Machine.execTsyncReq lane frame half s
  | .tsyncRsp lane frame half => Sys2Proof.Machine.execTsyncRsp lane frame half s
  | .tsyncPeriod => Sys2Proof.Machine.execTsyncPeriod s
  | .topo lane frame => Sys2Proof.Machine.execTopo lane frame s
  | .formed lane frame => Sys2Proof.Machine.execFormed lane frame s
  | .formationTimeout => Sys2Proof.Machine.execFormationTimeout s
  | .detach lane frame => Sys2Proof.Machine.execDetach lane frame s
  | .takeover lane frame => Sys2Proof.Machine.execTakeover lane frame s
  | .probe lane frame => Sys2Proof.Machine.execProbe lane frame s
  | .coxAlive lane frame => Sys2Proof.Machine.execCoxAlive lane frame s
  | .probeTimeout => Sys2Proof.Machine.execProbeTimeout s
  | .mirror lane arrival => Sys2Proof.Machine.execMirror lane arrival s
  | .coxBeat lane frame => Sys2Proof.Machine.execCoxBeat lane frame s
  | .coxBeatTimer => Sys2Proof.Machine.execCoxBeatTimer s
  | .objUp lane arrival => Sys2Proof.Machine.execObjUp lane arrival s
  | .objDown lane arrival => Sys2Proof.Machine.execObjDown lane arrival s
  | .objBulk lane frame => Sys2Proof.Machine.execObjBulk lane frame s
  | .objCfgWrite type member notify errClear => Sys2Proof.Machine.execObjCfgWrite type member notify errClear s
  | .barrierArrive obj => Sys2Proof.Machine.execBarrierArrive obj s
  | .objValWrite v => Sys2Proof.Machine.execObjValWrite v s
  | .objUpdateInterval obj => Sys2Proof.Machine.execObjUpdateInterval obj s
  | .bcastUp lane frame => Sys2Proof.Machine.execBcastUp lane frame s
  | .hostBroadcast lane frame => Sys2Proof.Machine.execHostBroadcast lane frame s
  | .hostBroadcastSend => Sys2Proof.Machine.execHostBroadcastSend s
  | .broadcastResend req => Sys2Proof.Machine.execBroadcastResend req s
  | .pkgLost lane frame => Sys2Proof.Machine.execPkgLost lane frame s
  | .laneDown lane => Sys2Proof.Machine.execLaneDown lane s
  | .laneRetrain lane => Sys2Proof.Machine.execLaneRetrain lane s
  | .laneIdleSend lane => Sys2Proof.Machine.execLaneIdleSend lane s
  | .schedReq lane frame => Sys2Proof.Machine.execSchedReq lane frame s
  | .sched lane frame => Sys2Proof.Machine.execSched lane frame s
  | .cascadeFreezeRequest => Sys2Proof.Machine.execCascadeFreezeRequest s
  | .cascadeThawRequest => Sys2Proof.Machine.execCascadeThawRequest s
  | .cascadeResetRequest scope => Sys2Proof.Machine.execCascadeResetRequest scope s
  | .cascadeFreezeEdge => Sys2Proof.Machine.execCascadeFreezeEdge s
  | .cascadeThawEdge order => Sys2Proof.Machine.execCascadeThawEdge order s
  | .cascadeResetEdge => Sys2Proof.Machine.execCascadeResetEdge s
  | .frozenFrameArrival lane arrival => Sys2Proof.Machine.execFrozenFrameArrival lane arrival s
  | .paceUp lane frame => Sys2Proof.Machine.execPaceUp lane frame s
  | .pace lane frame => Sys2Proof.Machine.execPace lane frame s
  | .pacePeriod => Sys2Proof.Machine.execPacePeriod s
  | .paceEnd => Sys2Proof.Machine.execPaceEnd s
  | .govEnable => Sys2Proof.Machine.execGovEnable s
  | .govDisable => Sys2Proof.Machine.execGovDisable s
  | .queueEnable q db => Sys2Proof.Machine.execQueueEnable q db s
  | .queueDisable q => Sys2Proof.Machine.execQueueDisable q s
  | .queueDrained q => Sys2Proof.Machine.execQueueDrained q s
  | .doorbellWatch q db => Sys2Proof.Machine.execDoorbellWatch q db s
  | .doorbellPoll dbs => Sys2Proof.Machine.execDoorbellPoll dbs s
  | .descriptorFetch q d => Sys2Proof.Machine.execDescriptorFetch q d s
  | .nop q => Sys2Proof.Machine.execNop q s
  | .snapshot q offs ok => Sys2Proof.Machine.execSnapshot q offs ok s
  | .writeSet q pairs ok => Sys2Proof.Machine.execWriteSet q pairs ok s
  | .ltRead q ok => Sys2Proof.Machine.execLtRead q ok s
  | .ltWrite q entries ok => Sys2Proof.Machine.execLtWrite q entries ok s
  | .costLoad q words ok => Sys2Proof.Machine.execCostLoad q words ok s
  | .jobCmdStart q => Sys2Proof.Machine.execJobCmdStart q s
  | .jobCmdStop q => Sys2Proof.Machine.execJobCmdStop q s
  | .msg q words acc => Sys2Proof.Machine.execMsg q words acc s
  | .recRead q ok => Sys2Proof.Machine.execRecRead q ok s
  | .meterRead q ok => Sys2Proof.Machine.execMeterRead q ok s
  | .completionWrite q ok => Sys2Proof.Machine.execCompletionWrite q ok s
  | .coalesceTimeout q => Sys2Proof.Machine.execCoalesceTimeout q s
  | .vectorUnmask v => Sys2Proof.Machine.execVectorUnmask v s
  | .functionEvtClear k => Sys2Proof.Machine.execFunctionEvtClear k s
  | .badAccess off size write => Sys2Proof.Machine.execBadAccess off size write s
  | .registerWrite ws off wide => Sys2Proof.Machine.execRegisterWrite ws off wide s
  | .blockResetGo who => Sys2Proof.Machine.execBlockResetGo who s
  | .blockReset cause => Sys2Proof.Machine.execBlockReset cause s
  | .blockResetRelease => Sys2Proof.Machine.execBlockResetRelease s
  | .trpBoot boot => Sys2Proof.Machine.execTrpBoot boot s
  | .keyBlockRetry boot => Sys2Proof.Machine.execKeyBlockRetry boot s
  | .trpImageVerified prov sigOk => Sys2Proof.Machine.execTrpImageVerified prov sigOk s
  | .imageRelease p okA okB => Sys2Proof.Machine.execImageRelease p okA okB s
  | .startedWrite p c0 c1 c2 c3 => Sys2Proof.Machine.execStartedWrite p c0 c1 c2 c3 s
  | .plpReady weights leak => Sys2Proof.Machine.execPlpReady weights leak s
  | .mailboxGo k who long => Sys2Proof.Machine.execMailboxGo k who long s
  | .mailboxDone k who long => Sys2Proof.Machine.execMailboxDone k who long s
  | .mailboxAbort k who => Sys2Proof.Machine.execMailboxAbort k who s
  | .mailboxNote k who => Sys2Proof.Machine.execMailboxNote k who s
  | .mailboxTimeout k => Sys2Proof.Machine.execMailboxTimeout k s
  | .getVersion k => Sys2Proof.Machine.execGetVersion k s
  | .echo k => Sys2Proof.Machine.execEcho k s
  | .getState k => Sys2Proof.Machine.execGetState k s
  | .lcNonce via => Sys2Proof.Machine.execLcNonce via s
  | .lcToken via bytes sigOk => Sys2Proof.Machine.execLcToken via bytes sigOk s
  | .trustedRestartRequest p core => Sys2Proof.Machine.execTrustedRestartRequest p core s
  | .storeFailure p addr kind flash => Sys2Proof.Machine.execStoreFailure p addr kind flash s
  | .orderingPoint p pc op => Sys2Proof.Machine.execOrderingPoint p pc op s
  | .watchdogExpiry p core => Sys2Proof.Machine.execWatchdogExpiry p core s
  | .watchdogKick p => Sys2Proof.Machine.execWatchdogKick p s
  | .processorRestartGo p who core => Sys2Proof.Machine.execProcessorRestartGo p who core s
  | .storeDrainEnd p states => Sys2Proof.Machine.execStoreDrainEnd p states s
  | .restartRelease p boot => Sys2Proof.Machine.execRestartRelease p boot s
  | .eventStage => Sys2Proof.Machine.execEventStage s
  | .recordProgram cut => Sys2Proof.Machine.execRecordProgram cut s
  | .stageLostRecord => Sys2Proof.Machine.execStageLostRecord s
  | .opsecAlive => Sys2Proof.Machine.execOpsecAlive s
  | .recorderMount answers => Sys2Proof.Machine.execRecorderMount answers s
  | .recorderErase who => Sys2Proof.Machine.execRecorderErase who s
  | .recorderEraseEnd => Sys2Proof.Machine.execRecorderEraseEnd s
  | .fullAck => Sys2Proof.Machine.execFullAck s
  | .ringSelect unit chan => Sys2Proof.Machine.execRingSelect unit chan s
  | .ringCopyDone => Sys2Proof.Machine.execRingCopyDone s
  | .triggerFire => Sys2Proof.Machine.execTriggerFire s
  | .triggerPostExpiry => Sys2Proof.Machine.execTriggerPostExpiry s
  | .triggerThaw => Sys2Proof.Machine.execTriggerThaw s
  | .traceLaneUp k => Sys2Proof.Machine.execTraceLaneUp k s
  | .traceLaneDown k => Sys2Proof.Machine.execTraceLaneDown k s
  | .traceAlignment => Sys2Proof.Machine.execTraceAlignment s
  | .traceLostPacket => Sys2Proof.Machine.execTraceLostPacket s
  | .queryDeviceIdentifiers => Sys2Proof.Machine.execQueryDeviceIdentifiers s
  | .getFirmwareParameters => Sys2Proof.Machine.execGetFirmwareParameters s
  | .requestUpdate => Sys2Proof.Machine.execRequestUpdate s
  | .passComponentTable id => Sys2Proof.Machine.execPassComponentTable id s
  | .updateComponent id size => Sys2Proof.Machine.execUpdateComponent id size s
  | .requestFirmwareData bytes => Sys2Proof.Machine.execRequestFirmwareData bytes s
  | .transferComplete => Sys2Proof.Machine.execTransferComplete s
  | .verifyComplete hashOk sigOk => Sys2Proof.Machine.execVerifyComplete hashOk sigOk s
  | .applyComplete => Sys2Proof.Machine.execApplyComplete s
  | .activateFirmware => Sys2Proof.Machine.execActivateFirmware s
  | .getStatus => Sys2Proof.Machine.execGetStatus s
  | .cancelUpdateComponent => Sys2Proof.Machine.execCancelUpdateComponent s
  | .cancelUpdate => Sys2Proof.Machine.execCancelUpdate s
  | .setRegatta t => Sys2Proof.Machine.execSetRegatta t s
  | .regattaStep core => Sys2Proof.Machine.execRegattaStep core s
  | .updateConfirm p => Sys2Proof.Machine.execUpdateConfirm p s
  | .trialTimeout p core => Sys2Proof.Machine.execTrialTimeout p core s
  | .mirrorCopy => Sys2Proof.Machine.execMirrorCopy s
  | .meterPeriodicReading sig => Sys2Proof.Machine.execMeterPeriodicReading sig s
  | .meterSave => Sys2Proof.Machine.execMeterSave s
  | .meterPowerFailSave => Sys2Proof.Machine.execMeterPowerFailSave s
  | .meterPowerUp saveOk badHash => Sys2Proof.Machine.execMeterPowerUp saveOk badHash s
  | .meterConditionChange c open_ => Sys2Proof.Machine.execMeterConditionChange c open_ s
  | .meterXtalFail => Sys2Proof.Machine.execMeterXtalFail s
  | .selftestFail t => Sys2Proof.Machine.execSelftestFail t s
  | .stampRequest who kind answers => Sys2Proof.Machine.execStampRequest who kind answers s
  | .stampSigned sig => Sys2Proof.Machine.execStampSigned sig s
  | .sealCommand kv rsh tc sig => Sys2Proof.Machine.execSealCommand kv rsh tc sig s
  | .trainFlit sat ver feat type gBad sBad => Sys2Proof.Machine.execTrainFlit sat ver feat type gBad sBad s
  | .seamTrainingEnd sat raw => Sys2Proof.Machine.execSeamTrainingEnd sat raw s
  | .seamDown sat silent => Sys2Proof.Machine.execSeamDown sat silent s
  | .seamRetrainTimer sat => Sys2Proof.Machine.execSeamRetrainTimer sat s
  | .seamIdleSend sat governor => Sys2Proof.Machine.execSeamIdleSend sat governor s
  | .seamNak sat nak => Sys2Proof.Machine.execSeamNak sat nak s
  | .seamRetrainWrite sat => Sys2Proof.Machine.execSeamRetrainWrite sat s
  | .minVerWrite ver => Sys2Proof.Machine.execMinVerWrite ver s
  | .fenceRequest mask => Sys2Proof.Machine.execFenceRequest mask s
  | .fenceLift mask => Sys2Proof.Machine.execFenceLift mask s
  | .standbyResetRelease => Sys2Proof.Machine.execStandbyResetRelease s
  | .startupOnWrite => Sys2Proof.Machine.execStartupOnWrite s
  | .p12vOkLoss => Sys2Proof.Machine.execP12vOkLoss s
  | .scanExit ir => Sys2Proof.Machine.execScanExit ir s
  | .alignmentEdge samples => Sys2Proof.Machine.execAlignmentEdge samples s
  | .tmonSample mv => Sys2Proof.Machine.execTmonSample mv s
  | .tripComparatorClear site t => Sys2Proof.Machine.execTripComparatorClear site t s
  | .standbyPowerLoss => Sys2Proof.Machine.execStandbyPowerLoss s
  | .p12vOkReturn => Sys2Proof.Machine.execP12vOkReturn s
  | .meterProduct vdiv vsh deg frac => Sys2Proof.Machine.execMeterProduct vdiv vsh deg frac s
  | .flitCrcFail sat flit => Sys2Proof.Machine.execFlitCrcFail sat flit s
  | .frameDiscard lane frame => Sys2Proof.Machine.execFrameDiscard lane frame s
  | .entdaa svp trp => Sys2Proof.Machine.execEntdaa svp trp s
  | .setEndpointId trp eid => Sys2Proof.Machine.execSetEndpointId trp eid s
  | .snapshotLatchRead p off => Sys2Proof.Machine.execSnapshotLatchRead p off s
  | .msgTimeout q => Sys2Proof.Machine.execMsgTimeout q s

end Sys2Proof.Machine
end

