-- ==== Sys2Proof/Safety.lean ====
section
/-!
DEFINITION. Safety.lean: what statements about the block are made of: what it is for a command to complete, what a command
leaves as it was, and the canonical form of the state's tables. The block raises no fault, so a run is safe when no command
in it is refused; every command of the table has an effect.
-/
namespace Sys2Proof.Machine

/-- A command completes: the block answers a next state, of which something holds. -/
def Completes (c : Instr) (s : State) (P : State → Prop) : Prop := ∃ t, exec c s = .next t ∧ P t

/-- Every field of the register window reads as before, but the listed ones. -/
def RegsBut (l : List Fld) (s t : State) : Prop := ∀ f : Fld, f.key ∉ l.map Fld.key → t.rd f = s.rd f

/-- The fields that tracing a frame of the cascade may change: the FIFO's words and the count of lost packets (R339, R443). -/
abbrev tracing : List Fld := [R.TRC_STATUS_FIFO, R.TRC_CNT_LOST_COUNT]

/-- The fields that show whether fast catch is armed; a write in the admission area brings them up to date (R68, R80). -/
abbrev armFlags : List Fld := dies.map fun (d : Die) => R.ADM_DIE_STATUS_FAST_ARMED d.val

/-- Of the window only the listed fields may differ from `s`, and everything else of the state is as in `u`. -/
def Only (l : List Fld) (s t u : State) : Prop := RegsBut l s t ∧ t = { u with regs := t.regs }

/-- The command of a queue has ended: its completion waits to be written, with its STATUS, RESULT and DETAIL (R361, R363). -/
abbrev Ended (q : Queue) (c : Desc) (head status result detail : Nat) (t : State) : Prop :=
  t.queue[q].cmd = none ∧ t.queue[q].fin = some ⟨c.cid, head, status, result, detail⟩

/-- A vector that owes a message: MASK holds it, or it is in `out` with the vector's address and data, if it has one (R372). -/
abbrev Owed (v : Nat) (s t : State) : Prop :=
  (s.on (R.INT_V_CTL_MASK v) = true → t.rd (R.INT_V_CTL_PEND v) = 1) ∧
  (s.on (R.INT_V_CTL_MASK v) = false → s.rd (R.INT_V_ADDR_ADDR v) ≠ 0 →
    .message v (s.rd (R.INT_V_ADDR_ADDR v)) (s.rd (R.INT_V_DATA_DATA v)) ∈ t.out)

/-- A lane takes a frame at once: it is up, its replay buffer has room and nothing waits before it (R312). -/
abbrev Free (s : State) (k : Lane) : Prop :=
  s.laneUp k = true ∧ s.cas.lane[k].replay.length < 64 ∧ s.cas.lane[k].queue = []

/-- The frame the package itself sends next on a lane: of the present term, with the next LSEQ and LK_TIME (R313). -/
abbrev ownFrame (s : State) (k : Lane) (type dir dst : Nat) (p : List Nat) : CasFrame :=
  CasFrame.make type dir 0 s.index dst s.term (s.cas.lane[k].tx + 1) (s.lkHalfAt s.now) p

/-- An operation is an ordering point: a fence, a load from where R402 names, an AMO or LR/SC on the shared SRAM. -/
def orders (op : OrdOp) : Bool := match op with
  | .fence => true
  | .load a _ _ => ordersLoad a
  | .amo a _ => sharedSram a
  | .store .. | .fetch _ | .handler | .pmp .. => false

/-- The command of a queue is a MSG that waits for a mailbox (R401). -/
def State.waitsFor (s : State) (k : Mbx) (q : Queue) : Bool :=
  match s.queue[q].work with
  | some (.msgWait m _ _ _) => m == k
  | _ => false

/-- The window is in its canonical form: entries by strictly rising key. DESIGN CHOICE, log 11. -/
def State.canonical (s : State) : Bool := Tab.wf s.regs

end Sys2Proof.Machine
end

