-- ==== Sys2Proof/Certificates/Slice0/Obligations.lean ====
section
/-!
DEFINITION. Obligations.lean: the statements about the block. The first say what each command does where it completes, family
by family, with what it leaves as it was; the last say what holds of the block as a whole.
-/
open Sys2Proof Sys2Proof.Machine

/-- The first lock of the PLL and the sources of the clock: the crystal's proof, its failure, loss of lock and relock, the
block reset that follows a lost lock, and the return to the crystal, successful or not (R126–R135). -/
def Obligations.ClockSourceCommands : Prop := ∀ s : State,
  (s.clk.started = true → s.phase = .held → s.clk.proof = none → s.clk.taking = none →
    Completes .xtalAmplitudeGood s fun t => t = s.modClkGen fun c => { c with proof := some { ret := false } }) ∧
  (∀ n last, s.clk.proof = some ⟨false, 3, some last⟩ → 8110 ≤ n → n ≤ 8274 → n ≤ last + 2 → last ≤ n + 2 →
    Completes (.sourceMonitorGate n) s fun t =>
      Only [R.CLK_SRC_XTAL_PROVEN] s t (s.modClkGen fun c => { c with proof := none, taking := some 1 }) ∧
      t.rd R.CLK_SRC_XTAL_PROVEN = 1) ∧
  (∀ n last, s.clk.proof = some ⟨true, 3, some last⟩ → 8110 ≤ n → n ≤ 8274 → n ≤ last + 2 → last ≤ n + 2 →
    Completes (.sourceMonitorGate n) s fun t =>
      Only [R.CLK_SRC_XTAL_PROVEN, R.CLK_SRC_HOLDOVER, R.CLK_SRC_PLL_LOCK, R.CLK_SRC_ACTIVE, R.CLK_SRC_FAIL_CAUSE,
        R.CLK_SRC_CTL_RETURN, R.CAS_TSYNC_DEGRADED] s t
        ((s.modClkGen fun c => { c with proof := none }).raise Ev.CLK_SRC_RESTORED) ∧
      t.rd R.CLK_SRC_XTAL_PROVEN = 1 ∧ t.rd R.CLK_SRC_ACTIVE = 1 ∧ t.rd R.CLK_SRC_CTL_RETURN = 0 ∧
      t.rd R.CLK_SRC_PLL_LOCK = 0 ∧ t.rd R.CAS_TSYNC_DEGRADED = 0) ∧
  (∀ n p, s.clk.proof = some p → p.ret = true → (n < 8110 ∨ 8274 < n) →
    Completes (.sourceMonitorGate n) s fun t =>
      Only [R.CLK_SRC_XTAL_PROVEN, R.CLK_SRC_CTL_RETURN, R.CLK_SRC_FAIL_CAUSE] s t
        (s.modClkGen fun c => { c with proof := none }) ∧
      t.rd R.CLK_SRC_XTAL_PROVEN = 0 ∧ t.rd R.CLK_SRC_CTL_RETURN = 0 ∧ t.rd R.CLK_SRC_FAIL_CAUSE = 4) ∧
  (s.clk.proof = none → (s.rd R.CLK_SRC_ACTIVE = 1 ∨ s.clk.taking = some 1) →
    ∀ u : State, u = (s.modClkGen fun c => { c with taking := c.taking.map fun _ => 2 }).raiseIf
      (!s.on R.CAS_TSYNC_DEGRADED) Ev.CAS_TIME_DEGRADED →
    (∀ n, (n < 8110 ∨ 8274 < n) →
      Completes (.sourceMonitorGate n) s fun t =>
        Only [R.CLK_SRC_HOLDOVER, R.CLK_SRC_PLL_LOCK, R.CLK_SRC_ACTIVE, R.CLK_SRC_FAIL_CAUSE, R.CAS_TSYNC_DEGRADED] s t
          (u.raise Ev.CLK_SRC_FAIL 0xFFFF 2) ∧
        t.rd R.CLK_SRC_HOLDOVER = 1 ∧ t.rd R.CLK_SRC_PLL_LOCK = 0 ∧ t.rd R.CLK_SRC_ACTIVE = 2 ∧
        t.rd R.CLK_SRC_FAIL_CAUSE = 2 ∧ t.rd R.CAS_TSYNC_DEGRADED = 1) ∧
    Completes .crystalEdgeLoss s fun t =>
      Only [R.CLK_SRC_HOLDOVER, R.CLK_SRC_PLL_LOCK, R.CLK_SRC_ACTIVE, R.CLK_SRC_FAIL_CAUSE, R.CAS_TSYNC_DEGRADED] s t
        (u.raise Ev.CLK_SRC_FAIL 0xFFFF 1) ∧
      t.rd R.CLK_SRC_HOLDOVER = 1 ∧ t.rd R.CLK_SRC_PLL_LOCK = 0 ∧ t.rd R.CLK_SRC_ACTIVE = 2 ∧
      t.rd R.CLK_SRC_FAIL_CAUSE = 1 ∧ t.rd R.CAS_TSYNC_DEGRADED = 1) ∧
  (∀ r, s.phase = .held → s.clk.taking = some r → r < 4 →
    Completes .pllLock s fun t =>
      RegsBut [R.CLK_SRC_ACTIVE, R.CLK_SRC_PLL_LOCK, R.CLK_SRC_HOLDOVER, R.CAS_TSYNC_DEGRADED, R.MGT_LC_WIPING] s t ∧
      t.rd R.CLK_SRC_ACTIVE = r ∧ t.rd R.CLK_SRC_PLL_LOCK = 1 ∧ t.rd R.CLK_SRC_HOLDOVER = 0 ∧ t.rd R.MGT_LC_WIPING = 1 ∧
      t.now = 0 ∧ t.strokeIdx = 0 ∧ t.windowIdx = 0 ∧ t.alignIdx = 0 ∧ t.phase = .blockReset ∧ t.rgcOn = true ∧
      t.live = false) ∧
  (s.phase ≠ .held → s.on R.CLK_SRC_HOLDOVER = true →
    Completes .pllLock s fun t =>
      Only [R.CLK_SRC_PLL_LOCK, R.CLK_SRC_HOLDOVER] s t (s.modClkGen fun c => { c with relockBy := none }) ∧
      t.rd R.CLK_SRC_PLL_LOCK = 1 ∧ t.rd R.CLK_SRC_HOLDOVER = 0) ∧
  (s.clk.started = true → s.phase = .held → s.clk.taking = none →
    Completes .xtalProofTimeout s fun t =>
      Only [R.CLK_SRC_FAIL_CAUSE] s t
        ((s.modClkGen fun c => { c with proof := none, taking := some 2 }).raise Ev.CLK_SRC_FAIL 0xFFFF 3) ∧
      t.rd R.CLK_SRC_FAIL_CAUSE = 3) ∧
  (s.on R.CLK_SRC_PLL_LOCK = true →
    Completes .pllLockLoss s fun t =>
      Only [R.CLK_SRC_HOLDOVER, R.CLK_SRC_PLL_LOCK, R.CLK_SRC_FAIL_CAUSE] s t
        ((s.modClkGen fun c => { c with relockBy := some (s.now + 50000) }).raise Ev.CLK_PLL_UNLOCK 0xFFFF 5) ∧
      t.rd R.CLK_SRC_HOLDOVER = 1 ∧ t.rd R.CLK_SRC_PLL_LOCK = 0 ∧ t.rd R.CLK_SRC_FAIL_CAUSE = 5) ∧
  (∀ by_, s.clk.relockBy = some by_ →
    Completes .pllRelockTimeout s fun t =>
      t = { (s.advance by_).modClkGen fun c => { c with relockBy := none } with resetReq := some 3 }) ∧
  (s.rd R.CLK_SRC_ACTIVE ≠ 1 → s.on R.CLK_SRC_CTL_RETURN = false →
    Completes .clkReturn s fun t =>
      Only [R.CLK_SRC_CTL_RETURN] s t (s.modClkGen fun c => { c with proof := some { ret := true } }) ∧
      t.rd R.CLK_SRC_CTL_RETURN = 1)

/-- A divider moves on an alignment edge, one position at most, once its hold has passed, and holds the new ratio for
HOLD_AP periods (R139): slower toward a slower target, or to no slower than FLOOR in a droop episode (R152); faster only
where no droop step is due, recovery has passed, V_ack covers it and the voltage command link is up (R142, R194). A cluster
whose clock runs follows in the same way (R140). -/
def Obligations.DividerStepRules : Prop := ∀ (s : State) (d : Die) (e : Nat), s.rgcOn = true → s.ratio d ≤ 6 → e = s.toEdge.edge →
  (Completes (.dividerStep d) s fun t =>
    t.now = s.toEdge.now ∧ t.pending = s.pending ∧
    (t.ratio d = s.ratio d ∨
      (s.clkDie[d].holdUntil ≤ e ∧ t.clkDie[d].holdUntil = e + max 1 (s.rd R.CLK_RAMP_HOLD_AP) ∧
        (t.ratio d = s.ratio d + 1 ∨
          (t.ratio d + 1 = s.ratio d ∧ s.need d (t.ratio d) ≤ s.clkDie[d].vAck ∧ s.vcl[d.sat].sat.up = true ∧
            s.droopDue d e = false))))) ∧
  (s.clkDie[d].holdUntil ≤ e → s.droopDue d e = false → s.ratio d < s.target d →
    Completes (.dividerStep d) s fun t => t.now = s.toEdge.now ∧ t.ratio d = s.ratio d + 1 ∧
      t.clkDie[d].holdUntil = e + max 1 (s.rd R.CLK_RAMP_HOLD_AP)) ∧
  (s.clkDie[d].holdUntil ≤ e → s.droopDue d e = false → s.target d < s.ratio d → s.clkDie[d].clearAt = none →
    s.need d (s.ratio d - 1) ≤ s.clkDie[d].vAck → s.vcl[d.sat].sat.up = true →
    Completes (.dividerStep d) s fun t => t.now = s.toEdge.now ∧ t.ratio d + 1 = s.ratio d ∧
      t.clkDie[d].holdUntil = e + max 1 (s.rd R.CLK_RAMP_HOLD_AP)) ∧
  (s.clkDie[d].holdUntil ≤ e → s.droopDue d e = true → s.ratio d < s.rd R.CLK_DROOP_CFG_FLOOR →
    Completes (.dividerStep d) s fun t => t.now = s.toEdge.now ∧ t.ratio d = s.ratio d + 1 ∧
      t.clkDie[d].holdUntil = e + max 1 (s.rd R.CLK_RAMP_HOLD_AP) ∧ t.clkDie[d].slowAt = none) ∧
  (e < s.clkDie[d].holdUntil → Completes (.dividerStep d) s fun t => t.now = s.toEdge.now ∧ t.ratio d = s.ratio d) ∧
  (s.droopDue d e = false → s.target d < s.ratio d →
    (s.clkDie[d].vAck < s.need d (s.ratio d - 1) ∨ s.vcl[d.sat].sat.up = false) →
    Completes (.dividerStep d) s fun t => t.now = s.toEdge.now ∧ t.ratio d = s.ratio d) ∧
  (∀ c : Cluster, s.droopDue d e = false → s.ratio d = s.target d → s.on (R.CLK_DIE_GATE_STS_CL d c) = false →
    s.clkDie[d].cluster[c].hold ≤ e → s.clkDie[d].cluster[c].ratio < s.clusterGoal d c →
    Completes (.dividerStep d) s fun t => t.ratio d = s.ratio d ∧
      t.clkDie[d].cluster[c] = ⟨s.clkDie[d].cluster[c].ratio + 1, e + max 1 (s.rd R.CLK_RAMP_HOLD_AP)⟩)

/-- What the raise timeout, the release of a held die, the clock gates of a cluster and the frequency-measuring counter do
(R145–R148, R157, R158). -/
def Obligations.DieClockCommands : Prop := ∀ s : State,
  (∀ d x, s.live = true → s.vsetTx[Die.loop d].due = some x →
    Completes (.vclAckTimeout d) s fun t =>
      t = (s.advance x).raiseFails d ∧ t.now = max s.now x ∧ t.clkDie[d].timeouts = s.clkDie[d].timeouts + 1 ∧
      t.rd (R.CLK_DIE_DIV_ACK_WAIT d) = 0 ∧ t.vsetTx[Die.loop d].due = none ∧
      t.raised = s.raised ++ [{ code := Ev.CLK_VCL_ACK_TIMEOUT, unit := d, detail := 0, body := [] }]) ∧
  (∀ d, s.live = true → s.on (R.CLK_DIE_DIV_HELD (Fin.val (n := 8) d)) = true →
    Completes (.heldRelease d) s fun t =>
      Only [R.CLK_DIE_DIV_HELD d] s t (s.modHold d fun h => { h with released := true }) ∧ t.rd (R.CLK_DIE_DIV_HELD d) = 0) ∧
  (∀ d c code, s.live = true → s.fenced d = false → code ≤ 2 →
    Completes (.clusterGateRequest d c code) s fun t =>
      Only [R.CLK_DIE_GATE_CL d c] s t (s.setGate d c
        (if code = s.rd (R.CLK_DIE_GATE_STS_CL d c) then .settled
         else if code = 0 then .waking (s.now + (if s.rd (R.CLK_DIE_GATE_STS_CL d c) = 2 then 2560 else 0) + 20)
         else .leaving)) ∧
      t.rd (R.CLK_DIE_GATE_CL d c) = code) ∧
  (∀ d c code, s.live = true → (s.fenced d = true ∨ 2 < code) →
    Completes (.clusterGateRequest d c code) s fun t => t = s) ∧
  (∀ (d : Die) (c : Cluster), s.live = true → s.clkDie[d].gate[c] = .stopping →
    Completes (.clusterClockStop d c) s fun t =>
      t = ((s.toEdge).gateTake d c (s.gateAsked d c)).setGate d c .settled ∧ t.now = s.toEdge.now ∧
      t.clkDie[d].gate[c] = .settled ∧ t.rd (R.CLK_DIE_GATE_STS_CL d c) = s.gateAsked d c % 4) ∧
  (∀ (d : Die) (c : Cluster) (a : Nat) (u : State), s.live = true → s.clkDie[d].gate[c] = .waking a →
    (u = (s.advance a).toEdge ∧ s.clkDie[d].wokeAt ≠ some u.edge ∨
      ∃ v, v = (s.advance a).toEdge ∧ s.clkDie[d].wokeAt = some v.edge ∧ u = ({ v with now := v.now + 1 }).toAlign) →
    (∀ k : Cluster, k < c → s.wakes d k u.now = false) →
    Completes (.clusterRestart d c) s fun t =>
      t = ((u.gateTake d c 0).setGate d c .rejoining).modClk d (fun x => { x with wokeAt := some u.edge }) ∧
      t.rd (R.CLK_DIE_GATE_STS_CL d c) = 0 ∧ t.clkDie[d].gate[c] = .rejoining ∧ t.clkDie[d].wokeAt = some u.edge ∧
      t.clkDie[d].cluster[c].ratio = s.clusterGoal d c) ∧
  (s.on R.CLK_FMC_CTL_BUSY = false →
    Completes .fmcStart s fun t =>
      Only [R.CLK_FMC_CTL_START, R.CLK_FMC_CTL_BUSY] s t (s.modClkGen fun c => { c with
        fmcSrc := s.rd R.CLK_FMC_CTL_SRC, fmcRef := s.rd R.CLK_FMC_CTL_REF }) ∧
      t.rd R.CLK_FMC_CTL_BUSY = 1 ∧ t.rd R.CLK_FMC_CTL_START = 1) ∧
  (∀ n k, s.on R.CLK_FMC_CTL_BUSY = true → k = (if State.fmcSource s.clk.fmcSrc s.clk.fmcRef then n else 0) →
    Completes (.fmcGateEnd n) s fun t =>
      Only [R.CLK_FMC_CTL_START, R.CLK_FMC_CTL_BUSY, R.CLK_FMC_CTL_OVF, R.CLK_FMC_COUNT_COUNT] s t s ∧
      t.rd R.CLK_FMC_CTL_START = 0 ∧ t.rd R.CLK_FMC_CTL_BUSY = 0 ∧ t.rd R.CLK_FMC_CTL_OVF = (if 2 ^ 64 ≤ k then 1 else 0) ∧
      t.rd R.CLK_FMC_COUNT_COUNT = k % 2 ^ 64)

/-- What the droop detectors do (R151–R154): an assertion, the second threshold, the count that ends in a Cuff, the clear,
the recovery, and a stuck detector with its readmission. A detector that the die does not use, or a voltage that is not past
its threshold, changes nothing more than NOW. -/
def Obligations.DroopCommands : Prop := ∀ (s : State) (d : Die) (det : Fin 32) (uv : Nat), s.live = true →
  (bit (s.rd (R.CLK_DIE_DROOP_NOW_DET d)) det = false → s.sags d R.CLK_DROOP_CFG_THR1 uv = true →
    bit (s.droopSet d) det = true →
    Completes (.droopAssert d det uv) s fun t =>
      RegsBut [R.CLK_DIE_DROOP_NOW_DET d, R.CLK_DIE_DROOP_SEEN_DET d, R.CLK_DIE_DIV_DROOP_ACTIVE d,
        R.CLK_DIE_CNT_DROOP_COUNT d, R.REC_AO_COUNT 7] s t ∧
      bit (t.rd (R.CLK_DIE_DROOP_NOW_DET d)) det = true ∧ bit (t.rd (R.CLK_DIE_DROOP_SEEN_DET d)) det = true ∧
      t.on (R.CLK_DIE_DIV_DROOP_ACTIVE d) = true ∧ Tab.find t.clkDie[d].since det = some s.now ∧ t.now = s.now ∧
      t.out = s.out ∧ t.raised = s.raised ∧
      (s.on (R.CLK_DIE_DIV_DROOP_ACTIVE d) = true → t.clkDie[d].slowAt = s.clkDie[d].slowAt) ∧
      (s.on (R.CLK_DIE_DIV_DROOP_ACTIVE d) = false →
        t.clkDie[d].slowAt = some (min (s.clkDie[d].slowAt.getD (cdiv (s.now + 16) 20)) (cdiv (s.now + 16) 20)) ∧
        (s.seam[d.sat].stopped = false → t.rd (R.CLK_DIE_CNT_DROOP_COUNT d) =
          (s.rd (R.CLK_DIE_CNT_DROOP_COUNT d) + 1) % 2 ^ (R.CLK_DIE_CNT_DROOP_COUNT d).w))) ∧
  (bit (s.rd (R.CLK_DIE_DROOP_NOW_DET d)) det = false → s.sags d R.CLK_DROOP_CFG_THR1 uv = true →
    bit (s.droopSet d) det = false →
    Completes (.droopAssert d det uv) s fun t => t = s.setMask (R.CLK_DIE_DROOP_NOW_DET d) (2 ^ det.val)) ∧
  (bit (s.rd (R.CLK_DIE_DROOP_NOW_DET d)) det = true ∨ s.sags d R.CLK_DROOP_CFG_THR1 uv = false →
    Completes (.droopAssert d det uv) s fun t => t = s) ∧
  (bit (s.droopSet d) det = true → s.sags d R.CLK_DROOP_CFG_THR2 uv = true →
    Completes (.droopThr2Cross d det uv) s fun t => t = s.cuffOne d .droop true ∧
      t.on (R.ADM_DIE_STATUS_CUFF d) = true ∧ bit t.adm[d].causes CuffCause.droop.bit = true ∧
      (s.on (R.ADM_DIE_STATUS_CUFF d) = false → t.rd (R.ADM_DIE_CUFF_CAUSE_DROOP d) = 1)) ∧
  (bit (s.droopSet d) det = false ∨ s.sags d R.CLK_DROOP_CFG_THR2 uv = false →
    Completes (.droopThr2Cross d det uv) s fun t => t = s) ∧
  (∀ n : Nat, bit (s.droopSet d) det = true → Tab.find s.clkDie[d].apRun det = some n →
    max 1 (s.rd R.CLK_DROOP_CFG_CUFF_AP) ≤ n →
    Completes (.droopCuffCount d det) s fun t => t = s.cuffOne d .droop true ∧
      t.on (R.ADM_DIE_STATUS_CUFF d) = true ∧ bit t.adm[d].causes CuffCause.droop.bit = true ∧
      (s.on (R.ADM_DIE_STATUS_CUFF d) = false → t.rd (R.ADM_DIE_CUFF_CAUSE_DROOP d) = 1)) ∧
  (bit (s.droopSet d) det = false ∨ (∀ n, Tab.find s.clkDie[d].apRun det = some n → n < max 1 (s.rd R.CLK_DROOP_CFG_CUFF_AP)) →
    Completes (.droopCuffCount d det) s fun t => t = s) ∧
  (bit (s.rd (R.CLK_DIE_DROOP_NOW_DET d)) det = true →
    1000 * s.clkDie[d].vAck + 4000 < uv + 1000 * s.rd R.CLK_DROOP_CFG_THR1 →
    Completes (.droopClear d det uv) s fun t =>
      t.rd (R.CLK_DIE_DROOP_NOW_DET d) =
        s.rd (R.CLK_DIE_DROOP_NOW_DET d) - (s.rd (R.CLK_DIE_DROOP_NOW_DET d) &&& 2 ^ det.val) ∧
      Tab.find t.clkDie[d].since det = none ∧ t.now = s.now ∧
      (s.droopSet d &&& t.rd (R.CLK_DIE_DROOP_NOW_DET d) ≠ 0 →
        t.rd (R.CLK_DIE_DIV_DROOP_ACTIVE d) = s.rd (R.CLK_DIE_DIV_DROOP_ACTIVE d) ∧ t.adm[d].causes = s.adm[d].causes) ∧
      (s.droopSet d &&& t.rd (R.CLK_DIE_DROOP_NOW_DET d) = 0 → s.on (R.CLK_DIE_DIV_DROOP_ACTIVE d) = true →
        t.rd (R.CLK_DIE_DIV_DROOP_ACTIVE d) = 0 ∧ t.clkDie[d].clearAt = some s.now ∧
        t.adm[d].causes = withBit s.adm[d].causes CuffCause.droop.bit false)) ∧
  (bit (s.rd (R.CLK_DIE_DROOP_NOW_DET d)) det = false ∨
    uv + 1000 * s.rd R.CLK_DROOP_CFG_THR1 ≤ 1000 * s.clkDie[d].vAck + 4000 →
    Completes (.droopClear d det uv) s fun t => t = s) ∧
  (∀ (x : Nat) (u : State), s.clkDie[d].clearAt = some x →
    u = (s.advance (x + 20 * s.rd R.CLK_DROOP_CFG_RECOVER_AP)).toEdge → s.droopDue d u.edge = false → s.ratio d ≤ 6 →
    (s.target d < s.ratio d → s.clkDie[d].holdUntil ≤ u.edge → s.need d (s.ratio d - 1) ≤ s.clkDie[d].vAck →
      s.vcl[d.sat].sat.up = true →
      Completes (.droopRecovery d) s fun t => t.now = u.now ∧ t.ratio d + 1 = s.ratio d ∧
        t.clkDie[d].holdUntil = u.edge + max 1 (s.rd R.CLK_RAMP_HOLD_AP)) ∧
    (s.ratio d ≤ s.target d → Completes (.droopRecovery d) s fun t => t.now = u.now ∧ t.clkDie[d].clearAt = none)) ∧
  (∀ x : Nat, Tab.find s.clkDie[d].since det = some x →
    Completes (.droopStuckLimit d det) s fun t =>
      t = ((((s.advance (x + 1000 * s.rd R.CLK_DROOP_STUCK_LIMIT)).setMask (R.CLK_DIE_DROOP_STUCK_DET d) (2 ^ det.val)).modClk d
        fun c => { c with since := Tab.del c.since det, apRun := Tab.del c.apRun det }).raise Ev.CLK_DROOP_STUCK d
          det).droopCheck d ∧
      bit (t.rd (R.CLK_DIE_DROOP_STUCK_DET d)) det = true ∧ t.now = max s.now (x + 1000 * s.rd R.CLK_DROOP_STUCK_LIMIT) ∧
      { code := Ev.CLK_DROOP_STUCK, unit := d, detail := det, body := [] } ∈ t.raised) ∧
  (∀ mask : Nat, Completes (.droopReadmit d mask) s fun t =>
    t = ((s.clrMask (R.CLK_DIE_DROOP_STUCK_DET d) mask).droopSync d).droopBegin d ∧
    t.rd (R.CLK_DIE_DROOP_STUCK_DET d) =
      s.rd (R.CLK_DIE_DROOP_STUCK_DET d) - (s.rd (R.CLK_DIE_DROOP_STUCK_DET d) &&& mask))

/-- The hint port (R66–R70): a HEAVY_AHEAD becomes the pending hint and goes to the governor, with an event where it
replaces one or comes late, and is discarded where hints are off; OP_START and OP_END track the running layer and operator,
and an OP_START of the pending hint's makes it active; the pending hint's timeout disarms it; a word of another version or
of the reserved type is discarded with ADM_HINT_BAD. -/
def Obligations.HintCommands : Prop := ∀ (s : State) (d : Die) (w : Nat), s.live = true →
  (hintVer w = 1 → hintType w = 1 → s.on R.ADM_CTL_HINT_EN = true → s.hintless d = false →
    ∀ (old : List (Nat × Sat × Report)) (ev : List Event),
      old = s.adm[d].pend.toList.map (fun p => (s.now + 40, d.sat, .hintEnded p.id false)) →
      ev = s.adm[d].pend.toList.map (fun _ => { code := Ev.ADM_HINT_REPLACED, unit := d, detail := 0, body := [] }) ++
        (if hintLead w < s.rd R.ADM_HINT_MIN_LEAD
          then [{ code := Ev.ADM_HINT_LATE, unit := d, detail := hintLead w, body := [] }] else []) →
    Completes (.heavyAhead d w) s fun t =>
      t.adm[d].pend = some ⟨s.adm[d].hintSeq, hintLayer w, hintOp w, hintLead w, false, none⟩ ∧
      t.adm[d].hintSeq = s.adm[d].hintSeq + 1 ∧ t.adm[d].act = s.adm[d].act ∧
      t.inbox = s.inbox ++ old ++ [(s.now + 40, d.sat, .hint s.adm[d].hintSeq (hintLayer w) (hintOp w) (hintLead w))] ∧
      RegsBut [R.ADM_DIE_HINT_VALID d, R.ADM_DIE_HINT_LAYER d, R.ADM_DIE_HINT_OPERATOR d, R.ADM_DIE_STATUS_FAST_ARMED d] s t ∧
      t.rd (R.ADM_DIE_HINT_VALID d) = 1 ∧ t.rd (R.ADM_DIE_HINT_LAYER d) = hintLayer w ∧
      t.rd (R.ADM_DIE_HINT_OPERATOR d) = hintOp w ∧ t.raised = s.raised ++ ev ∧ t.out = s.out) ∧
  (hintVer w = 1 → hintType w = 1 → (s.on R.ADM_CTL_HINT_EN = false ∨ s.hintless d = true) →
    Completes (.heavyAhead d w) s fun t => t = s) ∧
  (hintVer w ≠ 1 ∨ hintType w = 3 →
    Completes (.heavyAhead d w) s (fun t => t = s.raise Ev.ADM_HINT_BAD d) ∧
    Completes (.opStart d w) s (fun t => t = s.raise Ev.ADM_HINT_BAD d) ∧
    Completes (.opEnd d w) s fun t => t = s.raise Ev.ADM_HINT_BAD d) ∧
  (hintVer w = 1 → hintType w = 0 →
    Completes (.opStart d w) s fun t => t = s.opStart d (hintLayer w) (hintOp w) ∧
      t.adm[d].run = some (hintLayer w, hintOp w)) ∧
  (∀ p : Hint, hintVer w = 1 → hintType w = 0 → s.adm[d].pend = some p → p.layer = hintLayer w → p.op = hintOp w →
    Completes (.opStart d w) s fun t => t.adm[d].run = some (hintLayer w, hintOp w) ∧ t.adm[d].act = some p ∧
      t.adm[d].pend = none ∧ t.rd (R.ADM_DIE_HINT_VALID d) = 0) ∧
  (hintVer w = 1 → hintType w = 0 → s.adm[d].pend = none → s.adm[d].act = none → s.on R.TRC_CTL_EN = false →
    Completes (.opStart d w) s fun t =>
      t = (s.modAdm d fun a => { a with run := some (hintLayer w, hintOp w) }).report d.sat (.opStart (hintLayer w) (hintOp w))) ∧
  (∀ h : Hint, hintVer w = 1 → hintType w = 0 → s.adm[d].pend = none → s.adm[d].act = some h →
    (h.layer ≠ hintLayer w ∨ h.op ≠ hintOp w) →
    Completes (.opStart d w) s fun t => t.adm[d].run = some (hintLayer w, hintOp w) ∧ t.adm[d].act = none ∧
      (s.now + 40, d.sat, .hintEnded h.id false) ∈ t.inbox) ∧
  (hintVer w = 1 → hintType w = 2 → s.adm[d].act = none → s.on R.TRC_CTL_EN = false →
    Completes (.opEnd d w) s fun t => t = (s.modAdm d fun a => { a with run := none }).report d.sat .opEnd) ∧
  (∀ h : Hint, hintVer w = 1 → hintType w = 2 → s.adm[d].act = some h → h.layer = hintLayer w → h.op = hintOp w →
    Completes (.opEnd d w) s fun t => t.adm[d].run = none ∧ t.adm[d].act = none ∧
      (s.now + 40, d.sat, .hintEnded h.id false) ∈ t.inbox) ∧
  (∀ h x, s.seam[d.sat].stopped = false → s.adm[d].pend = some h → h.deadline = some x →
    Completes (.armTimeout d) s fun t =>
      t = ((s.advance (s.now + (x - s.own d.sat))).endPending d).raise Ev.ADM_PREARM_TIMEOUT d ∧ t.adm[d].pend = none ∧
      t.rd (R.ADM_DIE_HINT_VALID d) = 0 ∧ t.now = s.now + (x - s.own d.sat))

/-- Requests that wait for a window boundary and the accesses to the learned table (R54, R115, R117, R120): each sets its
bit and nothing else; a job request that does not fit the job's state is rejected. -/
def Obligations.BudgetRequests : Prop := ∀ s : State, s.live = true →
  (∀ mask, Completes (.costSwap mask) s fun t =>
    Only [R.ADM_COST_SWAP_DIE] s t s ∧ t.rd R.ADM_COST_SWAP_DIE = (s.rd R.ADM_COST_SWAP_DIE ||| mask % 256) % 256) ∧
  (Completes .ltAccRead s fun t =>
    (∀ k, k < 12 → t.rd (R.BUD_LT_DATA_WORD k) = nth (s.entry (s.rd R.BUD_LT_ACC_INDEX)) k % 2 ^ 32) ∧
    Only ((List.range 12).map R.BUD_LT_DATA_WORD) s t s) ∧
  (Completes .ltAccWrite s fun t =>
    Only [R.BUD_LT_ACC_WRITE, R.BUD_LT_ACC_BUSY] s t s ∧ t.rd R.BUD_LT_ACC_WRITE = 1 ∧ t.rd R.BUD_LT_ACC_BUSY = 1) ∧
  (Completes .ltAccInvalAll s fun t =>
    Only [R.BUD_LT_ACC_INVAL_ALL, R.BUD_LT_ACC_BUSY] s t s ∧ t.rd R.BUD_LT_ACC_INVAL_ALL = 1 ∧ t.rd R.BUD_LT_ACC_BUSY = 1) ∧
  (s.on R.BUD_JOB_CTL_RUNNING = false →
    (Completes (.jobStart false) s fun t => Only [R.BUD_JOB_CTL_START] s t s ∧ t.rd R.BUD_JOB_CTL_START = 1) ∧
    (Completes (.jobStop false) s fun t =>
      Only [R.BUD_JOB_CTL_ERR] s t (s.raise Ev.BUD_JOB_ERR) ∧ t.rd R.BUD_JOB_CTL_ERR = 1)) ∧
  (s.on R.BUD_JOB_CTL_RUNNING = true →
    (Completes (.jobStop false) s fun t => Only [R.BUD_JOB_CTL_STOP] s t s ∧ t.rd R.BUD_JOB_CTL_STOP = 1) ∧
    (Completes (.jobStart false) s fun t =>
      Only [R.BUD_JOB_CTL_ERR] s t (s.raise Ev.BUD_JOB_ERR) ∧ t.rd R.BUD_JOB_CTL_ERR = 1)) ∧
  (Completes (.jobStart true) s fun t =>
    Only [R.BUD_JOB_CTL_ERR] s t (s.raise Ev.BUD_JOB_ERR) ∧ t.rd R.BUD_JOB_CTL_ERR = 1) ∧
  (Completes (.jobStop true) s fun t =>
    Only [R.BUD_JOB_CTL_ERR] s t (s.raise Ev.BUD_JOB_ERR) ∧ t.rd R.BUD_JOB_CTL_ERR = 1)

/-- Enabling and disabling the block and its queues, the doorbells, the vectors and functions, bad accesses and the request
of a block reset (R351–R353, R359, R365, R369, R372, R373, R375, R377). -/
def Obligations.HostControlCommands : Prop := ∀ s : State, s.live = true →
  (s.on R.GLB_GOV_CTL_ENABLE = false →
    Completes .govEnable s fun t =>
      Only [R.GLB_GOV_CTL_ENABLE, R.GLB_STATUS_CHECKING, R.GLB_STATUS_REFUSE_CODE, R.GLB_STATUS_REFUSE_ARG] s t
        (s.modGov fun g => { g with check := none }) ∧
      t.rd R.GLB_GOV_CTL_ENABLE = 1 ∧ t.rd R.GLB_STATUS_CHECKING = 1 ∧ t.rd R.GLB_STATUS_REFUSE_CODE = 0 ∧
      t.rd R.GLB_STATUS_REFUSE_ARG = 0xFFFF) ∧
  (s.on R.GLB_GOV_CTL_ENABLE = true → Completes .govEnable s fun t => t = s) ∧
  (s.on R.GLB_STATUS_ENABLED = true →
    Completes .govDisable s fun t => t = s.modGov fun g => { g with offAsked := true }) ∧
  (s.on R.GLB_STATUS_ENABLED = false → s.gov.check ≠ some none →
    Completes .govDisable s fun t =>
      Only [R.GLB_GOV_CTL_ENABLE, R.GLB_STATUS_CHECKING] s t (s.modGov fun g => { g with check := none }) ∧
      t.rd R.GLB_GOV_CTL_ENABLE = 0 ∧ t.rd R.GLB_STATUS_CHECKING = 0) ∧
  (s.on R.GLB_STATUS_ENABLED = false → s.gov.check = some none → s.gov.decided = some s.window →
    Completes .govDisable s fun t => t.rd R.GLB_GOV_CTL_ENABLE = 0 ∧ t.rd R.GLB_STATUS_CHECKING = 0 ∧ t.gov.check = none ∧
      ∀ d : Die, t.govDie[d].pool = 0 ∧ t.govDie[d].ratio = 6) ∧
  (∀ (q : Queue) (l : List Nat), s.on (R.HIF_Q_CFG_EN q) = false → s.qState q = 0 → lineTail l < s.sqSize q →
    lineHead l < s.cqSize q → Completes (.queueEnable q (some l)) s fun t =>
      RegsBut [R.HIF_Q_CFG_EN q, R.HIF_Q_STS_SQ_HEAD q, R.HIF_Q_CQ_CQ_TAIL q, R.HIF_Q_CQ_PHASE q, R.HIF_Q_STS_ERR q,
        R.HIF_Q_STS_STATE q, R.HIF_ACTIVE_Q] s t ∧
      t.rd (R.HIF_Q_CFG_EN q) = 1 ∧ t.qState q = 1 ∧ t.rd (R.HIF_Q_STS_SQ_HEAD q) = 0 ∧ t.rd (R.HIF_Q_CQ_CQ_TAIL q) = 0 ∧
      t.rd (R.HIF_Q_CQ_PHASE q) = 1 ∧ t.rd (R.HIF_Q_STS_ERR q) = 0 ∧ bit (t.rd R.HIF_ACTIVE_Q) q = true ∧
      t.queue[q] = { tail := lineTail l, head := lineHead l, unsig := s.queue[q].unsig, oldest := s.queue[q].oldest } ∧
      t.out = s.out ++ if lineTail l = 0 then [] else [.fetch q 0]) ∧
  (∀ (q : Queue), s.on (R.HIF_Q_CFG_EN q) = false → s.qState q = 0 → Completes (.queueEnable q none) s fun t =>
    t.rd (R.HIF_Q_CFG_EN q) = 1 ∧ t.qState q = 3 ∧ t.rd (R.HIF_Q_STS_ERR q) = 5 ∧
    t.raised = s.raised ++ [{ code := Ev.HIF_QUEUE_ERR, unit := q, detail := 5, body := [] }]) ∧
  (∀ q : Queue, s.qState q ≠ 0 →
    Completes (.queueDisable q) s fun t =>
      Only [R.HIF_Q_CFG_EN q, R.HIF_Q_STS_STATE q, R.HIF_ACTIVE_Q] s t s ∧ t.rd (R.HIF_Q_CFG_EN q) = 0 ∧ t.qState q = 4) ∧
  (∀ q : Queue, s.qState q = 0 →
    Completes (.queueDisable q) s fun t => Only [R.HIF_Q_CFG_EN q] s t s ∧ t.rd (R.HIF_Q_CFG_EN q) = 0) ∧
  (∀ q : Queue, s.qState q = 4 → s.queue[q].cmd = none → (s.queue[q].fin = none ∨ s.unwritable q = true) →
    Completes (.queueDrained q) s fun t =>
      Only [R.HIF_Q_STS_STATE q, R.HIF_ACTIVE_Q] s t (s.modQueue q fun x => { x with fin := none }) ∧ t.qState q = 0) ∧
  (∀ (q : Queue) (l : List Nat), bit (s.rd (R.ID_CAP_CAP 0)) 13 = true → s.watched q = true →
    (lineTail l, lineHead l) ≠ (s.queue[q].tail, s.queue[q].head) → lineTail l < s.sqSize q → lineHead l < s.cqSize q →
    Completes (.doorbellWatch q (some l)) s fun t =>
      t = s.doorbell q (some l) ∧ t.queue[q] = { s.queue[q] with tail := lineTail l, head := lineHead l }) ∧
  (∀ (q : Queue) (l : List Nat), bit (s.rd (R.ID_CAP_CAP 0)) 13 = true → s.watched q = true →
    (lineTail l, lineHead l) ≠ (s.queue[q].tail, s.queue[q].head) → s.sqSize q ≤ lineTail l →
    Completes (.doorbellWatch q (some l)) s fun t => t.qState q = 3 ∧ t.rd (R.HIF_Q_STS_ERR q) = 1) ∧
  (∀ (q : Queue) (u : Nat), s.queue[q].unsig = u + 1 → s.rd (R.HIF_Q_CFG_COAL_US q) ≠ 0 →
    Completes (.coalesceTimeout q) s fun t =>
      t.now = max s.now (s.queue[q].oldest + 1000 * s.rd (R.HIF_Q_CFG_COAL_US q)) ∧ t.queue[q].unsig = 0 ∧ Owed q s t ∧
      RegsBut [R.INT_V_CTL_PEND q] s t) ∧
  (∀ v : Fin 42, s.on (R.INT_V_CTL_PEND v) = true → s.rd (R.INT_V_ADDR_ADDR v) ≠ 0 →
    Completes (.vectorUnmask v) s fun t =>
      Only [R.INT_V_CTL_MASK v, R.INT_V_CTL_PEND v] s t
        (s.emit (.message v (s.rd (R.INT_V_ADDR_ADDR v)) (s.rd (R.INT_V_DATA_DATA v)))) ∧
      t.rd (R.INT_V_CTL_MASK v) = 0 ∧ t.rd (R.INT_V_CTL_PEND v) = 0) ∧
  (∀ v : Fin 42, s.on (R.INT_V_CTL_PEND v) = false →
    Completes (.vectorUnmask v) s fun t => Only [R.INT_V_CTL_MASK v] s t s ∧ t.rd (R.INT_V_CTL_MASK v) = 0) ∧
  (∀ k : Fin 10,
    Completes (.functionEvtClear k) s fun t =>
      Only [R.INT_F_CAUSE_EVT k, R.INT_F_CAUSE_COUNT k] s t s ∧
      t.rd (R.INT_F_CAUSE_EVT k) = 0 ∧ t.rd (R.INT_F_CAUSE_COUNT k) = 0) ∧
  (∀ off size write, off < 2 ^ 20 → (size < 4 ∨ (size ≠ 4 ∧ size ≠ 8) ∨ off % size ≠ 0) →
    Completes (.badAccess off size write) s fun t =>
      Only [R.GLB_ACCESS_ERR_OFFSET, R.GLB_ACCESS_ERR_KIND, R.GLB_ACCESS_ERR_VALID] s t
        (let u := s.raise Ev.HIF_ACCESS_BAD 0xFFFF off; if write then u else u.emit .badRead) ∧
      t.rd R.GLB_ACCESS_ERR_OFFSET = off ∧ t.rd R.GLB_ACCESS_ERR_VALID = 1 ∧
      t.rd R.GLB_ACCESS_ERR_KIND = (if size < 4 then 2 else if size ≠ 4 ∧ size ≠ 8 then 3 else 1)) ∧
  (∀ who, s.rd R.GLB_RESET_KEY = 0xC0DE →
    Completes (.blockResetGo who) s fun t =>
      t = { s.flag R.GLB_RESET_GO true with resetReq := some (if who = .host then 1 else 2) }) ∧
  (∀ who, s.rd R.GLB_RESET_KEY ≠ 0xC0DE → Completes (.blockResetGo who) s fun t => t = s)

/-- The flow of a queue (R359–R370, R401): a descriptor is fetched and becomes the command in hand, or completes at once
where it is bad; a completion is written and the queue goes on, or the queue waits for room in its CQ, or is in error where
the entry cannot be written; the fallback poll is taken; and a MSG that finds no mailbox in time, or has no reply, ends. -/
def Obligations.QueueFlowCommands : Prop := ∀ (s : State) (q : Queue), s.live = true →
  (∀ (l : List Nat) (c : Desc) (n : Nat), c = descOf l → s.qState q = 1 → s.queue[q].cmd = none → s.queue[q].fin = none →
    s.queue[q].tail ≠ s.rd (R.HIF_Q_STS_SQ_HEAD q) → n = (s.rd (R.HIF_Q_STS_SQ_HEAD q) + 1) % s.sqSize q →
    (s.descStatus c ≠ 0 → Completes (.descriptorFetch q (some l)) s fun t =>
      Ended q c n (s.descStatus c) 0 0 t ∧ t.rd (R.HIF_Q_STS_SQ_HEAD q) = n % 2 ^ (R.HIF_Q_STS_SQ_HEAD q).w ∧
      RegsBut [R.HIF_Q_STS_SQ_HEAD q] s t ∧ t.out = s.out) ∧
    (s.descStatus c = 0 → Completes (.descriptorFetch q (some l)) s fun t =>
      t.queue[q].cmd = some (c, n) ∧ t.queue[q].fin = none ∧
      t.rd (R.HIF_Q_STS_SQ_HEAD q) = n % 2 ^ (R.HIF_Q_STS_SQ_HEAD q).w ∧ RegsBut [R.HIF_Q_STS_SQ_HEAD q] s t ∧
      t.out = s.out ∧ (s.busyCmds = 0 → (∀ p : Queue, s.queue[p].cmd = none) → t.queue[q].started = true)) ∧
    Completes (.descriptorFetch q none) s fun t => t.qState q = 3 ∧ t.rd (R.HIF_Q_STS_ERR q) = 3 ∧
      t.raised = s.raised ++ [{ code := Ev.HIF_QUEUE_ERR, unit := q, detail := 3, body := [] }]) ∧
  (∀ (c : Desc) (h : Nat) k ws till b, s.queue[q].work = some (.msgWait k ws till b) → s.queue[q].cmd = some (c, h) →
    Completes (.msgTimeout q) s fun t => t = (s.advance till).finish q stPeerUnavail 0 0 ∧ Ended q c h stPeerUnavail 0 0 t) ∧
  (∀ (c : Desc) (h : Nat) k till b, s.queue[q].work = some (.msgSent k till b) → s.queue[q].cmd = some (c, h) →
    s.go k = true → Completes (.msgTimeout q) s fun t =>
      Ended q c h stPeerUnavail 0 0 t ∧ max s.now till ≤ t.now ∧
      ((∀ p : Queue, p ≠ q → s.queue[p].work = none) → t.go k = false ∧ t.mgt.mbx[k].held = none)) ∧
  (∀ f, s.queue[q].fin = some f → s.cqFull q = false →
    Completes (.completionWrite q true) s fun t =>
      t.queue[q].fin = none ∧
      (∃ l, t.out = s.out ++ .completion q (s.rd (R.HIF_Q_CQ_BASE_ADDR q) + 32 * s.rd (R.HIF_Q_CQ_CQ_TAIL q))
        (s.cplWords q f) :: l) ∧
      (s.rd (R.HIF_Q_CQ_CQ_TAIL q) + 1 < s.cqSize q →
        t.rd (R.HIF_Q_CQ_CQ_TAIL q) = (s.rd (R.HIF_Q_CQ_CQ_TAIL q) + 1) % 2 ^ (R.HIF_Q_CQ_CQ_TAIL q).w ∧
        t.rd (R.HIF_Q_CQ_PHASE q) = s.rd (R.HIF_Q_CQ_PHASE q)) ∧
      (s.cqSize q ≤ s.rd (R.HIF_Q_CQ_CQ_TAIL q) + 1 → t.rd (R.HIF_Q_CQ_CQ_TAIL q) = 0 ∧
        t.rd (R.HIF_Q_CQ_PHASE q) = if s.on (R.HIF_Q_CQ_PHASE q) then 0 else 1) ∧
      (s.frozen = false → t.rd R.HIF_CNT_CMD_COUNT = (s.rd R.HIF_CNT_CMD_COUNT + 1) % 2 ^ R.HIF_CNT_CMD_COUNT.w) ∧
      t.raised = s.raised) ∧
  (∀ f, s.queue[q].fin = some f → s.cqFull q = true → s.qState q = 1 →
    Completes (.completionWrite q true) s fun t => t = s.setQState q 2 ∧ t.qState q = 2) ∧
  (∀ f, s.queue[q].fin = some f → s.cqFull q = false → s.qState q ≠ 3 →
    Completes (.completionWrite q false) s fun t => t.queue[q].fin = none ∧ t.qState q = 3 ∧ t.rd (R.HIF_Q_STS_ERR q) = 4 ∧
      t.raised = s.raised ++ [{ code := Ev.HIF_QUEUE_ERR, unit := q, detail := 4, body := [] }]) ∧
  (∀ l : List Doorbell, (∀ p : Queue, s.watched p = false) →
    Completes (.doorbellPoll l) s fun t => t = { s.advance s.nextPoll with nextPoll := s.nextPoll + 10000 }) ∧
  (∀ (l : List Doorbell) (w : List Nat), l[q.val]? = some (some w) → s.watched q = true →
    (lineTail w, lineHead w) ≠ (s.queue[q].tail, s.queue[q].head) → lineTail w < s.sqSize q → lineHead w < s.cqSize q →
    Completes (.doorbellPoll l) s fun t => t.now = max s.now s.nextPoll ∧ t.nextPoll = s.nextPoll + 10000 ∧
      t.queue[q] = { s.queue[q] with tail := lineTail w, head := lineHead w })

/-- What the commands of a queue do once started: each ends with its completion, or waits for the window boundary or the
mailbox; one whose host buffers cannot be accessed ends with HOST_FAULT (R360–R365, R401, R433, R484). -/
def Obligations.QueueWorkCommands : Prop := ∀ (s : State) (q : Queue) (c : Desc) (h : Nat), s.live = true →
  s.queue[q].cmd = some (c, h) → s.queue[q].started = true → s.queue[q].work = none →
  (c.opc = 0x00 → Completes (.nop q) s fun t => t = s.finish q stSuccess 0 0 ∧ Ended q c h 0 0 0 t) ∧
  (∀ offs, c.opc = 0x01 → Completes (.snapshot q offs true) s fun t =>
    t = (s.emit (.hostWrite q c.addr2 ((List.range c.arg0).flatMap fun k => words2 (s.sample (nth offs k))))).finish q
      stSuccess s.cyc 0 ∧ Ended q c h 0 s.cyc 0 t ∧
    t.out = s.out ++ [.hostWrite q c.addr2 ((List.range c.arg0).flatMap fun k => words2 (s.sample (nth offs k)))]) ∧
  (∀ pairs, c.opc = 0x02 → bit c.arg0 31 = true → Completes (.writeSet q pairs true) s fun t =>
    t = s.modQueue q fun x => { x with work := some (.writes (pairs.take (c.arg0 % 2 ^ 31))) }) ∧
  (∀ pairs, c.opc = 0x02 → bit c.arg0 31 = false → Completes (.writeSet q pairs true) s fun t =>
    t = s.doWrites q (pairs.take (c.arg0 % 2 ^ 31))) ∧
  (∀ v, c.opc = 0x02 → c.arg0 = 1 → Completes (.writeSet q [(0x10004, v)] true) s fun t => Ended q c h 0 0 0 t ∧
    t.rd R.ADM_RAMP_STEP = min (v % 2 ^ 10) (s.rd R.ADM_RAMP_CEIL_STEP_CEIL) ∧
    t.rd R.ADM_RAMP_FAST_STEP = min (v / 2 ^ 16 % 2 ^ 10) (s.rd R.ADM_RAMP_CEIL_FAST_CEIL) ∧
    RegsBut (R.ADM_RAMP_STEP :: R.ADM_RAMP_FAST_STEP :: armFlags) s t) ∧
  (c.opc = 0x10 → Completes (.ltRead q true) s fun t =>
    t = s.modQueue q fun x => { x with work := some (.ltRead c.arg0 c.arg1) }) ∧
  (∀ es, c.opc = 0x11 → Completes (.ltWrite q es true) s fun t =>
    t = s.modQueue q fun x => { x with work := some (.ltWrite c.arg0 (es.take c.arg1)) }) ∧
  (∀ ws, c.opc = 0x12 → (bit c.arg0 8 = false ∨ c.arg0 % 256 = 0) → Completes (.costLoad q ws true) s fun t =>
    Ended q c h 0 0 0 t ∧ ∀ (d : Die) (k : Nat), k < 128 → bit (c.arg0 % 256) d = true →
      t.rd (R.ADM_SHADOW_COST_E0 d k) = bits (nth ws k) 0 6 ∧ t.rd (R.ADM_SHADOW_COST_E1 d k) = bits (nth ws k) 8 6 ∧
      t.rd (R.ADM_SHADOW_COST_E2 d k) = bits (nth ws k) 16 6 ∧ t.rd (R.ADM_SHADOW_COST_E3 d k) = bits (nth ws k) 24 6) ∧
  (∀ ws, c.opc = 0x12 → bit c.arg0 8 = true → c.arg0 % 256 ≠ 0 → Completes (.costLoad q ws true) s fun t =>
    t.queue[q].work = some (.swap (c.arg0 % 256)) ∧
    t.rd R.ADM_COST_SWAP_DIE = (s.rd R.ADM_COST_SWAP_DIE ||| c.arg0 % 256) % 256) ∧
  (c.opc = 0x20 → c.arg0 = 1 → s.on R.BUD_JOB_CTL_RUNNING = false → Completes (.jobCmdStart q) s fun t =>
    Only [R.BUD_JOB_ID_ID, R.BUD_JOB_CTL_START] s t (s.modQueue q fun x => { x with work := some .jobStart }) ∧
    t.rd R.BUD_JOB_ID_ID = c.arg1 % 2 ^ 32 ∧ t.rd R.BUD_JOB_CTL_START = 1) ∧
  (c.opc = 0x20 → c.arg0 = 1 → s.on R.BUD_JOB_CTL_RUNNING = true → Completes (.jobCmdStart q) s fun t =>
    Ended q c h stRejected 0 0 t ∧ t.rd R.BUD_JOB_CTL_ERR = 1) ∧
  (c.opc = 0x20 → c.arg0 = 2 → s.on R.BUD_JOB_CTL_RUNNING = true → Completes (.jobCmdStop q) s fun t =>
    Only [R.BUD_JOB_CTL_STOP] s t (s.modQueue q fun x => { x with work := some .jobStop }) ∧ t.rd R.BUD_JOB_CTL_STOP = 1) ∧
  (c.opc = 0x20 → c.arg0 = 2 → s.on R.BUD_JOB_CTL_RUNNING = false → Completes (.jobCmdStop q) s fun t =>
    Ended q c h stRejected 0 0 t ∧ t.rd R.BUD_JOB_CTL_ERR = 1) ∧
  (∀ (ws : List Nat) (k : Mbx), c.opc = 0x30 → k = (if c.arg0 = 1 then 1 else 2) →
    ((s.go k = true ∨ s.mgt.mbx[k].held.isSome = true) → Completes (.msg q ws .good) s fun t =>
      t = s.modQueue q fun x => { x with work := some (.msgWait k ws (s.now + 100000000) true) }) ∧
    (s.go k = false → s.mgt.mbx[k].held = none → bits (nth ws 0) 4 4 = 3 → 2 ≤ ws.length →
      Completes (.msg q ws .badReply) s fun t =>
      t.queue[q].work = some (.msgSent k (s.now + 100000000) false) ∧ t.mgt.mbx[k].held = some q ∧ t.go k = true ∧
      t.rd (R.MBX_STS_QUEUE k) = 1 ∧ t.mbxWord k 1 = nth ws 1 % 2 ^ 32)) ∧
  (∀ l, c.opc = 0x40 → l = s.recordsFrom c.arg0 c.arg1 → Completes (.recRead q true) s fun t =>
    Ended q c h (if l.length < c.arg1 then stPartial else stSuccess) 0 l.length t ∧ t.regs = s.regs ∧
    t.out = s.out ++ [.hostWrite q c.addr (l.flatMap fun r => wordsOf r.bytes)]) ∧
  (c.opc = 0x50 → Completes (.meterRead q true) s fun t =>
    Ended q c h 0 0 672 t ∧ t.regs = s.regs ∧
    t.out = s.out ++ [.hostWrite q c.addr (if s.mtr.powered
      then (List.range 56).map (fun j => s.rd (R.MTR_READING_WORD j)) ++ s.newestStamp 1 ++ s.newestStamp 2
      else List.replicate 168 0)]) ∧
  ((∀ offs, c.opc = 0x01 → Completes (.snapshot q offs false) s fun t => Ended q c h stHostFault 0 0 t ∧ t.regs = s.regs) ∧
    (∀ l, c.opc = 0x02 → Completes (.writeSet q l false) s fun t => Ended q c h stHostFault 0 0 t ∧ t.regs = s.regs) ∧
    (c.opc = 0x10 → Completes (.ltRead q false) s fun t => Ended q c h stHostFault 0 0 t ∧ t.regs = s.regs) ∧
    (∀ l, c.opc = 0x11 → Completes (.ltWrite q l false) s fun t => Ended q c h stHostFault 0 0 t ∧ t.regs = s.regs) ∧
    (∀ l, c.opc = 0x12 → Completes (.costLoad q l false) s fun t => Ended q c h stHostFault 0 0 t ∧ t.regs = s.regs) ∧
    (∀ l, c.opc = 0x30 → Completes (.msg q l .badRequest) s fun t => Ended q c h stHostFault 0 0 t ∧ t.regs = s.regs) ∧
    (c.opc = 0x40 → Completes (.recRead q false) s fun t => Ended q c h stHostFault 0 0 t ∧ t.regs = s.regs) ∧
    (c.opc = 0x50 → Completes (.meterRead q false) s fun t => Ended q c h stHostFault 0 0 t ∧ t.regs = s.regs))

/-- The Seams (R490–R495): TRAIN flits settle the width both sides offer, or narrow it with an event, to one lane at the
third disagreement; training ends up or failed, and three failures in a row make the Seam dead and fence its die; a Seam
goes down on silence or on failing flits and trains again, as it does every 10 µs and on RETRAIN; a side sends a flit when
idle; a flit that fails its CRC is answered and replayed; and MIN_VER sets the safe tier. -/
def Obligations.SeamCommands : Prop := ∀ (s : State) (x : Sat), s.live = true →
  (∀ v feat type gBad sBad start gm sm : Nat, s.seam[x].training = some start →
    gm = s.seam[x].gMarks - (s.seam[x].gMarks &&& gBad &&& s.seam[x].only) →
    sm = s.seam[x].sMarks - (s.seam[x].sMarks &&& sBad &&& s.seam[x].only) →
    (∀ w, State.widest (gm &&& s.seam[x].only) = w → State.widest (sm &&& s.seam[x].only) = w → w ≠ 0 →
      Completes (.trainFlit x v feat type gBad sBad) s fun t =>
        t = s.modSeam x fun q => { q with gMarks := gm, sMarks := sm, agreed := some ⟨w, v, feat, type⟩ }) ∧
    (State.widest (gm &&& s.seam[x].only) ≠ State.widest (sm &&& s.seam[x].only) → State.widest (gm &&& sm) = 0 →
      Completes (.trainFlit x v feat type gBad sBad) s fun t =>
        t = s.modSeam x fun q => { q with gMarks := gm, sMarks := sm, agreed := none, only := 0 }) ∧
    (State.widest (gm &&& s.seam[x].only) ≠ State.widest (sm &&& s.seam[x].only) → State.widest (gm &&& sm) ≠ 0 →
      s.rd (R.ADM_SEAM_CTL_DISAGREE x) < 2 → s.on (R.ADM_SEAM_STS_ONE_LANE x) = false →
      Completes (.trainFlit x v feat type gBad sBad) s fun t =>
        Only [R.ADM_SEAM_CTL_DISAGREE x] s t ((s.modSeam x fun q => { q with
          gMarks := gm, sMarks := sm, agreed := none, only := State.widest (gm &&& sm), training := some s.now }).raise
          Ev.SEAM_WIDTH x) ∧
        t.rd (R.ADM_SEAM_CTL_DISAGREE x) = s.rd (R.ADM_SEAM_CTL_DISAGREE x) + 1) ∧
    (State.widest (gm &&& s.seam[x].only) ≠ State.widest (sm &&& s.seam[x].only) → State.widest (gm &&& sm) ≠ 0 →
      2 ≤ s.rd (R.ADM_SEAM_CTL_DISAGREE x) → s.on (R.ADM_SEAM_STS_ONE_LANE x) = false →
      Completes (.trainFlit x v feat type gBad sBad) s fun t =>
        Only [R.ADM_SEAM_CTL_DISAGREE x, R.ADM_SEAM_STS_ONE_LANE x] s t (((s.modSeam x fun q => { q with
          gMarks := gm, sMarks := sm, agreed := none, only := State.lowLane (gm &&& sm), training := some s.now }).raise
          Ev.SEAM_WIDTH x).raise Ev.SEAM_ONE_LANE x) ∧
        t.rd (R.ADM_SEAM_CTL_DISAGREE x) = 3 ∧ t.rd (R.ADM_SEAM_STS_ONE_LANE x) = 1) ∧
    (State.widest (gm &&& s.seam[x].only) ≠ State.widest (sm &&& s.seam[x].only) → State.widest (gm &&& sm) ≠ 0 →
      s.on (R.ADM_SEAM_STS_ONE_LANE x) = true →
      Completes (.trainFlit x v feat type gBad sBad) s fun t =>
        Only [R.ADM_SEAM_CTL_DISAGREE x] s t ((s.modSeam x fun q => { q with
          gMarks := gm, sMarks := sm, agreed := none, only := State.lowLane (gm &&& sm), training := some s.now }).raise
          Ev.SEAM_WIDTH x))) ∧
  (∀ (a : Trained) (raw start : Nat), s.seam[x].training = some start → s.seam[x].agreed = some a → raw ≤ 40 →
    Completes (.seamTrainingEnd x raw) s fun t =>
      t.rd (R.ADM_SEAM_STS_UP x) = 1 ∧ t.rd (R.ADM_SEAM_STS_WIDTH x) = State.widthCode a.lanes ∧
      t.rd (R.ADM_SEAM_STS_FEAT x) = a.feat &&& 0x0F ∧ t.rd (R.ADM_SEAM_CTL_DISAGREE x) = 0 ∧ t.seam[x].training = none ∧
      t.seam[x].failed = 0 ∧ t.seam[x].ver = a.ver ∧ t.seam[x].copy = some s.cyc ∧ t.seam[x].copyAt = s.now ∧
      ∀ d : Die, x = d.sat → t.rd (R.ADM_DIE_STATUS_SEAM_HOLD d) = 0 ∧
        t.safeTier d = (decide (a.ver < s.rd R.ADM_SEAM_CFG_MIN_VER) || decide (a.ver / 16 ≠ 2))) ∧
  (∀ (raw start : Nat), s.seam[x].training = some start → (40 < raw ∨ s.seam[x].agreed = none) → s.seam[x].failed < 2 →
    Completes (.seamTrainingEnd x raw) s fun t =>
      t = (((s.count (R.ADM_SEAM_CNT_TRAIN_COUNT x)).wr (R.ADM_SEAM_CTL_RAW x) (sat 6 raw)).flag (R.ADM_SEAM_CTL_RETRAIN x)
        false).modSeam x fun q => { q with training := none, agreed := none, failed := q.failed + 1 }) ∧
  (∀ (raw start : Nat), s.seam[x].training = some start → (40 < raw ∨ s.seam[x].agreed = none) → s.seam[x].failed = 2 →
    s.on (R.ADM_SEAM_STS_DEAD x) = false →
    Completes (.seamTrainingEnd x raw) s fun t =>
      t.rd (R.ADM_SEAM_STS_DEAD x) = 1 ∧ { code := Ev.SEAM_DEAD, unit := x, detail := 0, body := [] } ∈ t.raised ∧
      ∀ d : Die, x = d.sat → t.fenced d = true ∧ t.rd (R.ADM_SEAM_CTL_CAUSE d) = 5) ∧
  (∀ silent, s.seamUp x = true → (silent = true ∨ s.failing x = true) →
    Completes (.seamDown x silent) s fun t =>
      t.rd (R.ADM_SEAM_STS_UP x) = 0 ∧ t.rd (R.ADM_SEAM_STS_WIDTH x) = 0 ∧ t.seam[x].training = some s.now ∧
      t.seam[x].flits = [] ∧ t.seam[x].nextTry = s.now + 10000 ∧ t.now = s.now ∧
      ∀ d : Die, x = d.sat → t.rd (R.ADM_DIE_STATUS_SEAM_HOLD d) = 1 ∧ t.adm[d].pend = none ∧ t.adm[d].act = none ∧
        t.adm[d].cmdPool = s.adm[d].cmdPool ∧ t.clkDie[d] = s.clkDie[d]) ∧
  (s.failing x = false → Completes (.seamDown x false) s fun t => t = s) ∧
  (s.seamUp x = false → s.seam[x].training = none → s.powered x = true → s.on (R.ADM_SEAM_STS_DEAD x) = false →
    Completes (.seamRetrainTimer x) s fun t => t = (s.advance s.seam[x].nextTry).startTraining x ∧
      t.now = max s.now s.seam[x].nextTry ∧ t.seam[x].training = some t.now ∧ t.seam[x].agreed = none ∧
      t.seam[x].nextTry = t.now + 10000) ∧
  (s.seamUp x = true →
    (Completes (.seamIdleSend x true) s fun t =>
      t = ((s.advance (s.seam[x].gSent + 100)).keepFlit x true .idle).emit (.seamIdle x true) ∧
      t.seam[x].gSent = max s.now (s.seam[x].gSent + 100)) ∧
    (Completes (.seamIdleSend x false) s fun t =>
      t.now = max s.now (s.seam[x].sSent + 100) ∧ t.seam[x].sSent = t.now ∧ t.out = s.out ++ [.seamIdle x false] ∧
      t.regs = s.regs) ∧
    (∀ (n : Nak) (e : KeptFlit), ((State.bufOf s.seam[x] n.governor).find? fun y => y.num == n.num) = some e →
      Completes (.seamNak x n) s fun t => t.out = s.out ++ [.seamReplay x n] ∧ RegsBut [R.ADM_SEAM_CNT_RETRY_COUNT x] s t ∧
      t.rd (R.ADM_SEAM_CNT_RETRY_COUNT x) = (if s.frozen then s.rd (R.ADM_SEAM_CNT_RETRY_COUNT x)
        else (s.rd (R.ADM_SEAM_CNT_RETRY_COUNT x) + 1) % 2 ^ (R.ADM_SEAM_CNT_RETRY_COUNT x).w)) ∧
    (∀ (n : Nak) (e : KeptFlit) (g : SeamFlit), n.governor = true → (s.seam[x].gBuf.find? fun y => y.num == n.num) = some e →
      e.lost = true → e.load = .cmd g → Completes (.seamNak x n) s fun t =>
        ∃ y ∈ t.seam[x].flits, y.cmd = g.cmd ∧ y.id = g.id ∧ g.sent ≤ y.sent ∧ y.sent ≤ g.sent + 20) ∧
    (∀ n : Nak, ((State.bufOf s.seam[x] n.governor).find? fun y => y.num == n.num) = none →
      Completes (.seamNak x n) s fun t => t = s) ∧
    (∀ f : Flit, f.crc = State.flitCrc f.header f.payload → Completes (.flitCrcFail x f) s fun t => t = s) ∧
    (∀ f : Flit, f.crc ≠ State.flitCrc f.header f.payload → Completes (.flitCrcFail x f) s fun t =>
      t.seam[x].fails = ((f.governor, s.now) :: s.seam[x].fails).take 16 ∧ t.out = s.out ++ [.seamNak x ⟨!f.governor, f.num⟩] ∧
      t.regs = s.regs ∧ t.now = s.now) ∧
    (∀ (f : Flit) (e : KeptFlit) (g : SeamFlit), f.crc ≠ State.flitCrc f.header f.payload → f.governor = false →
      (s.seam[x].gBuf.find? fun y => y.num == f.num) = some e → e.load = .cmd g → g ∈ s.seam[x].flits →
      Completes (.flitCrcFail x f) s fun t => t.seam[x].flits = s.seam[x].flits.erase g)) ∧
  (Completes (.seamRetrainWrite x) s fun t =>
    t.rd (R.ADM_SEAM_STS_UP x) = 0 ∧ t.seam[x].training = some s.now ∧ t.seam[x].gMarks = 15 ∧ t.seam[x].sMarks = 15 ∧
    t.seam[x].failed = 0 ∧ t.seam[x].only = 15 ∧ t.rd (R.ADM_SEAM_CTL_DISAGREE x) = 0 ∧ t.rd (R.ADM_SEAM_STS_ONE_LANE x) = 0 ∧
    t.rd (R.ADM_SEAM_STS_DEAD x) = 0 ∧ t.rd (R.ADM_SEAM_CTL_RETRAIN x) = 1) ∧
  (∀ v, s.on R.GLB_GOV_CTL_ENABLE = false →
    Completes (.minVerWrite v) s fun t =>
      t = (s.wr R.ADM_SEAM_CFG_MIN_VER v).each sats (fun x s => if s.seamUp x then s.evalSafe x else s) ∧
      t.rd R.ADM_SEAM_CFG_MIN_VER = v % 2 ^ R.ADM_SEAM_CFG_MIN_VER.w ∧
      ∀ d : Die, s.seamUp d.sat = true → t.safeTier d =
        (decide (s.seam[d.sat].ver < v % 2 ^ R.ADM_SEAM_CFG_MIN_VER.w) || decide (s.seam[d.sat].ver / 16 ≠ 2))) ∧
  (∀ v, s.on R.GLB_GOV_CTL_ENABLE = true → Completes (.minVerWrite v) s fun t => t = s)

/-- The fence (R23, R496–R498): REQ fences each die newly asked: every site held, nothing granted, the pool asked 0, hints
dropped and the loop's target at 550 mV at most; LIFT ends the fence of a die for which no cause holds and shows the lowest
cause where one does. -/
def Obligations.FenceCommands : Prop := ∀ s : State, s.live = true →
  (∀ mask, Completes (.fenceRequest mask) s fun t =>
    t = (s.wr R.ADM_FENCE_REQ mask).each dies (fun d u =>
      if bit mask d && !bit (s.rd R.ADM_FENCE_REQ) d then u.fence d 1 else u) ∧
    t.rd R.ADM_FENCE_REQ = mask % 2 ^ R.ADM_FENCE_REQ.w ∧
    (∀ d : Die, bit mask d = true → bit (s.rd R.ADM_FENCE_REQ) d = false →
      t.fenced d = true ∧ t.rd (R.ADM_SEAM_CTL_CAUSE d) = 1 ∧
      (s.fenced d = false → t.rd (R.ADM_DIE_STATUS_FENCED d) = 1 ∧ t.poolAsked d = 0 ∧
        t.rd (R.ADM_DIE_STROKE_GRANTED d) = 0 ∧ t.adm[d].issued = [] ∧ t.adm[d].chosen = [] ∧
        (∀ x, x < 576 → x ∈ t.adm[d].held) ∧ t.adm[d].pend = none ∧ t.adm[d].act = none ∧
        t.rd (R.RGC_L_TGT_TARGET d.loop) = 550 ∧ Out.fenceLine d true ∈ t.out ∧
        { code := Ev.DIE_FENCED, unit := d, detail := 1, body := [] } ∈ t.raised)) ∧
    (∀ d : Die, s.fenced d = true → t.fenced d = true) ∧
    ∀ d : Die, s.fenced d = false → (bit mask d = false ∨ bit (s.rd R.ADM_FENCE_REQ) d = true) → t.fenced d = false) ∧
  (∀ (d : Die) (c : Nat), s.fenced d = true → s.fenceCause d = some c →
    Completes (.fenceLift (2 ^ d.val)) s fun t => t = s.wr (R.ADM_SEAM_CTL_CAUSE d) c) ∧
  (∀ d : Die, s.fenced d = false → Completes (.fenceLift (2 ^ d.val)) s fun t => t = s) ∧
  (∀ d : Die, s.fenced d = true → s.fenceCause d = none →
    Completes (.fenceLift (2 ^ d.val)) s fun t =>
      t.fenced d = false ∧ t.rd (R.ADM_DIE_STATUS_FENCED d) = 0 ∧ t.rd (R.RGC_L_FAULT_FENCED d) = 0 ∧
      Out.fenceLine d false ∈ t.out ∧
      t.raised.getLast? = some { code := Ev.DIE_FENCE_LIFTED, unit := d, detail := 0, body := [] } ∧
      t.adm[d].run = none ∧ t.adm[d].storm = none ∧ t.seam[d.sat].sMarks = 15 ∧ t.clkDie[d].cmdRatio = 6 ∧
      t.rd (R.ADM_DIE_STATUS_POOL d) = 0 ∧ t.rd (R.ADM_DIE_RAMP_START d) = 0 ∧
      (s.adm[d].causes = 0 → s.on (R.ADM_DIE_STATUS_CUFF d) = false → t.adm[d].held = []) ∧
      (s.adm[d].causes = 0 → s.on (R.ADM_DIE_STATUS_CUFF d) = true → t.adm[d].held = s.adm[d].held))

/-- The regulator in time (R170, R171, R173–R176, R178, R195): an alignment edge samples every loop, and one that stands at
its target takes the regulation law of R176; a switching cycle takes the phases' mean currents and lays out the pulses of
the next; the firing rotation; the lock to SYNC_IN with its loss and return; and APPLY. -/
def Obligations.RegulatorTiming : Prop := ∀ s : State, s.rgcOn = true →
  (∀ ms : List LoopSample, ms.length = 16 →
    Completes (.alignmentEdge ms) s fun t =>
      t.now = 20 * max s.alignIdx (cdiv s.now 20) ∧ t.alignIdx = max s.alignIdx (cdiv s.now 20) + 1 ∧
      ∀ l : Loop, ∀ m, ms[l.val]? = some m →
        t.loop[l].iTot = s.total l m.cs ∧ t.loop[l].vSense = s.vInUse l (s.readLoop l m) ∧
        (s.switches l = true → s.mode l ≠ 1 → s.loop[l].down = false → s.loop[l].sinkHold = false →
          s.loop[l].pre = none → s.loop[l].vofs = 0 → s.loop[l].ffLeft = 0 →
          s.loop[l].vref = 1000 * s.rd (R.RGC_L_TGT_TARGET l) →
          let e := State.clampInt (-256) 256 (((s.loop[l].vref : Int) - s.loop[l].cfg.ll * s.total l m.cs / 16 -
            s.vInUse l (s.readLoop l m)) / 250)
          t.loop[l].iInt = State.clampInt (-(s.loop[l].cfg.sinkMax * s.nRot l * 16384 : Nat))
            (1280 * s.rd (R.BUD_RAIL_LIM_LIMIT l)) (s.loop[l].iInt + s.loop[l].cfg.ki * e) ∧
          t.loop[l].iCmd = 16 * s.loop[l].cfg.kp * e + t.loop[l].iInt + 16 * s.loop[l].cfg.kd * (e - s.loop[l].ePrev) ∧
          t.loop[l].ePrev = e ∧ t.loop[l].vref = s.loop[l].vref)) ∧
  (∀ (l : Loop) (obs : List PhaseObs) (u : State), s.switches l = true → u = (s.cycleEdge l).cycleEnd l obs →
    u.switches l = true →
    Completes (.switchingCycle l obs) s fun t =>
      t = u.cycleStart l ∧ t.now = u.now ∧ t.loop[l].cycEdge = u.loop[l].cycEdge ∧ t.loop[l].cyclePs = t.inRot l ∧
      (u.loop[l].resp = none → t.rd (R.RGC_L_APPLY_APPLY l) = 0) ∧
      (u.loop[l].resp = none → u.loop[l].skip0 = false → t.inRot l ≠ [] →
        t.out.getLast? = some (.fire l t.loop[l].slots) ∧
        (t.loop[l].slots.filter fun f => f.cycle == t.loop[l].cycEdge.getD 0).map (·.phase) = t.inRot l)) ∧
  (∀ (l : Loop) (p : Phase) (o : PhaseObs), s.switches l = true → s.loop[l].cyclePs = [p] → (s.inRot l).contains p = true →
    Completes (.switchingCycle l [o]) s fun t => t.loop[l].phases[p].iavg = s.sensed l p o.cs ∧
      (s.frozen = false → t.rd (R.RGC_PH_STS_IAVG l p) = unsigned 16 (s.sensed l p o.cs) % 2 ^ (R.RGC_PH_STS_IAVG l p).w)) ∧
  (∀ l : Loop, s.drives l = true → s.on (R.RGC_L_CFG_ROT_EN l) = true → 2 ≤ s.nRot l → 64 ≤ s.loop[l].cycles →
    s.loop[l].resp = none →
    Completes (.firingRotation l) s fun t =>
      Only [R.RGC_L_STATUS_ROT l] s t (s.modLoop l fun L => { L with cycles := 0, skip0 := true }) ∧
      t.rd (R.RGC_L_STATUS_ROT l) = (s.rd (R.RGC_L_STATUS_ROT l) + 1) % s.nRot l % 16) ∧
  (∀ q : SyncRun, s.on R.RGC_SW_CTL_SRC = true → s.on R.RGC_SW_STATUS_SYNC_HOLD = false →
    16 ≤ q.n → 250000 ≤ q.lo → q.hi ≤ 1000000 → 100 * q.hi ≤ 101 * q.lo →
    Completes (.syncLock q) s fun t =>
      RegsBut [R.RGC_SW_STATUS_REF_NOW, R.RGC_SW_STATUS_SYNC_LOCK, R.RGC_SW_STATUS_SYNC_KHZ] s t ∧
      t.rd R.RGC_SW_STATUS_REF_NOW = 1 ∧ t.rd R.RGC_SW_STATUS_SYNC_LOCK = (if q.off.natAbs ≤ 240 then 1 else 0) ∧
      t.rd R.RGC_SW_STATUS_SYNC_KHZ = min (1000000000 / max 1 q.ps) 4095 ∧
      t.rgc.syncPs = q.ps ∧ t.rgc.slip = 1000 * q.off ∧ t.loop = s.loop ∧ t.now = s.now) ∧
  (∀ q : SyncRun, (s.on R.RGC_SW_CTL_SRC = false ∨ q.n < 16 ∨ q.lo < 250000 ∨ 1000000 < q.hi ∨ 101 * q.lo < 100 * q.hi) →
    Completes (.syncLock q) s fun t => Only [R.RGC_SW_STATUS_SYNC_KHZ] s t s ∧
      t.rd R.RGC_SW_STATUS_SYNC_KHZ = min (1000000000 / max 1 q.ps) 4095) ∧
  (s.on R.RGC_SW_STATUS_REF_NOW = true →
    Completes .syncInLoss s fun t =>
      RegsBut [R.RGC_SW_STATUS_SYNC_HOLD, R.RGC_SW_STATUS_SYNC_LOCK, R.RGC_SW_STATUS_REF_NOW, R.RGC_SW_STATUS_SYNC_KHZ] s t ∧
      t.rd R.RGC_SW_STATUS_SYNC_HOLD = 1 ∧ t.rd R.RGC_SW_STATUS_SYNC_LOCK = 0 ∧ t.rd R.RGC_SW_STATUS_REF_NOW = 0 ∧
      t.rd R.RGC_SW_STATUS_SYNC_KHZ = 0 ∧ t.rgc.syncPs = s.rgc.syncPs ∧ t.rgc.slip = 0 ∧ t.loop = s.loop ∧
      t.raised = s.raised ++ [{ code := Ev.RGC_SYNC_LOST, unit := 0xFFFF, detail := 0, body := [] }]) ∧
  (∀ q : SyncRun, s.on R.RGC_SW_STATUS_SYNC_HOLD = true → 1024 ≤ q.n → 99 * s.rgc.syncPs ≤ 100 * q.lo →
    100 * q.hi ≤ 101 * s.rgc.syncPs →
    Completes (.syncReturn q) s fun t =>
      t.rd R.RGC_SW_STATUS_SYNC_HOLD = 0 ∧ t.rd R.RGC_SW_STATUS_REF_NOW = 1 ∧
      t.rd R.RGC_SW_STATUS_SYNC_LOCK = (if q.off.natAbs ≤ 240 then 1 else 0) ∧
      t.rd R.RGC_SW_STATUS_SYNC_KHZ = min (1000000000 / max 1 q.ps) 4095 ∧
      t.rgc.syncPs = q.ps ∧ t.rgc.slip = 1000 * q.off ∧ t.loop = s.loop ∧
      t.raised = s.raised ++ [{ code := Ev.RGC_SYNC_RESTORED, unit := 0xFFFF, detail := 0, body := [] }]) ∧
  (∀ l : Loop, Completes (.loopApply l) s fun t => Only [R.RGC_L_APPLY_APPLY l] s t s ∧ t.rd (R.RGC_L_APPLY_APPLY l) = 1)

/-- The responses to transients and the Cuff causes (R73, R179–R181, R185, R193): an undershoot drives every phase in
rotation HIGH and starts the feed-forward of a pre-armed loop; an overshoot takes them to MID; each ends 10 ns after the
output is back, or at its limit; and a cause that has come or gone by its own condition is sent to the satellite. -/
def Obligations.TransientCommands : Prop := ∀ s : State, s.rgcOn = true →
  (∀ (l : Loop) (v : Nat) (low : List Nat), s.switches l = true → s.on (R.RGC_L_CFG_NL_EN l) = true →
    (v + s.underTh l < s.loop[l].vref → s.loop[l].blockU = false → (s.loop[l].resp.map (·.1)) ≠ some true →
      Completes (.undershootCrossing l v low) s fun t =>
        t.loop[l].resp = some (true, s.now) ∧ t.loop[l].respCycle = true ∧ t.now = s.now ∧
        (s.mode l ≠ 1 → t.mode l = 3) ∧ (s.mode l = 1 → t.mode l = 1) ∧
        (∀ p ∈ s.inRot l, t.loop[l].phases[p].level = 2) ∧
        (s.frozen = false → t.rd (R.RGC_L_CNT_ALLPH_COUNT l) =
          (s.rd (R.RGC_L_CNT_ALLPH_COUNT l) + 1) % 2 ^ (R.RGC_L_CNT_ALLPH_COUNT l).w) ∧
        (s.loop[l].pre = none → t.loop[l].ffLeft = s.loop[l].ffLeft) ∧
        (s.loop[l].pre ≠ none → t.loop[l].ffLeft =
          (signed 16 (s.rd (R.RGC_L_STEP_DI l)) * 1024 * s.rd R.RGC_PREARM_FF_PCT / 100).toNat) ∧
        ((Ev.RGC_ALLPH_UNDER, l.val) ∉ s.once → t.raised = s.raised ++
          [{ code := Ev.RGC_ALLPH_UNDER, unit := l, detail := 0, body := [] }])) ∧
    (s.loop[l].vref ≤ v + s.underTh l → Completes (.undershootCrossing l v low) s fun t => t = s) ∧
    (s.loop[l].vref + s.overTh l < v → s.loop[l].blockO = false → (s.loop[l].resp.map (·.1)) ≠ some false →
      Completes (.overshootCrossing l v low) s fun t =>
        t.loop[l].resp = some (false, s.now) ∧ t.loop[l].respCycle = true ∧ t.now = s.now ∧
        (s.mode l ≠ 1 → t.mode l = 4) ∧ (s.mode l = 1 → t.mode l = 1) ∧
        (∀ p ∈ s.inRot l, t.loop[l].phases[p].level = 0) ∧
        (s.frozen = false → t.rd (R.RGC_L_CNT_BRAKE_COUNT l) =
          (s.rd (R.RGC_L_CNT_BRAKE_COUNT l) + 1) % 2 ^ (R.RGC_L_CNT_BRAKE_COUNT l).w) ∧
        ((Ev.RGC_ALLPH_OVER, l.val) ∉ s.once → t.raised = s.raised ++
          [{ code := Ev.RGC_ALLPH_OVER, unit := l, detail := 0, body := [] }])) ∧
    (v ≤ s.loop[l].vref + s.overTh l → Completes (.overshootCrossing l v low) s fun t => t = s)) ∧
  (∀ (l : Loop) (v : Nat) (cs : List Int) (at_ : Nat), s.loop[l].resp = some (true, at_) →
    Completes (.undershootEnd l v cs) s fun t =>
      t.loop[l].resp = none ∧ t.loop[l].iInt = s.total l cs * 1024 ∧ t.loop[l].blockU = true ∧ t.loop[l].bandRun = 0 ∧
      (∀ p ∈ s.inRot l, t.loop[l].phases[p].level = 1) ∧
      t.now = max s.now (if s.loop[l].vref < v + 1000 * s.loop[l].cfg.nlRel
        then min (s.now + 10) (at_ + 10 * s.loop[l].cfg.maxOn) else at_ + 10 * s.loop[l].cfg.maxOn) ∧
      (s.mode l ≠ 1 → t.mode l = 2)) ∧
  (∀ (l : Loop) (v at_ : Nat), s.loop[l].resp = some (false, at_) →
    Completes (.brakeEnd l v) s fun t =>
      t.loop[l].resp = none ∧ t.loop[l].blockO = true ∧ t.loop[l].bandRun = 0 ∧ t.loop[l].iInt = s.loop[l].iInt ∧
      t.now = max s.now (if v < s.loop[l].vref + 1000 * s.loop[l].cfg.nlRel
        then min (s.now + 10) (at_ + 10 * s.loop[l].cfg.ovMax) else at_ + 10 * s.loop[l].cfg.ovMax) ∧
      (s.mode l ≠ 1 → t.mode l = 2)) ∧
  (∀ (l : Loop) (c : CuffCause) (b : Bool), l.val < 8 → c ≠ .droop → s.cuffHolds l c b = true → bit s.loop[l].cuff c.bit ≠ b →
    Completes (.rgcCuffCause l c b) s fun t =>
      t.loop[l].cuff = withBit s.loop[l].cuff c.bit b ∧ t.now = s.now ∧ t.raised = s.raised ∧
      RegsBut [R.RGC_L_STATUS_FF l] s t ∧
      (b = true → t.loop[l].ffLeft = 0 ∧ t.rd (R.RGC_L_STATUS_FF l) = 0) ∧
      (s.vcl[State.satOf l].rgc.up = true →
        [Out.vcl (State.satOf l) .rgc (t.cuffNow l), .vcl (State.satOf l) .rgc (t.cuffNow l)] <+: t.out.drop s.out.length)) ∧
  (∀ (l : Loop) (c : CuffCause) (b : Bool), s.cuffHolds l c b = false → Completes (.rgcCuffCause l c b) s fun t => t = s)

/-- Announced load steps and the pre-arm of a loop (R182–R187): an announcement on its way from the governor arrives and
shows in STEP; a fall arms the loop for release in its window and the next; a rise of MIN_A or more pre-arms the loop; the
raised reference, once held, sends PREARM; PA_MAX, or a release on its way, ends it. -/
def Obligations.PreArmCommands : Prop := ∀ s : State, s.rgcOn = true →
  (∀ (l : Loop) (di : Int) (rate win : Nat) (e : Nat × BusMsg), l.val < 8 →
    (s.bus.find? fun x => x.2 == .loadStep l di rate win) = some e →
    (Completes (.loadStepAnnounce l di rate win) s fun t =>
      t.now = max s.now e.1 ∧ t.bus = s.bus.erase e ∧ t.rd (R.RGC_L_STEP_DI l) = unsigned 16 di % 2 ^ (R.RGC_L_STEP_DI l).w ∧
      t.rd (R.RGC_L_STEP_RATE l) = sat 8 rate % 2 ^ (R.RGC_L_STEP_RATE l).w ∧
      t.rd (R.RGC_L_STEP_WIN l) = win % 2 ^ (R.RGC_L_STEP_WIN l).w) ∧
    (di < 0 → Completes (.loadStepAnnounce l di rate win) s fun t =>
      RegsBut [R.RGC_L_STEP_DI l, R.RGC_L_STEP_RATE l, R.RGC_L_STEP_WIN l, R.RGC_L_STATUS_REL_ARM l] s t ∧
      t.rd (R.RGC_L_STATUS_REL_ARM l) = (if win ≤ s.window ∧ s.window < win + 2 then 1 else 0) ∧
      t.loop[l].relFrom = if win + 2 ≤ s.window then none else some win) ∧
    (0 ≤ di → di < (16 * s.rd R.RGC_PREARM_MIN_A : Nat) → Completes (.loadStepAnnounce l di rate win) s fun t =>
      Only [R.RGC_L_STEP_DI l, R.RGC_L_STEP_RATE l, R.RGC_L_STEP_WIN l] s t { s.advance e.1 with bus := s.bus.erase e }) ∧
    (0 ≤ di → (16 * s.rd R.RGC_PREARM_MIN_A : Nat) ≤ di → s.vcl[State.satOf l].rgc.up = true → s.regulates l = true →
      s.loop[l].down = false → s.loop[l].pre = none → Completes (.loadStepAnnounce l di rate win) s fun t =>
        t.rd (R.RGC_L_TGT_PREARMED l) = 1 ∧ t.loop[l].pre = some { offs := 1000 * s.rd R.RGC_PREARM_PA_MV } ∧
        t.loop[l].okRun = 0) ∧
    (∀ (p : PreArm) (x : Nat), 0 ≤ di → (16 * s.rd R.RGC_PREARM_MIN_A : Nat) ≤ di → s.vcl[State.satOf l].rgc.up = true →
      s.regulates l = true → s.loop[l].down = false → s.loop[l].pre = some p → p.sent = some x →
      Completes (.loadStepAnnounce l di rate win) s fun t =>
        t.loop[l].pre = some { p with sent := some t.now } ∧
        .vcl (State.satOf l) .rgc (VclFrame.make 0xA 0 l 1 0) ∈ t.out)) ∧
  (∀ (l : Loop) (p : PreArm), s.loop[l].pre = some p → p.sent = none → s.rd R.RGC_VCL_CFG_ACK_N ≤ s.loop[l].okRun →
    s.atTarget l = true → Completes (.prearmReached l) s fun t =>
      t = ((s.modLoop l fun L => { L with pre := some { p with sent := some s.now } }).count
        (R.RGC_L_CNT_PREARM_COUNT l)).sendPreArm l true ∧
      t.loop[l].pre = some { p with sent := some s.now } ∧
      (s.vcl[State.satOf l].rgc.up = true → t.out = s.out ++ [.vcl (State.satOf l) .rgc (VclFrame.make 0xA 0 l 1 0)])) ∧
  (∀ (l : Loop) (p : PreArm) (x : Nat), s.loop[l].pre = some p → p.sent = some x →
    Completes (.prearmExpiry l) s fun t =>
      t = ((s.advance (x + 1000 * s.rd R.RGC_VCL_CFG_PA_MAX)).endPreArm l).raise Ev.RGC_PREARM_EXPIRED l ∧
      t.loop[l].pre = none ∧ t.rd (R.RGC_L_TGT_PREARMED l) = 0 ∧ t.now = max s.now (x + 1000 * s.rd R.RGC_VCL_CFG_PA_MAX) ∧
      t.raised = s.raised ++ [{ code := Ev.RGC_PREARM_EXPIRED, unit := l, detail := 0, body := [] }] ∧
      (s.vcl[State.satOf l].rgc.up = true → t.out = s.out ++ [.vcl (State.satOf l) .rgc (VclFrame.make 0xA 0 l 0 0)])) ∧
  (∀ (l : Loop) (e : Nat × BusMsg), (s.bus.find? fun x => x.2 == .release l) = some e → s.loop[l].pre ≠ none →
    Completes (.prearmRelease l) s fun t =>
      t.now = max s.now e.1 ∧ t.bus = s.bus.erase e ∧ t.loop[l].pre = none ∧ t.rd (R.RGC_L_TGT_PREARMED l) = 0 ∧
      t.rd (R.RGC_L_STATUS_FF l) = 0 ∧ t.loop[l].ffLeft = 0) ∧
  (∀ l : Loop, (∀ x ∈ s.bus, x.2 ≠ .release l) → Completes (.prearmRelease l) s fun t => t = s)

/-- The power-up and power-down sequences (R202–R209, R235): ON and OFF, soft start, power-good, shorts in soft start with
their retries and the latch that halts the sequence, PARK, and a loop's ramp-down. Where a clause rests on a choice of the
model, log 29 names it. -/
def Obligations.SequenceCommands : Prop := ∀ s : State, s.rgcOn = true →
  (∀ j : Nat, j < 4 → s.goingDown = false → (∃ l : Loop, s.stageOf l = j ∧ s.toStart l = true) →
    (∀ l : Loop, s.toStart l = true → j ≤ s.stageOf l) →
    Completes (.seqOn false) s fun t =>
      t.rd R.RGC_SEQ_CTL_ON = 1 ∧ t.rd R.RGC_SEQ_STATUS_STAGE = j ∧ t.rgc.seq = .up j s.now ∧ t.now = s.now ∧
      RegsBut [R.RGC_SEQ_CTL_ON, R.RGC_SEQ_STATUS_STAGE] s t ∧
      ∀ l : Loop, t.loop[l] = if s.stageOf l = j ∧ s.toStart l = true ∧ s.faulty l = false ∧ s.drives l = false ∧
          s.loop[l].startAt = none
        then { s.loop[l] with startAt := some (s.now + 10000 * s.rd (R.RGC_L_SEQ_ON_DLY l)) } else s.loop[l]) ∧
  (s.goingDown = false → (∀ l : Loop, s.toStart l = false) →
    Completes (.seqOn false) s fun t => t.rd R.RGC_SEQ_CTL_ON = 0 ∧ t.rgc.seq = .idle ∧ t.loop = s.loop) ∧
  (Completes (.seqOn true) s fun t => t = s) ∧
  (∀ (l : Loop) (v at_ : Nat), s.loop[l].startAt = some at_ → s.depsUp l = true → s.on R.THM_TRIP_STS_LATCHED = false →
    Completes (.softStartBegin l v) s fun t =>
      t.now = max s.now at_ ∧ t.mode l = 1 ∧ t.loop[l].vref = v ∧ t.loop[l].startAt = none ∧
      t.rd (R.RGC_L_FAULT_TRIES l) = 0 ∧ t.rd (R.RGC_L_FAULT_DEP_OFF l) = 0 ∧
      t.rd (R.RGC_L_TGT_TARGET l) = s.clampTarget l (s.rd (R.RGC_L_VNOM_VNOM l)) % 2 ^ (R.RGC_L_TGT_TARGET l).w ∧
      (∀ k : Loop, k ≠ l → t.mode k = s.mode k ∧ t.loop[k] = s.loop[k]) ∧
      (s.loop[l].remoteBad < 16 → t.raised = s.raised ∧ t.rd (R.RGC_L_SENSE_LOCAL l) = s.rd (R.RGC_L_SENSE_LOCAL l)) ∧
      (16 ≤ s.loop[l].remoteBad → s.on (R.RGC_L_SENSE_LOCAL l) = false →
        t.rd (R.RGC_L_SENSE_LOCAL l) = 1 ∧ t.rd (R.RGC_L_SENSE_CAUSE l) = 1 ∧
        t.raised = s.raised ++ [{ code := Ev.RGC_SENSE_LOCAL, unit := l, detail := 0, body := [] }]) ∧
      ∀ p : Phase, p ∈ s.phasesOf l → s.on (R.RGC_PH_LOSS_OUT l p) = false →
        t.rd (R.RGC_PH_STS_INROT l p) = 1 ∧ t.loop[l].phases[p].b = 0) ∧
  (∀ l : Loop, s.mode l = 1 → s.loop[l].down = false → 1000 * s.rd R.RGC_SEQ_CTL_PG_US ≤ 20 * s.loop[l].pgRun →
    Completes (.powerGood l) s fun t =>
      t.mode l = 2 ∧ t.loop[l].held = none ∧ t.loop[l].halted = false ∧ (∀ k : Loop, k ≠ l → t.mode k = s.mode k) ∧
      (∀ h, s.loop[l].held = some h → t.loop[l].vset = some ⟨h.seq, s.clampTarget l h.target⟩ ∧
        t.rd (R.RGC_L_TGT_ACKED l) = 0 ∧
        t.rd (R.RGC_L_TGT_TARGET l) = s.clampTarget l h.target % 2 ^ (R.RGC_L_TGT_TARGET l).w) ∧
      (s.loop[l].held = none → t.loop[l].vset = s.loop[l].vset ∧
        t.rd (R.RGC_L_TGT_TARGET l) = s.rd (R.RGC_L_TGT_TARGET l)) ∧
      (s.rgc.seq = .idle → t.rgc.seq = .idle)) ∧
  (∀ (l : Loop) (k x : Nat), s.mode l = 1 → s.loop[l].down = false →
    1000 * s.rd R.RGC_SEQ_CTL_PG_US ≤ 20 * s.loop[l].pgRun → s.rgc.seq = .up k x → s.alerted l = false →
    s.loop[l].held = none → (∀ m : Loop, m ≠ l → s.toStart m = false) →
    Completes (.powerGood l) s fun t =>
      t.mode l = 2 ∧ t.rgc.seq = .idle ∧ t.rd R.RGC_SEQ_CTL_ON = 0 ∧ t.rd R.RGC_SEQ_STATUS_DONE = 1 ∧
      t.raised = s.raised ++ [{ code := Ev.RGC_SEQ_DONE, unit := 0xFFFF, detail := 0, body := [] }]) ∧
  (s.goingDown = false →
    Completes (.seqOff false) s fun t =>
      t.rd R.RGC_SEQ_CTL_ON = 0 ∧ t.now = s.now ∧
      ∀ l : Loop, t.loop[l] = { s.loop[l] with startAt := none, retryAt := none } ∧
        t.mode l = if s.mode l = 1 ∧ s.loop[l].retryAt ≠ none then 0 else s.mode l) ∧
  (∀ j : Nat, s.goingDown = false → (∃ l : Loop, s.stageOf l = j ∧ s.toStop l = true) →
    (∀ l : Loop, (s.toStop l = true → s.stageOf l ≤ j) ∧ s.loop[l].retryAt = none) →
    Completes (.seqOff false) s fun t =>
      t.rd R.RGC_SEQ_CTL_OFF = 1 ∧ t.rd R.RGC_SEQ_CTL_ON = 0 ∧ t.rd R.RGC_SEQ_STATUS_STAGE = j ∧
      (j ≠ 1 → t.rgc.seq = .down j s.now)) ∧
  (Completes (.seqOff true) s fun t => t = s) ∧
  (∀ (l : Loop) (k x : Nat), s.rgc.seq = .down k x → s.stageOf l = k → s.toStop l = true → s.loop[l].down = false →
    Completes (.rampDownBegin l) s fun t =>
      t.now = max s.now (x + 10000 * s.rd (R.RGC_L_SEQ_OFF_DLY l)) ∧ t.loop[l].down = true ∧ t.loop[l].pre = none ∧
      t.loop[l].midAt = (if s.drives l then none else some t.now) ∧ (∀ m : Loop, t.mode m = s.mode m) ∧
      (∀ m : Loop, m ≠ l → t.loop[m] = s.loop[m])) ∧
  (∀ (l : Loop) (k b x : Nat), s.rgc.seq = .down k b → s.loop[l].midAt = some x →
    Completes (.loopOff l) s fun t =>
      t.mode l = 0 ∧ t.loop[l].down = false ∧ t.loop[l].midAt = none ∧
      t.now = (if s.loop[l].vSense < 100000 then s.now else max s.now (x + 10000000)) ∧
      (s.live = true → ∀ d : Die, l.die? = some d → t.fenced d = true)) ∧
  (∀ l : Loop, s.mode l = 1 → s.loop[l].retryAt = none → 10000 ≤ s.loop[l].ssLow ∨ 8 ≤ s.loop[l].shortRun →
    s.rd (R.RGC_L_FAULT_TRIES l) < s.rd R.RGC_SEQ_CTL_RETRY_MAX →
    Completes (.ssShortDetect l) s fun t =>
      t.rd (R.RGC_L_FAULT_SS_CAUSE l) = (if 10000 ≤ s.loop[l].ssLow then 1 else 2) ∧
      t.rd (R.RGC_L_FAULT_TRIES l) = min 3 (s.rd (R.RGC_L_FAULT_TRIES l) + 1) ∧
      t.loop[l].retryAt = some (s.now + 1000000 * s.rd R.RGC_SEQ_CTL_RETRY_MS) ∧ t.loop[l].held = s.loop[l].held ∧
      t.mode l = 1 ∧ t.nRot l = 0 ∧ t.now = s.now ∧
      t.raised.getLast? = some { code := Ev.RGC_SS_SHORT, unit := l, detail := 0, body := [] }) ∧
  (∀ l : Loop, s.mode l = 1 → s.loop[l].retryAt = none → 10000 ≤ s.loop[l].ssLow ∨ 8 ≤ s.loop[l].shortRun →
    s.rd R.RGC_SEQ_CTL_RETRY_MAX ≤ s.rd (R.RGC_L_FAULT_TRIES l) →
    Completes (.ssShortDetect l) s fun t =>
      t.on (R.RGC_L_FAULT_SHORT_LATCH l) = true ∧ t.mode l = 5 ∧
      t.rd (R.RGC_L_FAULT_SS_CAUSE l) = (if 10000 ≤ s.loop[l].ssLow then 1 else 2) ∧
      t.rd (R.RGC_L_FAULT_TRIES l) = min 3 (s.rd (R.RGC_L_FAULT_TRIES l) + 1) ∧
      (s.parked l = false → t.on R.RGC_SEQ_STATUS_HALT = true) ∧ t.on R.RGC_SEQ_CTL_ON = false ∧ t.rgc.seq = .idle ∧
      (∀ k : Loop, t.loop[k].startAt = none) ∧
      t.raised.getLast? = some { code := Ev.RGC_SEQ_HALT, unit := l, detail := 0, body := [] }) ∧
  (∀ (l : Loop) (v at_ : Nat), s.loop[l].retryAt = some at_ → s.depsUp l = true → s.parked l = false →
    s.on R.THM_TRIP_STS_LATCHED = false →
    Completes (.ssRetry l v) s fun t =>
      t.now = max s.now at_ ∧ t.mode l = 1 ∧ t.loop[l].vref = v ∧ t.loop[l].retryAt = none ∧
      t.rd (R.RGC_L_FAULT_TRIES l) = s.rd (R.RGC_L_FAULT_TRIES l) ∧
      t.rd (R.RGC_L_TGT_TARGET l) = s.clampTarget l (s.rd (R.RGC_L_VNOM_VNOM l)) % 2 ^ (R.RGC_L_TGT_TARGET l).w ∧
      ∀ p : Phase, p ∈ s.phasesOf l → s.on (R.RGC_PH_LOSS_OUT l p) = false → t.rd (R.RGC_PH_STS_INROT l p) = 1) ∧
  (∀ l : Loop, Completes (.shortLatchClear l) s fun t =>
    Only [R.RGC_L_FAULT_SHORT_LATCH l, R.RGC_L_FAULT_TRIES l] s t s ∧ t.rd (R.RGC_L_FAULT_SHORT_LATCH l) = 0 ∧
    t.rd (R.RGC_L_FAULT_TRIES l) = 0) ∧
  (∀ l : Loop, s.on R.GLB_GOV_CTL_ENABLE = false → l.val < 8 →
    Completes (.faultPark l) s fun t =>
      t.on (R.RGC_L_FAULT_PARK l) = true ∧ t.loop[l].startAt = none ∧
      t.loop[l].retryAt = none ∧ t.mode l = (if s.mode l = 1 then 0 else s.mode l) ∧
      (s.live = true → ∀ d : Die, d.val = l.val → t.fenced d = true)) ∧
  (∀ l : Loop, s.on R.GLB_GOV_CTL_ENABLE = true → Completes (.faultPark l) s fun t => t = s)

/-- Protection and telemetry of the rails (R167, R210–R213, R224–R230): the short limits, the overload Feather and its
shutdown, VR_ALERT#, the clear of the held values and the sample of a phase temperature. -/
def Obligations.RailProtection : Prop := ∀ s : State, s.rgcOn = true →
  (∀ (l : Loop) (p : Phase), (s.inRot l).contains p = true →
    Completes (.phaseShortTrip l p) s fun t =>
      t.loop[l].phases[p].tripped = true ∧ t.now = s.now ∧ t.raised = s.raised ∧ t.mode l = s.mode l ∧
      (s.frozen = false → t.rd (R.RGC_L_CNT_SHORT_COUNT l) =
        (s.rd (R.RGC_L_CNT_SHORT_COUNT l) + 1) % 2 ^ (R.RGC_L_CNT_SHORT_COUNT l).w) ∧
      (s.loop[l].slots = [] → s.loop[l].phases[p].level = 2 →
        t.loop[l].phases[p].level = 1 ∧ t.loop[l].phases[p].at_ = State.goesAt s.loop[l].phases[p] 1 (12 * s.now) ∧
        Out.pwm l [(p, State.goesAt s.loop[l].phases[p] 1 (12 * s.now))] 1 ∈ t.out)) ∧
  (∀ l : Loop, s.regulates l = true → 8 ≤ s.loop[l].shortRun →
    Completes (.regulationShort l) s fun t =>
      t.rd (R.RGC_L_FAULT_SHORT_LATCH l) = 1 ∧ t.rd (R.RGC_L_FAULT_SS_CAUSE l) = 3 ∧ t.mode l = 5 ∧ t.nRot l = 0 ∧
      { code := Ev.RGC_SHORT_LATCH, unit := l, detail := 0, body := [] } ∈ t.raised ∧
      (s.live = true → ∀ d : Die, l.die? = some d → t.fenced d = true) ∧
      (s.goingUp = false → t.rgc.seq = s.rgc.seq) ∧
      (s.goingUp = true → t.rgc.seq = .idle ∧ t.rd R.RGC_SEQ_CTL_ON = 0 ∧
        t.raised.getLast? = some { code := Ev.RGC_SEQ_HALT, unit := l, detail := 0, body := [] })) ∧
  (∀ (l : Loop) (d : Die), l.die? = some d → s.live = true → s.on (R.RGC_L_OVL_FEATHER l) = false →
    10000 * s.rd (R.RGC_L_PROT_OVL_FEATHER l) ≤ s.loop[l].ovlNs →
    Completes (.ovlFeather l) s fun t =>
      let pool := (2 * s.iRef l * (100 - s.rd R.BUD_MISMATCH_GUARD_PCT) -
        max (3200 * s.rd R.ADM_UNCORE_ALLOW) (200 * s.rd (R.RGC_L_TEL_I_AVG l) - 9 * (s.lastWin d).gWin)) / 288
      t.rd (R.RGC_L_OVL_FEATHER l) = 1 ∧ Tab.find t.govDie[d].poolReq State.srcOverload = some pool ∧
      t.govDie[d].pool ≤ pool ∧ t.now = s.now ∧
      t.raised = s.raised ++ [{ code := Ev.RGC_OVL_FEATHER, unit := l, detail := 0, body := [] }] ∧
      (s.frozen = false → t.rd (R.RGC_L_CNT_OVL_COUNT l) =
        (s.rd (R.RGC_L_CNT_OVL_COUNT l) + 1) % 2 ^ (R.RGC_L_CNT_OVL_COUNT l).w)) ∧
  (∀ l : Loop, 8 ≤ l.val → s.on (R.RGC_L_OVL_FEATHER l) = false →
    10000 * s.rd (R.RGC_L_PROT_OVL_FEATHER l) ≤ s.loop[l].ovlNs →
    Completes (.ovlFeather l) s fun t =>
      RegsBut [R.RGC_L_OVL_FEATHER l, R.RGC_L_CNT_OVL_COUNT l] s t ∧ t.rd (R.RGC_L_OVL_FEATHER l) = 1 ∧
      t.raised = s.raised ++ [{ code := Ev.RGC_OVL_FEATHER, unit := l, detail := 0, body := [] }] ∧
      t.govDie = s.govDie) ∧
  (∀ l : Loop, s.avgI l ≤ s.iRef l →
    Completes (.ovlTimerReset l) s fun t =>
      RegsBut [R.RGC_L_OVL_TIMER l, R.RGC_L_OVL_FEATHER l] s t ∧ t.raised = s.raised ∧
      t.loop[l].ovlNs = 0 ∧ t.rd (R.RGC_L_OVL_TIMER l) = 0 ∧ t.rd (R.RGC_L_OVL_FEATHER l) = 0 ∧
      ∀ d : Die, l.die? = some d → Tab.find t.govDie[d].poolReq State.srcOverload = none) ∧
  (∀ l : Loop, s.iRef l < s.avgI l → Completes (.ovlTimerReset l) s fun t => t = s) ∧
  (∀ l : Loop, s.drives l = true → 100000 * s.rd (R.RGC_L_PROT_OVL_OFF l) ≤ s.loop[l].ovlNs →
    Completes (.ovlShutdown l) s fun t =>
      t.rd (R.RGC_L_FAULT_OVL_SHUT l) = 1 ∧ t.mode l = 5 ∧ t.nRot l = 0 ∧ t.loop[l].ovlNs = 0 ∧
      t.rd (R.RGC_L_OVL_TIMER l) = 0 ∧ t.rd (R.RGC_L_OVL_FEATHER l) = 0 ∧
      { code := Ev.RGC_OVL_SHUTDOWN, unit := l, detail := 0, body := [] } ∈ t.raised ∧
      (s.live = true → ∀ d : Die, l.die? = some d → t.fenced d = true)) ∧
  (∀ l : Loop, Completes (.ovlShutClear l) s fun t =>
    Only [R.RGC_L_FAULT_OVL_SHUT l] s t s ∧ t.rd (R.RGC_L_FAULT_OVL_SHUT l) = 0) ∧
  (∀ l : Loop, s.on (R.RGC_L_ALERT_EN l) = false → s.rgc.p12vLost = false → (Ev.RGC_ALERT, l.val) ∉ s.once →
    Completes (.vrAlertAssert l) s fun t =>
      t.rd (R.RGC_L_ALERT_NOW l) = 1 ∧ t.rd (R.RGC_L_ALERT_SEEN l) = 1 ∧
      RegsBut [R.RGC_L_ALERT_NOW l, R.RGC_L_ALERT_SEEN l] s t ∧ t.loop = s.loop ∧
      t.raised = s.raised ++ [{ code := Ev.RGC_ALERT, unit := l, detail := 0, body := [] }]) ∧
  (∀ (l : Loop) (d : Die), l.die? = some d → s.alerted l = false → s.on (R.RGC_L_ALERT_EN l) = true → s.mode l ≠ 1 →
    bit s.loop[l].cuff CuffCause.alert.bit = false →
    Completes (.vrAlertAssert l) s fun t =>
      t.rd (R.RGC_L_ALERT_NOW l) = 1 ∧ t.rd (R.RGC_L_ALERT_SEEN l) = 1 ∧ t.now = s.now ∧
      bit t.loop[l].cuff CuffCause.alert.bit = true ∧
      (s.vcl[d.sat].rgc.up = true → .vcl d.sat .rgc (t.cuffNow l) ∈ t.out)) ∧
  (∀ l : Loop, l.die? = none → s.alerted l = false → s.on (R.RGC_L_ALERT_EN l) = true → s.mode l ≠ 1 →
    Completes (.vrAlertAssert l) s fun t =>
      t.rd (R.RGC_L_ALERT_NOW l) = 1 ∧ t.rd (R.RGC_L_ALERT_SEEN l) = 1 ∧ t.loop = s.loop ∧
      ∀ d : Die, s.inShare d = true →
        Tab.find t.govDie[d].poolReq (State.srcAlert l) =
          some (s.rd R.ADM_CUFF_LVL_ALERT_PCT * s.rd (R.ADM_DIE_STATUS_POOL d) / 100) ∧
        Tab.find t.govDie[d].ratioReq (State.srcAlert l) = some 6) ∧
  (∀ l : Loop, s.on (R.RGC_L_ALERT_EN l) = true → s.on (R.RGC_L_ALERT_NOW l) = true → s.rgc.p12vLost = false →
    (Ev.RGC_ALERT_CLEAR, l.val) ∉ s.once → bit s.loop[l].cuff CuffCause.alert.bit = true →
    Completes (.vrAlertDeassert l) s fun t =>
      t.rd (R.RGC_L_ALERT_NOW l) = 0 ∧ t.now = s.now ∧
      { code := Ev.RGC_ALERT_CLEAR, unit := l, detail := 0, body := [] } ∈ t.raised ∧
      ∀ d : Die, l.die? = some d →
        bit t.loop[l].cuff CuffCause.alert.bit = false ∧
        (s.vcl[d.sat].rgc.up = true → .vcl d.sat .rgc (t.cuffNow l) ∈ t.out)) ∧
  (∀ l : Loop, Completes (.holdClear l) s fun t =>
    Only [R.RGC_L_HOLD_CTL_CLR l] s t s ∧ t.rd (R.RGC_L_HOLD_CTL_CLR l) = 1) ∧
  (∀ mv : List Nat, Completes (.tmonSample mv) s fun t => t.now = s.now ∧ t.raised = s.raised ∧
    ∀ l : Loop, ∀ p ∈ s.phasesOf l,
      t.loop[l].phases[p].temp = 2 * (nth mv (s.chan l p) - 600) ∧
      (t.loop[l].phases[p].flag = true ↔ 2500 ≤ nth mv (s.chan l p)) ∧
      (s.frozen = false → t.rd (R.RGC_PH_TEMP_TEMP l p) = min 4095 (2 * (nth mv (s.chan l p) - 600)) ∧
        t.rd (R.RGC_PH_TEMP_FLAG l p) = if 2500 ≤ nth mv (s.chan l p) then 1 else 0))

/-- Phase removal, its readmission and trial, the capability that follows (R214–R221), and the loss and retry of the sense
lines (R222–R225). -/
def Obligations.PhaseAndSense : Prop := ∀ s : State, s.rgcOn = true →
  (∀ (l : Loop) (p : Phase), (s.inRot l).contains p = true → s.on (R.RGC_PH_LOSS_TRIAL l p) = false →
    4 ≤ s.loop[l].phases[p].run → s.mode l ≠ 1 → Completes (.phaseRemoval l p) s fun t =>
      t.rd (R.RGC_PH_LOSS_OUT l p) = 1 ∧ t.rd (R.RGC_PH_STS_INROT l p) = 0 ∧ t.now = s.now ∧
      t.rd (R.RGC_PH_LOSS_CAUSE l p) = s.loop[l].phases[p].cause % 2 ^ (R.RGC_PH_LOSS_CAUSE l p).w ∧
      t.rd (R.RGC_L_PHLOSS_LOST l) = (s.rd (R.RGC_L_PHLOSS_LOST l) + 1) % 2 ^ (R.RGC_L_PHLOSS_LOST l).w ∧
      t.rd (R.RGC_L_PHLOSS_CAP l) ≤ s.rd (R.BUD_RAIL_LIM_LIMIT l) *
        (s.nph l - t.rd (R.RGC_L_PHLOSS_LOST l) - t.loop[l].derate) / max 1 (s.nph l) ∧
      t.loop[l].pre = none ∧ t.loop[l].cal = none ∧
      { code := Ev.RGC_PHASE_LOST, unit := l, detail := p, body := [] } ∈ t.raised ∧
      (s.frozen = false → t.rd (R.RGC_L_CNT_PHLOSS_COUNT l) =
        (s.rd (R.RGC_L_CNT_PHLOSS_COUNT l) + 1) % 2 ^ (R.RGC_L_CNT_PHLOSS_COUNT l).w) ∧
      (∀ d : Die, l.die? = some d → s.rd (R.RGC_L_PHLOSS_LOST l) = 2 →
        t.rd (R.RGC_L_FAULT_FENCED l) = 1 ∧ (s.live = true → t.fenced d = true)) ∧
      (s.inRot l = [p] → s.loop[l].cal = none → t.mode l = 5)) ∧
  (∀ (l : Loop) (p : Phase), s.loop[l].phases[p].run < 4 ∨ s.on (R.RGC_PH_LOSS_TRIAL l p) = true →
    Completes (.phaseRemoval l p) s fun t => t = s) ∧
  (∀ (l : Loop) (d : Die), s.live = true → l.die? = some d →
    Completes (.capabilityChange l) s fun t =>
      (s.nAv l ≠ s.nph l → Tab.find t.govDie[d].poolReq State.srcPhase =
        some ((s.rd (R.RGC_L_PHLOSS_CAP l) - 16 * s.rd R.ADM_UNCORE_ALLOW) * 100 / 144)) ∧
      (s.nAv l = s.nph l → Tab.find t.govDie[d].poolReq State.srcPhase = none) ∧
      (s.seamUp d.sat = true → bit t.loop[l].cuff CuffCause.phase.bit = false) ∧ t.now = s.now ∧ t.raised = s.raised) ∧
  (∀ l : Loop, l.die? = none → Completes (.capabilityChange l) s fun t => t = s) ∧
  (∀ (l : Loop) (p : Phase), s.on (R.RGC_PH_LOSS_OUT l p) = true →
    Completes (.phaseReadmit l p) s fun t =>
      Only [R.RGC_PH_LOSS_READMIT l p] s t s ∧ t.rd (R.RGC_PH_LOSS_READMIT l p) = 1) ∧
  (∀ (l : Loop) (p : Phase), s.on (R.RGC_PH_LOSS_OUT l p) = false → Completes (.phaseReadmit l p) s fun t => t = s) ∧
  (∀ (l : Loop) (p : Phase), s.on (R.RGC_PH_LOSS_TRIAL l p) = true → s.loop[l].phases[p].trial = 0 →
    Completes (.phaseTrialEnd l p) s fun t =>
      t.rd (R.RGC_PH_LOSS_TRIAL l p) = 0 ∧ t.rd (R.RGC_PH_LOSS_OUT l p) = 0 ∧ t.rd (R.RGC_PH_LOSS_READMIT l p) = 0 ∧
      t.rd (R.RGC_L_PHLOSS_LOST l) = s.rd (R.RGC_L_PHLOSS_LOST l) - 1 ∧
      t.rd (R.RGC_L_PHLOSS_CAP l) = s.rd (R.RGC_L_PHLOSS_CAP l) ∧ t.loop = s.loop ∧ t.raised = s.raised) ∧
  (∀ l : Loop, s.on (R.RGC_L_SENSE_LOCAL l) = false → 16 ≤ s.loop[l].remoteBad → s.switches l = true →
    Completes (.remoteSenseLoss l) s fun t =>
      t.rd (R.RGC_L_SENSE_LOCAL l) = 1 ∧ t.rd (R.RGC_L_SENSE_CAUSE l) = s.loop[l].badCause % 2 ^ (R.RGC_L_SENSE_CAUSE l).w ∧
      t.raised = s.raised ++ [{ code := Ev.RGC_SENSE_LOCAL, unit := l, detail := 0, body := [] }] ∧ t.now = s.now ∧
      t.loop[l].resp = if (s.loop[l].resp.map (·.1)) = some false then none else s.loop[l].resp) ∧
  (∀ l : Loop, s.on (R.RGC_L_SENSE_LOCAL l) = true → s.on (R.RGC_L_SENSE_RETRY l) = false →
    Completes (.senseRetry l) s fun t =>
      Only [R.RGC_L_SENSE_RETRY l] s t (s.modLoop l fun L => { L with retryOk := 0, retryBad := false }) ∧
      t.rd (R.RGC_L_SENSE_RETRY l) = 1) ∧
  (∀ l : Loop, s.on (R.RGC_L_SENSE_RETRY l) = true → s.loop[l].retryBad = false → 1024 ≤ s.loop[l].retryOk →
    Completes (.senseRetryEnd l) s fun t =>
      t.rd (R.RGC_L_SENSE_RETRY l) = 0 ∧ t.rd (R.RGC_L_SENSE_LOCAL l) = 0 ∧ t.rd (R.RGC_L_SENSE_CAUSE l) = 0 ∧
      t.raised = s.raised ++ [{ code := Ev.RGC_SENSE_REMOTE, unit := l, detail := 0, body := [] }] ∧
      t.loop = s.loop ∧ t.now = s.now) ∧
  (∀ l : Loop, s.on (R.RGC_L_SENSE_RETRY l) = true → s.loop[l].retryBad = true →
    Completes (.senseRetryEnd l) s fun t =>
      Only [R.RGC_L_SENSE_RETRY l] s t s ∧ t.rd (R.RGC_L_SENSE_RETRY l) = 0) ∧
  (∀ l : Loop, s.loop[l].retryBad = false → s.loop[l].retryOk < 1024 →
    Completes (.senseRetryEnd l) s fun t => t = s) ∧
  (∀ l : Loop, s.on (R.RGC_L_SENSE_LOCAL l) = true → 16 ≤ s.loop[l].localBad → s.drives l = true →
    Completes (.bothSenseLoss l) s fun t =>
      t.rd (R.RGC_L_FAULT_SHORT_LATCH l) = 1 ∧ t.rd (R.RGC_L_FAULT_SS_CAUSE l) = 4 ∧ t.mode l = 5 ∧ t.nRot l = 0 ∧
      { code := Ev.RGC_SENSE_BOTH, unit := l, detail := 0, body := [] } ∈ t.raised ∧
      (s.live = true → ∀ d : Die, l.die? = some d → t.fenced d = true) ∧
      (s.goingUp = true → t.rgc.seq = .idle ∧ t.rd R.RGC_SEQ_CTL_ON = 0))

/-- The calibration of the current sense (R231–R235): its start, the derate of a loop, the phase held, its offset and gain,
which come into use with the next cycle, and the phase put off. Where a clause rests on a choice of the model, log 32 names
it. -/
def Obligations.CalibrationCommands : Prop := ∀ s : State, s.rgcOn = true →
  (∀ (l : Loop) (p : Phase) (left : List Phase), s.on (R.RGC_L_CAL_BUSY l) = false →
    ((s.inRot l).filter fun (p : Phase) => bit (s.rd (R.RGC_L_CAL_MASK l)) p.val) = p :: left →
    Completes (.calStart l) s fun t =>
      RegsBut (R.RGC_L_CAL_BUSY l :: R.RGC_L_CAL_PHASE l :: tracing) s t ∧
      t.rd (R.RGC_L_CAL_BUSY l) = 1 ∧ t.rd (R.RGC_L_CAL_PHASE l) = p % 2 ^ (R.RGC_L_CAL_PHASE l).w ∧
      t.loop[l].cal = some (.waiting s.now) ∧ t.loop[l].calBad = [] ∧ t.loop[l].derate = 0 ∧
      t.loop[l].calLeft = p :: left ∧ t.loop[l].calNext = s.now ∧ t.now = s.now ∧ t.raised = s.raised) ∧
  (∀ l : Loop, s.on (R.RGC_L_CAL_BUSY l) = true → Completes (.calStart l) s fun t => t = s) ∧
  (∀ (l : Loop) (p : Phase) (x : Nat), s.loop[l].cal = some (.waiting x) → s.loop[l].calLeft.head? = some p →
    s.calReason l = 0 → s.calPaused l = false →
    Completes (.calPhaseReady l) s fun t =>
      t.now = max s.now s.loop[l].calNext ∧ t.loop[l].derate = 1 ∧
      t.rd (R.RGC_L_PHLOSS_CAP l) = min (s.rd (R.RGC_L_PHLOSS_CAP l)) (s.rd (R.BUD_RAIL_LIM_LIMIT l) *
        (s.nph l - s.rd (R.RGC_L_PHLOSS_LOST l) - 1) / max 1 (s.nph l)) ∧
      (l.val < 8 → t.loop[l].cal = some (.derated false) ∧
        t.rd (R.RGC_PH_STS_INROT l p) = s.rd (R.RGC_PH_STS_INROT l p)) ∧
      (8 ≤ l.val → t.loop[l].cal = some (.offset t.now) ∧ t.rd (R.RGC_PH_STS_INROT l p) = 0)) ∧
  (∀ (l : Loop) (p : Phase), s.loop[l].cal = some (.derated true) → s.loop[l].calLeft.head? = some p → s.calPaused l = false →
    Completes (.calPhaseReady l) s fun t =>
      t.loop[l].cal = some (.offset s.now) ∧ t.rd (R.RGC_PH_STS_INROT l p) = 0 ∧ t.now = s.now) ∧
  (∀ (l : Loop) (p : Phase) (b : Bool), s.loop[l].cal = some (.derated b) → s.loop[l].calLeft.head? = some p →
    Completes (.calDerateConfirmed l) s fun t =>
      t.now = s.now ∧ t.raised = s.raised ∧
      (s.calPaused l = false → t.loop[l].cal = some (.offset s.now) ∧ t.rd (R.RGC_PH_STS_INROT l p) = 0) ∧
      (s.calPaused l = true → t.loop[l].cal = some (.derated true) ∧ t.regs = s.regs)) ∧
  (∀ (l : Loop) (p : Phase) (x : Nat) (cs : Int), s.loop[l].cal = some (.offset x) → s.loop[l].calLeft.head? = some p →
    s.calPaused l = false →
    Completes (.calOffsetMeasure l cs) s fun t =>
      t.now = max s.now (x + 20000) ∧ t.loop[l].cal = some (.gain 0 0 0) ∧ t.loop[l].phases[p].b = 0 ∧
      let o := unsigned 16 (signed 16 s.loop[l].phases[p].ofs - (16 * cs / (max 1 s.loop[l].phases[p].gain : Nat) +
        signed 16 s.loop[l].phases[p].ofs))
      t.rd (R.RGC_PH_CS_OFS l p) = o % 2 ^ (R.RGC_PH_CS_OFS l p).w ∧
      t.loop[l].phases[p].csNext = some (s.loop[l].phases[p].gain, o) ∧ t.loop[l].phases[p].ofs = s.loop[l].phases[p].ofs ∧
      t.rd (R.RGC_PH_STS_INROT l p) = 1) ∧
  (∀ (l : Loop) (p : Phase) (left : List Phase) (k : Nat) (a b : Int), s.loop[l].cal = some (.gain k a b) →
    s.loop[l].calLeft = p :: left → 256 ≤ k → s.calPaused l = false →
    Completes (.calGainTrim l) s fun t =>
      let g := s.loop[l].phases[p].gain
      let new := (g * a * (max 1 ((s.nRot l : Int) - 1)) / b).toNat
      let ok := 0 < b ∧ 95 * g ≤ 100 * new ∧ 100 * new ≤ 105 * g
      t.loop[l].phases[p].csNext = some (if ok then new else g, s.loop[l].phases[p].ofs) ∧
      t.rd (R.RGC_PH_CS_GAIN l p) = (if ok then new else g) % 2 ^ (R.RGC_PH_CS_GAIN l p).w ∧
      t.rd (R.RGC_PH_CS_OFS l p) = s.loop[l].phases[p].ofs % 2 ^ (R.RGC_PH_CS_OFS l p).w ∧
      t.loop[l].derate = 0 ∧ t.now = s.now ∧
      (left ≠ [] → t.loop[l].cal = some (.waiting (s.now + 2048)) ∧ t.loop[l].calLeft = left ∧
        t.loop[l].calBad = s.loop[l].calBad ++ (if ok then [] else [p])) ∧
      (left = [] → t.loop[l].cal = none ∧ t.rd (R.RGC_L_CAL_BUSY l) = 0 ∧
        (t.raised.getLast?.map fun e => e.code) = some Ev.RGC_CAL_DONE)) ∧
  (∀ (l : Loop) (p : Phase) (left : List Phase) (x : Nat), s.loop[l].cal = some (.waiting x) → s.loop[l].calLeft = p :: left →
    s.regulates l = false →
    Completes (.calPhaseDefer l) s fun t =>
      t.now = max s.now (x + 1000000 * s.rd R.RGC_CAL_CFG_CAL_WAIT) ∧ t.rd (R.RGC_L_CAL_REASON l) = 3 ∧
      { code := Ev.RGC_CAL_DEFERRED, unit := l, detail := 3 + 16 * p.val, body := [] } ∈ t.raised ∧
      (left ≠ [] → t.loop[l].cal = some (.waiting t.now) ∧ t.loop[l].calLeft = left) ∧
      (left = [] → t.loop[l].cal = none ∧ t.rd (R.RGC_L_CAL_BUSY l) = 0))

/-- The frames of the voltage command links (R68, R70, R75, R141, R189–R193): a frame arrives 16 ns after its sending began,
and what each type does at the side it reaches; and the acknowledgement of a VSET. That a good frame is one of those on
their way, and that a bad one spoils the first of them, is the model's reading (log 30). -/
def Obligations.VclFrameCommands : Prop := ∀ (s : State) (x : Sat), s.live = true →
  (∀ (f : VclFrame) (q : VclSent), (s.side x .rgc).up = true → f.good = true →
    ((s.side x .satellite).flight.find? fun q => q.frame == f) = some q →
    (∀ l : Loop, State.satOf l = x → l.val ≤ 10 → f.loop = l.val → f.type = 1 → bit f.w2 15 = false → s.regulates l = true →
      s.loop[l].vset = none → (s.loop[l].lastAck.map (·.seq)) ≠ some f.seq →
      Completes (.vset x f) s fun t =>
        t.loop[l].vset = some ⟨f.seq, s.clampTarget l (bits f.w1 0 11 + 15 * bits f.w2 0 2)⟩ ∧
        t.rd (R.RGC_L_TGT_TARGET l) = s.clampTarget l (bits f.w1 0 11 + 15 * bits f.w2 0 2) % 2 ^ 11 ∧
        t.rd (R.RGC_L_TGT_ACKED l) = 0 ∧ t.out = s.out ∧ t.now = max s.now (q.start + 16) ∧ t.vcl[x].rgc.last = t.now) ∧
    (∀ l : Loop, State.satOf l = x → l.val ≤ 10 → f.loop = l.val → f.type = 1 → bit f.w2 15 = false → s.mode l = 1 →
      Completes (.vset x f) s fun t =>
        t.loop[l].held = some ⟨f.seq, bits f.w1 0 11 + 15 * bits f.w2 0 2⟩ ∧ t.regs = s.regs ∧ t.out = s.out) ∧
    (∀ l : Loop, State.satOf l = x → l.val ≤ 10 → f.loop = l.val → f.type = 1 → bit f.w2 15 = false →
      s.mode l = 0 ∨ s.mode l = 5 →
      Completes (.vset x f) s fun t =>
        t.out = s.out ++ [.vcl x .rgc (VclFrame.make 0xB f.seq l 1 0)] ∧ t.regs = s.regs ∧ t.loop = s.loop) ∧
    (∀ l : Loop, State.satOf l = x → l.val ≤ 10 → f.loop = l.val → f.type = 1 → bit f.w2 15 = true →
      s.clampTarget l (bits f.w1 0 11 + 15 * bits f.w2 0 2) = s.rd (R.RGC_L_TGT_TARGET l) →
      Completes (.vset x f) s fun t =>
        t.loop[l].pre = none ∧ t.loop[l].ffLeft = 0 ∧ t.loop[l].vset = s.loop[l].vset ∧
        t.rd (R.RGC_L_TGT_TARGET l) = s.rd (R.RGC_L_TGT_TARGET l)) ∧
    (Completes (.ping x f) s fun t =>
      t.now = max s.now (q.start + 16) ∧ t.vcl[x].rgc.last = t.now ∧
      t.vcl[x].sat.flight = s.vcl[x].sat.flight.erase q ∧ t.regs = s.regs ∧ t.out = s.out ∧ t.loop = s.loop)) ∧
  (∀ f : VclFrame, (s.side x .rgc).up = true → f.good = false →
    Completes (.ping x f) s fun t =>
      (s.frozen = false → t.rd R.RGC_VCL_CNT_CRC_COUNT = (s.rd R.RGC_VCL_CNT_CRC_COUNT + 1) % 2 ^ R.RGC_VCL_CNT_CRC_COUNT.w) ∧
      t.vcl[x].rgc.discards = (s.now :: s.vcl[x].rgc.discards).take 8 ∧ t.vcl[x].rgc.last = s.vcl[x].rgc.last) ∧
  (∀ (f : VclFrame) (q : VclSent), (s.side x .satellite).up = true → f.good = true →
    ((s.side x .rgc).flight.find? fun q => q.frame == f) = some q →
    (∀ d : Die, x.die? = some d → f.type = 8 → f.loop = d.val → f.seq = s.vsetTx[d.loop].seq →
      s.vsetTx[d.loop].due.isSome = true → s.on (R.CLK_DIE_DIV_DROOP_ACTIVE d) = true →
      Completes (.vack x f) s fun t =>
        t.clkDie[d].vAck = bits f.w1 0 11 ∧ t.rd (R.CLK_DIE_DIV_ACK_WAIT d) = 0 ∧ t.clkDie[d].timeouts = 0 ∧
        t.clkDie[d].mCost = s.vsetTx[d.loop].m ∧ t.vsetTx[d.loop].due = none ∧ t.vsetTx[d.loop].again = none ∧
        t.now = max s.now (q.start + 16) ∧ t.vcl[x].sat.last = t.now) ∧
    (∀ d : Die, x.die? = some d → f.type = 9 → bits f.w1 0 4 ≠ 0 → s.adm[d].causes = 0 →
      s.on (R.ADM_DIE_STATUS_CUFF d) = false → s.adm[d].both = false →
      Completes (.cuff x f) s fun t =>
        let k := bits f.w1 0 2 + 8 * bits f.w1 2 2
        let pct := if k = 2 ^ CuffCause.alert.bit then s.rd R.ADM_CUFF_LVL_ALERT_PCT else if bit k CuffCause.alert.bit
          then min (s.rd R.ADM_CUFF_LVL_LEVEL_PCT) (s.rd R.ADM_CUFF_LVL_ALERT_PCT) else s.rd R.ADM_CUFF_LVL_LEVEL_PCT
        t.adm[d].causes = k ∧ t.rd (R.ADM_DIE_STATUS_CUFF d) = 1 ∧ t.adm[d].cuffWin = true ∧
        t.adm[d].level = pct * s.rd (R.ADM_DIE_STATUS_POOL d) / 100 ∧
        { code := Ev.ADM_CUFF, unit := d, detail := k, body := [] } ∈ t.raised ∧ t.now = max s.now (q.start + 16)) ∧
    (∀ d : Die, x.die? = some d → f.type = 9 → bits f.w1 0 4 = 0 → bits s.adm[d].causes 2 1 = 0 → bits s.adm[d].causes 4 1 = 0 →
      Completes (.cuff x f) s fun t => t.adm[d].causes = 0 ∧ t.regs = s.regs ∧ t.out = s.out) ∧
    (∀ (d : Die) (h : Hint), x.die? = some d → f.type = 0xA → bit f.w1 0 = true → s.adm[d].pend = some h →
      s.rd R.ADM_HINT_MIN_LEAD ≤ h.lead → h.armed = false → s.govDie[d].announced.contains h.id = true →
      Completes (.prearm x f) s fun t =>
        t.adm[d].pend = some { h with armed := true, deadline := some (t.own x + 64 * s.rd R.ADM_HINT_ARM_TIMEOUT) } ∧
        t.now = max s.now (q.start + 16) ∧ t.out = s.out ∧
        (s.on R.ADM_CTL_FAST_EN = true → s.fastAble d = true → s.adm[d].noFast = false →
          t.rd (R.ADM_DIE_STATUS_FAST_ARMED d) = 1)) ∧
    (∀ d : Die, x.die? = some d → f.type = 0xA → bit f.w1 0 = false →
      Completes (.prearm x f) s fun t =>
        t.adm[d].pend = (if (s.adm[d].pend.map (·.armed)).getD false then none else s.adm[d].pend) ∧
        t.adm[d].act = (if (s.adm[d].act.map (·.armed)).getD false then none else s.adm[d].act)) ∧
    (∀ d : Die, x.die? = some d → f.type = 0xB → s.vsetTx[d.loop].due.isSome = true → f.seq = s.vsetTx[d.loop].seq →
      Completes (.vnak x f) s fun t =>
        t.raised = s.raised ++ [{ code := Ev.CLK_VCL_ACK_TIMEOUT, unit := d, detail := 0, body := [] }] ∧
        t.clkDie[d].timeouts = s.clkDie[d].timeouts + 1 ∧ t.rd (R.CLK_DIE_DIV_ACK_WAIT d) = 0 ∧
        t.vsetTx[d.loop].due = none ∧ t.vsetTx[d.loop].again = none ∧
        t.vsetTx[d.loop].a = s.clkDie[d].vAck - 15 * s.margin d.loop)) ∧
  (∀ (l : Loop) (v : Vset), s.loop[l].vset = some v → s.regulates l = true → s.rd R.RGC_VCL_CFG_ACK_N ≤ s.loop[l].okRun →
    s.atTarget l = true → s.vcl[State.satOf l].rgc.up = true →
    Completes (.voltageReached l) s fun t =>
      t.out = s.out ++ [.vcl (State.satOf l) .rgc (VclFrame.make 8 v.seq l v.target 0)] ∧ t.loop[l].vset = none ∧
      t.loop[l].lastAck = some v ∧ RegsBut [R.RGC_L_TGT_ACKED l] s t ∧ t.rd (R.RGC_L_TGT_ACKED l) = 1)

/-- The voltage command links as links (R192, R194, R197): a VSET repeated, idle frames, the loss of a link, its retraining,
and the clear of a dead one. -/
def Obligations.VclLinkCommands : Prop := ∀ (s : State) (x : Sat), s.live = true →
  (∀ (l : Loop) (a : Nat), s.vsetTx[l].again = some a → (s.side (State.satOf l) .satellite).up = true →
    Completes (.vsetRepeat l) s fun t =>
      t.now = max s.now a ∧ t.vsetTx[l].again = some (a + 2000) ∧ t.vsetTx[l].seq = s.vsetTx[l].seq ∧
      t.out = s.out ++ [.vcl (State.satOf l) .satellite (VclFrame.make 1 s.vsetTx[l].seq l s.vsetTx[l].a s.vsetTx[l].m)] ∧
      t.vcl[State.satOf l].sat.sent = t.now ∧ t.regs = s.regs) ∧
  (∀ l : Loop, s.vsetTx[l].again = none → Completes (.vsetRepeat l) s fun t => t = s) ∧
  ((s.side x .satellite).up = true →
    Completes (.vclIdleSend x .satellite) s fun t =>
      t.now = max s.now (s.vcl[x].sat.sent + 1000) ∧ t.vcl[x].sat.sent = t.now ∧ t.regs = s.regs ∧
      t.out = s.out ++ [.vcl x .satellite (VclFrame.make 2 0 x.val 0 0)]) ∧
  (∀ l : Loop, (s.side x .rgc).up = true → (State.servedBy x).head? = some l →
    Completes (.vclIdleSend x .rgc) s fun t =>
      t.now = max s.now (s.vcl[x].rgc.sent + 1000) ∧ t.vcl[x].rgc.sent = t.now ∧ t.regs = s.regs ∧
      t.out = s.out ++ [.vcl x .rgc
        (VclFrame.make 9 0 l (bits s.loop[l].cuff 0 2 + 4 * bits s.loop[l].cuff 3 2) 0)]) ∧
  (∀ e : VclEnd, (s.side x e).up = false → Completes (.vclIdleSend x e) s fun t => t = s) ∧
  (s.vcl[x].sat.up = true → s.vcl[x].sat.discards.length ≠ 8 →
    Completes (.vclDown x .satellite) s fun t =>
      t.now = max s.now (s.vcl[x].sat.last + 3000) ∧ t.vcl[x].sat.up = false ∧ t.vcl[x].sat.discards = [] ∧
      t.vcl[x].sat.flight = [] ∧ t.vcl[x].rgc.up = s.vcl[x].rgc.up ∧
      (∀ d : Die, x.die? = some d → t.adm[d].pend = none ∧ t.adm[d].act = none)) ∧
  (s.vcl[x].rgc.up = true → s.vcl[x].rgc.discards.length ≠ 8 →
    Completes (.vclDown x .rgc) s fun t =>
      t.now = max s.now (s.vcl[x].rgc.last + 3000) ∧ t.vcl[x].rgc.up = false ∧ bit (t.rd R.RGC_VCL_STATUS_UP) x = false ∧
      (s.frozen = false → t.rd R.RGC_VCL_CNT_DOWN_COUNT =
        (s.rd R.RGC_VCL_CNT_DOWN_COUNT + 1) % 2 ^ R.RGC_VCL_CNT_DOWN_COUNT.w) ∧
      { code := Ev.RGC_VCL_DOWN, unit := x, detail := 0, body := [] } ∈ t.raised ∧
      (∀ l : Loop, State.satOf l = x → l.val ≤ 10 → t.loop[l].pre = none) ∧
      ∀ d : Die, x.die? = some d → t.vcl[x].capHeld = true ∧ Tab.find t.govDie[d].poolReq State.srcVcl =
        some (min (s.rd R.ADM_CUFF_LVL_LEVEL_PCT) (s.rd R.ADM_CUFF_LVL_ALERT_PCT) * s.rd (R.ADM_DIE_STATUS_POOL d) / 100)) ∧
  (s.vcl[x].training = none → s.vcl[x].sat.up = false → s.vcl[x].rgc.up = false → bit (s.rd R.RGC_VCL_STATUS_DEAD) x = false →
    Completes (.vclRetrain x) s fun t =>
      t.vcl[x].training = some (max s.now s.vcl[x].nextTry) ∧ t.vcl[x].nextTry = max s.now s.vcl[x].nextTry + 10000 ∧
      t.regs = s.regs ∧ t.out = s.out) ∧
  (bit (s.rd R.RGC_VCL_STATUS_DEAD) x = true → Completes (.vclRetrain x) s fun t => t = s) ∧
  (∀ start : Nat, s.vcl[x].training = some start →
    (Completes (.vclRetrainEnd x true) s fun t =>
      t.vcl[x].sat.up = true ∧ t.vcl[x].rgc.up = true ∧ t.vcl[x].training = none ∧ t.vcl[x].failed = 0 ∧
      bit (t.rd R.RGC_VCL_STATUS_UP) x = true ∧ t.now = s.now ∧
      (s.vcl[x].fresh = false → { code := Ev.RGC_VCL_UP, unit := x, detail := 0, body := [] } ∈ t.raised)) ∧
    (s.vcl[x].failed < 2 → Completes (.vclRetrainEnd x false) s fun t =>
      t = s.modVcl x fun v => { v with training := none, failed := v.failed + 1 }) ∧
    (s.vcl[x].failed = 2 → Completes (.vclRetrainEnd x false) s fun t =>
      bit (t.rd R.RGC_VCL_STATUS_DEAD) x = true ∧ t.vcl[x].training = none ∧ t.vcl[x].failed = 3 ∧
      { code := Ev.RGC_VCL_DEAD, unit := x, detail := 0, body := [] } ∈ t.raised ∧
      ∀ d : Die, x.die? = some d → t.fenced d = true)) ∧
  (∀ mask : Nat, Completes (.vclDeadClear mask) s fun t =>
    t.rd R.RGC_VCL_STATUS_DEAD = s.rd R.RGC_VCL_STATUS_DEAD - (s.rd R.RGC_VCL_STATUS_DEAD &&& mask) ∧
    RegsBut [R.RGC_VCL_STATUS_DEAD] s t ∧
    ∀ y : Sat, bit mask y = true → bit (s.rd R.RGC_VCL_STATUS_DEAD) y = true →
      t.vcl[y].failed = 0 ∧ t.vcl[y].nextTry = s.now)

/-- Temperature demands and conversions, calibration, readmitted diodes, and the masks and the test of the trip comparators
(R41, R244–R254, R263–R265). The trims' units, one demand for a timer's and a DEMAND_NOW at one boundary, and the order of
the corrections are the model's (log 33). -/
def Obligations.ThermalDemands : Prop := ∀ s : State, s.live = true →
  (s.frozen = false → s.rd R.THM_CTL_INTERVAL ≠ 0 → Completes .thermalDemandTimer s fun t =>
    t.thm.due = true ∧ t.thm.nextDemand = s.thm.nextDemand + 1000 * s.rd R.THM_CTL_INTERVAL ∧
    t.now = max s.now s.thm.nextDemand ∧ t.regs = s.regs) ∧
  (Completes .demandNow s fun t => Only [R.THM_CTL_DEMAND_NOW] s t s ∧ t.rd R.THM_CTL_DEMAND_NOW = 1) ∧
  ((s.thm.due = true ∨ s.on R.THM_CTL_DEMAND_NOW = true) → s.frozen = false →
    Completes .demandIssue s fun t =>
      t.now = (if s.strokeIdx ≠ 0 ∧ s.cyc = 64 * (s.strokeIdx - 1) then s.now
        else max s.now (64 * cdiv s.cyc 64 + s.frozenNs)) ∧
      t.thm.due = false ∧ t.thm.taken = false ∧ t.rd R.THM_CTL_DEMAND_NOW = 0 ∧
      t.rd R.THM_CNT_DEMAND_COUNT = (s.rd R.THM_CNT_DEMAND_COUNT + 1) % 2 ^ R.THM_CNT_DEMAND_COUNT.w ∧
      ∀ x : Sat, t.thmDie[x].expect = true ∧ (s.seamUp x = true → t.seam[x].flits = s.seam[x].flits ++
        [⟨t.now, s.seam[x].nextId, ⟨none, .demand⟩⟩, ⟨t.now + 4, s.seam[x].nextId, ⟨none, .demand⟩⟩])) ∧
  (s.thm.due = false → s.on R.THM_CTL_DEMAND_NOW = false → Completes .demandIssue s fun t => t = s) ∧
  (∀ (x : Sat) (f : SeamFlit), (s.seam[x].flits.find? fun f => f.cmd == ⟨none, .demand⟩) = some f →
    (s.seam[x].acted.take 7).contains f.id = false →
    Completes (.thermalDemandArrival x) s fun t =>
      t.now = max s.now (f.sent + 40) ∧ t.seam[x].flits = s.seam[x].flits.erase f ∧ t.regs = s.regs ∧
      (s.thmDie[x].conv = none → s.thmDie[x].cal = none →
        t.thmDie[x].conv = some (20 * cdiv t.now 20 + 16000) ∧ t.thmDie[x].lost = false ∧ t.thmDie[x].held = false) ∧
      (s.thmDie[x].conv ≠ none → t.thmDie[x].held = true ∧ t.thmDie[x].conv = s.thmDie[x].conv ∧
        (s.thmDie[x].held = true → (Ev.THM_DEMAND_OVERRUN, x.val) ∉ s.once → t.raised = s.raised ++
          [{ code := Ev.THM_DEMAND_OVERRUN, unit := x, detail := 0, body := [] }]))) ∧
  (∀ (x : Sat) (f : SeamFlit), (s.seam[x].flits.find? fun f => f.cmd == ⟨none, .demand⟩) = some f →
    (s.seam[x].acted.take 7).contains f.id = true →
    Completes (.thermalDemandArrival x) s fun t => t.thmDie = s.thmDie ∧ t.seam[x].flits = s.seam[x].flits.erase f) ∧
  (∀ (x : Sat) (read : List Int) (e : Nat), s.thmDie[x].conv = some e →
    Completes (.conversionComplete x read) s fun t =>
      let raw := fun i : Nat => s.converted x i (read.getD i (-32768))
      let c := (State.crossCheck x raw fun i => State.rawGood (raw i) && !bit (s.rd (R.THM_DIE_BROKEN_SITE x)) i).1
      t.now = max s.now e ∧ t.thmDie[x].lost = false ∧
      t.thmDie[x].conv = (if s.thmDie[x].held then some (20 * cdiv (max s.now e) 20 + 16000) else none) ∧
      (∀ i : Fin 16, i.val < thmSites x →
        t.rd (R.THM_DIE_RAW_RAW x i) = (if State.rawGood (raw i) then unsigned 16 (raw i) else 0x8000) % 2 ^ 16 ∧
        t.rd (R.THM_DIE_T_VALUE x i) = (((c.getD i (none, 3)).1.map (unsigned 16)).getD 0x8000) % 2 ^ 16 ∧
        t.rd (R.THM_DIE_T_STAT x i) = (c.getD i (none, 3)).2 % 4) ∧
      t.thmDie[x].tMax = maxI (c.filterMap (·.1)) ∧
      t.inbox = (if s.seamUp x && !s.thmDie[x].lost then
        s.inbox ++ [(max s.now e + 40, x, .temps (maxI (c.filterMap (·.1))))] else s.inbox)) ∧
  (∀ (x : Sat) (read : List Int) (e : Nat) (v : Int), s.thmDie[x].conv = some e → s.thmDie[x].trims = [] → s.siteFuse = [] →
    s.rd (R.THM_DIE_BROKEN_SITE x) = 0 → -880 ≤ v → v ≤ 3200 → read = List.replicate 16 v →
    Completes (.conversionComplete x read) s fun t =>
      t.thmDie[x].tMax = some v ∧ t.rd (R.THM_DIE_FAILED_SITE x) = 0 ∧
      ∀ i : Fin 16, i.val < thmSites x → t.rd (R.THM_DIE_RAW_RAW x i) = unsigned 16 v ∧
        t.rd (R.THM_DIE_T_VALUE x i) = unsigned 16 v ∧ t.rd (R.THM_DIE_T_STAT x i) = 0) ∧
  (s.on R.THM_CAL_BUSY = false → Completes .thmCalStart s fun t =>
    Only [R.THM_CTL_CAL_START] s t s ∧ t.rd R.THM_CTL_CAL_START = 1) ∧
  (s.on R.THM_CAL_BUSY = true → Completes .thmCalStart s fun t => t = s) ∧
  (s.rd R.THM_CAL_PERIOD ≠ 0 → Completes .thmCalPeriod s fun t =>
    t.now = max s.now s.thm.nextCal ∧ t.thm.nextCal = s.thm.nextCal + 10000000 * s.rd R.THM_CAL_PERIOD ∧
    (s.on R.THM_CAL_BUSY = false → t.thm.calAsked = true) ∧
    (s.on R.THM_CAL_BUSY = true → t.thm.calAsked = s.thm.calAsked) ∧ t.regs = s.regs) ∧
  (s.thm.step = 0 → s.on R.THM_CTL_CAL_START = true → s.thm.stepEnd = none → s.thm.taken = true → s.thm.due = false →
    (∀ x : Sat, s.thmDie[x].conv = none) → s.now + 20000 ≤ s.thm.nextDemand → s.frozen = false →
    (∀ x : Sat, s.seamUp x = true) →
    Completes .thmCalStep s fun t =>
      t.thm.step = 1 ∧ t.thm.stepEnd = some (20 * cdiv (s.now + 40) 20 + 16000) ∧ t.rd R.THM_CAL_BUSY = 1 ∧
      t.rd R.THM_CTL_CAL_START = 0 ∧ t.out = s.out ++ sats.map (fun x => .seam x ⟨none, .calStep 1⟩) ∧ t.now = s.now ∧
      t.rd R.THM_CNT_DEMAND_COUNT = (s.rd R.THM_CNT_DEMAND_COUNT + 1) % 2 ^ R.THM_CNT_DEMAND_COUNT.w) ∧
  (∀ (e : Nat) (read : List (List Int)), s.thm.stepEnd = some e → s.thm.step = 2 → Completes (.thmCalStepEnd read) s fun t =>
    t.now = max s.now e ∧ t.thm.step = 0 ∧ t.thm.stepEnd = none ∧ t.rd R.THM_CAL_BUSY = 0 ∧
    t.raised = s.raised ++ [{ code := Ev.THM_CAL_DONE, unit := 0xFFFF, detail := 0, body := [] }] ∧
    ∀ x : Sat, t.thmDie[x].cal = none ∧ ∀ i : Fin 16, i.val < thmSites x → s.thmDie[x].cal ≠ none →
      0 < (read.getD x.val []).getD i 0 → (Tab.find t.thmDie[x].trims i).getD (0, 65536) =
        (((Tab.find s.thmDie[x].trims i).getD (0, 65536)).1, (read.getD x.val []).getD i 0)) ∧
  (∀ (e : Nat) (read : List (List Int)), s.thm.stepEnd = some e → s.thm.step = 1 → Completes (.thmCalStepEnd read) s fun t =>
    t.now = max s.now e ∧ t.thm.step = 2 ∧ t.thm.stepEnd = none ∧ t.regs = s.regs ∧ t.raised = s.raised ∧
    ∀ x : Sat, t.thmDie[x].cal = none ∧ ∀ i : Fin 16, i.val < thmSites x → s.thmDie[x].cal ≠ none →
      (Tab.find t.thmDie[x].trims i).getD (0, 65536) =
        ((read.getD x.val []).getD i 0, ((Tab.find s.thmDie[x].trims i).getD (0, 65536)).2)) ∧
  (∀ (x : Sat) (mask : Nat), Completes (.diodeReadmit x mask) s fun t =>
    Only [R.THM_DIE_BROKEN_SITE x] s t (s.modTd x fun t => { t with susRun := t.susRun.filter fun e => !bit mask e.1 }) ∧
    t.rd (R.THM_DIE_BROKEN_SITE x) = s.rd (R.THM_DIE_BROKEN_SITE x) - (s.rd (R.THM_DIE_BROKEN_SITE x) &&& mask)) ∧
  (∀ (k : Fin 5) (v : Nat) (u : State), u = s.wr (R.THM_TRIP_MASK_SITE k) (if k.val = 4 then v % 2 ^ 8 else v) →
    (((List.range 136).filter u.masked).length ≤ 8 →
      (∀ g h, g < 136 → u.masked g = true → h ∈ thmNearG g → u.masked h = false) →
      Completes (.tripMaskWrite k v) s fun t =>
        t.regs = u.regs ∧ t.now = s.now ∧ t.raised = s.raised ∧ ∀ g ∈ s.trip.junction.map (·.1),
          t.trip.asserted.any (fun e => e.1 == g) =
            (u.tripCounts g && ((Tab.find s.trip.junction g).map (u.trips g)).getD false)) ∧
    (8 < ((List.range 136).filter u.masked).length → Completes (.tripMaskWrite k v) s fun t => t = s) ∧
    (∀ g h, g < 136 → u.masked g = true → h ∈ thmNearG g → u.masked h = true →
      Completes (.tripMaskWrite k v) s fun t => t = s)) ∧
  (s.on R.THM_TRIP_TEST_BUSY = false → s.rd R.THM_TRIP_TEST_SITE < 136 → s.masked (s.rd R.THM_TRIP_TEST_SITE) = false →
    s.rd (R.THM_DIE_T_STAT (thmDieOf (s.rd R.THM_TRIP_TEST_SITE)) (thmSiteOf (s.rd R.THM_TRIP_TEST_SITE))) < 2 →
    Completes .tripTestStart s fun t =>
      let g := s.rd R.THM_TRIP_TEST_SITE
      t.rd R.THM_TRIP_TEST_BUSY = 1 ∧ t.rd R.THM_TRIP_TEST_START = 1 ∧ t.rd R.THM_TRIP_TEST_PASS = 0 ∧
      t.rd R.THM_TRIP_TEST_FAIL = 0 ∧ t.raised = s.raised ∧ t.trip.asserted.any (fun e => e.1 == g) = false ∧
      t.thm.test = some (g, signed 16 (s.rd (R.THM_DIE_RAW_RAW (thmDieOf g) (thmSiteOf g))))) ∧
  (s.on R.THM_TRIP_TEST_BUSY = false → s.rd R.THM_TRIP_TEST_SITE < 136 → s.masked (s.rd R.THM_TRIP_TEST_SITE) = true →
    Completes .tripTestStart s fun t =>
      RegsBut [R.THM_TRIP_TEST_PASS, R.THM_TRIP_TEST_FAIL] s t ∧
      t.rd R.THM_TRIP_TEST_PASS = 0 ∧ t.rd R.THM_TRIP_TEST_FAIL = 1 ∧ t.thm = s.thm ∧
      t.raised = s.raised ++ [{ code := Ev.THM_TRIP_TEST_FAIL, unit := (thmDieOf (s.rd R.THM_TRIP_TEST_SITE)).val
                                detail := s.rd R.THM_TRIP_TEST_SITE, body := [] }]) ∧
  (∀ (g : Nat) (v level : Int), s.thm.test = some (g, v) → Completes (.tripTestEnd level) s fun t =>
    RegsBut [R.THM_TRIP_TEST_BUSY, R.THM_TRIP_TEST_START, R.THM_TRIP_TEST_PASS, R.THM_TRIP_TEST_FAIL] s t ∧
    t.thm.test = none ∧ t.rd R.THM_TRIP_TEST_BUSY = 0 ∧ t.rd R.THM_TRIP_TEST_START = 0 ∧
    t.rd R.THM_TRIP_TEST_PASS = (if v - 160 ≤ level ∧ level < v + 160 then 1 else 0) ∧
    t.rd R.THM_TRIP_TEST_FAIL = (if v - 160 ≤ level ∧ level < v + 160 then 0 else 1) ∧
    t.raised = s.raised ++ (if v - 160 ≤ level ∧ level < v + 160 then []
      else [{ code := Ev.THM_TRIP_TEST_FAIL, unit := (thmDieOf g).val, detail := g, body := [] }]))

/-- The trip comparators (R260–R262): a junction that reaches the trip temperature asserts its comparator, one that falls
below it or passes +200 °C clears it; the latch that takes the loops down, its record, and the rails of the I/O die going
off. -/
def Obligations.TripCommands : Prop := ∀ s : State,
  (∀ (g : Nat) (c : Int), s.tripCounts g = true →
    16 * min (s.rd R.THM_TRIP_TRIP) (s.rd R.THM_TRIP_TRIP_CEIL) + (Tab.find s.tripTrim g).getD 0 ≤ c → c ≤ 3200 →
    s.trip.asserted.any (fun e => e.1 == g) = false →
    Completes (.tripComparatorAssert g c) s fun t =>
      t = { s with trip := { s.trip with junction := Tab.put s.trip.junction g c, asserted := s.trip.asserted ++ [(g, s.now)] } }) ∧
  (∀ (g : Nat) (c : Int), s.tripCounts g = true →
    (c < 16 * min (s.rd R.THM_TRIP_TRIP) (s.rd R.THM_TRIP_TRIP_CEIL) + (Tab.find s.tripTrim g).getD 0 ∨ 3200 < c) →
    Completes (.tripComparatorClear g c) s fun t =>
      t = { s with trip := { s.trip with junction := Tab.put s.trip.junction g c
                                         asserted := s.trip.asserted.filter (·.1 != g) } }) ∧
  (∀ (g : Nat) (c : Int), s.tripCounts g = false → Completes (.tripComparatorAssert g c) s fun t =>
    t.trip.asserted.any (fun e => e.1 == g) = false ∧ t.regs = s.regs ∧ t.now = s.now) ∧
  (∀ g x a more, s.trip.asserted = (g, x) :: more → s.trip.armed = some a → s.on R.THM_TRIP_STS_LATCHED = false →
    Completes .tripLatch s fun t =>
      t.now = max s.now (max (x + 1000) a) ∧ t.rd R.THM_TRIP_STS_LATCHED = 1 ∧ t.rd R.THM_TRIP_STS_SITE = g % 2 ^ 8 ∧
      t.rd R.THM_TRIP_STS_MULTI = (if more = [] then 0 else 1) ∧
      t.rd (R.MGT_P_IRQ_NMI 0) = 1 ∧ t.trip.record = true ∧ t.trip.ioOff = some (x + 10000000) ∧
      .thermtrip ∈ t.out ∧ { code := Ev.THM_TRIP, unit := (thmDieOf g).val, detail := g, body := [] } ∈ t.raised ∧
      ∀ l : Loop, l ≠ 9 → l ≠ 10 → t.drives l = false) ∧
  (s.trip.armed = none ∨ s.trip.asserted = [] ∨ s.on R.THM_TRIP_STS_LATCHED = true →
    Completes .tripLatch s fun t => t = s) ∧
  (s.trip.record = true → s.rd (R.MGT_P_STATE_STATE 0) = 2 → Completes .tripRecord s fun t =>
    t = ({ s with trip := { s.trip with record := false } }.emit (.tripToBmc (s.rd R.THM_TRIP_STS_SITE)))) ∧
  (s.rd (R.MGT_P_STATE_STATE 0) ≠ 2 → Completes .tripRecord s fun t => t = s) ∧
  (∀ x, s.trip.ioOff = some x → Completes .tripIoRailsOff s fun t =>
    t.now = max s.now x ∧ t.trip.ioOff = none ∧ t.drives 9 = false ∧ t.drives 10 = false)

/-- The sentinel's reports (R270–R273, R281, R284, R288, R293, R297, R302): a bad report is discarded with a record; a good
one acts by its kind. -/
def Obligations.SentinelReports : Prop := ∀ (s : State) (w : Nat) (d : Die), s.live = true →
  (repGood w = false →
    (Completes (.rowcolFail [w]) s fun t => (t.raised.drop s.raised.length).map (fun e => (e.code, e.detail)) =
        [(Ev.SEN_REPORT_BAD, repArg2 w)] ∧ t.sen.seq = (s.sen.seq + 1) % 2 ^ 32 ∧ t.sen.die = s.sen.die ∧
        t.sen.fails = s.sen.fails) ∧
    (Completes (.stepEnd w) s fun t => (t.raised.drop s.raised.length).map (fun e => (e.code, e.detail)) =
        [(Ev.SEN_REPORT_BAD, repArg2 w)] ∧ t.sen.seq = (s.sen.seq + 1) % 2 ^ 32 ∧ t.sen.die = s.sen.die ∧
        t.rd R.SEN_EPOCH_CUR = s.rd R.SEN_EPOCH_CUR)) ∧
  (repGood w = true → repDie w = d.val →
    (repKind w = 1 → s.epochOf (repArg0 w) = repArg1 w → s.on R.SEN_CTL_VERDICT_EN = false → bit (repArg2 w) 0 = true →
      s.rd (R.SEN_STATE_SLOT d (repUnit w / 36) (repUnit w % 36)) ≠ 2 → s.frozen = false →
      (s.failsOf d (repUnit w / 36)).length + 1 < s.rd R.SEN_MARGIN_CFG_CL_N →
      Completes (.rowcolFail [w]) s fun t =>
        (t.raised.drop s.raised.length).map (·.code) = [Ev.SEN_ROWCOL_FAIL] ∧
        t.rd (R.SEN_DIE_CNT_FAIL_COUNT d) = (s.rd (R.SEN_DIE_CNT_FAIL_COUNT d) + 1) % 2 ^ (R.SEN_DIE_CNT_FAIL_COUNT d).w ∧
        (Tab.find t.sen.fails (16 * d.val + repUnit w / 36)).getD [] =
          (s.now - s.frozenTime) :: s.failsOf d (repUnit w / 36) ∧
        t.rd (R.SEN_DIE_CLFAULT_CL d (repUnit w / 36)) = min 15 ((s.failsOf d (repUnit w / 36)).length + 1) ∧
        t.rd R.SEN_RETRACT_EPOCH = s.rd R.SEN_RETRACT_EPOCH) ∧
    (repKind w = 1 → s.epochOf (repArg0 w) = repArg1 w → s.on R.SEN_CTL_VERDICT_EN = true → bit (repArg2 w) 0 = true →
      s.rd (R.SEN_STATE_SLOT d (repUnit w / 36) (repUnit w % 36)) = 1 → s.fenced d = false →
      Completes (.rowcolFail [w]) s fun t =>
        ((t.raised.drop s.raised.length).map (·.code)).head? = some Ev.SEN_ROWCOL_FAIL ∧ t.now = s.now ∧
        t.rd (R.SEN_STATE_SLOT d (repUnit w / 36) (repUnit w % 36)) = if s.ladderDone d (repUnit w / 36) then 3 else 2) ∧
    (repKind w = 2 →
      Completes (.cvMismatch w) s fun t =>
        (t.raised.drop s.raised.length).map (·.code) = [Ev.SEN_CV_MISMATCH, Ev.SEN_RETRACT] ∧
        t.rd R.SEN_STATUS_RETRACT_PEND = 1 ∧
        t.rd R.SEN_RETRACT_EPOCH = (if s.on R.SEN_STATUS_RETRACT_PEND then min (s.rd R.SEN_RETRACT_EPOCH) (repArg1 w)
          else repArg1 w) ∧
        t.rd R.SEN_VERIFIED_EPOCH =
          State.lowerEpoch (s.rd R.SEN_VERIFIED_EPOCH) (if repArg1 w = 0 then 0xFFFFFFFF else repArg1 w - 1) ∧
        ∀ k : Die, ∀ e ∈ t.sen.die[k].closed, e.1 < repArg1 w) ∧
    (repKind w = 3 → s.epochOf (repArg0 w) = repArg1 w → s.on R.SEN_CTL_POISON_RETRACT = false →
      Completes (.poison w) s fun t =>
        t.on R.SEN_STATUS_ABORT = true ∧ (s.on R.BUD_JOB_CTL_RUNNING = true → t.on R.BUD_JOB_CTL_STOP = true) ∧
        t.rd R.SEN_VERIFIED_EPOCH = s.rd R.SEN_VERIFIED_EPOCH ∧
        (t.raised.drop s.raised.length).map (·.code) = [Ev.SEN_POISON] ∧
        t.out = (if s.on R.SEN_STATUS_ABORT then s.out else s.out ++ [.abortLine true])) ∧
    (∀ (a n x : Nat), repKind w = 4 → s.on R.SEN_CTL_DIGEST_EN = true →
      (Tab.find s.sen.die[d].fold (repArg1 w)).getD (0, 0) = (a, n) →
      x = crc32c (bytesOf 4 (repArg0 w) ++ bytesOf 4 (repArg2 w)) →
      Completes (.weightCv w) s fun t =>
        t = s.modSenDie d fun q =>
          { q with fold := Tab.put q.fold (repArg1 w) ((a + x) % 2 ^ 32, (n + 1) % 2 ^ 32) }) ∧
    (repKind w = 4 → s.on R.SEN_CTL_DIGEST_EN = false → Completes (.weightCv w) s fun t => t = s) ∧
    (repKind w = 5 → s.epochOf (repArg0 w) = repArg1 w → s.sen.fromStep ≤ repArg0 w → s.retracted (repArg1 w) = false →
      (repArg0 w + 1) % max 1 (s.rd R.SEN_CTL_DIGEST_STEPS) ≠ 0 →
      Completes (.stepEnd w) s fun t => Only [R.SEN_EPOCH_CUR] s t s ∧ t.rd R.SEN_EPOCH_CUR = repArg1 w) ∧
    (repKind w = 5 → s.epochOf (repArg0 w) = repArg1 w → s.sen.fromStep ≤ repArg0 w → s.retracted (repArg1 w) = false →
      (repArg0 w + 1) % max 1 (s.rd R.SEN_CTL_DIGEST_STEPS) = 0 →
      Completes (.stepEnd w) s fun t =>
        let f := (Tab.find s.sen.die[d].fold (repArg1 w)).getD (0, 0)
        t.rd R.SEN_EPOCH_CUR = repArg1 w ∧ t.rd (R.SEN_DIE_DIGEST_EPOCH_EPOCH d) = repArg1 w ∧
        t.rd (R.SEN_DIE_DIGEST_DIGEST d) = (f.1 * 2 ^ 32 + f.2) % 2 ^ 64 ∧
        Tab.find t.sen.die[d].fold (repArg1 w) = none) ∧
    (repKind w = 5 → s.epochOf (repArg0 w) = repArg1 w → s.sen.fromStep ≤ repArg0 w → s.retracted (repArg1 w) = false →
      (repArg0 w + 1) % max 1 (s.rd R.SEN_CTL_DIGEST_STEPS) = 0 →
      (repArg1 w = 0 ∨ s.rd R.SEN_VERIFIED_EPOCH + 1 = repArg1 w) → repArg1 w < 0xFFFFFFFF → s.on R.SEN_CTL_DIGEST_EN = false →
      (∀ k : Die, (k ≠ d → s.fenced k = true) ∧ s.sen.die[k].bad = [] ∧ Tab.find s.sen.die[k].closed (repArg1 w + 1) = none) →
      Completes (.stepEnd w) s fun t => t.rd R.SEN_VERIFIED_EPOCH = repArg1 w) ∧
    (∀ (x : SenTest) (p : Pattern), repKind w = 6 →
      s.testOn d (repUnit w / 36) (repUnit w % 36) = some x → x.left = some [p] → bits (repArg0 w) 0 16 = p.pid →
      bits (repArg0 w) 16 16 = x.run % 2 ^ 16 → repArg1 w = p.expect →
      Completes (.testSig w) s fun t =>
        t.rd (R.SEN_STATE_SLOT d (repUnit w / 36) (repUnit w % 36)) = 0 ∧
        t.testOn d (repUnit w / 36) (repUnit w % 36) = none ∧ t.raised = s.raised ∧
        (s.frozen = false → t.rd R.SEN_CNT_TESTS_COUNT = (s.rd R.SEN_CNT_TESTS_COUNT + 1) % 2 ^ R.SEN_CNT_TESTS_COUNT.w) ∧
        (x.asked = true → t.rd R.SEN_TEST_REQ_RESULT = 1 ∧ t.rd R.SEN_TEST_REQ_BUSY = 0 ∧ t.rd R.SEN_TEST_REQ_START = 0) ∧
        (s.seamUp d.sat = true → .seam d.sat ⟨none, .remove (repUnit w)⟩ ∈ t.out)) ∧
    (∀ (x : SenTest) (p : Pattern) (more : List Pattern), repKind w = 6 →
      s.testOn d (repUnit w / 36) (repUnit w % 36) = some x → x.left = some (p :: more) → bits (repArg0 w) 0 16 = p.pid →
      bits (repArg0 w) 16 16 = x.run % 2 ^ 16 → repArg1 w ≠ p.expect →
      Completes (.testSig w) s fun t =>
        t.rd (R.SEN_STATE_SLOT d (repUnit w / 36) (repUnit w % 36)) = 3 ∧
        t.testOn d (repUnit w / 36) (repUnit w % 36) = none ∧
        ((t.raised.drop s.raised.length).map (·.code)).take 2 = [Ev.SEN_TEST_FAIL, Ev.SEN_RETIRED] ∧
        (x.asked = true → t.rd R.SEN_TEST_REQ_RESULT = 2 ∧ t.rd R.SEN_TEST_REQ_BUSY = 0)))

/-- The sentinel acts on the map and its tests (R280, R286–R291, R305): a map change done, ready or timed out, self-tests by
period and by request, libraries, and a slot retired. -/
def Obligations.SentinelMapCommands : Prop := ∀ s : State, s.live = true →
  (∀ (d : Die) (c : Cluster) (k : Nat) (m : MapChange), s.changeTo d c k = some m → m.planned = false → k < 36 →
    m.logical < 32 → s.on R.SEN_TEST_REQ_BUSY = false →
    Completes (.mapDone d c k) s fun t =>
      t.rd (R.SEN_MAP_LOG d c m.logical) = k ∧ t.rd (R.SEN_STATE_SLOT d c k) = 1 ∧ t.changeTo d c k = none ∧
      t.adm[d].slotNext = s.adm[d].slotNext ++ [(36 * c.val + k, 1, true)] ∧
      (t.raised.drop s.raised.length).map (·.code) = [Ev.SEN_SPARED] ∧
      (s.frozen = false → t.rd (R.SEN_DIE_CNT_SWAP_COUNT d) =
        (s.rd (R.SEN_DIE_CNT_SWAP_COUNT d) + 1) % 2 ^ (R.SEN_DIE_CNT_SWAP_COUNT d).w)) ∧
  (∀ (d : Die) (c : Cluster) (k : Nat) (m : MapChange), s.changeTo d c k = some m → m.planned = true → k < 36 →
    m.logical < 32 → m.old < 36 → m.old ≠ k → s.on R.SEN_TEST_REQ_BUSY = false →
    Completes (.mapDone d c k) s fun t =>
      t.rd (R.SEN_MAP_LOG d c m.logical) = k ∧ t.rd (R.SEN_STATE_SLOT d c k) = 1 ∧
      t.rd (R.SEN_STATE_SLOT d c m.old) = 2 ∧ t.changeTo d c k = none ∧
      t.adm[d].slotNext = s.adm[d].slotNext ++ [(36 * c.val + k, 1, true), (36 * c.val + m.old, 0, false)]) ∧
  (∀ (d : Die) (c : Cluster) (k : Nat),
    Completes (.mapReady d c k) s fun t =>
      t = s.modSen fun q => { q with changes := q.changes.map fun m =>
        if m.die == d && m.cluster == c.val && m.new == k && m.planned then { m with ready := true } else m }) ∧
  (∀ (d : Die) (c : Cluster) (k : Nat) (m : MapChange), s.changeTo d c k = some m → m.due ≠ 0 → k < 36 →
    s.on R.SEN_TEST_REQ_BUSY = false →
    Completes (.mapTimeout d c k) s fun t =>
      t.now = max s.now m.due ∧ t.rd (R.SEN_STATE_SLOT d c k) = 3 ∧
      ((t.raised.drop s.raised.length).map (·.code)).take 2 = [Ev.SEN_MAP_TIMEOUT, Ev.SEN_RETIRED]) ∧
  (s.on R.SEN_CTL_TEST_EN = true → s.rd R.SEN_TEST_PERIOD_MS ≠ 0 → s.sen.nextTest ≠ 0 →
    Completes .selfTestPeriod s fun t =>
      t.now = max s.now s.sen.nextTest ∧ t.sen.nextTest = s.sen.nextTest + 1000000 * s.rd R.SEN_TEST_PERIOD_MS) ∧
  (s.on R.SEN_CTL_TEST_EN = false ∨ s.rd R.SEN_TEST_PERIOD_MS = 0 → Completes .selfTestPeriod s fun t => t = s) ∧
  (∀ (d : Die) (site : Nat), s.on R.SEN_TEST_REQ_START = false → site < 576 →
    s.rd (R.SEN_STATE_SLOT d (site / 36) (site % 36)) ≠ 3 → s.sen.tests = [] → s.sen.changes = [] →
    s.testReason d (site / 36) (site % 36) ≠ 0 →
    Completes (.testReqStart d site) s fun t =>
      t.rd R.SEN_TEST_REQ_DIE = d ∧ t.rd R.SEN_TEST_REQ_SITE = site ∧ t.rd R.SEN_TEST_REQ_START = 1 ∧
      t.rd R.SEN_TEST_REQ_BUSY = 1 ∧ t.rd R.SEN_TEST_REQ_RESULT = 3 ∧
      t.rd R.SEN_TEST_REQ_REASON = s.testReason d (site / 36) (site % 36) ∧
      (t.raised.drop s.raised.length).map (·.code) = [Ev.SEN_TEST_DEFERRED]) ∧
  (∀ (d : Die) (site : Nat) (p : Pattern) (l : List Pattern), s.on R.SEN_TEST_REQ_START = false → site < 576 →
    s.rd (R.SEN_STATE_SLOT d (site / 36) (site % 36)) = 0 → s.sen.tests = [] → s.sen.changes = [] →
    s.testReason d (site / 36) (site % 36) = 0 → s.patterns d = p :: l →
    Completes (.testReqStart d site) s fun t =>
      t.rd R.SEN_TEST_REQ_BUSY = 1 ∧ t.rd R.SEN_TEST_REQ_RESULT = 0 ∧
      t.rd (R.SEN_STATE_SLOT d (site / 36) (site % 36)) = 2 ∧
      t.sen.tests = [{ die := d, cluster := site / 36, slot := site % 36, asked := true, left := some (p :: l) }] ∧
      .testRun d site p.pid 0 ∈ t.out) ∧
  (∀ (d : Die) (site : Nat), s.on R.SEN_TEST_REQ_START = true → Completes (.testReqStart d site) s fun t => t = s) ∧
  (∀ b : List Nat, s.rd R.SEN_FLEET_PUSH = 1 → s.rd (R.MGT_P_STATE_STATE 0) = 2 →
    s.keyFor (numAt b 0xA 2) 1 = true → ((s.libStored.map (·.libVer)).getD 0) < numAt b 4 4 →
    State.libraryOk (State.libraryOf b true) = true →
    Completes (.libraryComponent b true) s fun t =>
      t.libStored = some (State.libraryOf b true) ∧ t.sen.libNext = some (State.libraryOf b true) ∧
      (t.raised.drop s.raised.length).map (fun e => (e.code, e.detail)) = [(Ev.SEN_LIB_LOADED, numAt b 4 4)]) ∧
  (∀ (b : List Nat) (ok : Bool), s.rd R.SEN_FLEET_PUSH = 1 → s.rd (R.MGT_P_STATE_STATE 0) = 2 →
    ok = false ∨ numAt b 0 2 ≠ 1 ∨ numAt b 4 4 ≤ ((s.libStored.map (·.libVer)).getD 0) →
    Completes (.libraryComponent b ok) s fun t =>
      t.libStored = s.libStored ∧ t.sen.libNext = s.sen.libNext ∧
      (t.raised.drop s.raised.length).map (fun e => (e.code, e.detail)) = [(Ev.SEN_LIB_REJECTED, numAt b 4 4)]) ∧
  (∀ l : Library, s.sen.libNext = some l → s.sen.tests.any (fun t => t.left.isSome) = false →
    Completes .librarySwitch s fun t =>
      t.sen.lib = some l ∧ t.sen.libNext = none ∧ t.rd R.SEN_STATUS_LIB_VALID = 1 ∧ t.rd R.SEN_LIB_LIB_ID = l.libId % 2 ^ 16 ∧
      t.rd R.SEN_LIB_VER_VER = l.libVer % 2 ^ 32) ∧
  (s.sen.tests.any (fun t => t.left.isSome) = true → Completes .librarySwitch s fun t => t = s) ∧
  (∀ (d : Die) (c : Cluster) (k : Nat), s.on R.GLB_GOV_CTL_ENABLE = false → s.on R.GLB_STATUS_ENABLED = false → k < 36 →
    s.rd (R.SEN_STATE_SLOT d c k) = 0 → s.testOn d c k = none → s.changeTo d c k = none → s.on R.SEN_TEST_REQ_BUSY = false →
    Completes (.slotRetire d c k) s fun t =>
      t.rd (R.SEN_STATE_SLOT d c k) = 3 ∧ t.rd (R.SEN_DIE_RETIRE_SLOT d) = k ∧ t.rd (R.SEN_DIE_RETIRE_CLUSTER d) = c ∧
      (t.raised.drop s.raised.length).map (·.code) = [Ev.SEN_RETIRED] ∧ t.now = s.now ∧
      (s.seamUp d.sat = true → .seam d.sat ⟨none, .remove (36 * c.val + k)⟩ ∈ t.out)) ∧
  (∀ (d : Die) (c : Cluster) (k : Nat), s.on R.GLB_GOV_CTL_ENABLE = true → Completes (.slotRetire d c k) s fun t => t = s)

/-- The sentinel keeps its records and its epochs (R275, R276, R286, R295, R296, R301, R302): a queue that overflowed, a
record sent, the clears of margins, a digest that waited too long, an expelled die, a retraction acknowledged and a poison
abort cleared. -/
def Obligations.SentinelRecordCommands : Prop := ∀ s : State, s.live = true →
  (0 < s.sen.unqueued → s.sen.txq.length < 256 →
    Completes .senQueueOvf s fun t =>
      t.sen.unqueued = 0 ∧ t.sen.txq.length = s.sen.txq.length + 1 ∧
      (t.raised.drop s.raised.length).map (fun e => (e.code, e.detail)) = [(Ev.SEN_QUEUE_OVF, s.sen.unqueued)]) ∧
  (∀ x l, s.sen.txq = x :: l → s.rd (R.MGT_P_STATE_STATE 2) = 2 →
    Completes .senRecordSend s fun t =>
      t.sen.txq = l ∧ t.out = s.out ++ [.bmcEvent x.cls x.bytes] ∧ t.rd R.SEN_STATUS_QUEUE = l.length % 2 ^ R.SEN_STATUS_QUEUE.w ∧
      RegsBut [R.SEN_STATUS_QUEUE] s t) ∧
  (s.rd (R.MGT_P_STATE_STATE 2) ≠ 2 → Completes .senRecordSend s fun t => t = s) ∧
  (∀ d : Die, Completes (.marginClrVstep d) s fun t =>
      t.rd (R.SEN_DIE_STATUS_VSTEP d) = 0 ∧ t.now = s.now ∧ t.raised = s.raised ∧
      t.sen.exhausted = s.sen.exhausted.filter fun k => k / 16 != d.val) ∧
  (∀ d : Die, s.on (R.CLK_DIE_DIV_DROOP_ACTIVE d) = true →
    Completes (.marginClrVstep d) s fun t =>
      Only [R.SEN_DIE_STATUS_VSTEP d] s t
        (s.modSen fun q => { q with exhausted := q.exhausted.filter fun k => k / 16 != d.val }) ∧
      t.rd (R.SEN_DIE_STATUS_VSTEP d) = 0) ∧
  (∀ (d : Die) (mask : Nat),
    Completes (.marginClrCluster d mask) s fun t =>
      RegsBut [R.CLK_DIE_CMARGIN_CLUSTER d] s t ∧
      t.rd (R.CLK_DIE_CMARGIN_CLUSTER d) = s.rd (R.CLK_DIE_CMARGIN_CLUSTER d) - (s.rd (R.CLK_DIE_CMARGIN_CLUSTER d) &&& mask) ∧
      t.sen.exhausted = s.sen.exhausted.filter fun k => !(k / 16 == d.val && bit mask (k % 16))) ∧
  (∀ (g e : Nat) (c : DigestCmp), s.sen.cmps.find? (fun c => c.group == g && c.epoch == e) = some c → c.held.length < 2 →
    Completes (.digestWaitExpiry g e) s fun t =>
      t.now = max s.now c.due ∧ t.sen.cmps.find? (fun c => c.group == g && c.epoch == e) = none ∧
      (t.raised.getLast?.map fun r => (r.code, r.detail)) = some (Ev.SEN_DIGEST_MISSING, g)) ∧
  (∀ (g e x y : Nat) (c : DigestCmp), s.sen.cmps.find? (fun c => c.group == g && c.epoch == e) = some c →
    c.held.map (·.2.2) = [x, y] → x ≠ y →
    Completes (.digestWaitExpiry g e) s fun t =>
      t.now = max s.now c.due ∧ t.rd R.SEN_STATUS_RETRACT_PEND = 1 ∧
      ((t.raised.drop s.raised.length).map (·.code)).take 2 = [Ev.SEN_DIGEST_SPLIT, Ev.SEN_RETRACT]) ∧
  (∀ g e : Nat, s.sen.cmps.find? (fun c => c.group == g && c.epoch == e) = none →
    Completes (.digestWaitExpiry g e) s fun t => t = s) ∧
  (∀ d : Die, s.on (R.SEN_DIE_STATUS_EXPELLED d) = true →
    Completes (.expelledClear d) s fun t =>
      Only [R.SEN_DIE_STATUS_EXPELLED d] s t (s.modSenDie d fun q => { q with rejoin := s.rd R.SEN_EPOCH_CUR + 1 }) ∧
      t.rd (R.SEN_DIE_STATUS_EXPELLED d) = 0) ∧
  (s.on R.SEN_STATUS_RETRACT_PEND = true →
    Completes .retractAck s fun t =>
      t.rd R.SEN_STATUS_RETRACT_PEND = 0 ∧
      t.sen.fromStep = s.rd R.SEN_RETRACT_EPOCH * s.rd R.SEN_CTL_DIGEST_STEPS ∧ t.sen.sentFor = [] ∧
      RegsBut [R.SEN_STATUS_RETRACT_PEND] s t ∧
      ∀ d : Die, t.sen.die[d].fold = s.sen.die[d].fold.filter fun p => decide (p.1 < s.rd R.SEN_RETRACT_EPOCH)) ∧
  (s.on R.SEN_STATUS_RETRACT_PEND = false → Completes .retractAck s fun t => t = s) ∧
  (s.on R.SEN_STATUS_ABORT = true →
    Completes .abortClear s fun t => RegsBut [R.SEN_STATUS_ABORT] s t ∧ t.rd R.SEN_STATUS_ABORT = 0 ∧
      t.out = s.out ++ [.abortLine false]) ∧
  (s.on R.SEN_STATUS_ABORT = false → Completes .abortClear s fun t => t = s)

/-- The frames that form the cascade and keep its time, once accepted and not passed on only (R312, R313, R316, R318,
R321–R324, R326, R327): HELLO, ACK, the time exchange, TOPO, FORMED, DETACH, TAKEOVER and PROBE; `u` is the package with the
frame accepted, `v` with it passed on where it goes further too. A first copy alone of a TAKEOVER or PROBE acts. -/
def Obligations.CascadeTreeFrames : Prop := ∀ (s u : State) (k : Lane) (f : CasFrame), s.live = true → s.accept k f = (u, true) →
  (f.type = 0x13 → u.cas.takeovers.contains (f.src, f.term) = true → Completes (.takeover k f) s fun t => t = u) ∧
  (f.type = 0x14 → u.cas.probed.any (fun p => p.1 == State.probeKey f.src f.p0) = true →
    Completes (.probe k f) s fun t => t = u) ∧
  (∀ v : State, u.transit k { frame := f } = (v, true) → v.casFrozen = false →
    (f.type = 0x01 → (State.readHello f).major ≠ v.rd R.CAS_VER_MAJ → v.cas.lane[k].refused = false →
      Completes (.hello k f) s fun t =>
        t = (v.modLane k fun l => { l with refused := true }).raise Ev.CAS_VERSION_REFUSED k) ∧
    (f.type = 0x01 → (State.readHello f).major = v.rd R.CAS_VER_MAJ → Completes (.hello k f) s fun t =>
      t.laneUp k = true ∧ t.rd (R.CAS_LANE_STS_PEER k) = f.src % 2 ^ 14 ∧
      t.cas.lane[k].hello = some (State.readHello f) ∧ t.cas.lane[k].refused = false ∧
      (v.on R.CAS_CTL_JOIN = false → t.casState = v.casState ∧ t.term = v.term)) ∧
    (f.type = 0x02 → bit f.p1 0 = false → v.cas.lane[k].queue = [] →
      Completes (.ack k f) s fun t =>
        t.cas.lane[k].replay = v.cas.lane[k].replay.filter (fun g => g.lseq != f.p0) ∧ t.out = v.out ∧ t.regs = v.regs) ∧
    (∀ q more, f.type = 0x02 → bit f.p1 0 = false → v.cas.lane[k].queue = q :: more →
      (v.cas.lane[k].replay.filter fun g => g.lseq != f.p0).length < 64 →
      Completes (.ack k f) s fun t => t.cas.lane[k].queue = more ∧ v.out.length < t.out.length) ∧
    (∀ g, f.type = 0x02 → bit f.p1 0 = true → v.cas.lane[k].replay.find? (fun g => g.lseq == f.p0) = some g →
      Completes (.ack k f) s fun t =>
        t.out.getLast? = some (.cas k g none) ∧ t.cas.lane[k].sent = v.now ∧ t.cas.lane[k].replay = v.cas.lane[k].replay ∧
        (v.frozen = false → t.rd R.CAS_CNT_RETX_COUNT = (v.rd R.CAS_CNT_RETX_COUNT + 1) % 2 ^ R.CAS_CNT_RETX_COUNT.w)) ∧
    (∀ half, f.type = 0x03 → Free v k → Completes (.tsyncReq k f half) s fun t =>
      t.out = v.out ++ [.cas k (ownFrame v k 0x04 0 0 [bits f.stamp 0 32, bits f.stamp 32 32,
        bits (v.lkHalfAt v.now + b2n half) 0 32, bits (v.lkHalfAt v.now + b2n half) 32 32]) none] ∧ t.now = v.now) ∧
    (∀ half, f.type = 0x04 → Completes (.tsyncRsp k f half) s fun t =>
      let t1 : Int := f.p0 + f.p1 * 2 ^ 32
      let t2 : Int := f.p2 + f.p3 * 2 ^ 32
      let t4 : Int := v.lkHalfAt v.now + b2n half
      let ofs := ((t2 - t1) - (t4 - f.stamp)) / 2
      t.cas.joined = true ∧ t.on R.CAS_TSYNC_LOCKED = decide (16 ≤ t.cas.syncGood) ∧
      t.cas.syncGood = (if ofs.natAbs ≤ 10 then v.cas.syncGood + 1 else 0) ∧
      t.rd R.CAS_TSYNC_OFS = unsigned 16 ofs % 2 ^ R.CAS_TSYNC_OFS.w ∧
      t.rd (R.CAS_LANE_DELAY_DELAY k) = min 65535 (((t4 - t1) - (f.stamp - t2)) / 2).toNat ∧
      (v.cas.joined = false → t.lk.slew = 0 ∧ t.lk.t0 = v.now ∧ t.lk.off = v.lkHalfAt v.now - 2 * v.now + ofs ∧
        t.freeCtr = v.freeCtr)) ∧
    (f.type = 0x10 → v.casState = 0 → Completes (.topo k f) s fun t => t = v) ∧
    (f.type = 0x10 → v.isCox = false → v.casState = 1 ∨ v.casState = 2 → v.upLane ≠ some k →
      v.cas.lane[k].sub.isSome = true ∨ v.downs.length < 8 →
      Completes (.topo k f) s fun t =>
        t.cas.lane[k].sub = some ⟨bits f.p0 0 15, bits f.p1 0 4, bits f.p1 8 4, bits f.p1 16 8⟩ ∧
        Tab.find t.cas.ports f.src = some k.val ∧ t.now = v.now) ∧
    (f.type = 0x10 → v.isCox = true → v.casState = 2 → v.upLane ≠ some k → v.cas.lane[k].sub = none → v.downs.length < 8 →
      bits f.p1 8 4 < v.rd R.CAS_VER_CMIN → 0 < bits f.p0 0 15 →
      Completes (.topo k f) s fun t =>
        t = v.raise Ev.CAS_JOIN_REFUSED 0xFFFF f.src) ∧
    (f.type = 0x11 → Completes (.formed k f) s fun t =>
      t.casState = 2 ∧ t.rd R.CAS_STATUS_N = bits f.p0 0 15 ∧ t.rd R.CAS_STATUS_DEPTH = bits f.p1 0 4 ∧
      t.rd R.CAS_VER_CMIN = bits f.p1 8 4 ∧ t.rd R.CAS_VER_CFEAT = bits f.p1 16 8 ∧ t.rd R.CAS_COX_COX = bits f.p2 0 14 ∧
      t.rd R.CAS_COX_STBY = bits f.p2 16 14 ∧ { code := Ev.CAS_FORMED, unit := 0xFFFF, detail := 0, body := [] } ∈ t.raised ∧
      (t.isStandby = true ↔ bits f.p2 16 14 = v.index ∧ v.rd R.CAS_STATUS_DIST = 1)) ∧
    (f.type = 0x12 → v.casState ≠ 0 → v.casState ≠ 3 → Completes (.detach k f) s fun t =>
      t.casState = 3 ∧ t.rd R.CAS_STATUS_ROLE = 0 ∧ t.rd R.CAS_STATUS_DIST = 0xF ∧ t.upLane = none ∧ t.downs = [] ∧
      t.raised = v.raised ++ [{ code := Ev.CAS_DETACHED, unit := 0xFFFF, detail := 0, body := [] }]) ∧
    (f.type = 0x13 → v.casState ≠ 3 → Completes (.takeover k f) s fun t =>
      RegsBut [R.CAS_COX_COX] v t ∧ t.rd R.CAS_COX_COX = bits f.p0 0 14 ∧ t.cas.probe = none ∧ t.out = v.out ∧
      t.cas.takeovers.contains (f.src, f.term) = true) ∧
    (f.type = 0x13 → v.casState = 3 → f.hops ≤ 4 → Completes (.takeover k f) s fun t =>
      t.casState = 1 ∧ t.rd R.CAS_STATUS_DIST = f.hops + 1 ∧ t.rd R.CAS_COX_COX = bits f.p0 0 14 ∧ t.cas.probe = none ∧
      t.upLane = (if v.laneUp k then some k else none) ∧
      t.raised.getLast? = some { code := Ev.CAS_REATTACHED, unit := 0xFFFF, detail := 0, body := [] }) ∧
    (f.type = 0x14 → v.hearsCox = true → Free v k → Completes (.probe k f) s fun t =>
      t.out = v.out ++ [.cas k (ownFrame v k 0x15 0 0 [f.p0]) none] ∧ t.regs = v.regs) ∧
    (f.type = 0x14 → v.hearsCox = false → Completes (.probe k f) s fun t => t = v))

/-- The frames that carry the cascade's work, once accepted and not passed on only (R112, R295, R300, R315, R321–R323,
R328–R334, R341, R342): the Cox's signs of life and mirror, sync objects, broadcasts, freezes, pace and digests; `u` is the
package with the frame accepted, `v` with it passed on where it goes further too. -/
def Obligations.CascadeObjectFrames : Prop := ∀ (s u : State) (k : Lane) (f : CasFrame), s.live = true → s.accept k f = (u, true) →
  (f.type = 0x15 → u.ownProbe f.p0 = false → u.cas.probed.find? (fun p => p.1 % 2 ^ 32 == f.p0) = none →
    Completes (.coxAlive k f) s fun t => t = u) ∧
  (∀ (a : CasRx) (v : State), a.frame = f → u.transit k a = (v, true) → v.casFrozen = false →
    (f.type = 0x15 → Completes (.coxAlive k f) s fun t => t.cas.probe = none) ∧
    (∀ n tm, f.type = 0x16 → a.item = some (.count n tm) → Completes (.mirror k a) s fun t =>
      t.cas.mirror = { v.cas.mirror with n := n, term := tm } ∧ t.regs = v.regs ∧ t.out = v.out) ∧
    (∀ o, f.type = 0x16 → a.item = some (.sched o) → Completes (.mirror k a) s fun t =>
      t.cas.mirror = { v.cas.mirror with sched := v.cas.mirror.sched ++ [o] } ∧ t.regs = v.regs) ∧
    (f.type = 0x17 → Completes (.coxBeat k f) s fun t => t.cas.beat = some (v.now, f.term) ∧
      RegsBut [R.CAS_STATUS_N] v t ∧ t.rd R.CAS_STATUS_N = bits f.p0 0 15) ∧
    (f.type = 0x20 → (v.obj (bits f.p0 0 14)).type ≠ a.objType → Completes (.objUp k a) s fun t =>
      t = v.raise Ev.CAS_OBJ_ERR 0xFFFF (bits f.p0 0 14)) ∧
    (f.type = 0x20 → (v.obj (bits f.p0 0 14)).type = a.objType → 2 ≤ a.objType → a.objType ≤ 5 → Completes (.objUp k a) s fun t =>
      Tab.find (t.obj (bits f.p0 0 14)).kids k = some ⟨f.p1, bits f.p2 0 15, true⟩ ∧ t.now = v.now ∧
      (v.isRoot = true → (v.obj (bits f.p0 0 14)).sent = none → (t.obj (bits f.p0 0 14)).res = t.aggregate (bits f.p0 0 14))) ∧
    (f.type = 0x20 → (v.obj (bits f.p0 0 14)).type = 7 → a.objType = 7 → v.isRoot = true → v.setCounts k f = false →
      (v.obj (bits f.p0 0 14)).stamp.1 < f.stamp → Completes (.objUp k a) s fun t =>
      (t.obj (bits f.p0 0 14)).res = f.p1 ∧ (t.obj (bits f.p0 0 14)).stamp = (f.stamp, f.src)) ∧
    (f.type = 0x21 → (v.obj (bits f.p0 0 14)).type = 1 → a.objType = 1 → bits f.p0 16 8 = (v.obj (bits f.p0 0 14)).gen →
      Completes (.objDown k a) s fun t =>
        (t.obj (bits f.p0 0 14)).gen = ((v.obj (bits f.p0 0 14)).gen + 1) % 256 ∧ (t.obj (bits f.p0 0 14)).arrived = false ∧
        (t.obj (bits f.p0 0 14)).aborted = bit f.p0 24 ∧ (t.obj (bits f.p0 0 14)).members = a.members % 2 ^ 15 ∧
        t.rd R.CAS_REL_HEAD_SEQ = (v.rd R.CAS_REL_HEAD_SEQ + 1) % 2 ^ 32 ∧
        t.rd (R.CAS_REL_OBJ ((v.rd R.CAS_REL_HEAD_SEQ + 1) % 2 ^ 32 % 64)) = bits f.p0 0 14) ∧
    (f.type = 0x21 → (v.obj (bits f.p0 0 14)).type = a.objType → 2 ≤ a.objType → a.objType ≤ 5 → Completes (.objDown k a) s fun t =>
      (t.obj (bits f.p0 0 14)).res = f.p1 ∧ (t.obj (bits f.p0 0 14)).members = a.members % 2 ^ 15 ∧ t.regs = v.regs ∧
      (f.p1 = (v.obj (bits f.p0 0 14)).res → (t.obj (bits f.p0 0 14)).ready = true)) ∧
    (∀ o g x, f.type = 0x22 → f.payload = State.bulkWords [(o, g, x)] → o < 2 ^ 14 → g < 2 ^ 8 → x < 2 ^ 32 →
      2 ≤ (v.obj o).type → (v.obj o).type ≤ 5 → Completes (.objBulk k f) s fun t =>
      (Tab.find (t.obj o).kids k).map (·.value) = some x ∧ t.now = v.now) ∧
    (∀ o g x, f.type = 0x22 → f.payload = State.bulkWords [(o, g, x)] → o < 2 ^ 14 → g < 2 ^ 8 → x < 2 ^ 32 →
      (v.obj o).type = 0 → Completes (.objBulk k f) s fun t => t = v.raise Ev.CAS_OBJ_ERR 0xFFFF o) ∧
    (f.type = 0x30 → v.mayAct = true → Completes (.bcastUp k f) s fun t =>
      t.cas.bseq = v.cas.bseq + 1 ∧ t.cas.blog.getLast? =
        some (v.cas.bseq + 1, ⟨bits f.p0 0 8, bits f.p0 16 16, f.src, [f.p1, f.p2, f.p3, f.p4]⟩)) ∧
    (f.type = 0x30 → v.mayAct = false → Completes (.bcastUp k f) s fun t =>
      t.cas.bwait = v.cas.bwait ++ [⟨bits f.p0 0 8, bits f.p0 16 16, f.src, [f.p1, f.p2, f.p3, f.p4]⟩] ∧ t.regs = v.regs) ∧
    (f.type = 0x31 → v.cas.bseen.contains f.p5 = false →
      (bits f.p0 0 8 = 0 → bits f.p6 0 14 ≠ v.index → Completes (.retract k f) s fun t =>
        t.cas.bseen = f.p5 :: v.cas.bseen ∧ t.rd R.SEN_STATUS_RETRACT_PEND = 1 ∧
        t.rd R.SEN_RETRACT_EPOCH = (if v.on R.SEN_STATUS_RETRACT_PEND then min (v.rd R.SEN_RETRACT_EPOCH) f.p1 else f.p1) % 2 ^ 32 ∧
        (t.raised.drop v.raised.length).map (·.code) = [Ev.SEN_RETRACT]) ∧
      (bits f.p0 0 8 = 1 → Completes (.hostBroadcast k f) s fun t =>
        t.cas.bseen = f.p5 :: v.cas.bseen ∧ t.rd R.CAS_BC_CTL_RX_HEAD = (v.rd R.CAS_BC_CTL_RX_HEAD + 1) % 2 ^ 16 ∧
        t.rd (R.CAS_BC_RX_WORD ((v.rd R.CAS_BC_CTL_RX_HEAD + 1) % 2 ^ 16 % 16) 1) = f.p1 % 2 ^ 32) ∧
      (bits f.p0 0 8 = 2 → Completes (.pkgLost k f) s fun t =>
        t.cas.bseen = f.p5 :: v.cas.bseen ∧
        t.raised = v.raised ++ [{ code := Ev.CAS_PKG_LOST, unit := 0xFFFF, detail := f.p1, body := [] }]) ∧
      (∀ (d : Die) (x : Nat), bits f.p0 0 8 = 3 → v.rd (R.SEN_DIE_GROUP_GROUP d) = bits f.p1 0 16 → bits f.p1 16 2 ≠ 2 →
        v.grouped d f.p2 = true → Tab.find v.sen.die[d].closed f.p2 = some x → x ≠ f.p3 + f.p4 * 2 ^ 32 →
        v.retracted f.p2 = false → v.sen.verdicts = [] → Completes (.verdict k f) s fun t =>
        t.cas.bseq = max v.cas.bseq f.p5 ∧ t.rd (R.SEN_DIE_STATUS_EXPELLED d) = 1 ∧
        (t.raised.drop v.raised.length).any (fun e => e.code == Ev.SEN_EXPELLED && e.unit == d.val) = true)) ∧
    (f.type = 0x32 → v.mayAct = true → bits f.p0 0 2 = 0 → v.cas.sched = [] → v.cas.opSeen = [] →
      Completes (.schedReq k f) s fun t =>
        t.on R.CAS_SCHED_PEND = true ∧ t.rd R.CAS_SCHED_AT_TIME = (v.lkTime + v.depth * 250 + 500) % 2 ^ 64 ∧
        t.cas.sched = [⟨0, bits f.p0 4 2, (v.cas.opId + 1) % 2 ^ 16, v.lkTime + v.depth * 250 + 500⟩] ∧
        t.cas.freezeAt = some (20 * cdiv (v.whenLk (v.lkTime + v.depth * 250 + 500)) 20)) ∧
    (f.type = 0x32 → bits f.p0 0 2 < 2 → v.cas.sched.any (fun o => o.kind == bits f.p0 0 2) = true →
      Completes (.schedReq k f) s fun t => t = v.modCas fun c => { c with ignored := c.ignored + 1 }) ∧
    (f.type = 0x33 → v.cas.opSeen.contains (bits f.p0 16 16) = false → Completes (.sched k f) s fun t =>
      t.on R.CAS_SCHED_PEND = true ∧ t.rd R.CAS_SCHED_AT_TIME = (f.p1 + f.p2 * 2 ^ 32) % 2 ^ 64 ∧
      t.cas.sched = v.cas.sched ++ [⟨bits f.p0 0 2, bits f.p0 4 2, bits f.p0 16 16, f.p1 + f.p2 * 2 ^ 32⟩]) ∧
    (f.type = 0x34 → Completes (.paceUp k f) s fun t =>
      t.cas.lane[k].pace = some (bits f.p0 0 13) ∧ RegsBut tracing v t ∧
      (v.isRoot = false → v.upLane.isSome = true → t.cas.paceUp = some t.paceLeast)) ∧
    (f.type = 0x35 → Completes (.pace k f) s fun t =>
      t = { v with gov := { v.gov with
        paceNext := v.gov.paceNext ++ [(bits f.p0 16 3, bits f.p0 0 13, f.p1 + f.p2 * 2 ^ 32, f.p3 + f.p4 * 2 ^ 32)]
        paceRatio := bits f.p0 16 3 } }) ∧
    (f.type = 0x40 → v.retracted f.p1 = false → v.sen.verdicts = [] → v.sen.cmps = [] →
      1 < v.rd (R.SEN_DIE_GROUP_SIZE (bits f.p0 20 3)) → Completes (.digest k f) s fun t =>
      t.sen.cmps = [⟨bits f.p0 0 16, f.p1, bits f.p0 20 3, v.rd (R.SEN_DIE_GROUP_SIZE (bits f.p0 20 3)),
        [(f.src, bits f.p0 16 3, f.p2 + f.p3 * 2 ^ 32)], v.now + 1000 * v.rd R.SEN_EPOCH_CFG_DIGEST_WAIT⟩] ∧
      t.regs = v.regs ∧ t.out = v.out))

/-- The cascade's lanes and timers (R312, R313, R318, R322, R325, R327, R332, R333): frames discarded or kept back in a
freeze, the time period, formation and probe timeouts, beats, broadcasts sent and sent again, lanes down, retrained and
idle. -/
def Obligations.CascadeLinkCommands : Prop := ∀ (s : State) (k : Lane), s.live = true →
  (∀ (f : CasFrame), bit (s.rd R.CAS_CTL_LANE_EN) k.val = true → f.crcGood = false → s.laneUp k = true →
    Completes (.frameDiscard k f) s fun t =>
      t.cas.lane[k].fails = (s.now :: s.cas.lane[k].fails).take 8 ∧ t.cas.lane[k].rx = s.cas.lane[k].rx ∧ t.regs = s.regs ∧
      t.out = s.out ++ [.cas k (CasFrame.make 0x02 0 0 s.index 0 s.term 0 (s.lkHalfAt s.now) [f.lseq, 1]) none]) ∧
  (∀ (f : CasFrame), bit (s.rd R.CAS_CTL_LANE_EN) k.val = true → f.crcGood = true → f.ver ≠ 1 →
    Completes (.frameDiscard k f) s fun t => t = s) ∧
  (∀ (a : CasRx) (u v : State), s.casFrozen = true → s.accept k a.frame = (u, true) → u.transit k a = (v, true) →
    v.casFrozen = true → State.holds a.frame.type = true → v.cas.lane[k].held.length < 255 →
    Completes (.frozenFrameArrival k a) s fun t =>
      t.cas.lane[k].held = v.cas.lane[k].held ++ [a] ∧ RegsBut [R.CAS_LANE_STS_HELD k] v t ∧
      t.rd (R.CAS_LANE_STS_HELD k) = v.cas.lane[k].held.length + 1 ∧ t.cas.obj = v.cas.obj ∧ t.out = v.out) ∧
  (s.upLane = some k → Free s k → Completes .tsyncPeriod s fun t =>
    t.now = max s.now (2048 * s.cas.nextSync) ∧ t.cas.nextSync = t.now / 2048 + max 1 (s.rd R.CAS_TSYNC_PERIOD_W) ∧
    t.out = s.out ++ [.cas k (CasFrame.make 0x03 0 0 s.index 0 s.term (s.cas.lane[k].tx + 1) (s.lkHalfAt t.now) []) none] ∧
    t.regs = s.regs) ∧
  (s.upLane = none → Completes .tsyncPeriod s fun t => t = s) ∧
  (∀ x, s.cas.firstTopo = some x → s.isCox = true → s.casState = 1 → 2 * s.rd R.CAS_STATUS_N ≤ s.rd R.CAS_CFG_EXPECT →
    Completes .formationTimeout s fun t =>
      t.now = max s.now (x + 1000000 * s.rd R.CAS_CFG_FORM_MS) ∧ t.cas.firstTopo = none ∧
      RegsBut [R.CAS_STATUS_STATE] s t ∧ t.casState = 4 ∧
      t.raised = s.raised ++ [{ code := Ev.CAS_NO_QUORUM, unit := 0xFFFF, detail := 0, body := [] }]) ∧
  (∀ x, s.cas.firstTopo = some x → s.isCox = true → s.casState = 1 → s.rd R.CAS_CFG_EXPECT < 2 * s.rd R.CAS_STATUS_N →
    Completes .formationTimeout s fun t =>
      t.now = max s.now (x + 1000000 * s.rd R.CAS_CFG_FORM_MS) ∧ t.cas.firstTopo = none ∧ t.casState = 2 ∧
      { code := Ev.CAS_FORMED, unit := 0xFFFF, detail := 0, body := [] } ∈ t.raised ∧
      t.raised.getLast? = some { code := Ev.CAS_FORM_SHORT, unit := 0xFFFF, detail := 0, body := [] }) ∧
  (∀ n x, s.cas.probe = some (n, x) → Completes .probeTimeout s fun t =>
    t.isCox = true ∧ t.cas.probe = none ∧ t.cas.yielded = false ∧ t.now = max s.now x ∧
    (s.term < 2 ^ 32 - 1 → t.term = s.term + 1) ∧
    (t.raised.drop s.raised.length).any (fun e => e.code == Ev.CAS_TAKEOVER) = true) ∧
  (s.isCox = true → s.downs = [k] → Free s k → s.casFrozen = false → Completes .coxBeatTimer s fun t =>
    t.now = max s.now s.cas.nextBeat ∧ t.cas.nextBeat = t.now + 1000 ∧ t.regs = s.regs ∧
    t.out = s.out ++ [.cas k (CasFrame.make 0x17 2 0 s.index 0 s.term (s.cas.lane[k].tx + 1) (s.lkHalfAt t.now)
      [s.rd R.CAS_STATUS_N]) none]) ∧
  (s.isCox = true → Completes .coxBeatTimer s fun t => t.now = max s.now s.cas.nextBeat ∧ t.cas.nextBeat = t.now + 1000) ∧
  (s.on R.CAS_BC_CTL_BUSY = false → s.isRoot = false → Completes .hostBroadcastSend s fun t =>
    t.on R.CAS_BC_CTL_BUSY = true ∧ t.cas.host = some (s.cas.req % 2 ^ 16) ∧ t.cas.req = s.cas.req + 1 ∧
    t.cas.mine = s.cas.mine ++ [(⟨1, s.cas.req % 2 ^ 16, s.index, [s.rd (R.CAS_BC_TX_DATA 0), s.rd (R.CAS_BC_TX_DATA 1),
      s.rd (R.CAS_BC_TX_DATA 2), s.rd (R.CAS_BC_TX_DATA 3)]⟩, s.now + 10000)]) ∧
  (s.on R.CAS_BC_CTL_BUSY = false → s.isRoot = true → s.mayAct = true → s.casFrozen = false →
    Completes .hostBroadcastSend s fun t =>
    t.on R.CAS_BC_CTL_BUSY = false ∧ t.cas.host = none ∧ t.cas.bseq = s.cas.bseq + 1 ∧
    t.rd R.CAS_BC_CTL_RX_HEAD = (s.rd R.CAS_BC_CTL_RX_HEAD + 1) % 2 ^ 16) ∧
  (s.on R.CAS_BC_CTL_BUSY = true → Completes .hostBroadcastSend s fun t => t = s) ∧
  (∀ (b : Bcast) (x : Nat), s.cas.mine.find? (fun m => m.1.req == b.req) = some (b, x) → s.isRoot = false → s.casFrozen = false →
    s.upLane = some k → Free s k →
    Completes (.broadcastResend b.req) s fun t =>
      t.now = max s.now x ∧
      t.cas.mine = s.cas.mine.map (fun m => if m.1.req == b.req then (m.1, max s.now x + 10000) else m) ∧
      t.out = s.out ++ [.cas k (CasFrame.make 0x30 1 0 s.index 0 s.term (s.cas.lane[k].tx + 1) (s.lkHalfAt t.now)
        ([bits b.cls 0 8 + 2 ^ 16 * bits b.req 0 16] ++ b.data)) none]) ∧
  (∀ (b : Bcast) (x : Nat), s.cas.mine.find? (fun m => m.1.req == b.req) = some (b, x) →
    Completes (.broadcastResend b.req) s fun t => t.now = max s.now x ∧
      t.cas.mine = s.cas.mine.map fun m => if m.1.req == b.req then (m.1, max s.now x + 10000) else m) ∧
  (s.laneUp k = true → s.upLane ≠ some k → s.cas.lane[k].sub = none → s.isCox = false →
    Completes (.laneDown k) s fun t =>
      t.laneUp k = false ∧ t.cas.lane[k].replay = [] ∧ t.cas.lane[k].queue = [] ∧ t.cas.lane[k].hello = none ∧
      t.cas.lane[k].nextTry = t.now ∧ s.now ≤ t.now ∧ t.casState = s.casState ∧
      t.raised = s.raised ++ [{ code := Ev.CAS_LINK_DOWN, unit := k, detail := 0, body := [] }]) ∧
  (s.laneUp k = true → s.upLane = some k → s.casState = 2 → s.isStandby = false → s.cas.lane[k].fails = [] →
    Completes (.laneDown k) s fun t =>
      t.laneUp k = false ∧ t.now = max s.now (s.cas.lane[k].last + 3000) ∧ t.casState = 3 ∧ t.upLane = none ∧
      (t.raised.drop s.raised.length).map (·.code) = [Ev.CAS_LINK_DOWN, Ev.CAS_DETACHED]) ∧
  (s.laneUp k = false → bit (s.rd R.CAS_CTL_LANE_EN) k.val = true → Completes (.laneRetrain k) s fun t =>
    t.now = max s.now s.cas.lane[k].nextTry ∧ t.cas.lane[k].nextTry = t.now + 10000 ∧ t.cas.lane[k].sent = t.now ∧
    t.out.length = s.out.length + 1 ∧ t.regs = s.regs) ∧
  (s.laneUp k = true → Completes (.laneRetrain k) s fun t => t = s) ∧
  (s.laneUp k = true → Completes (.laneIdleSend k) s fun t =>
    t.now = max s.now (s.cas.lane[k].sent + 1000) ∧ t.cas.lane[k].sent = t.now ∧ t.out.length = s.out.length + 1 ∧
    t.regs = s.regs)

/-- The sync objects as the host works them (R114, R328–R331): configuration, a barrier arrival at the root and below it, a
value written, and the update that the 256 ns interval held back. -/
def Obligations.CascadeObjectCommands : Prop := ∀ s : State, s.live = true →
  (∀ (ty : Nat) (notify : Bool) (o : Nat), o = s.rd R.CAS_OBJ_SEL_INDEX → s.barrierBusy o = false → ty % 8 = (s.obj o).type →
    Completes (.objCfgWrite ty (s.obj o).member notify false) s fun t =>
      t.obj o = { s.obj o with notify } ∧ t.regs = s.regs ∧ t.out = s.out) ∧
  (∀ (ty : Nat) (m notify errClear : Bool) (o : Nat), o = s.rd R.CAS_OBJ_SEL_INDEX → s.barrierBusy o = false →
    Completes (.objCfgWrite ty m notify errClear) s fun t =>
      (t.obj o).type = ty % 8 ∧ (t.obj o).member = m ∧ (t.obj o).notify = notify ∧ t.now = s.now ∧
      (errClear = true → (t.obj o).err = false) ∧
      (m ≠ (s.obj o).member → s.isRoot = false → (t.obj o).ready = false) ∧
      (m ≠ (s.obj o).member → s.isRoot = true → ty % 8 = 0 → (t.obj o).ready = true)) ∧
  (∀ (ty : Nat) (m notify errClear : Bool) (o : Nat), o = s.rd R.CAS_OBJ_SEL_INDEX → s.barrierBusy o = true →
    Completes (.objCfgWrite ty m notify errClear) s fun t =>
      t.obj o = { s.obj o with err := true } ∧ t.regs = s.regs ∧ t.out = s.out) ∧
  (∀ o : Nat, o < 2 ^ 14 → (s.obj o).type = 1 → (s.obj o).member = true → (s.obj o).arrived = false → (s.obj o).kids = [] →
    (s.isRoot = true → s.mayAct = true → s.casFrozen = false → s.frozen = false → Completes (.barrierArrive o) s fun t =>
      (t.obj o).gen = ((s.obj o).gen + 1) % 256 ∧ (t.obj o).arrived = false ∧ (t.obj o).aborted = false ∧
      t.rd R.CAS_ARRIVE_INDEX = o ∧ t.rd R.CAS_REL_HEAD_SEQ = (s.rd R.CAS_REL_HEAD_SEQ + 1) % 2 ^ 32 ∧
      t.rd (R.CAS_REL_OBJ ((s.rd R.CAS_REL_HEAD_SEQ + 1) % 2 ^ 32 % 64)) = o ∧ t.rd R.BUD_BWAIT_LAST_NS = 0 ∧
      t.rd R.BUD_BWAIT_COUNT_COUNT = min (s.rd R.BUD_BWAIT_COUNT_COUNT + 1) (2 ^ R.BUD_BWAIT_COUNT_COUNT.w - 1)) ∧
    (s.isRoot = false → Completes (.barrierArrive o) s fun t =>
      (t.obj o).arrived = true ∧ (t.obj o).arrAt = s.now ∧ (t.obj o).gen = (s.obj o).gen ∧
      ((s.obj o).sent ≠ some (1, 1) → (t.obj o).sent = some (1, 1) ∧ (t.obj o).sentAt = some s.now) ∧
      (∀ k : Lane, (s.obj o).sent = none → s.casFrozen = false → s.upLane = some k → Free s k →
        t.out = s.out ++ [.cas k (ownFrame s k 0x20 1 0 [o + 2 ^ 16 * (s.obj o).gen, 1, 1]) none]))) ∧
  (∀ o : Nat, o < 2 ^ 14 → (s.obj o).type ≠ 1 ∨ (s.obj o).member = false ∨ (s.obj o).arrived = true →
    Completes (.barrierArrive o) s fun t =>
      t.obj o = { s.obj o with err := true } ∧ RegsBut [R.CAS_ARRIVE_INDEX] s t ∧ t.rd R.CAS_ARRIVE_INDEX = o ∧ t.out = s.out) ∧
  (∀ v o : Nat, o = s.rd R.CAS_OBJ_SEL_INDEX → (s.obj o).member = false → Completes (.objValWrite v) s fun t =>
    t.obj o = { s.obj o with val := v % 2 ^ 32 } ∧ t.regs = s.regs ∧ t.out = s.out) ∧
  (∀ v o : Nat, o = s.rd R.CAS_OBJ_SEL_INDEX → (s.obj o).member = true → 2 ≤ (s.obj o).type → (s.obj o).type ≤ 5 →
    (s.obj o).kids = [] → (s.obj o).sent = none → v % 2 ^ 32 ≠ 0 → Completes (.objValWrite v) s fun t =>
      (t.obj o).val = v % 2 ^ 32 ∧ RegsBut tracing s t ∧
      (s.isRoot = true → (t.obj o).res = v % 2 ^ 32) ∧ (s.isRoot = false → (t.obj o).sent = some (v % 2 ^ 32, 1))) ∧
  (∀ v o : Nat, o = s.rd R.CAS_OBJ_SEL_INDEX → (s.obj o).member = true → (s.obj o).type = 7 → s.isRoot = true →
    (s.obj o).stamp.1 < s.lkHalfAt s.now → Completes (.objValWrite v) s fun t =>
      (t.obj o).val = v % 2 ^ 32 ∧ (t.obj o).res = v % 2 ^ 32 ∧ (t.obj o).stamp = (s.lkHalfAt s.now, s.index)) ∧
  (∀ o : Nat, (s.obj o).due = true → 2 ≤ (s.obj o).type → (s.obj o).type ≤ 5 → s.isRoot = false →
    (s.aggregate o, s.members o) ≠ (s.obj o).sent.getD (0, 0) → Completes (.objUpdateInterval o) s fun t =>
      t.now = max s.now ((s.obj o).sentAt.getD 0 + 256) ∧ (t.obj o).due = false ∧ RegsBut tracing s t ∧
      (t.obj o).sent = some (s.aggregate o, s.members o)) ∧
  (∀ o : Nat, (s.obj o).due = false → Completes (.objUpdateInterval o) s fun t => t = s)

/-- Cascade operations and pace (R112, R334–R338, R342, R343): requests of freeze, thaw and reset at the root and below it,
their edges, the period of a pace schedule and its end. An operation's instant is D × 250 ns + 500 ns ahead in LK_TIME. -/
def Obligations.CascadeFreezeCommands : Prop := ∀ (s : State) (k : Lane), s.live = true →
  (s.isRoot = true → s.mayAct = true → s.cas.sched = [] → s.cas.opSeen = [] →
    (s.casFrozen = false → Completes .cascadeFreezeRequest s fun t =>
      t.on R.CAS_SCHED_PEND = true ∧ t.rd R.CAS_SCHED_AT_TIME = (s.lkTime + s.depth * 250 + 500) % 2 ^ 64 ∧
      t.cas.sched = [⟨0, 0, (s.cas.opId + 1) % 2 ^ 16, s.lkTime + s.depth * 250 + 500⟩] ∧
      t.cas.freezeAt = some (20 * cdiv (s.whenLk (s.lkTime + s.depth * 250 + 500)) 20)) ∧
    (Completes .cascadeThawRequest s fun t =>
      t.on R.CAS_SCHED_PEND = true ∧ t.rd R.CAS_SCHED_AT_TIME = (s.lkTime + s.depth * 250 + 500) % 2 ^ 64 ∧
      t.cas.sched = [⟨1, 0, (s.cas.opId + 1) % 2 ^ 16, s.lkTime + s.depth * 250 + 500⟩] ∧
      t.cas.thawAt = some (20 * cdiv (s.whenLk (s.lkTime + s.depth * 250 + 500)) 20)) ∧
    (∀ scope, scope < 2 → Completes (.cascadeResetRequest scope) s fun t =>
      t.rd R.CAS_SCHED_SCOPE = scope ∧ t.on R.CAS_SCHED_PEND = true ∧
      t.cas.sched = [⟨2, scope, (s.cas.opId + 1) % 2 ^ 16, s.lkTime + s.depth * 250 + 500⟩] ∧
      t.cas.freezeAt = s.cas.freezeAt ∧ t.cas.thawAt = s.cas.thawAt)) ∧
  (s.isRoot = true → s.casFrozen = true → Completes .cascadeFreezeRequest s fun t =>
    t = s.modCas fun c => { c with ignored := c.ignored + 1 }) ∧
  (∀ scope, s.isRoot = true → 2 ≤ scope → scope < 4 → Completes (.cascadeResetRequest scope) s fun t =>
    t.rd R.CAS_SCHED_SCOPE = scope ∧ RegsBut [R.CAS_SCHED_SCOPE] s t ∧ t.cas = s.cas ∧ t.out = s.out) ∧
  (s.isRoot = false → s.upLane = some k → Free s k →
    (Completes .cascadeFreezeRequest s fun t => t.out = s.out ++ [.cas k (ownFrame s k 0x32 1 0 [0]) none] ∧
      RegsBut tracing s t ∧ t.cas.sched = s.cas.sched) ∧
    (Completes .cascadeThawRequest s fun t => t.out = s.out ++ [.cas k (ownFrame s k 0x32 1 0 [1]) none] ∧
      RegsBut tracing s t ∧ t.cas.sched = s.cas.sched) ∧
    (∀ scope, scope < 4 → Completes (.cascadeResetRequest scope) s fun t =>
      t.out = s.out ++ [.cas k (ownFrame s k 0x32 1 0 [2 + 16 * scope]) none] ∧ t.rd R.CAS_SCHED_SCOPE = scope ∧
      t.cas.sched = s.cas.sched)) ∧
  (∀ o x, s.pendingOp 0 = some o → s.cas.freezeAt = some x → s.isCox = false → Completes .cascadeFreezeEdge s fun t =>
    t.casFrozen = true ∧ t.frozen = true ∧ max s.now x ≤ t.now ∧ (∀ j : Lane, t.cas.lane[j] = s.cas.lane[j]) ∧
    (∀ j : Lane, t.rd (R.CAS_LANE_CUT_RX_LSEQ j) = s.cas.lane[j].rx % 2 ^ 32 ∧
      t.rd (R.CAS_LANE_CUT_TX_LSEQ j) = s.cas.lane[j].tx % 2 ^ 32) ∧
    t.cas.freezeAt = none ∧ t.cas.sched = s.cas.sched.filter (fun y => y.id != o.id) ∧
    t.raised = s.raised ++ [{ code := Ev.CAS_FREEZE, unit := 0xFFFF, detail := 0, body := [] }]) ∧
  (s.pendingOp 0 = none → Completes .cascadeFreezeEdge s fun t => t = s) ∧
  (∀ o order, s.pendingOp 1 = some o → s.casFrozen = false → s.isCox = false → Completes (.cascadeThawEdge order) s fun t =>
    t.casFrozen = false ∧ t.cas.thawAt = none ∧ t.cas.sched = s.cas.sched.filter (fun y => y.id != o.id) ∧
    t.raised = s.raised ∧ t.frozen = s.frozen) ∧
  (∀ o order, s.pendingOp 1 = some o → s.casFrozen = true → s.cas.later = [] → s.cas.resetHeld = none → s.cas.obj = [] →
    (∀ j : Lane, s.cas.lane[j].held = []) → s.cas.bwait = [] → s.cas.swait = [] → s.isCox = false →
    Completes (.cascadeThawEdge order) s fun t => t.casFrozen = false ∧
      (s.on R.REC_TRIG_FROZEN = false → t.frozen = false) ∧ (s.on R.REC_TRIG_FROZEN = true → t.frozen = s.frozen) ∧
      (∀ j : Lane, t.rd (R.CAS_LANE_STS_HELD j) = 0) ∧
      t.raised = s.raised ++ [{ code := Ev.CAS_THAW, unit := 0xFFFF, detail := 0, body := [] }]) ∧
  (∀ o, s.pendingOp 2 = some o → s.casFrozen = true → s.isCox = false → Completes .cascadeResetEdge s fun t =>
    t.cas.resetHeld = some o.scope ∧ t.casFrozen = true ∧ t.cas.obj = s.cas.obj ∧ t.raised = s.raised) ∧
  (∀ o, s.pendingOp 2 = some o → s.casFrozen = false → Completes .cascadeResetEdge s fun t =>
    t.cas.obj = [] ∧ t.cas.blog = [] ∧ t.rd R.CAS_BC_CTL_RX_HEAD = 0 ∧ t.rd R.CAS_REL_HEAD_SEQ = 0 ∧
    (o.scope = 1 → s.isCox = false → t.cas.takeovers = [] ∧ t.cas.mirror = {} ∧ t.upLane = none) ∧
    t.raised.getLast? = some { code := Ev.CAS_RESET, unit := 0xFFFF, detail := o.scope, body := [] }) ∧
  (s.isCox = true → s.on R.CAS_PACE_CFG_EN = true → bit (s.rd R.CAS_VER_CFEAT) 0 = true → s.mayAct = true →
    s.casFrozen = false → s.cas.pace = none → Completes .pacePeriod s fun t =>
      t.cas.pace = some ⟨s.paceLeast * s.rd R.CAS_PACE_CFG_PCT / 100, s.rd R.CAS_PACE_CFG_RATIO,
        s.lkTime + (s.depth * 250 + 500) + 10000,
        s.lkTime + (s.depth * 250 + 500) + 10000 + 2048 * s.rd R.CAS_PACE_CFG_PERIOD_W⟩ ∧
      t.gov.paceRatio = s.rd R.CAS_PACE_CFG_RATIO ∧
      t.gov.paceNext = s.gov.paceNext ++ t.cas.pace.toList.map fun p => (p.ratio, p.tokens, p.start, p.stop)) ∧
  (∀ p, s.isCox = true → s.on R.CAS_PACE_CFG_EN = true → bit (s.rd R.CAS_VER_CFEAT) 0 = true → s.mayAct = true →
    s.casFrozen = false → s.cas.pace = some p → p.ratio ≤ s.rd R.CAS_PACE_CFG_RATIO → Completes .pacePeriod s fun t =>
      t.cas.pace.map (·.start) = some p.stop ∧
      t.cas.pace.map (·.stop) = some (p.stop + 2048 * s.rd R.CAS_PACE_CFG_PERIOD_W) ∧
      max s.now (s.whenLk (p.stop - (s.depth * 250 + 500) - 10000)) = t.now) ∧
  (s.isCox = false ∨ s.on R.CAS_PACE_CFG_EN = false → Completes .pacePeriod s fun t => t = s) ∧
  (∀ a b c stop, s.gov.pace = some (a, b, c, stop) → s.gov.paceNext = [] → Completes .paceEnd s fun t =>
    max s.now (s.whenLk stop) ≤ t.now ∧ t.now % 20 = 0 ∧ t.gov.pace = none ∧ RegsBut [R.BUD_PACE_ACTIVE] s t ∧
    t.rd R.BUD_PACE_ACTIVE = 0 ∧
    t.raised = s.raised ++ [{ code := Ev.CAS_PACE_GAP, unit := 0xFFFF, detail := 0, body := [] }]) ∧
  (∀ x, s.gov.pace = some x → s.gov.paceNext ≠ [] → Completes .paceEnd s fun t =>
    t.gov = s.gov ∧ t.regs = s.regs ∧ t.raised = s.raised)

/-- The mailboxes and the commands every image answers (R395–R400, R407, R410, R411): what GO, DONE, ABORT, NOTE and the
timeout do, and the replies, in the format of their request. `u` is the state in which the stores of a processor that acts
have drained. A MSG command that waits for a free mailbox takes it afterwards (log 44). -/
def Obligations.MailboxCommands : Prop := ∀ (s u : State) (k : Mbx) (who : Init), s.live = true → u = s.turn who →
  (∀ long, u.go k = false → u.mgt.mbx[k].held = none → who.code = R.mbxReq k →
    (bits (u.mbxWord k 0) 4 4 = 3 ∨ k.val < 3 ∧ u.on R.MBX_GLB_V2_EN = true ∧ bits (u.mbxWord k 0) 24 4 = 2) →
    Completes (.mailboxGo k who long) s fun t =>
      t.go k = true ∧ t.mgt.mbx[k].req = long ∧ t.mgt.mbx[k].goAt = u.now ∧ t.mbxWord k 0 = u.mbxWord k 0 ∧
      (∀ p, procOfCode (R.mbxRsp k) = some p → bit (t.rd (R.MGT_P_IRQ_MBX p.idx)) k = true) ∧ t.raised = u.raised) ∧
  (∀ (long : List Nat) (w : Nat), u.go k = false → u.mgt.mbx[k].held = none → who.code = R.mbxReq k →
    bits (u.mbxWord k 0) 4 4 ≠ 3 → (3 ≤ k.val ∨ u.on R.MBX_GLB_V2_EN = false ∨ bits (u.mbxWord k 0) 24 4 ≠ 2) →
    w = (if bits (u.mbxWord k 0) 24 4 = 2 then 1 else 2) → Completes (.mailboxGo k who long) s fun t =>
      t.go k = false ∧ t.on (R.MBX_STS_REPLY k) = true ∧ t.on (R.MBX_STS_BAD_VER k) = true ∧ bits (t.mbxWord k w) 0 16 = 3 ∧
      (∀ p : Proc, t.rd (R.MGT_P_IRQ_MBX p.idx) = u.rd (R.MGT_P_IRQ_MBX p.idx)) ∧
      t.raised = u.raised ++ [{ code := Ev.MGT_MBX_BAD_VER, unit := k, detail := 0, body := [] }]) ∧
  (∀ long, (u.go k = true ∨ u.mgt.mbx[k].held.isSome = true ∨ who.code ≠ R.mbxReq k) →
    Completes (.mailboxGo k who long) s fun t => t = u) ∧
  (∀ long, u.go k = true → who.code = R.mbxRsp k → (∀ q, u.waitsFor k q = false) →
    Completes (.mailboxDone k who long) s fun t =>
      t.go k = false ∧ t.on (R.MBX_STS_REPLY k) = true ∧ t.mgt.mbx[k].rsp = long ∧ t.mgt.mbx[k].held = none ∧
      t.mbxWord k 0 = u.mbxWord k 0 ∧
      (∀ p, procOfCode (R.mbxRsp k) = some p → bit (t.rd (R.MGT_P_IRQ_MBX p.idx)) k = false) ∧
      (k.val < 3 → t.on (R.INT_F_CAUSE_EVT (7 + k.val)) = true)) ∧
  (∀ long, (u.go k = false ∨ who.code ≠ R.mbxRsp k) → Completes (.mailboxDone k who long) s fun t => t = u.msgWaiters) ∧
  (u.go k = true → u.mgt.mbx[k].held = none → who.code = R.mbxReq k → (∀ q, u.waitsFor k q = false) →
    Completes (.mailboxAbort k who) s fun t =>
      t.go k = false ∧ t.on (R.MBX_STS_ABORTED k) = true ∧ t.rd (R.MBX_STS_REPLY k) = u.rd (R.MBX_STS_REPLY k) ∧
      (∀ p, procOfCode (R.mbxRsp k) = some p → bit (t.rd (R.MGT_P_IRQ_MBX p.idx)) k = false)) ∧
  ((u.go k = false ∨ u.mgt.mbx[k].held.isSome = true ∨ who.code ≠ R.mbxReq k) →
    Completes (.mailboxAbort k who) s fun t => t = u.msgWaiters) ∧
  (who.code = R.mbxRsp k → k.val < 3 → Completes (.mailboxNote k who) s fun t =>
    t.on (R.MBX_STS_NOTE k) = true ∧ t.on (R.INT_F_CAUSE_EVT (7 + k.val)) = true ∧
    (u.on (R.INT_F_CAUSE_EVT (7 + k.val)) = false → Owed (39 + k.val) u t) ∧ t.mgt = u.mgt ∧ t.raised = u.raised) ∧
  ((who.code ≠ R.mbxRsp k ∨ 3 ≤ k.val) → Completes (.mailboxNote k who) s fun t => t = u) ∧
  (s.go k = true → s.mgt.mbx[k].held = none → (∀ q, s.waitsFor k q = false) → Completes (.mailboxTimeout k) s fun t =>
    t.now = max s.now (s.mgt.mbx[k].goAt + 1000000 * s.rd (R.MBX_TMO_MS k)) ∧ t.go k = false ∧
    t.on (R.MBX_STS_TIMEOUT k) = true ∧
    (∀ p, procOfCode (R.mbxRsp k) = some p → bit (t.rd (R.MGT_P_IRQ_MBX p.idx)) k = false) ∧
    (s.raised ++ [{ code := Ev.MGT_MBX_TIMEOUT, unit := k, detail := 0, body := [] }]) <+: t.raised) ∧
  ((s.go k = false ∨ s.mgt.mbx[k].held.isSome = true) → Completes (.mailboxTimeout k) s fun t => t = s.msgWaiters) ∧
  (∀ (p : Proc) (h : ImgHdr), (s.proc p).image = some h → (∀ q, s.waitsFor k q = false) →
    (bits (s.mbxWord k 0) 4 4 = 3 → bit h.accept 3 = true →
      (s.asked k 1 = some p → s.mbxLen k = 0 → Completes (.getVersion k) s fun t =>
        t.go k = false ∧ t.on (R.MBX_STS_REPLY k) = true ∧ bits (t.mbxWord k 2) 0 16 = 0 ∧ bits (t.mbxWord k 0) 16 16 = 12 ∧
        t.mbxWord k 1 = s.mbxWord k 1 ∧ t.mbxWord k 5 = bits h.imgVer 0 32 ∧ t.mbxWord k 6 = bits h.imgVer 32 32 ∧
        t.mbxWord k 7 = (h.maj + 2 ^ 8 * h.min + 2 ^ 16 * h.accept) % 2 ^ 32) ∧
      (s.asked k 1 = some p → s.mbxLen k ≠ 0 → Completes (.getVersion k) s fun t =>
        t.go k = false ∧ t.on (R.MBX_STS_REPLY k) = true ∧ bits (t.mbxWord k 2) 0 16 = 2 ∧ bits (t.mbxWord k 0) 16 16 = 0) ∧
      (s.asked k 2 = some p → s.mbxLen k ≤ 44 → s.mbxLong k = false → Completes (.echo k) s fun t =>
        t.go k = false ∧ t.on (R.MBX_STS_REPLY k) = true ∧ bits (t.mbxWord k 2) 0 16 = 0 ∧
        bits (t.mbxWord k 0) 16 16 = s.mbxLen k ∧ ∀ j < 11, t.mbxWord k (5 + j) = s.mbxWord k (5 + j)) ∧
      (s.asked k 2 = some p → s.mbxLen k ≤ 44 → s.mbxLong k = true → Completes (.echo k) s fun t =>
        t.go k = false ∧ t.on (R.MBX_STS_REPLY k) = true ∧ bits (t.mbxWord k 2) 0 16 = 0 ∧
        ∀ j < min 11 s.mgt.mbx[k].req.length, t.mbxWord k (5 + j) = nth s.mgt.mbx[k].req j % 2 ^ 32) ∧
      (s.asked k 2 = some p → 44 < s.mbxLen k → Completes (.echo k) s fun t =>
        t.go k = false ∧ t.on (R.MBX_STS_REPLY k) = true ∧ bits (t.mbxWord k 2) 0 16 = 2) ∧
      (s.asked k 3 = some p → s.mbxLen k = 0 → Completes (.getState k) s fun t =>
        t.go k = false ∧ t.on (R.MBX_STS_REPLY k) = true ∧ bits (t.mbxWord k 2) 0 16 = 0 ∧ bits (t.mbxWord k 0) 16 16 = 12 ∧
        ∀ j < 3, bits (t.mbxWord k (5 + j)) 0 2 = s.rd (R.MGT_P_STATE_STATE j)) ∧
      (s.asked k 0x501 = some .trp → p = .trp → s.serves .trp = true → s.mbxLen k = 0 →
        Completes (.lcNonce (some k)) s fun t =>
          t.go k = false ∧ bits (t.mbxWord k 2) 0 16 = 0 ∧ bits (t.mbxWord k 0) 16 16 = 16 ∧
          ∀ j < 4, t.mbxWord k (5 + j) = s.rd (R.MGT_LC_NONCE_NONCE j))) ∧
    (bits (s.mbxWord k 0) 4 4 = 3 → bit h.accept 3 = false →
      (s.asked k 1 = some p → Completes (.getVersion k) s fun t => t.go k = false ∧ bits (t.mbxWord k 2) 0 16 = 3) ∧
      (s.asked k 2 = some p → Completes (.echo k) s fun t => t.go k = false ∧ bits (t.mbxWord k 2) 0 16 = 3) ∧
      (s.asked k 3 = some p → Completes (.getState k) s fun t => t.go k = false ∧ bits (t.mbxWord k 2) 0 16 = 3)) ∧
    (s.asV2 k = true →
      (s.asked k 1 = some p → s.mbxLen k = 0 → Completes (.getVersion k) s fun t =>
        t.go k = false ∧ t.on (R.MBX_STS_REPLY k) = true ∧ bits (t.mbxWord k 0) 8 8 = 3 ∧
        bits (t.mbxWord k 0) 16 8 = bits (s.mbxWord k 0) 16 8 ∧ bits (t.mbxWord k 0) 24 4 = 2 ∧ t.mbxWord k 1 = 0 ∧
        t.mbxWord k 2 = bits h.imgVer 0 32 ∧ t.mbxWord k 3 = bits h.imgVer 32 32) ∧
      (s.asked k 2 = some p → s.mbxLen k ≤ 44 → Completes (.echo k) s fun t =>
        t.go k = false ∧ t.mbxWord k 1 = 0 ∧ bits (t.mbxWord k 0) 8 8 = bits (s.mbxWord k 0) 8 8 ∧
        ∀ j < 14, t.mbxWord k (2 + j) = s.mbxWord k (2 + j)) ∧
      (s.asked k 3 = some p → s.mbxLen k = 0 → Completes (.getState k) s fun t =>
        t.go k = false ∧ t.mbxWord k 1 = 0 ∧ ∀ j < 3, bits (t.mbxWord k (2 + j)) 0 2 = s.rd (R.MGT_P_STATE_STATE j)))) ∧
  ((s.asked k 1 = none → Completes (.getVersion k) s fun t => t = s.msgWaiters) ∧
    (s.asked k 2 = none → Completes (.echo k) s fun t => t = s.msgWaiters) ∧
    (s.asked k 3 = none → Completes (.getState k) s fun t => t = s.msgWaiters)) ∧
  (s.serves .trp = true → Completes (.lcNonce none) s fun t =>
    t = (s.emit (.trusted [0, s.rd (R.MGT_LC_NONCE_NONCE 0), s.rd (R.MGT_LC_NONCE_NONCE 1), s.rd (R.MGT_LC_NONCE_NONCE 2),
      s.rd (R.MGT_LC_NONCE_NONCE 3)])).msgWaiters) ∧
  (∀ bytes sigOk, s.serves .trp = true → bytes.length = 160 → s.on R.GLB_STATUS_ENABLED = true →
    Completes (.lcToken none bytes sigOk) s fun t =>
      t = ((s.emit (.trusted [5])).raise Ev.MGT_LC_TOKEN_BAD).msgWaiters ∧ t.fuses = s.fuses ∧ t.resetReq = s.resetReq) ∧
  (∀ bytes sigOk, s.serves .trp = true → bytes.length ≠ 160 → Completes (.lcToken none bytes sigOk) s fun t =>
    t = (s.emit (.trusted [2])).msgWaiters) ∧
  (∀ (via : Option Mbx) (bytes held : List Nat) (tok : LcToken) (sigOk : Bool), s.serves .trp = true →
    s.on R.GLB_STATUS_ENABLED = false → tok = tokenOf held sigOk →
    (via = none ∧ held = bytes ∧ bytes.length = 160 ∨ via = some k ∧ k.val = 0 ∧ s.asked k 0x502 = some .trp ∧
      s.accepts .trp k = true ∧ s.mbxLong k = true ∧ s.mbxLen k = 160 ∧ held = (bytesOfWords s.mgt.mbx[k].req).take 160) →
    ((s.lcSlots tok.target).contains tok.slot = true → s.keyFor tok.slot 2 = true → tok.ver = 1 → tok.uid = Config.uid →
      tok.n = s.lcN →
      tok.nonce = [s.rd (R.MGT_LC_NONCE_NONCE 0), s.rd (R.MGT_LC_NONCE_NONCE 1), s.rd (R.MGT_LC_NONCE_NONCE 2),
        s.rd (R.MGT_LC_NONCE_NONCE 3)] → sigOk = true →
      Completes (.lcToken via bytes sigOk) s fun t =>
        t.fuses = withBit s.fuses (if tok.target = 4 then 23 else s.lcN) true ∧ t.resetReq = some 4 ∧ t.upd.staged = [] ∧
        t.upd.steps = [] ∧ (via = none → .trusted [0] ∈ t.out) ∧
        (via = some k → (∀ q, s.waitsFor k q = false) → t.go k = false ∧ bits (t.mbxWord k 2) 0 16 = 0) ∧
        ∀ j < 4, t.rd (R.MGT_LC_NONCE_NONCE j) = s.newNonce.rd (R.MGT_LC_NONCE_NONCE j)) ∧
    (sigOk = false → Completes (.lcToken via bytes sigOk) s fun t => t.fuses = s.fuses ∧ t.resetReq = s.resetReq ∧
      (s.raised ++ [{ code := Ev.MGT_LC_TOKEN_BAD, unit := 0xFFFF, detail := 0, body := [] }]) <+: t.raised ∧
      (via = none → .trusted [if (s.lcSlots tok.target).contains tok.slot && s.keyFor tok.slot 2 then 6 else 5] ∈ t.out) ∧
      ∀ j < 4, t.rd (R.MGT_LC_NONCE_NONCE j) = s.newNonce.rd (R.MGT_LC_NONCE_NONCE j)))

/-- The start of the processors (R386–R392, R407, R459): the TRP from its boot ROM, the key block, the check of provisioning
with the ceilings, the release of an image, STARTED and READY. `u` is the state in which the processor's stores have
drained. -/
def Obligations.ProcessorBootCommands : Prop := ∀ (s u : State) (p : Proc), s.live = true → u = s.turn p.init →
  (∀ b : BootIn, s.pState .trp = 0 → keyBlock b = none → Completes (.trpBoot b) s fun t =>
    Only [R.MGT_P_STATE_STATE 0] s t (s.modMgt fun m => { m with keyRetry := some (s.now + 1000000000) }) ∧ t.pState .trp = 1) ∧
  (∀ b : BootIn, s.pState .trp ≠ 0 → Completes (.trpBoot b) s fun t => t = s) ∧
  (∀ (b : BootIn) (root img life : KeySlot), keyBlock b = some (root, img, life) → b.okA = true → b.okB = true →
    img.ver = 1 → bit img.use 0 = true → (∀ e ∈ s.flash.image, (headerOf e.2).ver = 1) →
    (s.pState .trp = 0 → Completes (.trpBoot b) s fun t => t.pState .trp = 2 ∧ t.mgt.keyRetry = none ∧ t.mgt.ceilDone = false ∧
      t.mgt.keys[0] = some root ∧ t.mgt.keys[1] = some img ∧ t.mgt.keys[4] = some life ∧ (t.proc .trp).pmp = State.trpPmp ∧
      ∀ j < 4, t.rd (R.MGT_LC_NONCE_NONCE j) = s.newNonce.rd (R.MGT_LC_NONCE_NONCE j)) ∧
    (∀ x, s.mgt.keyRetry = some x → Completes (.keyBlockRetry b) s fun t => t.now = max s.now x ∧ t.pState .trp = 2 ∧
      t.mgt.keyRetry = none ∧ t.mgt.keys[0] = some root ∧ t.mgt.keys[1] = some img ∧ t.mgt.keys[4] = some life)) ∧
  (∀ (b : BootIn) (x : Nat), s.mgt.keyRetry = some x → keyBlock b = none → Completes (.keyBlockRetry b) s fun t =>
    t.now = max s.now x ∧ t.mgt.keyRetry = some (t.now + 1000000000) ∧ t.pState .trp = 1 ∧ t.mgt.keys = s.mgt.keys) ∧
  (∀ b : BootIn, s.mgt.keyRetry = none → Completes (.keyBlockRetry b) s fun t => t = s) ∧
  (∀ prov sigOk, s.runs .trp = true → s.mgt.ceilDone = false → s.provValid (provOf prov sigOk) = false → s.libStored = none →
    Completes (.trpImageVerified prov sigOk) s fun t =>
      t.mgt.ceilDone = true ∧ t.rd R.BUD_PKG_CEIL_PROV = 0 ∧ (∀ k : Fin 16, k.val ∈ State.provSlots → t.mgt.keys[k] = none) ∧
      (∀ f ∈ State.ceilFields, t.rd f = s.fused f % 2 ^ f.w) ∧
      { code := Ev.MGT_PROV_INVALID, unit := 0xFFFF, detail := 0, body := [] } ∈ t.raised) ∧
  (∀ prov sigOk, s.runs .trp = true → s.mgt.ceilDone = false → s.provValid (provOf prov sigOk) = true → s.libStored = none →
    Completes (.trpImageVerified prov sigOk) s fun t =>
      t.mgt.ceilDone = true ∧ t.rd R.BUD_PKG_CEIL_PROV = 1 ∧
      (∀ f ∈ State.ceilFields, t.rd f = ((State.provVal (provOf prov sigOk) f).elim (s.fused f) (min · (s.fused f))) % 2 ^ f.w) ∧
      (s.lcState ≠ 4 → ∀ i < 13, t.mgt.keys.toList.getD (nth State.provSlots i) none = (provOf prov sigOk).keys[i]?)) ∧
  (∀ prov sigOk, s.mgt.ceilDone = true → Completes (.trpImageVerified prov sigOk) s fun t => t = s) ∧
  (p ≠ .trp → (p = .svp → s.pState .plp ≠ 0) → s.runs .trp = true → s.mgt.ceilDone = true → s.pState p = 0 →
    s.keyFor 1 0 = true → (∀ e ∈ s.flash.image, (headerOf e.2).ver = 1) →
    (Completes (.imageRelease p true true) s fun t => t.pState p = 2 ∧ (t.proc p).pmp = Vector.replicate 16 0) ∧
    (s.flash.boot = [] → Completes (.imageRelease p true true) s fun t => t.pState p = 2 ∧ t.rd (R.MGT_P_IMAGE_SLOT p.idx) = 0 ∧
      (t.proc p).image = some (headerOf (s.imageOf p 0)) ∧ (t.proc p).trial = none) ∧
    (s.flash.boot = [] → Completes (.imageRelease p false false) s fun t => t.pState p = 1 ∧
      t.raised = s.raised ++ [{ code := Ev.MGT_IMAGE_REJECTED, unit := p.init.code, detail := 0, body := [] }])) ∧
  (∀ c0 c1 c2 c3, u.runs p = true → p ≠ .trp → (∀ k : Fin 4, bit ((u.proc p).pmp.toList.getD k 0) 7 = false) →
    State.pmpOk c0 (some false) true = true → State.pmpOk c1 (some false) true = true →
    State.pmpOk c2 none false = true → State.pmpOk c3 none false = true →
    Completes (.startedWrite p c0 c1 c2 c3) s fun t =>
      t.rd (R.MGT_P_STATE_STARTED p.idx) = 1 ∧ (t.proc p).paused = false ∧ (t.proc p).pmp.toList.take 4 = [c0, c1, c2, c3] ∧
      (p = .svp ∨ s.serves p = true → RegsBut [R.MGT_P_STATE_STARTED p.idx] u t)) ∧
  (∀ c0 c1 c2 c3, u.runs p = true → p ≠ .trp → (∀ k : Fin 4, bit ((u.proc p).pmp.toList.getD k 0) 7 = false) →
    (State.pmpOk c0 (some false) true = false ∨ State.pmpOk c1 (some false) true = false ∨ State.pmpOk c2 none false = false ∨
      State.pmpOk c3 none false = false) → (p = .svp ∨ s.serves p = true ∨ u.serves p = false) →
    Completes (.startedWrite p c0 c1 c2 c3) s fun t => t.regs = u.regs) ∧
  (∀ c0 c1 c2 c3, p = .trp → u.runs .trp = true → Completes (.startedWrite .trp c0 c1 c2 c3) s fun t =>
    t.rd (R.MGT_P_STATE_STARTED 0) = 1 ∧ (t.proc .trp).paused = false ∧ (t.proc .trp).pmp = (u.proc .trp).pmp ∧
    RegsBut [R.MGT_P_STATE_STARTED 0] u t) ∧
  (∀ w l, p = .plp → u.runs .plp = true → (u.proc .plp).trial = none → u.on R.GLB_GOV_CTL_ENABLE = true →
    Completes (.plpReady w l) s fun t =>
      t.rd (R.MGT_P_STATE_READY 1) = 1 ∧ RegsBut [R.MGT_P_STATE_READY 1] u t ∧ t.mgt = u.mgt) ∧
  (∀ (l : Loop) (k : Fin 16) (w p45 p65 p85 p105 : Nat), p = .plp → u.runs .plp = true → u.on R.GLB_GOV_CTL_ENABLE = false →
    (l.val < 8 → k.val ≠ 0) → (8 ≤ l.val → k.val < 4) → l.val < 11 →
    Completes (.plpReady [(l, k, w)] [(l, p45, p65, p85, p105)]) s fun t =>
      t.rd (R.MGT_P_STATE_READY 1) = 1 ∧ t.rd (R.BUD_WGT_W l k) = w % 2 ^ (R.BUD_WGT_W l k).w ∧
      t.rd (R.BUD_RAIL_LEAK_P45 l) = p45 % 2 ^ (R.BUD_RAIL_LEAK_P45 l).w ∧
      t.rd (R.BUD_RAIL_LEAK_P105 l) = p105 % 2 ^ (R.BUD_RAIL_LEAK_P105 l).w)

/-- The processors at work (R375, R384–R386, R393, R402–R409): what each operation of a running processor does, a store of
its buffer that fails, the watchdogs, a restart by each initiator, the drain of stores and the release after a restart. `u`
is the state in which the stores before an operation have drained. A restart stops the processor, clears STARTED and READY,
and its release names its cause; that of an image on trial is 6. -/
def Obligations.ProcessorRunCommands : Prop := ∀ (s : State) (p : Proc), s.live = true →
  (∀ (addr kind i : Nat) (flash : Option Nat) (u : State) (e : BufStore) (rest : List BufStore), s.runs p = true →
    (s.proc p).buf.findIdx? (fun x => x.addr == addr) = some i → u = s.each (List.range i) (fun _ s => s.drainFirst p) →
    (u.proc p).buf = e :: rest →
    (∀ k, u.storeKind p e kind flash = some k → (u.proc p).fail = none → Completes (.storeFailure p addr kind flash) s fun t =>
      (t.proc p).fail = some ⟨e.addr, k, 0⟩ ∧ (t.proc p).buf = rest ∧ RegsBut [R.MGT_P_IRQ_BUSERR p.idx] u t ∧
      t.rd (R.MGT_P_IRQ_BUSERR p.idx) = 1 ∧ t.raised = u.raised) ∧
    (∀ (k : Nat) (f : StoreFail), u.storeKind p e kind flash = some k → (u.proc p).fail = some f →
      Completes (.storeFailure p addr kind flash) s fun t =>
        (t.proc p).fail = some { f with more := min (f.more + 1) 255 } ∧ (t.proc p).buf = rest ∧
        t.rd (R.MGT_P_IRQ_BUSERR p.idx) = 1) ∧
    (u.storeKind p e kind flash = none → Completes (.storeFailure p addr kind flash) s fun t =>
      t = (u.modProc p fun q => { q with buf := rest }).storeTo p e)) ∧
  (∀ addr kind flash, (s.runs p = false ∨ (∀ x ∈ (s.proc p).buf, x.addr ≠ addr)) →
    Completes (.storeFailure p addr kind flash) s fun t => t = s) ∧
  (∀ (pc : Nat) (op : OrdOp) (f : StoreFail) (u : State), s.runs p = true → u = s.drainAll p → (u.proc p).fail = some f →
    (u.proc p).buf = [] → orders op = true → Completes (.orderingPoint p pc op) s fun t =>
      (t.proc p).fail = none ∧ (t.proc p).mepc = pc ∧ (t.proc p).mcause = 7 ∧ (t.proc p).mtval = f.addr ∧
      (t.proc p).busAddr = f.addr ∧ (t.proc p).busInfo = f.kind + 8 + 2 ^ 8 * f.more ∧
      RegsBut [R.MGT_P_IRQ_BUSERR p.idx] u t ∧ t.rd (R.MGT_P_IRQ_BUSERR p.idx) = 0 ∧
      t.raised = u.raised ++ [{ code := Ev.MGT_BUSERR, unit := p.init.code, detail := f.addr, body := [] }]) ∧
  (∀ (pc : Nat) (u : State), s.runs p = true → u = s.drainAll p → (u.proc p).fail = none →
    Completes (.orderingPoint p pc .fence) s fun t => t = u) ∧
  (∀ (pc a z : Nat) (e : Bool) (u : State), s.runs p = true → u = (if ordersLoad a then s.drainAll p else s) →
    ((u.proc p).fail = none ∨ ordersLoad a = false) →
    (u.pmpLets p .read a = false → (u.proc p).buf = [] → Completes (.orderingPoint p pc (.load a z e)) s fun t =>
      (t.proc p).mepc = pc ∧ (t.proc p).mcause = 5 ∧ (t.proc p).mtval = a ∧ t.regs = u.regs ∧ t.raised = u.raised ∧
      t.out = u.out) ∧
    (∀ k, u.pmpLets p .read a = true → u.loadKind p a z e = some k → (u.proc p).buf = [] →
      Completes (.orderingPoint p pc (.load a z e)) s fun t =>
        (t.proc p).mepc = pc ∧ (t.proc p).mcause = 5 ∧ (t.proc p).mtval = a ∧ (t.proc p).busAddr = a ∧ (t.proc p).busInfo = k ∧
        t.regs = u.regs ∧ t.out = u.out ∧
        t.raised = u.raised ++ [{ code := Ev.MGT_BUSERR, unit := p.init.code, detail := a, body := [] }]) ∧
    (u.pmpLets p .read a = true → u.loadKind p a z e = none → inWindow a = true → z = 2 →
      Completes (.orderingPoint p pc (.load a z e)) s fun t => t = u.latchRead p (a - 0x10000000)) ∧
    (u.pmpLets p .read a = true → u.loadKind p a z e = none → inWindow a = true → z < 2 →
      Completes (.orderingPoint p pc (.load a z e)) s fun t =>
        t = (u.unlatch p.init).emit (.readData p
          (bits (u.word p.init ((a - 0x10000000) / 4 * 4)) (8 * (a % 4)) (8 * 2 ^ z)))) ∧
    (u.pmpLets p .read a = true → u.loadKind p a z e = none → inSram a = true →
      Completes (.orderingPoint p pc (.load a z e)) s fun t =>
        t = u.emit (.readData p (bits (u.ramWord a) (8 * (a % 4)) (8 * 2 ^ z)))) ∧
    (u.pmpLets p .read a = true → u.loadKind p a z e = none → inKeys a = true → p ≠ .trp →
      Completes (.orderingPoint p pc (.load a z e)) s fun t => t = u.emit (.readData p 0)) ∧
    (u.pmpLets p .read a = true → u.loadKind p a z e = none → inLong a = true →
      Completes (.orderingPoint p pc (.load a z e)) s fun t =>
        t = u.emit (.readData p (bits (u.longWord a) (8 * (a % 4)) (8 * 2 ^ z))))) ∧
  (∀ (pc a : Nat) (v : Option Nat) (u : State), s.runs p = true → u = s.drainAll p → (u.proc p).fail = none →
    sharedSram a = true → u.pmpLets p .write a = true → Completes (.orderingPoint p pc (.amo a v)) s fun t =>
      t.out = u.out ++ [.readData p (u.ramWord a)] ∧ t.ramWord a = v.elim (u.ramWord a) (· % 2 ^ 32) ∧ t.regs = u.regs) ∧
  (∀ (pc a : Nat) (v : Option Nat), s.runs p = true → (s.proc p).buf = [] → sharedSram a = false →
    Completes (.orderingPoint p pc (.amo a v)) s fun t =>
      (t.proc p).mepc = pc ∧ (t.proc p).mcause = 7 ∧ (t.proc p).mtval = a ∧ t.regs = s.regs ∧ t.raised = s.raised) ∧
  (∀ pc a v z, s.runs p = true →
    (s.pmpLets p .write a = false → (s.proc p).buf = [] → Completes (.orderingPoint p pc (.store a v z)) s fun t =>
      (t.proc p).mepc = pc ∧ (t.proc p).mcause = 7 ∧ (t.proc p).mtval = a ∧ t.regs = s.regs ∧ t.raised = s.raised ∧
      t.mgt.sram = s.mgt.sram) ∧
    (s.pmpLets p .write a = true → ownSram p a = true → Completes (.orderingPoint p pc (.store a v z)) s fun t =>
      t = s.setRam a (putBits (s.ramWord a) (8 * (a % 4)) (8 * 2 ^ z) v)) ∧
    (s.pmpLets p .write a = true → ownSram p a = false → (s.proc p).buf.length < 8 →
      Completes (.orderingPoint p pc (.store a v z)) s fun t =>
        t = s.modProc p fun q => { q with buf := q.buf ++ [⟨a, v, z⟩] }) ∧
    (s.pmpLets p .write a = true → ownSram p a = false → 8 ≤ (s.proc p).buf.length →
      Completes (.orderingPoint p pc (.store a v z)) s fun t =>
        t = (s.drainFirst p).modProc p fun q => { q with buf := q.buf ++ [⟨a, v, z⟩] })) ∧
  (∀ pc a, s.runs p = true →
    ((s.pmpLets p .execute a = true ∧ mayAccess p.init .execute a = true) →
      Completes (.orderingPoint p pc (.fetch a)) s fun t => t = s) ∧
    ((s.pmpLets p .execute a = false ∨ mayAccess p.init .execute a = false) → (s.proc p).buf = [] →
      Completes (.orderingPoint p pc (.fetch a)) s fun t =>
        (t.proc p).mepc = a ∧ (t.proc p).mcause = 1 ∧ (t.proc p).mtval = a ∧ t.regs = s.regs ∧ t.raised = s.raised)) ∧
  (∀ (pc : Nat) (e : BufStore), s.runs p = true → (s.proc p).buf = [e] →
    (s.storeKind p e 0 none = none → Completes (.orderingPoint p pc .handler) s fun t =>
      t = (s.modProc p fun q => { q with buf := [] }).storeTo p e) ∧
    (∀ k, s.storeKind p e 0 none = some k → (s.proc p).fail = none → Completes (.orderingPoint p pc .handler) s fun t =>
      (t.proc p).buf = [] ∧ (t.proc p).fail = some ⟨e.addr, k, 0⟩ ∧ t.now = s.now + if k = 1 then 1000 else 0)) ∧
  (∀ (pc : Nat) (k : Fin 16) (c a : Nat), s.runs p = true →
    (bit (s.proc p).pmp[k] 7 = false → Completes (.orderingPoint p pc (.pmp k c a)) s fun t =>
      (t.proc p).pmp[k] = c % 256 ∧ t.regs = s.regs) ∧
    (bit (s.proc p).pmp[k] 7 = true → Completes (.orderingPoint p pc (.pmp k c a)) s fun t => t = s)) ∧
  (∀ (pc : Nat) (op : OrdOp), s.runs p = false → Completes (.orderingPoint p pc op) s fun t => t = s) ∧
  (∀ c : CoreDump, s.runs p = true → s.frozen = false → Completes (.watchdogExpiry p c) s fun t =>
    t.now = max s.now ((s.proc p).kicked + s.frozenTime + 1000000 * s.rd (R.MGT_P_WDT_PERIOD p.idx)) ∧ t.pState p = 3 ∧
    t.rd (R.MGT_P_STATE_STARTED p.idx) = 0 ∧ t.rd (R.MGT_P_STATE_READY p.idx) = 0 ∧
    (t.proc p).restart = some (.draining, if (s.proc p).trial.isSome then 6 else 1) ∧
    bits (t.rd (R.MGT_DUMP_WORD p.idx 0)) 16 8 = p.init.code ∧
    (∀ i < 31, t.rd (R.MGT_DUMP_WORD p.idx (9 + i)) = bits (nth c.x (1 + i)) 0 32)) ∧
  (∀ c : CoreDump, (s.runs p = false ∨ s.frozen = true) → Completes (.watchdogExpiry p c) s fun t => t = s) ∧
  (∀ u : State, u = s.turn p.init → Completes (.watchdogKick p) s fun t =>
    (t.proc p).kicked = u.now - u.frozenTime ∧ t.regs = u.regs ∧ t.now = u.now) ∧
  (∀ (c : CoreDump) (u : State), u = s.turn p.init → u.runs p = true → Completes (.processorRestartGo p p.init c) s fun t =>
    t.pState p = 3 ∧ t.now = u.now ∧ t.rd (R.MGT_P_STATE_STARTED p.idx) = 0 ∧ (t.proc p).buf = (u.proc p).buf ∧
    (t.proc p).trial = none ∧ (t.proc p).paused = true ∧ (t.proc p).latch = none ∧
    (p = .plp → t.on R.REC_STATUS_MOUNTED = false) ∧
    (t.proc p).restart = some (.draining, if (u.proc p).trial.isSome then 6 else 2)) ∧
  (∀ (c : CoreDump) (w : Init) (u : State), u = s.turn w → p ≠ .trp → u.runs p = true → (w = .trp ∨ w = .host) →
    u.rd (R.MGT_P_RESTART_KEY p.idx) = 0xC0DE → Completes (.processorRestartGo p w c) s fun t =>
      t.pState p = 3 ∧
      (t.proc p).restart = some (.draining, if (u.proc p).trial.isSome then 6 else if w = .trp then 3 else 4)) ∧
  (∀ (w : Init) (c : CoreDump) (u : State), u = s.turn w → w ≠ p.init →
    (u.rd (R.MGT_P_RESTART_KEY p.idx) ≠ 0xC0DE ∨ p = .trp ∨ w = .plp ∨ w = .svp) →
    Completes (.processorRestartGo p w c) s fun t => t = u) ∧
  (∀ c : CoreDump, p ≠ .trp → s.runs .trp = true → s.runs p = true → Completes (.trustedRestartRequest p c) s fun t =>
    t.pState p = 3 ∧ (t.proc p).restart = some (.draining, if (s.proc p).trial.isSome then 6 else 5)) ∧
  (∀ c : CoreDump, (p = .trp ∨ s.runs .trp = false) → Completes (.trustedRestartRequest p c) s fun t => t = s) ∧
  (∀ states cause a, (s.proc p).restart = some (.draining, cause) → (s.proc p).buf = [] → ownSram p (4 * a) = true →
    Completes (.storeDrainEnd p states) s fun t => (t.proc p).restart = some (.loading, cause) ∧ t.pState p = s.pState p ∧
      t.raised = s.raised ∧ t.ramWord (4 * a) = 0) ∧
  (∀ (e : BufStore) (cause : Nat), (s.proc p).restart = some (.draining, cause) → (s.proc p).buf = [e] →
    ((s.accessFails p .write e.addr e.size = none ∨ s.accessFails p .write e.addr e.size = some 1) → (s.proc p).fail = none →
      Completes (.storeDrainEnd p [3]) s fun t => (t.proc p).restart = some (.loading, cause) ∧ (t.proc p).buf = [] ∧
        (t.proc p).fail = some ⟨e.addr, 4, 0⟩ ∧ bits (t.rd (R.MGT_DUMP_WORD p.idx 82)) 8 2 = 3 ∧
        t.raised = s.raised ++ [{ code := Ev.MGT_STORE_DISCARD, unit := p.init.code, detail := 0, body := [] }]) ∧
    (s.accessFails p .write e.addr e.size = none → sharedSram e.addr = true → e.size = 2 →
      Completes (.storeDrainEnd p [0]) s fun t => (t.proc p).restart = some (.loading, cause) ∧ (t.proc p).buf = [] ∧
        (t.proc p).fail = (s.proc p).fail ∧ t.ramWord e.addr = e.data % 2 ^ 32 ∧ t.raised = s.raised)) ∧
  (∀ states, (s.proc p).restart.map (·.1) ≠ some .draining → Completes (.storeDrainEnd p states) s fun t => t = s) ∧
  (∀ (b : BootIn) (cause : Nat), (s.proc p).restart = some (.loading, cause) → s.turnOf p = true → p ≠ .trp →
    s.keyFor 1 0 = true → b.okA = true → b.okB = true → (∀ e ∈ s.flash.image, (headerOf e.2).ver = 1) →
    Completes (.restartRelease p b) s fun t => t.pState p = 2 ∧ (t.proc p).restart = none ∧ (t.proc p).buf = [] ∧
      t.rd (R.MGT_P_STATE_CAUSE p.idx) = cause % 2 ^ (R.MGT_P_STATE_CAUSE p.idx).w ∧
      t.rd (R.MGT_P_CNT_RESTART_COUNT p.idx) =
        (s.rd (R.MGT_P_CNT_RESTART_COUNT p.idx) + 1) % 2 ^ (R.MGT_P_CNT_RESTART_COUNT p.idx).w ∧
      (t.raised.drop s.raised.length).any (fun e => e.code == Ev.MGT_RESTART && e.unit == p.init.code) = true) ∧
  (∀ (b : BootIn), ((s.proc p).restart = none ∨ s.turnOf p = false) → Completes (.restartRelease p b) s fun t => t = s)

/-- Reset and power (R23, R25, R127, R262, R412, R499–R505): the release of RST_STBY#, the controller's ON, the loss and
return of the 12 V input, the chain leaving its instructions, the block reset with what it keeps and what it clears, its
end, and the loss of standby power. -/
def Obligations.PowerCommands : Prop := ∀ s : State,
  (s.phase = .held → s.trip.armed = none → Completes .standbyResetRelease s fun t =>
    t.clk.started = true ∧ t.trip.armed = some (s.now + 1000000) ∧ t.regs = s.regs ∧ t.phase = .held ∧ t.now = s.now) ∧
  (s.phase ≠ .held → Completes .standbyResetRelease s fun t => t = s) ∧
  (∀ x, s.rgcOn = true → s.rgc.leftReset = some x → s.rgc.startupDone = false → s.rgc.p12vLost = false → s.goingDown = false →
    Completes .startupOnWrite s fun t => max s.now (x + 100000) ≤ t.now ∧ t.rgc.startupDone = true ∧ t.rgc.p12v = true ∧
      t.on R.RGC_SEQ_CTL_ON = true ∧ t.rd R.RGC_SEQ_STATUS_HALT = 0) ∧
  (s.rgcOn = true → s.rgc.startupDone = true → Completes .startupOnWrite s fun t => t = s) ∧
  (s.rgcOn = true → s.rgc.p12vLost = false → (∃ l : Loop, s.regulates l = true) →
    Completes .p12vOkLoss s fun t =>
      t.rgc.p12vLost = true ∧ t.rgc.p12v = false ∧ t.now = s.now + 1000 ∧ ∀ l : Loop, t.alerted l = true) ∧
  (s.rgcOn = true → s.rgc.p12vLost = false → (∀ l : Loop, s.mode l = 0 ∨ s.mode l = 5) →
    Completes .p12vOkLoss s fun t => t = s) ∧
  (s.rgcOn = true → s.rgc.p12vLost = true →
    Completes .p12vOkReturn s fun t => t.rgc.p12vLost = false ∧ t.rgc.p12v = true ∧
      ∀ l : Loop, t.alerted l = (s.on (R.RGC_L_ALERT_NOW l) && s.on (R.RGC_L_ALERT_EN l))) ∧
  (s.phase ≠ .running → s.lcState ≠ 2 → Completes (.scanExit (.scan :: List.replicate 9 .bypass)) s fun t =>
    t.chain[0] = .scan ∧ t.rd R.MGT_LC_WIPING = 1 ∧ t.rcd.staged = [] ∧ t.trcFifo = [] ∧
    (∀ k : Fin 16, t.mgt.keys[k] = none) ∧ (∀ m : Mbx, ∀ j < 16, t.rd (R.MBX_DATA_DATA m j) = 0) ∧ t.phase = s.phase) ∧
  (s.phase = .running → Completes (.scanExit (.scan :: List.replicate 9 .bypass)) s fun t =>
    t.chain[0] = .bypass ∧ t.regs = s.regs ∧ t.mgt = s.mgt ∧ t.out = s.out) ∧
  (Completes (.scanExit (.idcode :: List.replicate 9 .bypass)) s fun t =>
    t.chain[0] = .idcode ∧ t.out = s.out ++ [.tdo 0 (2 ^ 28 + 0x4C33 * 2 ^ 12 + Config.idMaker % 2 ^ 12)] ∧ t.regs = s.regs) ∧
  (∀ c : Fin 6, s.live = true → (c = 5 ∨ s.resetReq = some c.val) → s.frozen = false →
    Completes (.blockReset c) s fun t =>
      t.phase = .blockReset ∧ t.now = s.now + 1000 ∧ t.resetReq = none ∧ t.rd R.GLB_RST_INFO_CAUSE = c ∧
      t.rd R.GLB_RST_INFO_COUNT = min 0xFFFF (s.rd R.GLB_RST_INFO_COUNT + 1) ∧ t.rd R.MGT_LC_WIPING = 1 ∧
      t.rd R.GLB_GOV_CTL_ENABLE = 0 ∧ t.fuses = s.fuses ∧ t.libStored = s.libStored ∧ t.pending = s.pending ∧
      (∀ d : Die, .brst d true ∈ t.out ∧ t.ratio d = 6) ∧ (∀ q : Queue, t.qState q = 0)) ∧
  (∀ c : Fin 6, s.live = false → Completes (.blockReset c) s fun t => t = s) ∧
  (∀ (off size : Nat) (w : Bool), s.phase = .blockReset →
    Completes (.badAccess off size w) s fun t => t = if w then s else { s with out := s.out ++ [.badRead] }) ∧
  (s.phase = .blockReset → s.regulates 10 = true → s.regulates 15 = true → s.on R.CLK_SRC_PLL_LOCK = true →
    s.rd R.GLB_RST_INFO_CAUSE = 0 → Completes .blockResetRelease s fun t =>
      Only [R.MGT_LC_WIPING] s t { s with
        phase := .running, nextPoll := s.now + 10000
        thm := { s.thm with nextDemand := s.now + 250000, nextCal := s.now + 10000000000 } } ∧ t.rd R.MGT_LC_WIPING = 0) ∧
  (s.phase = .blockReset → s.regulates 10 = false ∨ s.regulates 15 = false ∨ s.on R.CLK_SRC_PLL_LOCK = false →
    Completes .blockResetRelease s fun t => t = s) ∧
  (Completes .standbyPowerLoss s fun t =>
    t.phase = .held ∧ t.now = 0 ∧ t.fuses = s.fuses ∧ t.flash = s.flash ∧ t.mtr = s.mtr ∧ t.rcd.slots = s.rcd.slots ∧
    t.libStored = s.libStored ∧ t.pending = s.pending ∧
    (∀ f : Fld, 0xF0000 ≤ f.off → f.lo < 64 → t.rd f = s.rd f) ∧
    (∀ f : Fld, f.off < 0xF0000 → f.lo < 64 → t.rd f = f.rst % 2 ^ f.w))

/-- The event recorder (R420–R432, R436): an event taken into the staging RAM, as a repeat or past a filter, a record
programmed, the lost records, OPSEC's mark, the mount, the erase, the acknowledgement of a full recorder, and a ring copied.
-/
def Obligations.RecorderCommands : Prop := ∀ s : State,
  (∀ (e : Event) (l : List Event), s.raised = e :: l → e.body = [] →
    (isNmi e.code = true ∨ bit (s.rd R.REC_CTL_FILTER) (e.code / 0x1000 - 1) = true → s.rcd.staged.length < 256 →
      s.rcd.staged.any (s.recurs e) = false → s.rcd.slots.any (fun p => s.recurs e p.2) = false →
      Completes .eventStage s fun t =>
        t.raised = l ∧ t.rcd.staged.length = s.rcd.staged.length + 1 ∧ t.rcd.staged.dropLast = s.rcd.staged ∧
        t.rcd.staged.getLast?.map (fun r => (r.code, r.unit, r.detail, r.seq)) =
          some (e.code, e.unit, e.detail % 2 ^ 32, s.rd R.REC_HEAD_SEQ) ∧
        t.rd R.REC_HEAD_SEQ = (s.rd R.REC_HEAD_SEQ + 1) % 2 ^ 32 ∧
        t.rd R.REC_STATUS_STAGED = (s.rcd.staged.length + 1) % 2 ^ R.REC_STATUS_STAGED.w) ∧
    (isNmi e.code = true ∨ bit (s.rd R.REC_CTL_FILTER) (e.code / 0x1000 - 1) = true → s.rcd.staged.any (s.recurs e) = true →
      Completes .eventStage s fun t =>
        t.raised = l ∧ t.rcd.staged = s.rcd.staged.map (fun r => if s.recurs e r then r.again else r) ∧
        t.rd R.REC_HEAD_SEQ = s.rd R.REC_HEAD_SEQ) ∧
    (isNmi e.code = false → bit (s.rd R.REC_CTL_FILTER) (e.code / 0x1000 - 1) = false →
      Completes .eventStage s fun t => t.raised = l ∧ t.rcd.staged = s.rcd.staged ∧ t.rd R.REC_HEAD_SEQ = s.rd R.REC_HEAD_SEQ)) ∧
  (s.raised = [] → Completes .eventStage s fun t => t = s) ∧
  (s.live = true →
    (∀ r, s.recReady = true → s.rcd.staged.find? (·.nmi) = some r → s.runs .trp = true → s.rd R.REC_WP_SLOT < 65471 →
      Completes (.recordProgram false) s fun t =>
        Tab.find t.rcd.slots (s.rd R.REC_WP_SLOT) = some { r with mark := 0x5A } ∧ t.rcd.staged = s.rcd.staged.erase r ∧
        t.rd R.REC_WP_SLOT = s.rd R.REC_WP_SLOT + 1 ∧ t.now = s.now) ∧
    (∀ r, s.recReady = true → s.rcd.staged.find? (·.nmi) = none → s.rcd.staged.find? (fun r => !r.nmi) = some r →
      s.serves .plp = true → s.on R.REC_STATUS_MOUNTED = true → s.on R.REC_STATUS_FULL = false → s.rd R.REC_WP_SLOT < 65471 →
      (Completes (.recordProgram false) s fun t =>
        Tab.find t.rcd.slots (s.rd R.REC_WP_SLOT) = some { r with mark := 0x5A } ∧ t.rcd.staged = s.rcd.staged.erase r ∧
        t.rd R.REC_WP_SLOT = s.rd R.REC_WP_SLOT + 1) ∧
      (Completes (.recordProgram true) s fun t =>
        Tab.find t.rcd.slots (s.rd R.REC_WP_SLOT) = some { r with mark := 0xFF, rep := 2 ^ 64 - 1 } ∧
        t.rcd.staged = s.rcd.staged ∧ t.regs = s.regs)) ∧
    (s.recReady = false → ∀ cut, Completes (.recordProgram cut) s fun t => t = s) ∧
    (s.rcd.dropped ≠ 0 → s.rcd.staged.length < 256 → Completes .stageLostRecord s fun t =>
      t.rcd.dropped = 0 ∧ t.regs = s.regs ∧
      t.raised = s.raised ++ [{ code := Ev.REC_STAGE_LOST, unit := 0xFFFF, detail := s.rcd.dropped, body := [] }]) ∧
    (s.rcd.dropped = 0 → Completes .stageLostRecord s fun t => t = s) ∧
    (s.runs .plp = true → Completes (.recorderMount false) s fun t =>
      Only [R.REC_STATUS_UNREADABLE] s t s ∧ t.rd R.REC_STATUS_UNREADABLE = 1) ∧
    (s.runs .plp = true → ∀ r, Tab.find s.rcd.slots 0 = some r → (r.valid && r.code == Ev.REC_FORMAT) = false →
      Completes (.recorderMount true) s fun t =>
        Only [R.REC_STATUS_UNREADABLE, R.REC_STATUS_FORMAT_BAD] s t s ∧ t.rd R.REC_STATUS_FORMAT_BAD = 1 ∧
        t.rd R.REC_STATUS_UNREADABLE = 0) ∧
    (s.runs .plp = true → ∀ r, Tab.find s.rcd.slots 0 = some r → r.valid = true → r.code = Ev.REC_FORMAT →
      Completes (.recorderMount true) s fun t => t.on R.REC_STATUS_MOUNTED = true ∧
        t.rd R.REC_WP_SLOT = State.firstFree 1 65472 s.rcd.slots % 2 ^ R.REC_WP_SLOT.w) ∧
    (s.runs .plp = false → ∀ b, Completes (.recorderMount b) s fun t => t = s) ∧
    (∀ (who : Init) (u : State), u = s.turn who → (who = .svp ∨ who = .trp) → (u.lcState = 1 ∨ u.lcState = 2) →
      u.rd R.REC_ERASE_KEY = 0xC0DE → u.on R.REC_STATUS_ERASING = false → Completes (.recorderErase who) s fun t =>
        t.rd R.REC_STATUS_ERASING = 1 ∧ t.rd R.REC_ERASE_GO = 1 ∧ RegsBut [R.REC_STATUS_ERASING, R.REC_ERASE_GO] u t ∧
        (u.rd R.REC_HEAD_SEQ ≠ 0 → t.rcd.eraseSeq = u.rd R.REC_HEAD_SEQ - 1) ∧
        t.raised = u.raised ++ [{ code := Ev.REC_ERASE_START, unit := 0xFFFF, detail := 0, body := [] }]) ∧
    (∀ who, who ≠ .svp → who ≠ .trp → Completes (.recorderErase who) s fun t => t = s.turn who) ∧
    (s.on R.REC_STATUS_ERASING = true → s.serves .plp = true → Completes .recorderEraseEnd s fun t =>
      t.rd R.REC_ERASE_GO = 0 ∧ t.rcd.slots.map (·.2.detail) = [s.rcd.eraseSeq % 2 ^ 32] ∧
      t.rd R.REC_STATUS_ERASING = 0 ∧ t.rd R.REC_STATUS_MOUNTED = 1 ∧ t.rd R.REC_WP_SLOT = 1 ∧ t.rd R.REC_STATUS_FULL = 0 ∧
      t.rd R.REC_STATUS_NMI_FULL = 0 ∧ t.rd R.REC_STATUS_ACKED = 0 ∧ t.rd R.REC_STATUS_FORMAT_BAD = 0 ∧
      t.rcd.nmiSlot = 65472 ∧ t.rcd.slots.map (·.1) = [0] ∧ t.rcd.slots.map (·.2.code) = [Ev.REC_FORMAT]) ∧
    (s.on R.REC_STATUS_ERASING = true → s.serves .plp = false → Completes .recorderEraseEnd s fun t => t = s) ∧
    (Completes .fullAck s fun t => Only [R.REC_STATUS_ACKED] s t s ∧ t.rd R.REC_STATUS_ACKED = 1) ∧
    (∀ (unit : Nat) (chan : Bool), Completes (.ringSelect unit chan) s fun t =>
      t.rd R.REC_RING_SEL_BUSY = 1 ∧ RegsBut [R.REC_RING_SEL_UNIT, R.REC_RING_SEL_CHAN, R.REC_RING_SEL_BUSY] s t ∧
      t.rcd.copy = some (((Tab.find s.rings (if chan then 0x10000 + unit else unit)).elim 0 (·.count)),
        ((Tab.find s.rings (if chan then 0x10000 + unit else unit)).elim [] (·.entries)))) ∧
    (∀ n l, s.rcd.copy = some (n, l) → Completes .ringCopyDone s fun t =>
      t.rd R.REC_RING_SEL_BUSY = 0 ∧ t.rd R.REC_RING_HEAD_COUNT = n % 2 ^ R.REC_RING_HEAD_COUNT.w ∧ t.rcd.copy = none ∧
      ∀ j < 64, t.rd (R.REC_RING_ENTRY j) = nth l ((n + 63 - j) % 64) % 2 ^ (R.REC_RING_ENTRY j).w)) ∧
  (s.rgcOn = true → Completes .opsecAlive s fun t =>
    t.now = max s.now (s.rcd.opAt + 1000000000 * (900 * (s.opsec / 900 + 1) - s.rcd.opBase)) ∧ t.regs = s.regs ∧
    t.raised = s.raised ++ [{ code := Ev.REC_ALIVE, unit := 0xFFFF, detail := 0, body := [] }])

/-- The freeze trigger, the package freeze with its edges, and the trace port (R45, R438–R444, R491, R510): a freeze or a
thaw takes place on an alignment edge at least 60 ns ahead, and its command goes twice to every satellite whose Seam is up.
-/
def Obligations.FreezeAndTrace : Prop := ∀ s : State, s.live = true →
  (s.on R.REC_TRIG_ARMED = true → s.rd R.REC_TRIG_POST ≠ 0 → s.freezeHeld = false → Completes .triggerFire s fun t =>
    Only [R.REC_TRIG_ARMED, R.REC_TRIG_FIRED] s t
      (s.modRcd fun q => { q with post := some (s.now - s.frozenTime + 2048 * s.rd R.REC_TRIG_POST) }) ∧
    t.rd R.REC_TRIG_ARMED = 0 ∧ t.rd R.REC_TRIG_FIRED = 1) ∧
  (s.on R.REC_TRIG_ARMED = true → s.rd R.REC_TRIG_POST = 0 → s.rd R.REC_TRIG_SCOPE = 1 → s.frozen = false →
    s.rcd.freezeAt = none → s.casFreezePending = false → Completes .triggerFire s fun t =>
      t.rd R.REC_TRIG_ARMED = 0 ∧ t.rd R.REC_TRIG_FIRED = 1 ∧ t.rcd.freezeAt = some (20 * cdiv (s.now + 60) 20, true)) ∧
  (s.on R.REC_TRIG_ARMED = true → s.freezeHeld = true → (s.rd R.REC_TRIG_SCOPE = 1 ∨ s.rd R.REC_TRIG_SCOPE = 2) →
    Completes .triggerFire s fun t => t.rd R.REC_TRIG_ARMED = 0 ∧ t.rd R.REC_TRIG_FIRED = 1 ∧
      t.cas.ignored = s.cas.ignored + 1 ∧ t.rcd.freezeAt = s.rcd.freezeAt ∧ t.seam = s.seam) ∧
  (s.on R.REC_TRIG_ARMED = false → Completes .triggerFire s fun t => t = s) ∧
  (∀ x, s.rcd.post = some x → s.rd R.REC_TRIG_SCOPE = 1 → s.frozen = false → s.rcd.freezeAt = none →
    s.casFreezePending = false → Completes .triggerPostExpiry s fun t =>
      t.now = max s.now (x + s.frozenNs) ∧ t.rcd.post = none ∧ t.rcd.freezeAt = some (20 * cdiv (t.now + 60) 20, true) ∧
      t.regs = s.regs) ∧
  (s.rcd.post = none ∨ s.frozen = true → Completes .triggerPostExpiry s fun t => t = s) ∧
  (s.on R.REC_TRIG_FROZEN = true → s.rcd.thawAt = none → Completes .triggerThaw s fun t =>
    t.rcd.thawAt = some (20 * cdiv (s.now + 60) 20) ∧ t.rd R.REC_TRIG_THAW = 1 ∧ RegsBut [R.REC_TRIG_THAW] s t ∧
    t.frozen = s.frozen ∧
    (∀ x : Sat, s.seamUp x = true → t.seam[x].flits = s.seam[x].flits ++
      [⟨s.now, s.seam[x].nextId, ⟨some (20 * cdiv (s.now + 60) 20), .thaw⟩⟩,
       ⟨s.now + 4, s.seam[x].nextId, ⟨some (20 * cdiv (s.now + 60) 20), .thaw⟩⟩]) ∧
    (∀ x : Sat, s.seamUp x = false → t.seam[x] = s.seam[x])) ∧
  (s.on R.REC_TRIG_FROZEN = false → Completes .triggerThaw s fun t => t = s) ∧
  (∀ k : Fin 4, Completes (.traceLaneUp k) s fun t =>
    bit (t.rd R.TRC_STATUS_LANE_UP) k = true ∧ RegsBut [R.TRC_STATUS_LANE_UP] s t ∧ t.raised = s.raised ∧
    ∀ j : Fin 4, j ≠ k → bit (t.rd R.TRC_STATUS_LANE_UP) j = bit (s.rd R.TRC_STATUS_LANE_UP) j) ∧
  (∀ k : Fin 4, bit (s.rd R.TRC_STATUS_LANE_UP) k = true → Completes (.traceLaneDown k) s fun t =>
    bit (t.rd R.TRC_STATUS_LANE_UP) k = false ∧ RegsBut [R.TRC_STATUS_LANE_UP] s t ∧
    (∀ j : Fin 4, j ≠ k → bit (t.rd R.TRC_STATUS_LANE_UP) j = bit (s.rd R.TRC_STATUS_LANE_UP) j) ∧
    t.raised = s.raised ++ [{ code := Ev.TRC_LANE_DOWN, unit := k, detail := 0, body := [] }]) ∧
  (∀ k : Fin 4, bit (s.rd R.TRC_STATUS_LANE_UP) k = false → Completes (.traceLaneDown k) s fun t => t = s) ∧
  (s.on R.TRC_CTL_EN = true → s.rd R.TRC_STATUS_LANE_UP = 15 →
    (∀ x, s.rcd.alignTill = some x → s.now < x → Completes .traceAlignment s fun t =>
      t = { s with out := s.out ++ [.traceAlign [0xA54B, 0x1A54B, 0x2A54B, 0x3A54B]] }) ∧
    (∀ x, s.rcd.alignTill = some x → x ≤ s.now → Completes .traceAlignment s fun t =>
      t.now = max s.now (x + cdiv (4325376 * (s.rcd.alignN + 1)) 100) ∧ t.rcd.alignN = s.rcd.alignN + 1 ∧
      t.out = s.out ++ [.traceAlign [0xA54B, 0x1A54B, 0x2A54B, 0x3A54B]] ∧ t.regs = s.regs)) ∧
  (s.on R.TRC_CTL_EN = false → Completes .traceAlignment s fun t => t = s) ∧
  (s.on R.TRC_CTL_EN = true → s.frozen = false → State.trcWords s.trcFifo + 64 ≤ 8192 →
    s.trcDrop.toList.all (· == 0) = false → Completes .traceLostPacket s fun t =>
      t.trcDrop = Vector.replicate 5 0 ∧ t.rd R.TRC_STATUS_FIFO = State.trcWords t.trcFifo % 2 ^ R.TRC_STATUS_FIFO.w ∧
      t.trcFifo = s.trcFifo ++ ((List.finRange 5).filter fun k => s.trcDrop[k] != 0).map fun (k : Fin 5) =>
        ⟨8, 0, s.cyc % 2 ^ 32, [s.trcDrop[k] % 2 ^ 32 + 2 ^ 32 * k.val]⟩) ∧
  (s.trcDrop.toList.all (· == 0) = true → Completes .traceLostPacket s fun t => t = s) ∧
  (s.frozen = false → s.rcd.freezeAt = none → s.casFreezePending = false → Completes .packageFreezeRequest s fun t =>
    t.rcd.freezeAt = some (20 * cdiv (s.now + 60) 20, false) ∧ t.regs = s.regs ∧ t.frozen = false ∧
    (∀ x : Sat, s.seamUp x = true → t.seam[x].flits = s.seam[x].flits ++
      [⟨s.now, s.seam[x].nextId, ⟨some (20 * cdiv (s.now + 60) 20), .freeze⟩⟩,
       ⟨s.now + 4, s.seam[x].nextId, ⟨some (20 * cdiv (s.now + 60) 20), .freeze⟩⟩])) ∧
  (s.freezeHeld = true → Completes .packageFreezeRequest s fun t => t = s.modCas fun c => { c with ignored := c.ignored + 1 }) ∧
  (∀ x trig, s.rcd.freezeAt = some (x, trig) → s.frozen = false → Completes .packageFreezeEdge s fun t =>
    t.frozen = true ∧ t.frozeAt = t.now ∧ t.on R.REC_TRIG_FROZEN = true ∧ t.rcd.freezeAt = none ∧ max s.now x ≤ t.now ∧
    t.now % 20 = 0 ∧ t.raised = s.raised ++
      (if trig then [{ code := Ev.REC_FREEZE, unit := 0xFFFF, detail := 0, body := [] }] else []) ∧
    ∀ y : Sat, t.seam[y].stopAt = none ∧ (s.seamUp y = false → s.seam[y].stopped = false → t.late y = true)) ∧
  (s.rcd.freezeAt = none → Completes .packageFreezeEdge s fun t => t = s) ∧
  (∀ x : Sat, s.late x = true → s.seamUp x = true → s.frozen = true → Completes (.lateDieFreeze x) s fun t =>
    t.late x = false ∧ t.now % 20 = 0 ∧ s.now ≤ t.now ∧ t.frozen = true ∧ t.regs = s.regs ∧
    t.seam[x].copy = s.seam[x].copy.map (· + (t.now - s.seam[x].copyAt)) ∧
    t.raised = s.raised ++ [{ code := Ev.SEAM_FREEZE_MISS, unit := x, detail := 0, body := [] }]) ∧
  (∀ x : Sat, s.late x = false → Completes (.lateDieFreeze x) s fun t => t = s) ∧
  (∀ x, s.rcd.thawAt = some x → s.casFrozen = false → s.upd.held = none → Completes .packageThawEdge s fun t =>
    t.frozen = false ∧ t.on R.REC_TRIG_FROZEN = false ∧ t.rcd.thawAt = none ∧ t.now % 20 = 0 ∧ max s.now x ≤ t.now ∧
    t.frozenNs = s.frozenNs + (if s.frozen then t.now - s.frozeAt else 0) ∧
    t.raised = s.raised ++ [{ code := Ev.REC_THAW, unit := 0xFFFF, detail := 0, body := [] }]) ∧
  (∀ x, s.rcd.thawAt = some x → s.casFrozen = true → s.upd.held = none → Completes .packageThawEdge s fun t =>
    t.frozen = s.frozen ∧ t.on R.REC_TRIG_FROZEN = false ∧ t.rcd.thawAt = none)

/-- Updates over the service port up to the checks (R449–R453, R460): the service addresses, the queries, the transfer of
components and their verification, each where it is served and where it is turned away. -/
def Obligations.UpdateTransferCommands : Prop := ∀ s : State, s.live = true →
  (∀ a b, Completes (.entdaa a b) s fun t =>
    Only [R.UPD_SVC_DA_SVP, R.UPD_SVC_DA_TRP] s t s ∧ t.rd R.UPD_SVC_DA_SVP = a % 2 ^ R.UPD_SVC_DA_SVP.w ∧
    t.rd R.UPD_SVC_DA_TRP = b % 2 ^ R.UPD_SVC_DA_TRP.w) ∧
  (∀ (trp : Bool) (e : Nat), Completes (.setEndpointId trp e) s fun t =>
    Only [if trp then R.UPD_SVC_EID_TRP else R.UPD_SVC_EID_SVP] s t { s with out := s.out ++ [.pldm 15 0 [e]] } ∧
    t.rd (if trp then R.UPD_SVC_EID_TRP else R.UPD_SVC_EID_SVP) = e % 2 ^ 8) ∧
  (s.runs .svp = true →
    (Completes .queryDeviceIdentifiers s fun t =>
      t = { s with freeCtr := s.freeCtr + 1, out := s.out ++ [.pldm 1 0 [Config.freeValue s.freeCtr]] }) ∧
    (s.upd.staged = [] → s.upd.steps = [] → Completes .getFirmwareParameters s fun t =>
      t = { s with out := s.out ++ [.pldm 2 0 (([.trp, .plp, .svp] : List Proc).flatMap (fun p =>
        [(s.bootEntry p ((s.inUse p).getD 0)).elim 0 (·.ver), 0]) ++ [s.libStored.elim 0 (·.libVer)])] }) ∧
    (s.lcState ≠ 0 → s.lcState ≠ 4 → s.upd.active = false → s.upd.staged = [] → s.rd R.UPD_STATUS_STATE ≠ 4 →
      Completes .requestUpdate s fun t =>
        Only [R.UPD_STATUS_STATE, R.UPD_STATUS_STEP] s t { s with
          upd := { s.upd with active := true, comps := [], cur := none }, out := s.out ++ [.pldm 3 0 []] } ∧
        t.rd R.UPD_STATUS_STATE = 1) ∧
    (s.lcState = 0 ∨ s.lcState = 4 → Completes .requestUpdate s fun t => t = { s with out := s.out ++ [.pldm 3 1 []] }) ∧
    (s.lcState ≠ 0 → s.lcState ≠ 4 → s.upd.active = true →
      Completes .requestUpdate s fun t => t = { s with out := s.out ++ [.pldm 3 2 []] }) ∧
    (∀ id, Completes (.passComponentTable id) s fun t =>
      t = { s with out := s.out ++ [.pldm 4 (if s.upd.active && knownComp id then 0 else 1) []] }) ∧
    (∀ id size, s.upd.active = true → knownComp id = true → s.upd.cur = none →
      (s.upd.comps.map (·.size)).foldl (· + ·) 0 + size ≤ 4194304 →
      Completes (.updateComponent id size) s fun t =>
        Only [R.UPD_STATUS_STATE, R.UPD_STATUS_STEP] s t { s with
          upd := { s.upd with comps := s.upd.comps ++ [{ id := id, size := size }], cur := some s.upd.comps.length }
          out := s.out ++ [.pldm 5 0 []] } ∧
        t.rd R.UPD_STATUS_STATE = 1) ∧
    (∀ id size, s.upd.active = false ∨ knownComp id = false ∨ s.upd.cur.isSome = true ∨
      4194304 < (s.upd.comps.map (·.size)).foldl (· + ·) 0 + size →
      Completes (.updateComponent id size) s fun t => t = { s with out := s.out ++ [.pldm 5 1 []] }) ∧
    (∀ (c : UpdComp) (b : List Nat), s.curComp = some c → c.whole = false → b.length ≤ 512 →
      c.bytes.length + b.length ≤ c.size → Completes (.requestFirmwareData b) s fun t =>
        t.out = s.out ++ [.pldm 6 0 []] ∧ t.curComp = some { c with bytes := c.bytes ++ b } ∧ t.regs = s.regs ∧
        t.upd.comps.length = s.upd.comps.length) ∧
    (∀ b : List Nat, (s.curComp = none ∨ 512 < b.length) → Completes (.requestFirmwareData b) s fun t =>
      t = { s with out := s.out ++ [.pldm 6 1 []] }) ∧
    (∀ c : UpdComp, s.curComp = some c → c.whole = false → c.bytes.length = c.size →
      Completes .transferComplete s fun t =>
        RegsBut [R.UPD_STATUS_STATE, R.UPD_STATUS_STEP] s t ∧ t.curComp = some { c with whole := true } ∧
        t.out = s.out ++ [.pldm 7 0 []] ∧ (c.result = none → t.rd R.UPD_STATUS_STATE = 2)) ∧
    (∀ c : UpdComp, s.curComp = some c → c.bytes.length ≠ c.size →
      Completes .transferComplete s fun t => t = { s with out := s.out ++ [.pldm 7 1 []] }) ∧
    (∀ (c : UpdComp) (p : Proc), s.curComp = some c → c.whole = true → c.result = none →
      s.runs .trp = true → compProc c.id = some p →
      let b := deltaBuild (match procOfCode (numAt c.bytes 2 1) with
        | some q => s.imageOf q ((s.inUse q).getD 0)
        | none => []) c.bytes
      (∀ h g, s.checkImage p c.bytes b h g = 0 → Completes (.verifyComplete h g) s fun t =>
        p ∈ t.upd.staged ∧ t.out = s.out ++ [.pldm 8 0 []] ∧
        t.raised = s.raised ++ [{ code := Ev.UPD_STAGED, unit := p.init.code, detail := 0, body := [] }] ∧
        t.mgt = s.mgt) ∧
      (∀ h g, s.checkImage p c.bytes b h g ≠ 0 → Completes (.verifyComplete h g) s fun t =>
        t.upd.staged = s.upd.staged.erase p ∧ t.upd.cur = none ∧
        t.rd R.UPD_STATUS_ERR = s.checkImage p c.bytes b h g % 2 ^ R.UPD_STATUS_ERR.w ∧
        t.out = s.out ++ [.pldm 8 (s.checkImage p c.bytes b h g) []] ∧
        t.raised = s.raised ++
          [{ code := Ev.UPD_VERIFY_FAIL, unit := p.init.code, detail := s.checkImage p c.bytes b h g, body := [] }] ∧
        t.mgt = s.mgt)) ∧
    (∀ (c : UpdComp) (h g : Bool), s.curComp = some c → c.whole = true → c.result = none → s.runs .trp = true → c.id = 0x10 →
      s.rd R.SEN_FLEET_PUSH ≠ 1 → Completes (.verifyComplete h g) s fun t =>
        t.out = s.out ++ [.pldm 8 1 []] ∧ t.libStored = s.libStored ∧ t.curComp = some { c with result := some 1 }) ∧
    (∀ (c : UpdComp) (h g : Bool), s.curComp = some c → c.whole = true → c.result = none → s.runs .trp = true → c.id = 0x10 →
      s.rd R.SEN_FLEET_PUSH = 1 → s.takesLibrary (State.libraryOf c.bytes g) = false →
      Completes (.verifyComplete h g) s fun t =>
        t.out = s.out ++ [.pldm 8 1 []] ∧ t.libStored = s.libStored ∧ t.sen.libNext = s.sen.libNext ∧
        t.curComp = some { c with result := some 1 }) ∧
    (∀ (c : UpdComp) (h : Bool), s.curComp = some c → c.whole = true → c.result = none → s.runs .trp = true → c.id = 0x10 →
      s.rd R.SEN_FLEET_PUSH = 1 → State.libraryOk (State.libraryOf c.bytes true) = true →
      s.keyFor (State.libraryOf c.bytes true).keySlot 1 = true → s.libStored = none → 0 < (State.libraryOf c.bytes true).libVer →
      Completes (.verifyComplete h true) s fun t =>
        t.out = s.out ++ [.pldm 8 0 []] ∧ t.libStored = some (State.libraryOf c.bytes true) ∧
        t.sen.libNext = some (State.libraryOf c.bytes true) ∧ t.sen.lib = s.sen.lib) ∧
    (∀ h g, s.curComp = none → Completes (.verifyComplete h g) s fun t => t = { s with out := s.out ++ [.pldm 8 1 []] }) ∧
    (∀ c : UpdComp, s.curComp = some c → c.result = some 0 → Completes .applyComplete s fun t =>
      Only [R.UPD_STATUS_STATE, R.UPD_STATUS_STEP] s t { s with
        upd := { s.upd with cur := none }, out := s.out ++ [.pldm 9 0 []] }) ∧
    (∀ c : UpdComp, s.curComp = some c → c.result ≠ some 0 →
      Completes .applyComplete s fun t => t = { s with out := s.out ++ [.pldm 9 1 []] }) ∧
    (s.upd.active = true → s.upd.cur = none → Completes .activateFirmware s fun t =>
      Only [R.UPD_STATUS_STATE, R.UPD_STATUS_STEP] s t { s with
        upd := { s.upd with
          active := false, comps := [], staged := [], taken := false, last := none
          steps := [Proc.svp, .plp, .trp].filter fun p => s.upd.staged.contains p }
        out := s.out ++ [.pldm 10 0 []] } ∧
      (Proc.svp ∈ s.upd.staged → t.rd R.UPD_STATUS_STATE = 4 ∧ t.rd R.UPD_STATUS_STEP = Proc.svp.init.code)))

/-- Activation of an update (R454–R457, R460): ActivateFirmware, GetStatus, the cancels, the regatta and its steps, a
confirmation and the trial limit. -/
def Obligations.UpdateActivationCommands : Prop := ∀ s : State, s.live = true →
  (s.runs .svp = true →
    (s.upd.active = false ∨ s.upd.cur.isSome = true →
      Completes .activateFirmware s fun t => t = { s with out := s.out ++ [.pldm 10 1 []] }) ∧
    (Completes .getStatus s fun t =>
      t = { s with out := s.out ++ [.pldm 11 0 [s.rd R.UPD_STATUS_STATE, s.rd R.UPD_STATUS_ERR]] }) ∧
    (∀ c : UpdComp, s.curComp = some c → c.result = none → Completes .cancelUpdateComponent s fun t =>
      Only [R.UPD_STATUS_STATE, R.UPD_STATUS_STEP] s t { s with
        upd := { s.upd with comps := s.upd.comps.erase c, cur := none }, out := s.out ++ [.pldm 12 0 []] }) ∧
    (s.curComp = none → Completes .cancelUpdateComponent s fun t => t = { s with out := s.out ++ [.pldm 12 1 []] }) ∧
    (s.rd R.UPD_STATUS_STATE ≠ 4 → s.upd.active = true ∨ s.upd.staged ≠ [] → Completes .cancelUpdate s fun t =>
      t.upd = { s.upd with active := false, comps := [], cur := none, staged := [], steps := [], taken := false, last := none } ∧
      t.rd R.UPD_STATUS_STATE = 0 ∧ t.rd R.UPD_STATUS_STEP = 0 ∧ t.out = s.out ++ [.pldm 13 0 []] ∧ t.mgt = s.mgt) ∧
    (s.rd R.UPD_STATUS_STATE = 4 → Completes .cancelUpdate s fun t => t = { s with out := s.out ++ [.pldm 13 1 []] }) ∧
    (∀ x, s.upd.taken = false → Completes (.setRegatta x) s fun t =>
      Only [R.UPD_REGATTA_TIME] s t { s with out := s.out ++ [.pldm 14 0 []] } ∧ t.rd R.UPD_REGATTA_TIME = x % 2 ^ 64) ∧
    (∀ x, s.upd.taken = true → Completes (.setRegatta x) s fun t => t = { s with out := s.out ++ [.pldm 14 1 []] })) ∧
  (∀ (p : Proc) (rest : List Proc) (k : CoreDump), s.upd.steps = p :: rest → s.upd.taken = false → s.upd.last = none →
    s.rd R.UPD_REGATTA_TIME = 0 → s.frozen = false → s.runs .trp = true → s.runs p = true → (s.proc p).trial = none →
    s.upd.active = false → Completes (.regattaStep k) s fun t =>
      t.upd.steps = rest ∧ t.upd.taken = true ∧ t.upd.last = some p ∧
      t.upd.due = s.toEdge.lkTime + 1000000000 * s.rd R.UPD_REGATTA_CFG_STEP_S ∧
      t.rd (R.MGT_P_STATE_STATE p.idx) = 3 ∧ (t.proc p).restart = some (.draining, 6) ∧ t.rd R.UPD_STATUS_STATE = 4) ∧
  (∀ (p : Proc) (rest : List Proc) (k : CoreDump), s.upd.steps = p :: rest → s.upd.last.isSome = true → s.frozen = false →
    s.runs .trp = true →
    Completes (.regattaStep k) s fun t =>
      t.upd.steps = [] ∧ t.upd.last = none ∧ t.rd R.UPD_STATUS_STATE = 0 ∧
      { code := Ev.UPD_ABORTED, unit := p.init.code, detail := 0, body := [] } ∈ t.raised ∧
      ∀ q : Proc, t.rd (R.MGT_P_STATE_STATE q.idx) = s.rd (R.MGT_P_STATE_STATE q.idx)) ∧
  (s.frozen = true → ∀ k : CoreDump, Completes (.regattaStep k) s fun t => t = s) ∧
  (∀ p : Proc, s.runs p = true → s.on (R.MGT_P_STATE_STARTED p.idx) = true →
    (p = .plp → s.on (R.MGT_P_STATE_READY 1) = true) → (s.proc p).trial.isSome = true → (s.proc p).restart = none →
    Completes (.updateConfirm p) s fun t =>
      (t.proc p).trial = none ∧ t.rd (R.UPD_P_SLOT_TRIAL p.idx) = 0 ∧ t.upd.last ≠ some p ∧
      t.raised = s.raised ++ [{ code := Ev.UPD_CONFIRMED, unit := p.init.code, detail := 0, body := [] }] ∧ t.now = s.now) ∧
  (∀ p : Proc, (s.proc p).trial = none → Completes (.updateConfirm p) s fun t => t = s) ∧
  (∀ (p : Proc) (x : Nat) (k : CoreDump), (s.proc p).trial = some x → s.runs p = true →
    Completes (.trialTimeout p k) s fun t => t.now = max s.now (x + 300000000000) ∧ t.rd (R.MGT_P_STATE_STATE p.idx) = 3 ∧
      (t.proc p).restart = some (.draining, 6) ∧ (t.proc p).trial = none ∧ t.rd (R.UPD_P_SLOT_TRIAL p.idx) = 0 ∧
      (t.raised.drop s.raised.length).map (·.code) = [Ev.UPD_FALLBACK]) ∧
  (∀ (p : Proc) (k : CoreDump), (s.proc p).trial = none → Completes (.trialTimeout p k) s fun t => t = s)

/-- The sealed meter counts (R468, R470, R471, R473, R481): a product, a condition, the copies into the mirror, the periodic
reading, the saves, the faults and the start; while it is off none but its start does anything. -/
def Obligations.MeterCountingCommands : Prop := ∀ s : State,
  (s.mtr.powered = true →
    (∀ vdiv vsh deg frac : Int, s.mtr.running = true →
      let v := corrected s.mtr.cal.kv (State.tempPpm s.mtr s.mtr.cal.tkv deg frac) * vdiv / 1000000 - vsh
      let r := corrected s.mtr.cal.rsh (State.tempPpm s.mtr s.mtr.cal.trsh deg frac)
      Completes (.meterProduct vdiv vsh deg frac) s fun t =>
        t = { s with mtr := t.mtr } ∧ t.mtr.mus = s.mtr.mus + 1 ∧ t.mtr.up = s.mtr.up + 1 ∧
        bit t.mtr.lastNow 0 = decide (420 * r < vsh) ∧ bit t.mtr.lastNow 2 = decide (v * vsh < 0) ∧
        bit t.mtr.lastNow 1 = (decide (v < 10800000000) || decide (13200000000 < v)) ∧
        (r ≤ 2 * vsh → 0 < v → t.mtr.energy * 1000000000 + t.mtr.rem =
          s.mtr.energy * 1000000000 + s.mtr.rem + (v * vsh / (r * 1000)).toNat) ∧
        (2 * vsh < r ∨ v ≤ 0 → t.mtr.energy = s.mtr.energy ∧ t.mtr.rem = s.mtr.rem)) ∧
    (∀ vdiv vsh deg frac : Int, s.mtr.running = false → Completes (.meterProduct vdiv vsh deg frac) s fun t =>
      t = { s with mtr := { s.mtr with mus := s.mtr.mus + 1, up := s.mtr.up + 1 } }) ∧
    (∀ (c : MtrCond) (b o : Bool), b = (if c = .tamper then o else bit s.mtr.lastNow (condFlag c)) →
      bit s.mtr.now (condFlag c) ≠ b → Completes (.meterConditionChange c o) s fun t =>
        bit t.mtr.now (condFlag c) = b ∧ bit t.mtr.sincePer (condFlag c) = true ∧ bit t.mtr.sinceStp (condFlag c) = true ∧
        t.mtr.logSeq = s.mtr.logSeq + 1 ∧ t.mtr.energy = s.mtr.energy ∧ t.mtr.queue = s.mtr.queue ∧ t.mtr.sealed = s.mtr.sealed ∧
        (s.live = true → b = true → t.raised.getLast? =
          some { code := Ev.MTR_RANGE, unit := 0xFFFF, detail := condStatus c, body := [] })) ∧
    (∀ (c : MtrCond) (b o : Bool), b = (if c = .tamper then o else bit s.mtr.lastNow (condFlag c)) →
      bit s.mtr.now (condFlag c) = b → Completes (.meterConditionChange c o) s fun t => t = s) ∧
    (Completes .mirrorCopy s fun t =>
      t.rd R.MTR_ENERGY_MJ = s.mtr.energy % 2 ^ R.MTR_ENERGY_MJ.w ∧ t.rd R.MTR_MUS_US = s.mtr.mus % 2 ^ R.MTR_MUS_US.w ∧
      t.rd R.MTR_COPY_SEQ = (s.rd R.MTR_COPY_SEQ + 2) % 2 ^ R.MTR_COPY_SEQ.w ∧ t.mtr.accMs = (0, 0, 0)) ∧
    (∀ sig : List Nat, Completes (.meterPeriodicReading sig) s fun t =>
      t.mtr.rseq = (if s.mtr.sealed then s.mtr.rseq + 1 else s.mtr.rseq) ∧ t.mtr.mean = State.meanOf s.mtr.accSec ∧
      t.mtr.accSec = (0, 0, 0) ∧ t.mtr.sincePer = s.mtr.now ∧ t.mtr.energy = s.mtr.energy ∧
      t.rd R.MTR_COPY_SEQ = (s.rd R.MTR_COPY_SEQ + 2) % 2 ^ R.MTR_COPY_SEQ.w) ∧
    (Completes .meterSave s fun t => t = { s with mtr := { s.mtr with saves := [State.saveOf s.mtr false] } }) ∧
    (Completes .meterPowerFailSave s fun t =>
      t.mtr.powered = false ∧ t.mtr.running = false ∧ t.mtr.queue = [] ∧
      t.mtr.saves.head? = some ⟨s.mtr.energy, s.mtr.rseq, s.mtr.mpcyc, s.mtr.stamps, s.mtr.logSeq + 1, true, s.mtr.up⟩ ∧
      ∀ f : Fld, 0xf0000 ≤ f.off → f.lo < 64 → t.rd f = f.rst % 2 ^ f.w) ∧
    (Completes .meterXtalFail s fun t =>
      t.mtr.fault = true ∧ t.mtr.running = false ∧ t.mtr.queue = [] ∧ t.mtr.logSeq = s.mtr.logSeq + 1 ∧
      t.mtr.energy = s.mtr.energy ∧ t.rd R.MTR_STATUS_FAULT = 1) ∧
    (∀ x : MtrTest, Completes (.selftestFail x) s fun t =>
      t.mtr.fault = true ∧ t.mtr.running = false ∧ t.mtr.queue = s.mtr.queue ∧ t.mtr.logSeq = s.mtr.logSeq + 1 ∧
      t.mtr.energy = s.mtr.energy ∧ t.rd R.MTR_STATUS_FAULT = 1)) ∧
  (∀ (m : MtrSave) (l : List MtrSave), s.mtr.saves = m :: l → m.atFail = true →
    Completes (.meterPowerUp true none) s fun t =>
      t.mtr.powered = true ∧ t.mtr.running = true ∧ t.mtr.fault = false ∧ t.mtr.energy = m.energy ∧ t.mtr.rseq = m.rseq ∧
      t.mtr.mpcyc = m.mpcyc + 1 ∧ t.mtr.stamps = m.stamps ∧ t.mtr.logSeq = m.logSeq + 1 ∧ t.mtr.mus = 0 ∧ t.mtr.queue = [] ∧
      t.mtr.sealed = s.mtr.sealed ∧ t.mtr.cal = s.mtr.cal ∧ t.rd R.MTR_STATUS_MEASURING = 1) ∧
  (s.mtr.powered = false →
    (∀ a b c d : Int, Completes (.meterProduct a b c d) s fun t => t = s) ∧
    (∀ (c : MtrCond) (b : Bool), Completes (.meterConditionChange c b) s fun t => t = s) ∧
    (Completes .mirrorCopy s fun t => t = s) ∧ (∀ l : List Nat, Completes (.meterPeriodicReading l) s fun t => t = s) ∧
    (Completes .meterSave s fun t => t = s) ∧ (Completes .meterPowerFailSave s fun t => t = s) ∧
    (Completes .meterXtalFail s fun t => t = s) ∧ (∀ x : MtrTest, Completes (.selftestFail x) s fun t => t = s) ∧
    (∀ (kv rsh : Nat) (tc : Int × Int × Int) (sig : List Nat), Completes (.sealCommand kv rsh tc sig) s fun t => t = s))

/-- Stamps and the seal (R407, R472, R474–R476, R482–R484): a stamp accepted, refused or unanswered, with the handshake that
follows, one signed, and the seal command, once. `u` is the state in which the stores of the requester have drained. -/
def Obligations.MeterStampCommands : Prop := ∀ (s u : State) (who : Init), u = s.turn who →
  (s.mtr.powered = true →
    (∀ (kv rsh : Nat) (tc : Int × Int × Int) (sig : List Nat) (d x y : Nat), s.mtr.sealed = false → s.chain[9] = .meterCal →
      d = s.draw.1 → x = s.draw.2.draw.1 → y = s.draw.2.draw.2.draw.1 → Completes (.sealCommand kv rsh tc sig) s fun t =>
        t.mtr.sealed = true ∧ t.mtr.cal = ⟨kv, rsh, tc.1, tc.2.1, tc.2.2⟩ ∧
        t.mtr.key = some (d % 2 ^ 384, x % 2 ^ 384, y % 2 ^ 384) ∧
        t.mtr.cert = State.certWords (x % 2 ^ 384) (y % 2 ^ 384) t.mtr.cal sig ∧ t.mtr.rseq = 0 ∧ t.mtr.stamps = 0 ∧
        t.mtr.logSeq = 1 ∧ t.mtr.energy = s.mtr.energy ∧ t.mtr.mus = s.mtr.mus ∧ t.rd R.MTR_STATUS_SEALED = 1 ∧
        t.chain[9] = .bypass ∧ (∀ k : Fin 9, t.chain[k] = s.chain[k]) ∧
        t.rd (R.MTR_CERT_WORD 4) = bits (x % 2 ^ 384) 0 32) ∧
    (∀ (kv rsh : Nat) (tc : Int × Int × Int) (sig : List Nat), (s.mtr.sealed = true ∨ s.chain[9] ≠ .meterCal) →
      Completes (.sealCommand kv rsh tc sig) s fun t => t = s)) ∧
  (s.live = true → who = .plp → u.stampPend = false → u.mtr.powered = true → ∀ kind, 0 < kind → kind < 4 →
    (u.mtr.sealed = true → u.mtr.fault = false → u.mtr.queue.length < 4 →
      Completes (.stampRequest .plp kind true) s fun t =>
        t.mgt.stampAck.any (fun a => decide (u.now ≤ a.1 ∧ a.1 ≤ u.now + 250) && a.2 == 1) = true ∧ t.now = u.now ∧
        t.mtr.sinceStp = u.mtr.now ∧ t.mtr.energy = u.mtr.energy ∧ t.mtr.mus = u.mtr.mus ∧ t.raised = u.raised ∧
        t.mtr.queue = u.mtr.queue ++ [⟨kind, u.rd R.MGT_MTR_JOB_ID, u.rd R.MGT_MTR_NONCE_VALUE, u.lkTime, u.mtr.energy, u.mtr.mus,
          State.flagsOf u.mtr u.mtr.sinceStp⟩]) ∧
    (u.mtr.sealed = true → u.mtr.fault = false → 4 ≤ u.mtr.queue.length →
      Completes (.stampRequest .plp kind true) s fun t =>
        RegsBut [R.MGT_MTR_REQ_KIND, R.MGT_MTR_REQ_RESULT] u t ∧ t.mtr = u.mtr ∧
        t.mgt.stampAck.any (fun a => decide (u.now ≤ a.1 ∧ a.1 ≤ u.now + 250) && a.2 == 2) = true ∧
        t.raised = u.raised ++ (if u.live then [{ code := Ev.MTR_REFUSED, unit := 0xFFFF, detail := 2, body := [] }] else [])) ∧
    (u.mtr.sealed = false ∨ u.mtr.fault = true →
      Completes (.stampRequest .plp kind true) s fun t =>
        RegsBut [R.MGT_MTR_REQ_KIND, R.MGT_MTR_REQ_RESULT] u t ∧ t.mtr = u.mtr ∧
        t.mgt.stampAck.any (fun a => decide (u.now ≤ a.1 ∧ a.1 ≤ u.now + 250) && a.2 == 3) = true ∧
        t.raised = u.raised ++ (if u.live then [{ code := Ev.MTR_REFUSED, unit := 0xFFFF, detail := 3, body := [] }] else [])) ∧
    (Completes (.stampRequest .plp kind false) s fun t =>
      RegsBut [R.MGT_MTR_REQ_KIND, R.MGT_MTR_REQ_RESULT] u t ∧ t.mtr = u.mtr ∧ t.now = u.now + 1000 ∧
      t.mgt.stampAck = some (u.now + 1000, 0) ∧
      t.raised = u.raised ++ (if u.live then [{ code := Ev.MTR_ABSENT, unit := 0xFFFF, detail := 0, body := [] }] else []))) ∧
  (∀ b, s.live = true → who = .plp → u.stampPend = false →
    Completes (.stampRequest .plp 0 b) s fun t => Only [R.MGT_MTR_REQ_KIND] u t u ∧ t.rd R.MGT_MTR_REQ_KIND = 0) ∧
  (∀ (kind : Nat) (b : Bool), s.live = true → (who ≠ .plp ∨ u.stampPend = true) →
    Completes (.stampRequest who kind b) s fun t => t = u) ∧
  (∀ (q : StampReq) (l : List StampReq) (sig : List Nat) (k : Nat), s.mtr.queue = q :: l → k = s.mtr.stamps % 16 →
    Completes (.stampSigned sig) s fun t =>
      t.mtr.queue = l ∧ t.mtr.stamps = s.mtr.stamps + 1 ∧ t.mtr.sinceStp = s.mtr.sinceStp ∧
      t.mtr.rseq = (if s.mtr.sealed then s.mtr.rseq + 1 else s.mtr.rseq) ∧ t.mtr.energy = s.mtr.energy ∧
      t.rd R.MTR_STAMP_HEAD_STAMP_COUNT = (s.mtr.stamps + 1) % 2 ^ R.MTR_STAMP_HEAD_STAMP_COUNT.w ∧
      t.rd (R.MTR_STAMP_WORD k 0) = (1 + 2 ^ 16 * q.kind + 2 ^ 24 * q.flags) % 2 ^ 32 ∧
      t.rd (R.MTR_STAMP_WORD k 4) = q.energy % 2 ^ 32 ∧ t.rd (R.MTR_STAMP_WORD k 6) = q.mus % 2 ^ 32 ∧
      t.rd (R.MTR_STAMP_WORD k 9) = q.job % 2 ^ 32 ∧ t.rd (R.MTR_STAMP_WORD k 12) = q.nonce % 2 ^ 32 ∧
      t.rd R.MTR_COPY_SEQ = (s.rd R.MTR_COPY_SEQ + 6) % 2 ^ R.MTR_COPY_SEQ.w) ∧
  (∀ sig : List Nat, s.mtr.queue = [] → Completes (.stampSigned sig) s fun t => t = s)

/-- The stroke boundary, the arrival of Seam commands and the start of a pace schedule (R28, R38–R41, R59, R60, R112). A
boundary leaves every die that keeps step with an allowance within its pool and grants within its allowance. A command on
its way arrives `lat` ps after it was sent; `u` is the state at that instant. -/
def Obligations.StrokeCommands : Prop := ∀ s : State,
  (s.live = true → s.frozen = false → ∀ (reqs : List Req) (means : List (List (List Int))),
    Completes (.strokeBoundary reqs means) s fun t =>
      t.strokeIdx = max s.strokeIdx (cdiv s.cyc 64) + 1 ∧ t.now = 64 * max s.strokeIdx (cdiv s.cyc 64) + s.frozenTime ∧
      t.windowIdx = s.windowIdx ∧
      ∀ d : Die, s.stuck d.sat = false → t.rd (R.ADM_DIE_STROKE_GRANTED d) = State.tokens t.adm[d].chosen ∧
        t.rd (R.ADM_DIE_STROKE_GRANTED d) ≤ t.rd (R.ADM_DIE_STROKE_ALLOW d) ∧
        t.rd (R.ADM_DIE_STROKE_ALLOW d) ≤ t.rd (R.ADM_DIE_STATUS_POOL d) ∧
        t.rd (R.ADM_DIE_RAMP_START d) = (s.rd (R.ADM_DIE_RAMP_START d) + s.rd R.ADM_CTL_STRIDE) % 576) ∧
  (s.rgcOn = true → s.frozen = true → (∀ x : Sat, s.late x = false) → ∀ (reqs : List Req) (means : List (List (List Int))),
    Completes (.strokeBoundary reqs means) s fun t =>
      t.now = 64 * ((s.now - s.frozenNs) / 64 + 1) + s.frozenNs ∧ t.strokeIdx = s.strokeIdx ∧ t.adm = s.adm ∧ t.out = s.out ∧
      t.raised = s.raised) ∧
  (s.phase = .held → ∀ reqs means, Completes (.strokeBoundary reqs means) s fun t => t = s) ∧
  (s.live = true →
    (∀ (x : Sat) (lat : Nat) (c : SeamCmd), s.seam[x].flits = [] → Completes (.seamCommandArrival x lat c) s fun t => t = s) ∧
    (∀ (x : Sat) (d : Die) (f : SeamFlit) (u : State), x.die? = some d → s.seam[x].flits = [f] → s.seam[x].acted = [] →
      u = { s with now := max s.now (f.sent + 40) } →
      (∀ (w : WinCmd) (e : Nat), f.cmd = ⟨some e, .window w⟩ → w.capNav = none → u.seamLate x e true = false →
        Completes (.seamCommandArrival x 40000 f.cmd) s fun t =>
          t.now = u.now ∧ t.seam[x].flits = [] ∧ t.adm[d].cmds = s.adm[d].cmds ++ [(e, .window w)] ∧ t.regs = s.regs ∧
          t.out = s.out) ∧
      (∀ (w : WinCmd) (e : Nat), f.cmd = ⟨some e, .window w⟩ → w.capNav = none → u.seamLate x e true = true →
        Completes (.seamCommandArrival x 40000 f.cmd) s fun t =>
          t.now = u.now ∧ t.seam[x].flits = [] ∧ t.adm = s.adm ∧ t.inbox = s.inbox ++ [(u.now + 40, x, .late)]) ∧
      (∀ (p e : Nat) (k : Option Nat), f.cmd = ⟨some e, .reduce p k none⟩ → u.seamLate x e false = false →
        Completes (.seamCommandArrival x 40000 f.cmd) s fun t =>
          t.now = u.now ∧ t.adm[d].cmds = s.adm[d].cmds ++ [(e, .reduce p k none)] ∧ t.regs = s.regs) ∧
      (∀ k, f.cmd = ⟨none, .remove k⟩ → Completes (.seamCommandArrival x 40000 f.cmd) s fun t =>
        t.now = u.now ∧ t.adm[d].slotNext = s.adm[d].slotNext ++ [(k, 0, false)] ∧ t.regs = s.regs ∧ t.out = s.out) ∧
      (∀ (k : Nat) (b : Bool), f.cmd = ⟨none, .insert k b⟩ → Completes (.seamCommandArrival x 40000 f.cmd) s fun t =>
        t.now = u.now ∧ t.adm[d].slotNext = s.adm[d].slotNext ++ [(k, if b then 2 else 1, false)] ∧ t.regs = s.regs) ∧
      (∀ e, f.cmd = ⟨some e, .freeze⟩ → u.now ≤ e → Completes (.seamCommandArrival x 40000 f.cmd) s fun t =>
        t.now = u.now ∧ t.seam[x].stopAt = some e ∧ t.regs = s.regs ∧ t.adm = s.adm) ∧
      (∀ e, f.cmd = ⟨some e, .freeze⟩ → e < u.now → Completes (.seamCommandArrival x 40000 f.cmd) s fun t =>
        t.seam[x].stopAt = s.seam[x].stopAt ∧ t.inbox = s.inbox ++ [(u.now + 40, x, .late)])) ∧
    (∀ (x : Sat) (f : SeamFlit), s.seam[x].flits = [f] → s.seam[x].acted = [f.id] → f.cmd.edge = none →
      Completes (.seamCommandArrival x 40000 f.cmd) s fun t =>
        t.now = max s.now (f.sent + 40) ∧ t.seam[x].flits = [] ∧ t.adm = s.adm ∧ t.regs = s.regs ∧ t.out = s.out) ∧
    (∀ k v x y l, s.frozen = false → s.gov.paceNext = (k, v, x, y) :: l →
      Completes .paceScheduleStart s fun t =>
        t.gov.pace = some (k, v, x, y) ∧ t.gov.paceNext = l ∧ t.rd R.BUD_PACE_ACTIVE = 1 ∧
        t.rd R.BUD_PACE_TOKENS = v % 2 ^ R.BUD_PACE_TOKENS.w ∧ t.rd R.BUD_PACE_RATIO = k % 2 ^ R.BUD_PACE_RATIO.w ∧
        s.now ≤ t.now ∧ RegsBut [R.BUD_PACE_ACTIVE, R.BUD_PACE_TOKENS, R.BUD_PACE_RATIO] s t) ∧
    (s.gov.paceNext = [] → Completes .paceScheduleStart s fun t => t = s))

/-- The window boundary (R40, R42, R54, R85, R115, R118, R187, R351–R353): what it latches, and the requests that end on it.
A WRITE_SET waiting for the boundary is acted on after them, so the registers it may write are stated without one. -/
def Obligations.WindowCommands : Prop := ∀ (s : State) (acts : List (List Nat)),
  (s.rgcOn = true → s.frozen = false → Completes (.windowBoundary acts) s fun t =>
    t.windowIdx = max s.windowIdx (cdiv s.cyc 2048) + 1 ∧ t.now = 2048 * max s.windowIdx (cdiv s.cyc 2048) + s.frozenTime ∧
    t.strokeIdx = s.strokeIdx ∧
    ∀ l : Loop, t.rd (R.RGC_L_TEL_I_AVG l) = sat 14 (s.avgI l) ∧ t.rd (R.RGC_L_TEL_I_PK64 l) = sat 14 s.loop[l].pk64 ∧
      t.loop[l].pk64 = 0) ∧
  (s.live = true → s.frozen = true → Completes (.windowBoundary acts) s fun t =>
    t.now = 2048 * (s.now / 2048 + 1) ∧ t.windowIdx = s.windowIdx ∧ RegsBut tracing s t ∧ t.adm = s.adm ∧ t.gov = s.gov ∧
    t.raised = s.raised ∧
    (s.on R.TRC_CTL_EN = true → s.traceUp = true → s.rcd.alignTill = none → s.trcFifo = [] →
      t.out = s.out ++ [.traceWords s.rcd.lane [0x2101 + 2 ^ 32 * (t.cyc % 2 ^ 32), t.cyc, t.lkTime], .traceIdle 0x1E 3100])) ∧
  (s.live = true → s.frozen = false →
    (Completes (.windowBoundary acts) s fun t => ∀ l : Loop,
      t.rail[l].lim = s.rd (R.BUD_RAIL_STATUS_LIM_EFF l) ∧
      t.rd (R.BUD_RAIL_STATUS_LIM_EFF l) = if l.val < 8
        then min (s.rd (R.BUD_RAIL_LIM_LIMIT l)) (s.rail[l].limNext.getD (s.rd (R.BUD_RAIL_STATUS_LIM_EFF l))) %
          2 ^ (R.BUD_RAIL_STATUS_LIM_EFF l).w
        else s.rd (R.BUD_RAIL_LIM_LIMIT l)) ∧
    ((∀ (q : Queue) l, s.queue[q].work ≠ some (.writes l)) →
      (Completes (.windowBoundary acts) s fun t =>
        t.rd R.ADM_COST_SWAP_DIE = 0 ∧ t.rd R.BUD_JOB_CTL_START = 0 ∧ t.rd R.BUD_JOB_CTL_STOP = 0 ∧
        t.rd R.BUD_LT_ACC_WRITE = 0 ∧ t.rd R.BUD_LT_ACC_INVAL_ALL = 0 ∧ t.rd R.BUD_LT_ACC_BUSY = 0 ∧
        t.rd R.BUD_STATUS_BURST_LEFT ≤ s.rd R.BUD_BURST_MAX ∧
        ∀ (d : Die) (k : Nat), k < 128 →
          t.rd (R.ADM_ACTIVE_COST_E0 d k) =
            (if bit (s.rd R.ADM_COST_SWAP_DIE) d then s.rd (R.ADM_SHADOW_COST_E0 d k) else s.rd (R.ADM_ACTIVE_COST_E0 d k)) ∧
          t.rd (R.ADM_ACTIVE_COST_E3 d k) =
            (if bit (s.rd R.ADM_COST_SWAP_DIE) d then s.rd (R.ADM_SHADOW_COST_E3 d k) else s.rd (R.ADM_ACTIVE_COST_E3 d k))) ∧
      (∀ code arg, s.on R.GLB_STATUS_CHECKING = true → s.gov.check = some (some (code, arg)) →
        Completes (.windowBoundary acts) s fun t =>
          t.rd R.GLB_STATUS_CHECKING = 0 ∧ t.rd R.GLB_GOV_CTL_ENABLE = 0 ∧ t.rd R.GLB_STATUS_REFUSE_CODE = code % 2 ^ 8 ∧
          t.rd R.GLB_STATUS_REFUSE_ARG = arg % 2 ^ 16 ∧
          { code := Ev.HIF_ENABLE_REFUSED, unit := 0xFFFF, detail := code + arg * 2 ^ 16, body := [] } ∈ t.raised) ∧
      (s.on R.GLB_STATUS_CHECKING = true → s.gov.check = some none → s.gov.offAsked = false →
        Completes (.windowBoundary acts) s fun t =>
          t.rd R.GLB_STATUS_CHECKING = 0 ∧ t.rd R.GLB_STATUS_ENABLED = 1 ∧
          { code := Ev.HIF_ENABLED, unit := 0xFFFF, detail := 0, body := [] } ∈ t.raised) ∧
      (s.gov.offAsked = true →
        Completes (.windowBoundary acts) s fun t =>
          t.rd R.GLB_STATUS_ENABLED = 0 ∧ t.rd R.GLB_GOV_CTL_ENABLE = 0 ∧ t.gov.offAsked = false ∧
          { code := Ev.HIF_DISABLED, unit := 0xFFFF, detail := 0, body := [] } ∈ t.raised) ∧
      (s.on R.BUD_JOB_CTL_START = true → s.on R.BUD_JOB_CTL_RUNNING = false →
        Completes (.windowBoundary acts) s fun t =>
          t.rd R.BUD_JOB_CTL_RUNNING = 1 ∧ t.rd R.BUD_JOB_T_START_TIME = t.lkTime % 2 ^ 64 ∧ t.rd R.BUD_JOB_E_IN_UJ = 0 ∧
          t.rd R.BUD_JOB_E_OUT_UJ = 0 ∧ t.rd R.SEN_VERIFIED_EPOCH = 0xFFFFFFFF)))

/-- Writes of the register window by the host and by processors that run, those of one cycle in the order host, SVP, PLP,
TRP, and a processor's reads through its snapshot latch (R7, R10, R11, R33, R375, R402, R405). A processor's access comes
after its stores; `u` is the state in which they have drained. -/
def Obligations.WindowAccessCommands : Prop := ∀ s : State, s.live = true →
  (∀ (who : Init) (u : State), u = s.turn who → (procOfCode who.code).all u.runs = true →
    (∀ off v, u.hit off = none → u.deadTarget (0x10000000 + off) = false →
      Completes (.registerWrite [(who, v)] off false) s fun t => t = u) ∧
    (∀ v, u.locked = false → Completes (.registerWrite [(who, v)] 0x10000 false) s fun t =>
      t.rd R.ADM_CTL_FAST_EN = v % 2 ∧ t.rd R.ADM_CTL_HINT_EN = v / 2 % 2 ∧ t.rd R.ADM_CTL_STRIDE = v / 2 ^ 16 % 2 ^ 10 ∧
      RegsBut (R.ADM_CTL_FAST_EN :: R.ADM_CTL_HINT_EN :: R.ADM_CTL_STRIDE :: armFlags) u t ∧ t.now = u.now ∧
      t.raised = u.raised ∧ ∀ d : Die, t.rd (R.ADM_DIE_STATUS_FAST_ARMED d) = b2n (t.fastArmed d)) ∧
    (∀ v, u.locked = true → Completes (.registerWrite [(who, v)] 0x10000 false) s fun t => Only armFlags u t u) ∧
    (∀ v, Completes (.registerWrite [(who, v)] 0x10004 false) s fun t =>
      t.rd R.ADM_RAMP_STEP = min (v % 2 ^ 10) (u.rd R.ADM_RAMP_CEIL_STEP_CEIL) ∧
      t.rd R.ADM_RAMP_FAST_STEP = min (v / 2 ^ 16 % 2 ^ 10) (u.rd R.ADM_RAMP_CEIL_FAST_CEIL) ∧
      Only (R.ADM_RAMP_STEP :: R.ADM_RAMP_FAST_STEP :: armFlags) u t u) ∧
    (∀ v, who = .trp → Completes (.registerWrite [(.trp, v)] 0x10008 false) s fun t =>
      t.rd R.ADM_RAMP_CEIL_STEP_CEIL = v % 2 ^ 10 ∧ t.rd R.ADM_RAMP_STEP = min (u.rd R.ADM_RAMP_STEP) (v % 2 ^ 10) ∧
      t.rd R.ADM_RAMP_CEIL_FAST_CEIL = v / 2 ^ 16 % 2 ^ 10 ∧
      t.rd R.ADM_RAMP_FAST_STEP = min (u.rd R.ADM_RAMP_FAST_STEP) (v / 2 ^ 16 % 2 ^ 10) ∧
      Only (R.ADM_RAMP_CEIL_STEP_CEIL :: R.ADM_RAMP_CEIL_FAST_CEIL :: R.ADM_RAMP_STEP :: R.ADM_RAMP_FAST_STEP :: armFlags) u t
        u) ∧
    (∀ v, who ≠ .trp → Completes (.registerWrite [(who, v)] 0x10008 false) s fun t => Only armFlags u t u)) ∧
  (∀ (p : Proc) (off v : Nat) (w : Bool) (u : State), u = s.turn p.init → u.runs p = false →
    Completes (.registerWrite [(p.init, v)] off w) s fun t => t = u) ∧
  (∀ (p : Proc) (off v : Nat) (w : Bool) (u : State), u = s.turn p.init → u.runs p = true →
    u.deadTarget (0x10000000 + off) = true → (u.proc p).fail = none →
    Completes (.registerWrite [(p.init, v)] off w) s fun t =>
      (t.proc p).fail = some ⟨0x10000000 + off, 1, 0⟩ ∧ t.now = u.now + 1000 ∧
      RegsBut [R.MGT_P_IRQ_BUSERR p.idx] u t ∧ t.rd (R.MGT_P_IRQ_BUSERR p.idx) = 1) ∧
  (∀ v w x y : Nat, (∀ p : Proc, s.runs p = true ∧ (s.proc p).buf = []) →
    Completes (.registerWrite [(.trp, v), (.plp, w), (.host, x), (.svp, y)] 0x10004 false) s fun t =>
      t.rd R.ADM_RAMP_STEP = min (v % 2 ^ 10) (s.rd R.ADM_RAMP_CEIL_STEP_CEIL) ∧
      t.rd R.ADM_RAMP_FAST_STEP = min (v / 2 ^ 16 % 2 ^ 10) (s.rd R.ADM_RAMP_CEIL_FAST_CEIL) ∧
      ∀ p : Proc, (t.proc p).latch = none) ∧
  (∀ (p : Proc) (u : State), s.runs p = true → u = s.drainAll p → (u.proc p).fail = none →
    (∀ (h : RegHit) (off : Nat), (u.proc p).latch = none → u.hit off = some h → h.wide = true → h.base = off →
      Completes (.snapshotLatchRead p off) s fun t =>
        (t.proc p).latch = some (off + 4, u.word p.init (off + 4)) ∧ t.regs = u.regs ∧
        t.out = u.out ++ [.readData p (u.word p.init off)]) ∧
    (∀ off w, (u.proc p).latch = some (off, w) → Completes (.snapshotLatchRead p off) s fun t =>
      (t.proc p).latch = none ∧ t.regs = u.regs ∧ t.out = u.out ++ [.readData p w]) ∧
    (∀ off, (u.proc p).latch = none → (∀ h, u.hit off = some h → h.wide = false) →
      Completes (.snapshotLatchRead p off) s fun t => t = { u with out := u.out ++ [.readData p (u.word p.init off)] })) ∧
  (∀ (p : Proc) (u : State) (off : Nat) (f : StoreFail), s.runs p = true → u = s.drainAll p → (u.proc p).fail = some f →
    (u.proc p).buf = [] → Completes (.snapshotLatchRead p off) s fun t =>
      (t.proc p).fail = none ∧ (t.proc p).mcause = 7 ∧ (t.proc p).mtval = f.addr ∧ (t.proc p).busAddr = f.addr ∧
      t.out = u.out ∧ RegsBut [R.MGT_P_IRQ_BUSERR p.idx] u t ∧
      t.raised = u.raised ++ [{ code := Ev.MGT_BUSERR, unit := p.init.code, detail := f.addr, body := [] }]) ∧
  (∀ (p : Proc) (off : Nat), s.runs p = false → Completes (.snapshotLatchRead p off) s fun t => t = s)

/-- The decision of a window (R38, R42, R85, R88, R353): it is taken once, at its deadline; no rail of a compute die is
given more than its LIMIT; and every satellite of a compute die whose Seam is up is sent one command for the next boundary,
with no pool for a block that will not be enabled. -/
def Obligations.WindowDecisionCommand : Prop := ∀ s : State, s.live = true →
  (s.frozen = false → s.windowIdx ≠ 0 → s.gov.decided ≠ some s.window →
    Completes .windowDecision s fun t =>
      t.gov.decided = some s.window ∧ t.now = max s.now (2048 * s.window + 256 + s.frozenTime) ∧
      t.windowIdx = s.windowIdx ∧ t.strokeIdx = s.strokeIdx ∧
      (∀ d : Die, t.rail[d.loop].limNext.isSome = true ∧
        t.rail[d.loop].limNext.getD 0 ≤ s.rd (R.BUD_RAIL_LIM_LIMIT d.loop)) ∧
      (∀ d : Die, s.seamUp d.sat = true →
        (t.out.drop s.out.length).any (fun o => match o with
          | .seam x ⟨some e, .window c⟩ =>
            x == d.sat && e == 2048 * (s.window + 1) && c.pool == t.govDie[d].pool && (s.enabledNext || c.pool == 0)
          | _ => false) = true) ∧
      s.out <+: t.out ∧ t.adm = s.adm ∧ t.clkDie = s.clkDie) ∧
  (s.frozen = true ∨ s.windowIdx = 0 ∨ s.gov.decided = some s.window → Completes .windowDecision s fun t => t = s)

/-- A step takes the command at the front of the queue and answers what that command does with the queue's rest; an empty
queue leaves the block as it is; and every command answers a next state, so that no step faults or refuses. -/
def Obligations.StepRunsFrontCommand : Prop := 
  (∀ (s : State) (c : Instr) (l : List Instr), s.pending = c :: l → step s = exec c { s with pending := l }) ∧
  (∀ s : State, s.pending = [] → step s = .next s) ∧
  (∀ (c : Instr) (s : State), ∃ t, exec c s = .next t)

/-- The block after power-on (R6, R40, R127, R410, R505): nothing waits, the clock generator holds it, every register holds
its reset value, the window is canonical, every limit is within its ceiling, and the life cycle is BLANK. The values of
fields for which the spec gives no reset value are the model's choice (log entry 6). -/
def Obligations.ResetState : Prop := 
  State.reset.pending = [] ∧ State.reset.phase = .held ∧ State.reset.frozen = false ∧ State.reset.canonical = true ∧
  (∀ f : Fld, State.reset.rd f = f.rst % 2 ^ f.w) ∧ (∀ d : Die, State.reset.ratio d = 6) ∧
  (∀ d : Die, State.reset.rd (R.ADM_DIE_STATUS_POOL d) = 0) ∧ State.reset.lcState = 0 ∧ State.reset.fuses = 0 ∧
  (∀ l : Loop, State.reset.mode l = 0) ∧ (∀ q : Queue, State.reset.qState q = 0) ∧
  (∀ p ∈ State.ceilings, State.reset.rd p.1 ≤ State.reset.rd p.2)

/-- The register window keeps its canonical form: whatever command is in front, a step from a state whose window lists its
entries by strictly rising key answers such a state. -/
def Obligations.StepKeepsWindowCanonical : Prop := ∀ s t : State, s.canonical = true → step s = .next t → t.canonical = true

/-- No limit ever stands above its ceiling (R11, R88): a step from a state in which every limit is at or below its ceiling
answers such a state, whichever command writes it and whoever the initiator is. -/
def Obligations.StepKeepsLimitsUnderCeilings : Prop := ∀ s t : State,
  (∀ p ∈ State.ceilings, s.rd p.1 ≤ s.rd p.2) → step s = .next t → ∀ p ∈ State.ceilings, t.rd p.1 ≤ t.rd p.2

/-- What no command undoes (R410, R468, R482): a blown fuse stays blown; a sealed meter stays sealed with its calibration
and its certificate; and the energy register falls only where the meter starts again from a save. -/
def Obligations.StepKeepsFusesAndSeal : Prop := ∀ s t : State, step s = .next t →
  (∀ k, bit s.fuses k = true → bit t.fuses k = true) ∧
  (s.mtr.sealed = true → t.mtr.sealed = true ∧ t.mtr.cal = s.mtr.cal ∧ t.mtr.cert = s.mtr.cert) ∧
  ((∀ b h, s.pending.head? ≠ some (.meterPowerUp b h)) → s.mtr.energy ≤ t.mtr.energy)

/-- Time and messages (R29): once the root PLL has locked, no command but the loss of standby power takes the instant back;
no command takes back a message that has left the block; and none but the step itself touches the queue. -/
def Obligations.TimeNeverGoesBack : Prop := ∀ (c : Instr) (s t : State), exec c s = .next t →
  (s.phase ≠ .held → c ≠ .standbyPowerLoss → s.now ≤ t.now) ∧ s.out <+: t.out ∧ t.pending = s.pending

/-- The scan of R59 with the refusals of R55 and the sites under HOLD of R75: what is granted is the cost of the sites
chosen and stays within the allowance; each of them costs something, no more than the pool, and is not held; D is the cost
of every request that is not refused, a held site's too; where D is within the allowance just the sites not held are chosen;
with no site held the stroke is met exactly when every one of those requests was chosen; and just the requests of cost 0
(code 1) and those above the pool (code 2) are refused. -/
def Obligations.ScanRules : Prop := ∀ (a p : Nat) (held : List Site) (l : List Asked),
  (scanSites a p held l).g ≤ a ∧ State.tokens (scanSites a p held l).chosen = (scanSites a p held l).g ∧
  (∀ g ∈ (scanSites a p held l).chosen, 0 < g.cost ∧ g.cost ≤ p ∧ g.site ∉ held ∧ ∃ r ∈ l, r.site = g.site ∧ r.cost = g.cost) ∧
  (scanSites a p held l).d = ((l.filter fun r => decide (0 < r.cost) && decide (r.cost ≤ p)).map (·.cost)).sum ∧
  ((scanSites a p held l).d ≤ a → (scanSites a p held l).chosen =
    (l.filter fun r => decide (0 < r.cost) && decide (r.cost ≤ p) && !held.contains r.site).map fun r => ⟨r.site, r.cost⟩) ∧
  ((∀ r ∈ l, r.site ∉ held) → (scanSites a p held l).chosen =
    ((l.filter fun r => decide (0 < r.cost) && decide (r.cost ≤ p)).map fun r => ⟨r.site, r.cost⟩) →
    (scanSites a p held l).d ≤ a) ∧
  (scanSites a p held l).refused = (l.filter fun r => r.cost == 0 || decide (p < r.cost)).map fun r =>
    (r.site, if r.cost = 0 then 1 else 2)

/-- The held set of R75: grants are taken off in the reverse of their order just until at most the level is granted. What is
kept is the longest beginning of the list within the level. -/
def Obligations.HeldSetRules : Prop := ∀ (lvl : Nat) (l : List Grant), (∀ g ∈ l, 0 < g.cost) →
  ∃ n, State.keepUpTo lvl l = l.take n ∧ n ≤ l.length ∧ State.tokens (l.take n) ≤ lvl ∧
    ∀ m, m ≤ l.length → State.tokens (l.take m) ≤ lvl → m ≤ n

/-- The shares of the dies (R64): a die without a reservation has at most RAMP.STEP and an eighth of PKG_SLOPE.STEP, a die
with one at most FAST_STEP, and the eight shares together never exceed PKG_SLOPE.STEP. -/
def Obligations.SharesWithinSlope : Prop := ∀ s : State,
  (dies.map s.shareOf).sum ≤ s.rd R.ADM_PKG_SLOPE_STEP ∧
  (∀ d : Die, s.reserves d = false → s.shareOf d ≤ min (s.rd R.ADM_RAMP_STEP) (s.rd R.ADM_PKG_SLOPE_STEP / 8)) ∧
  (∀ d : Die, s.reserves d = true → s.shareOf d ≤ s.rd R.ADM_RAMP_FAST_STEP)

/-- The words the block sends over its links are read back as what they say (R189, R190, R313): a frame of a voltage command
link and a cascade frame, with every field at every value its width admits, pass the receiver's checks and give their
fields. -/
def Obligations.LinkWordsReadBack : Prop := 
  (∀ type seq loop a b : Nat, type < 16 → seq < 16 → loop < 16 → a < 2 ^ 16 → b < 2 ^ 16 →
    let f := VclFrame.make type seq loop a b
    f.good = VclFrame.known type ∧ f.ver = 1 ∧ f.type = type ∧ f.seq = seq ∧ f.loop = loop ∧ f.w1 = a ∧ f.w2 = b) ∧
  (∀ (type dir hops src dst term lseq stamp : Nat) (p : List Nat), type < 256 → dir < 4 → hops < 16 → src < 2 ^ 14 →
    dst < 2 ^ 14 → term < 2 ^ 32 → lseq < 2 ^ 32 → stamp < 2 ^ 64 → p.length = 7 → (∀ x ∈ p, x < 2 ^ 32) →
    let f := CasFrame.make type dir hops src dst term lseq stamp p
    f.good = CasFrame.known type ∧ f.ver = 1 ∧ f.type = type ∧ f.dir = dir ∧ f.hops = hops ∧ f.src = src ∧ f.dst = dst ∧
    f.term = term ∧ f.lseq = lseq ∧ f.stamp = stamp ∧ f.payload = p)

/-- A full staging RAM (R426): an ordinary record is dropped, a non-maskable one displaces the newest ordinary record not
yet programmed, each record dropped is counted, and once space is free a REC_STAGE_LOST record with their number is raised.
The counter stands in a frozen package (R45). -/
def Obligations.FullStagingRam : Prop := ∀ (s : State) (r : FlashRec),
  (s.rcd.staged.length = 256 → s.frozen = false → r.nmi = false →
    (s.stage r).rcd.staged = s.rcd.staged ∧ (s.stage r).rcd.dropped = s.rcd.dropped + 1 ∧
    (s.stage r).rd R.REC_CNT_LOST_COUNT = (s.rd R.REC_CNT_LOST_COUNT + 1) % 2 ^ 64) ∧
  (∀ (a b : List FlashRec) (x : FlashRec), s.rcd.staged = a ++ x :: b → s.rcd.staged.length = 256 → s.frozen = false →
    r.nmi = true → x.nmi = false → (∀ y ∈ b, y.nmi = true) →
    (s.stage r).rcd.staged = a ++ b ++ [r] ∧ (s.stage r).rcd.dropped = s.rcd.dropped + 1 ∧
    (s.stage r).rd R.REC_CNT_LOST_COUNT = (s.rd R.REC_CNT_LOST_COUNT + 1) % 2 ^ 64) ∧
  (s.rcd.staged.length < 256 → (s.stage r).rcd.staged = s.rcd.staged ++ [r] ∧ (s.stage r).rcd.dropped = s.rcd.dropped) ∧
  (s.live = true → s.rcd.dropped ≠ 0 → s.rcd.staged.length < 256 →
    Completes .stageLostRecord s fun t => t.rcd.dropped = 0 ∧
      t.raised = s.raised ++ [{ code := Ev.REC_STAGE_LOST, unit := 0xFFFF, detail := s.rcd.dropped, body := [] }])

/-- The effective cost of a request (R50): the base cost scaled by the die's operating point and the sentinel's margin
steps, rounded up; a base cost of 0 stays 0 and is not admitted; with the default scales, voltages and the costs of base 8.
Where the ratio changes within the stroke, no ratio it has in effect gives a higher cost (R51). -/
def Obligations.EffectiveCost : Prop := 
  (∀ (s : State) (d : Die) (reqs : List Req) (r : Asked), r ∈ s.sampleSites d reqs →
    ((∀ k ∈ s.costRatios d, k = s.ratio d) → s.costRatios d ≠ [] →
      r.cost = (r.base * (s.scale (s.ratio d) + s.clkDie[d].mCost) + 15) / 16) ∧
    (∀ k ∈ s.costRatios d, (r.base * (s.scale k + s.clkDie[d].mCost) + 15) / 16 ≤ r.cost) ∧
    (r.base = 0 → ∀ a p held x, scanOne a p held x r = { x with refused := x.refused ++ [(r.site, 1)] }) ∧
    ∃ q ∈ reqs, q.die = d ∧ q.site = r.site ∧ r.base = s.baseCost d q) ∧
  (List.range 7).map State.reset.scale = [23, 16, 13, 9, 7, 5, 4] ∧
  (List.range 7).map State.reset.opv = [850, 750, 700, 620, 580, 550, 550] ∧
  (List.range 7).map (fun k => cdiv (8 * State.reset.scale k) 16) = [12, 8, 7, 5, 4, 3, 2]

/-- The start index of the scan (R61): it moves on by STRIDE at every stroke boundary of every die that keeps step, whatever
is granted; where STRIDE is coprime with 576 it comes to every site just once in 576 strokes; and STRIDE is 37 at reset. -/
def Obligations.StartIndexVisitsEverySite : Prop := 
  (∀ (s : State) (reqs : List Req) (means : List (List (List Int))), s.live = true → s.frozen = false →
    Completes (.strokeBoundary reqs means) s fun t => ∀ d : Die, s.stuck d.sat = false →
      t.rd (R.ADM_DIE_RAMP_START d) = (s.rd (R.ADM_DIE_RAMP_START d) + s.rd R.ADM_CTL_STRIDE) % 576) ∧
  (∀ stride start x : Nat, Nat.gcd stride 576 = 1 → x < 576 →
    ∃ n, n < 576 ∧ (start + n * stride) % 576 = x ∧ ∀ m, m < 576 → (start + m * stride) % 576 = x → m = n) ∧
  State.reset.rd R.ADM_CTL_STRIDE = 37 ∧ Nat.gcd 37 576 = 1

/-- The cost table after reset (R53), class by class, for dense, 2:4 and block-sparse requests, in both banks of every die.
-/
def Obligations.CostTableAtReset : Prop := ∀ d : Die,
  (∀ c, c < 2 → (List.range 6).map (fun f => State.reset.rd (R.ADM_ACTIVE_COST_E0 d (8 * c + f))) = [7, 7, 8, 8, 6, 7] ∧
    (List.range 6).map (fun f => State.reset.rd (R.ADM_ACTIVE_COST_E1 d (8 * c + f))) = [5, 5, 6, 6, 4, 5] ∧
    (List.range 6).map (fun f => State.reset.rd (R.ADM_ACTIVE_COST_E2 d (8 * c + f))) = [4, 4, 5, 5, 3, 4]) ∧
  (∀ c, 2 ≤ c → c < 7 → ∀ f, f < 6 →
    let v := nth [3, 3, 2, 4, 8] (c - 2)
    State.reset.rd (R.ADM_ACTIVE_COST_E0 d (8 * c + f)) = v ∧ State.reset.rd (R.ADM_ACTIVE_COST_E1 d (8 * c + f)) = v ∧
    State.reset.rd (R.ADM_ACTIVE_COST_E2 d (8 * c + f)) = v) ∧
  (∀ k, k < 128 → State.reset.rd (R.ADM_ACTIVE_COST_E3 d k) = 0 ∧
    State.reset.rd (R.ADM_SHADOW_COST_E0 d k) = State.reset.rd (R.ADM_ACTIVE_COST_E0 d k) ∧
    State.reset.rd (R.ADM_SHADOW_COST_E1 d k) = State.reset.rd (R.ADM_ACTIVE_COST_E1 d k) ∧
    State.reset.rd (R.ADM_SHADOW_COST_E2 d k) = State.reset.rd (R.ADM_ACTIVE_COST_E2 d k)) ∧
  State.reset.word .host (0x12000 + 0x200 * d.val) = 0x00040507

/-- An offset that no map assigns (R10): whoever reads it reads zero, and a write of it is ignored, while the block is not
in a block reset. A processor's access still takes its snapshot latch back (R405). -/
def Obligations.UnassignedOffset : Prop := ∀ (s : State) (off : Nat), s.hit off = none →
  (∀ who, s.word who off = 0) ∧
  (s.live = true → (∀ v, Completes (.registerWrite [(.host, v)] off false) s fun t => t = s) ∧
    ∀ p : Proc, s.runs p = true → (s.proc p).buf = [] → s.deadTarget (0x10000000 + off) = false →
      (∀ v, Completes (.registerWrite [(p.init, v)] off false) s fun t => t = s.unlatch p.init) ∧
      ((s.proc p).latch = none → (s.proc p).fail = none →
        Completes (.snapshotLatchRead p off) s fun t => t = { s with out := s.out ++ [.readData p 0] }))

/-- Counters in a freeze (R45, R437): a counter of a root island stands while the package is frozen and counts modulo its
width while it is not, and leaves every other field of the window as it was. -/
def Obligations.CountersStandInFreeze : Prop := ∀ (s : State) (f : Fld) (n : Nat),
  (s.frozen = true → s.count f n = s ∧ s.countSat f n = s) ∧
  (s.frozen = false → (s.count f n).rd f = (s.rd f + n) % 2 ^ f.w ∧ (s.countSat f n).rd f = min (2 ^ f.w - 1) (s.rd f + n)) ∧
  RegsBut [f] s (s.count f n) ∧ RegsBut [f] s (s.countSat f n)
end

