-- ==== Sys2Proof/Laws/Tab.lean ====
section
/-!
SUPPORT. Laws/Tab.lean: reading a table and the register window after a write, and the canonical form of tables.
-/
namespace Sys2Proof.Machine

variable {α : Type}

@[simp] theorem Tab.find_del_same (t : Tab α) (q : Nat) : Tab.find (Tab.del t q) q = none := by
  induction t with
  | nil => rfl
  | cons p t ih => obtain ⟨k, v⟩ := p; by_cases h : k = q <;> simp [Tab.del, Tab.find, h, ih]

theorem Tab.find_del_ne (t : Tab α) {q r : Nat} (hr : q ≠ r) : Tab.find (Tab.del t q) r = Tab.find t r := by
  induction t with
  | nil => rfl
  | cons p t ih =>
    obtain ⟨k, v⟩ := p
    by_cases h : k = q
    · have hk : k ≠ r := fun e => hr (h.symm.trans e)
      simp [Tab.del, Tab.find, h, ih, hr]
    · rw [Tab.del, if_neg h, Tab.find, Tab.find, ih]

@[simp] theorem Tab.find_put_same (t : Tab α) (q : Nat) (x : α) : Tab.find (Tab.put t q x) q = some x := by
  induction t with
  | nil => simp [Tab.put, Tab.find]
  | cons p t ih =>
    obtain ⟨k, v⟩ := p
    simp only [Tab.put]
    split
    · simp [Tab.find]
    · split
      · simp [Tab.find]
      · rename_i h; simp [Tab.find, Ne.symm h, ih]

theorem Tab.find_put_ne (t : Tab α) {q r : Nat} (hr : q ≠ r) (x : α) : Tab.find (Tab.put t q x) r = Tab.find t r := by
  induction t with
  | nil => simp [Tab.put, Tab.find, hr]
  | cons p t ih =>
    obtain ⟨k, v⟩ := p
    simp only [Tab.put]
    split
    · simp [Tab.find, hr]
    · split
      · rename_i h; subst h; simp [Tab.find, hr]
      · simp [Tab.find, ih]

/-- A lower bound of every key of a table. -/
def Tab.above (b : Nat) : Tab α → Prop
  | [] => True
  | (k, _) :: t => b < k ∧ Tab.above b t

theorem Tab.above_mono {b c : Nat} (h : c ≤ b) : ∀ {t : Tab α}, Tab.above b t → Tab.above c t
  | [], _ => trivial
  | (_, _) :: _, ⟨h1, h2⟩ => ⟨Nat.lt_of_le_of_lt h h1, Tab.above_mono h h2⟩

theorem Tab.wf_cons {k : Nat} {v : α} {t : Tab α} :
    Tab.wf ((k, v) :: t) = true ↔ Tab.above k t ∧ Tab.wf t = true := by
  induction t generalizing k v with
  | nil => simp [Tab.wf, Tab.above]
  | cons p t ih =>
    obtain ⟨j, w⟩ := p
    simp only [Tab.wf, Bool.and_eq_true, decide_eq_true_eq, Tab.above]
    constructor
    · rintro ⟨h1, h2⟩
      exact ⟨⟨h1, Tab.above_mono (Nat.le_of_lt h1) (ih.mp h2).1⟩, h2⟩
    · rintro ⟨⟨h1, _⟩, h2⟩
      exact ⟨h1, h2⟩

theorem Tab.above_del {b q : Nat} : ∀ {t : Tab α}, Tab.above b t → Tab.above b (Tab.del t q)
  | [], _ => trivial
  | (k, v) :: t, ⟨h1, h2⟩ => by
    simp only [Tab.del]; split
    · exact Tab.above_del h2
    · exact ⟨h1, Tab.above_del h2⟩

theorem Tab.above_put {b q : Nat} {x : α} (hq : b < q) : ∀ {t : Tab α}, Tab.above b t → Tab.above b (Tab.put t q x)
  | [], _ => ⟨hq, trivial⟩
  | (k, v) :: t, ⟨h1, h2⟩ => by
    simp only [Tab.put]; split
    · exact ⟨hq, h1, h2⟩
    · split
      · exact ⟨hq, h2⟩
      · exact ⟨h1, Tab.above_put hq h2⟩

/-- Deleting an entry keeps the canonical form. -/
theorem Tab.wf_del {q : Nat} : ∀ {t : Tab α}, Tab.wf t = true → Tab.wf (Tab.del t q) = true
  | [], _ => rfl
  | (k, v) :: t, h => by
    have ⟨h1, h2⟩ := Tab.wf_cons.mp h
    simp only [Tab.del]; split
    · exact Tab.wf_del h2
    · exact Tab.wf_cons.mpr ⟨Tab.above_del h1, Tab.wf_del h2⟩

/-- Placing an entry keeps the canonical form. -/
theorem Tab.wf_put {q : Nat} {x : α} : ∀ {t : Tab α}, Tab.wf t = true → Tab.wf (Tab.put t q x) = true
  | [], _ => rfl
  | (k, v) :: t, h => by
    have ⟨h1, h2⟩ := Tab.wf_cons.mp h
    simp only [Tab.put]; split
    · rename_i hq
      exact Tab.wf_cons.mpr ⟨⟨hq, Tab.above_mono (Nat.le_of_lt hq) h1⟩, h⟩
    · split
      · rename_i hq; subst hq; exact Tab.wf_cons.mpr ⟨h1, h2⟩
      · rename_i h3 h4
        exact Tab.wf_cons.mpr ⟨Tab.above_put (by omega) h1, Tab.wf_put h2⟩

theorem Tab.above_filter {b : Nat} {p : Nat × α → Bool} : ∀ {t : Tab α}, Tab.above b t → Tab.above b (t.filter p)
  | [], _ => trivial
  | (k, v) :: t, ⟨h1, h2⟩ => by
    simp only [List.filter]; split
    · exact ⟨h1, Tab.above_filter h2⟩
    · exact Tab.above_filter h2

/-- Dropping entries keeps the canonical form. -/
theorem Tab.wf_filter {p : Nat × α → Bool} : ∀ {t : Tab α}, Tab.wf t = true → Tab.wf (t.filter p) = true
  | [], _ => rfl
  | (k, v) :: t, h => by
    have ⟨h1, h2⟩ := Tab.wf_cons.mp h
    simp only [List.filter]; split
    · exact Tab.wf_cons.mpr ⟨Tab.above_filter h1, Tab.wf_filter h2⟩
    · exact Tab.wf_filter h2

/-! The register window. -/

/-- A field reads as what was last written to it, cut to its width. -/
@[simp] theorem Regs.get_set_same (r : Regs) (f : Fld) (v : Nat) : (r.set f v).get f = v % 2 ^ f.w := by
  simp only [Regs.set, Regs.get]
  split
  · rename_i h; simp [← h]
  · simp

/-- A field never reads more than its width holds. -/
theorem Regs.get_lt (r : Regs) (f : Fld) : r.get f < 2 ^ f.w := Nat.mod_lt _ (Nat.two_pow_pos _)
@[simp] theorem Regs.get_mod (r : Regs) (f : Fld) : r.get f % 2 ^ f.w = r.get f := Nat.mod_eq_of_lt (r.get_lt f)

/-- A write of a field leaves every other field alone. -/
theorem Regs.get_set_ne (r : Regs) {f g : Fld} (h : f.key ≠ g.key) (v : Nat) : (r.set f v).get g = r.get g := by
  simp only [Regs.set, Regs.get]
  split
  · rw [Tab.find_del_ne _ h]
  · rw [Tab.find_put_ne _ h]

/-- A write keeps the window's canonical form. -/
theorem Regs.wf_set {r : Regs} (f : Fld) (v : Nat) (h : Tab.wf r = true) : Tab.wf (r.set f v) = true := by
  simp only [Regs.set]
  split
  · exact Tab.wf_del h
  · exact Tab.wf_put h

end Sys2Proof.Machine
end

