-- ==== Sys2Proof/Laws/State.lean ====
section
/-!
SUPPORT. Laws/State.lean: one lemma per field of the state per update: what an update leaves as it was, and what the one
field it changes becomes. They are true by computation, so no proof need unfold an update.
-/
namespace Sys2Proof.Machine.State

@[simp] theorem wr_pending (s : State) (f : Fld) (v : Nat) : (s.wr f v).pending = s.pending := rfl
@[simp] theorem wr_now (s : State) (f : Fld) (v : Nat) : (s.wr f v).now = s.now := rfl
@[simp] theorem wr_strokeIdx (s : State) (f : Fld) (v : Nat) : (s.wr f v).strokeIdx = s.strokeIdx := rfl
@[simp] theorem wr_windowIdx (s : State) (f : Fld) (v : Nat) : (s.wr f v).windowIdx = s.windowIdx := rfl
@[simp] theorem wr_alignIdx (s : State) (f : Fld) (v : Nat) : (s.wr f v).alignIdx = s.alignIdx := rfl
@[simp] theorem wr_phase (s : State) (f : Fld) (v : Nat) : (s.wr f v).phase = s.phase := rfl
@[simp] theorem wr_frozen (s : State) (f : Fld) (v : Nat) : (s.wr f v).frozen = s.frozen := rfl
@[simp] theorem wr_resetReq (s : State) (f : Fld) (v : Nat) : (s.wr f v).resetReq = s.resetReq := rfl
@[simp] theorem wr_raised (s : State) (f : Fld) (v : Nat) : (s.wr f v).raised = s.raised := rfl
@[simp] theorem wr_out (s : State) (f : Fld) (v : Nat) : (s.wr f v).out = s.out := rfl
@[simp] theorem wr_freeCtr (s : State) (f : Fld) (v : Nat) : (s.wr f v).freeCtr = s.freeCtr := rfl
@[simp] theorem wr_adm (s : State) (f : Fld) (v : Nat) : (s.wr f v).adm = s.adm := rfl
@[simp] theorem wr_inbox (s : State) (f : Fld) (v : Nat) : (s.wr f v).inbox = s.inbox := rfl
@[simp] theorem wr_bus (s : State) (f : Fld) (v : Nat) : (s.wr f v).bus = s.bus := rfl
@[simp] theorem wr_gov (s : State) (f : Fld) (v : Nat) : (s.wr f v).gov = s.gov := rfl
@[simp] theorem wr_govDie (s : State) (f : Fld) (v : Nat) : (s.wr f v).govDie = s.govDie := rfl
@[simp] theorem wr_rail (s : State) (f : Fld) (v : Nat) : (s.wr f v).rail = s.rail := rfl
@[simp] theorem wr_rptIo (s : State) (f : Fld) (v : Nat) : (s.wr f v).rptIo = s.rptIo := rfl
@[simp] theorem wr_lastIo (s : State) (f : Fld) (v : Nat) : (s.wr f v).lastIo = s.lastIo := rfl
@[simp] theorem wr_clk (s : State) (f : Fld) (v : Nat) : (s.wr f v).clk = s.clk := rfl
@[simp] theorem wr_clkDie (s : State) (f : Fld) (v : Nat) : (s.wr f v).clkDie = s.clkDie := rfl
@[simp] theorem wr_hold (s : State) (f : Fld) (v : Nat) : (s.wr f v).hold = s.hold := rfl
@[simp] theorem wr_rgc (s : State) (f : Fld) (v : Nat) : (s.wr f v).rgc = s.rgc := rfl
@[simp] theorem wr_loop (s : State) (f : Fld) (v : Nat) : (s.wr f v).loop = s.loop := rfl
@[simp] theorem wr_vsetTx (s : State) (f : Fld) (v : Nat) : (s.wr f v).vsetTx = s.vsetTx := rfl
@[simp] theorem wr_satSeq (s : State) (f : Fld) (v : Nat) : (s.wr f v).satSeq = s.satSeq := rfl
@[simp] theorem wr_vcl (s : State) (f : Fld) (v : Nat) : (s.wr f v).vcl = s.vcl := rfl
@[simp] theorem wr_once (s : State) (f : Fld) (v : Nat) : (s.wr f v).once = s.once := rfl
@[simp] theorem wr_thm (s : State) (f : Fld) (v : Nat) : (s.wr f v).thm = s.thm := rfl
@[simp] theorem wr_thmDie (s : State) (f : Fld) (v : Nat) : (s.wr f v).thmDie = s.thmDie := rfl
@[simp] theorem wr_trip (s : State) (f : Fld) (v : Nat) : (s.wr f v).trip = s.trip := rfl
@[simp] theorem wr_sen (s : State) (f : Fld) (v : Nat) : (s.wr f v).sen = s.sen := rfl
@[simp] theorem wr_libStored (s : State) (f : Fld) (v : Nat) : (s.wr f v).libStored = s.libStored := rfl
@[simp] theorem wr_lk (s : State) (f : Fld) (v : Nat) : (s.wr f v).lk = s.lk := rfl
@[simp] theorem wr_cas (s : State) (f : Fld) (v : Nat) : (s.wr f v).cas = s.cas := rfl
@[simp] theorem wr_frozenNs (s : State) (f : Fld) (v : Nat) : (s.wr f v).frozenNs = s.frozenNs := rfl
@[simp] theorem wr_frozeAt (s : State) (f : Fld) (v : Nat) : (s.wr f v).frozeAt = s.frozeAt := rfl
@[simp] theorem wr_queue (s : State) (f : Fld) (v : Nat) : (s.wr f v).queue = s.queue := rfl
@[simp] theorem wr_lastStart (s : State) (f : Fld) (v : Nat) : (s.wr f v).lastStart = s.lastStart := rfl
@[simp] theorem wr_nextPoll (s : State) (f : Fld) (v : Nat) : (s.wr f v).nextPoll = s.nextPoll := rfl
@[simp] theorem wr_mgt (s : State) (f : Fld) (v : Nat) : (s.wr f v).mgt = s.mgt := rfl
@[simp] theorem wr_fuses (s : State) (f : Fld) (v : Nat) : (s.wr f v).fuses = s.fuses := rfl
@[simp] theorem wr_siteFuse (s : State) (f : Fld) (v : Nat) : (s.wr f v).siteFuse = s.siteFuse := rfl
@[simp] theorem wr_tripTrim (s : State) (f : Fld) (v : Nat) : (s.wr f v).tripTrim = s.tripTrim := rfl
@[simp] theorem wr_rings (s : State) (f : Fld) (v : Nat) : (s.wr f v).rings = s.rings := rfl
@[simp] theorem wr_trcFifo (s : State) (f : Fld) (v : Nat) : (s.wr f v).trcFifo = s.trcFifo := rfl
@[simp] theorem wr_trcDrop (s : State) (f : Fld) (v : Nat) : (s.wr f v).trcDrop = s.trcDrop := rfl
@[simp] theorem wr_rcd (s : State) (f : Fld) (v : Nat) : (s.wr f v).rcd = s.rcd := rfl
@[simp] theorem wr_upd (s : State) (f : Fld) (v : Nat) : (s.wr f v).upd = s.upd := rfl
@[simp] theorem wr_flash (s : State) (f : Fld) (v : Nat) : (s.wr f v).flash = s.flash := rfl
@[simp] theorem wr_mtr (s : State) (f : Fld) (v : Nat) : (s.wr f v).mtr = s.mtr := rfl
@[simp] theorem wr_chain (s : State) (f : Fld) (v : Nat) : (s.wr f v).chain = s.chain := rfl
@[simp] theorem wr_seam (s : State) (f : Fld) (v : Nat) : (s.wr f v).seam = s.seam := rfl
@[simp] theorem wr_regs (s : State) (f : Fld) (v : Nat) : (s.wr f v).regs = s.regs.set f v := rfl
@[simp] theorem wr_live (s : State) (f : Fld) (v : Nat) : (s.wr f v).live = s.live := rfl
@[simp] theorem wr_rgcOn (s : State) (f : Fld) (v : Nat) : (s.wr f v).rgcOn = s.rgcOn := rfl
@[simp] theorem wr_frozenTime (s : State) (f : Fld) (v : Nat) : (s.wr f v).frozenTime = s.frozenTime := rfl
@[simp] theorem wr_cyc (s : State) (f : Fld) (v : Nat) : (s.wr f v).cyc = s.cyc := rfl
@[simp] theorem wr_window (s : State) (f : Fld) (v : Nat) : (s.wr f v).window = s.window := rfl

@[simp] theorem flag_pending (s : State) (f : Fld) (b : Bool) : (s.flag f b).pending = s.pending := rfl
@[simp] theorem flag_now (s : State) (f : Fld) (b : Bool) : (s.flag f b).now = s.now := rfl
@[simp] theorem flag_strokeIdx (s : State) (f : Fld) (b : Bool) : (s.flag f b).strokeIdx = s.strokeIdx := rfl
@[simp] theorem flag_windowIdx (s : State) (f : Fld) (b : Bool) : (s.flag f b).windowIdx = s.windowIdx := rfl
@[simp] theorem flag_alignIdx (s : State) (f : Fld) (b : Bool) : (s.flag f b).alignIdx = s.alignIdx := rfl
@[simp] theorem flag_phase (s : State) (f : Fld) (b : Bool) : (s.flag f b).phase = s.phase := rfl
@[simp] theorem flag_frozen (s : State) (f : Fld) (b : Bool) : (s.flag f b).frozen = s.frozen := rfl
@[simp] theorem flag_resetReq (s : State) (f : Fld) (b : Bool) : (s.flag f b).resetReq = s.resetReq := rfl
@[simp] theorem flag_raised (s : State) (f : Fld) (b : Bool) : (s.flag f b).raised = s.raised := rfl
@[simp] theorem flag_out (s : State) (f : Fld) (b : Bool) : (s.flag f b).out = s.out := rfl
@[simp] theorem flag_freeCtr (s : State) (f : Fld) (b : Bool) : (s.flag f b).freeCtr = s.freeCtr := rfl
@[simp] theorem flag_adm (s : State) (f : Fld) (b : Bool) : (s.flag f b).adm = s.adm := rfl
@[simp] theorem flag_inbox (s : State) (f : Fld) (b : Bool) : (s.flag f b).inbox = s.inbox := rfl
@[simp] theorem flag_bus (s : State) (f : Fld) (b : Bool) : (s.flag f b).bus = s.bus := rfl
@[simp] theorem flag_gov (s : State) (f : Fld) (b : Bool) : (s.flag f b).gov = s.gov := rfl
@[simp] theorem flag_govDie (s : State) (f : Fld) (b : Bool) : (s.flag f b).govDie = s.govDie := rfl
@[simp] theorem flag_rail (s : State) (f : Fld) (b : Bool) : (s.flag f b).rail = s.rail := rfl
@[simp] theorem flag_rptIo (s : State) (f : Fld) (b : Bool) : (s.flag f b).rptIo = s.rptIo := rfl
@[simp] theorem flag_lastIo (s : State) (f : Fld) (b : Bool) : (s.flag f b).lastIo = s.lastIo := rfl
@[simp] theorem flag_clk (s : State) (f : Fld) (b : Bool) : (s.flag f b).clk = s.clk := rfl
@[simp] theorem flag_clkDie (s : State) (f : Fld) (b : Bool) : (s.flag f b).clkDie = s.clkDie := rfl
@[simp] theorem flag_hold (s : State) (f : Fld) (b : Bool) : (s.flag f b).hold = s.hold := rfl
@[simp] theorem flag_rgc (s : State) (f : Fld) (b : Bool) : (s.flag f b).rgc = s.rgc := rfl
@[simp] theorem flag_loop (s : State) (f : Fld) (b : Bool) : (s.flag f b).loop = s.loop := rfl
@[simp] theorem flag_vsetTx (s : State) (f : Fld) (b : Bool) : (s.flag f b).vsetTx = s.vsetTx := rfl
@[simp] theorem flag_satSeq (s : State) (f : Fld) (b : Bool) : (s.flag f b).satSeq = s.satSeq := rfl
@[simp] theorem flag_vcl (s : State) (f : Fld) (b : Bool) : (s.flag f b).vcl = s.vcl := rfl
@[simp] theorem flag_once (s : State) (f : Fld) (b : Bool) : (s.flag f b).once = s.once := rfl
@[simp] theorem flag_thm (s : State) (f : Fld) (b : Bool) : (s.flag f b).thm = s.thm := rfl
@[simp] theorem flag_thmDie (s : State) (f : Fld) (b : Bool) : (s.flag f b).thmDie = s.thmDie := rfl
@[simp] theorem flag_trip (s : State) (f : Fld) (b : Bool) : (s.flag f b).trip = s.trip := rfl
@[simp] theorem flag_sen (s : State) (f : Fld) (b : Bool) : (s.flag f b).sen = s.sen := rfl
@[simp] theorem flag_libStored (s : State) (f : Fld) (b : Bool) : (s.flag f b).libStored = s.libStored := rfl
@[simp] theorem flag_lk (s : State) (f : Fld) (b : Bool) : (s.flag f b).lk = s.lk := rfl
@[simp] theorem flag_cas (s : State) (f : Fld) (b : Bool) : (s.flag f b).cas = s.cas := rfl
@[simp] theorem flag_frozenNs (s : State) (f : Fld) (b : Bool) : (s.flag f b).frozenNs = s.frozenNs := rfl
@[simp] theorem flag_frozeAt (s : State) (f : Fld) (b : Bool) : (s.flag f b).frozeAt = s.frozeAt := rfl
@[simp] theorem flag_queue (s : State) (f : Fld) (b : Bool) : (s.flag f b).queue = s.queue := rfl
@[simp] theorem flag_lastStart (s : State) (f : Fld) (b : Bool) : (s.flag f b).lastStart = s.lastStart := rfl
@[simp] theorem flag_nextPoll (s : State) (f : Fld) (b : Bool) : (s.flag f b).nextPoll = s.nextPoll := rfl
@[simp] theorem flag_mgt (s : State) (f : Fld) (b : Bool) : (s.flag f b).mgt = s.mgt := rfl
@[simp] theorem flag_fuses (s : State) (f : Fld) (b : Bool) : (s.flag f b).fuses = s.fuses := rfl
@[simp] theorem flag_siteFuse (s : State) (f : Fld) (b : Bool) : (s.flag f b).siteFuse = s.siteFuse := rfl
@[simp] theorem flag_tripTrim (s : State) (f : Fld) (b : Bool) : (s.flag f b).tripTrim = s.tripTrim := rfl
@[simp] theorem flag_rings (s : State) (f : Fld) (b : Bool) : (s.flag f b).rings = s.rings := rfl
@[simp] theorem flag_trcFifo (s : State) (f : Fld) (b : Bool) : (s.flag f b).trcFifo = s.trcFifo := rfl
@[simp] theorem flag_trcDrop (s : State) (f : Fld) (b : Bool) : (s.flag f b).trcDrop = s.trcDrop := rfl
@[simp] theorem flag_rcd (s : State) (f : Fld) (b : Bool) : (s.flag f b).rcd = s.rcd := rfl
@[simp] theorem flag_upd (s : State) (f : Fld) (b : Bool) : (s.flag f b).upd = s.upd := rfl
@[simp] theorem flag_flash (s : State) (f : Fld) (b : Bool) : (s.flag f b).flash = s.flash := rfl
@[simp] theorem flag_mtr (s : State) (f : Fld) (b : Bool) : (s.flag f b).mtr = s.mtr := rfl
@[simp] theorem flag_chain (s : State) (f : Fld) (b : Bool) : (s.flag f b).chain = s.chain := rfl
@[simp] theorem flag_seam (s : State) (f : Fld) (b : Bool) : (s.flag f b).seam = s.seam := rfl
@[simp] theorem flag_regs (s : State) (f : Fld) (b : Bool) : (s.flag f b).regs = s.regs.set f (b2n b) := rfl
@[simp] theorem flag_live (s : State) (f : Fld) (b : Bool) : (s.flag f b).live = s.live := rfl
@[simp] theorem flag_rgcOn (s : State) (f : Fld) (b : Bool) : (s.flag f b).rgcOn = s.rgcOn := rfl
@[simp] theorem flag_frozenTime (s : State) (f : Fld) (b : Bool) : (s.flag f b).frozenTime = s.frozenTime := rfl
@[simp] theorem flag_cyc (s : State) (f : Fld) (b : Bool) : (s.flag f b).cyc = s.cyc := rfl
@[simp] theorem flag_window (s : State) (f : Fld) (b : Bool) : (s.flag f b).window = s.window := rfl

@[simp] theorem setMask_pending (s : State) (f : Fld) (m : Nat) : (s.setMask f m).pending = s.pending := rfl
@[simp] theorem setMask_now (s : State) (f : Fld) (m : Nat) : (s.setMask f m).now = s.now := rfl
@[simp] theorem setMask_strokeIdx (s : State) (f : Fld) (m : Nat) : (s.setMask f m).strokeIdx = s.strokeIdx := rfl
@[simp] theorem setMask_windowIdx (s : State) (f : Fld) (m : Nat) : (s.setMask f m).windowIdx = s.windowIdx := rfl
@[simp] theorem setMask_alignIdx (s : State) (f : Fld) (m : Nat) : (s.setMask f m).alignIdx = s.alignIdx := rfl
@[simp] theorem setMask_phase (s : State) (f : Fld) (m : Nat) : (s.setMask f m).phase = s.phase := rfl
@[simp] theorem setMask_frozen (s : State) (f : Fld) (m : Nat) : (s.setMask f m).frozen = s.frozen := rfl
@[simp] theorem setMask_resetReq (s : State) (f : Fld) (m : Nat) : (s.setMask f m).resetReq = s.resetReq := rfl
@[simp] theorem setMask_raised (s : State) (f : Fld) (m : Nat) : (s.setMask f m).raised = s.raised := rfl
@[simp] theorem setMask_out (s : State) (f : Fld) (m : Nat) : (s.setMask f m).out = s.out := rfl
@[simp] theorem setMask_freeCtr (s : State) (f : Fld) (m : Nat) : (s.setMask f m).freeCtr = s.freeCtr := rfl
@[simp] theorem setMask_adm (s : State) (f : Fld) (m : Nat) : (s.setMask f m).adm = s.adm := rfl
@[simp] theorem setMask_inbox (s : State) (f : Fld) (m : Nat) : (s.setMask f m).inbox = s.inbox := rfl
@[simp] theorem setMask_bus (s : State) (f : Fld) (m : Nat) : (s.setMask f m).bus = s.bus := rfl
@[simp] theorem setMask_gov (s : State) (f : Fld) (m : Nat) : (s.setMask f m).gov = s.gov := rfl
@[simp] theorem setMask_govDie (s : State) (f : Fld) (m : Nat) : (s.setMask f m).govDie = s.govDie := rfl
@[simp] theorem setMask_rail (s : State) (f : Fld) (m : Nat) : (s.setMask f m).rail = s.rail := rfl
@[simp] theorem setMask_rptIo (s : State) (f : Fld) (m : Nat) : (s.setMask f m).rptIo = s.rptIo := rfl
@[simp] theorem setMask_lastIo (s : State) (f : Fld) (m : Nat) : (s.setMask f m).lastIo = s.lastIo := rfl
@[simp] theorem setMask_clk (s : State) (f : Fld) (m : Nat) : (s.setMask f m).clk = s.clk := rfl
@[simp] theorem setMask_clkDie (s : State) (f : Fld) (m : Nat) : (s.setMask f m).clkDie = s.clkDie := rfl
@[simp] theorem setMask_hold (s : State) (f : Fld) (m : Nat) : (s.setMask f m).hold = s.hold := rfl
@[simp] theorem setMask_rgc (s : State) (f : Fld) (m : Nat) : (s.setMask f m).rgc = s.rgc := rfl
@[simp] theorem setMask_loop (s : State) (f : Fld) (m : Nat) : (s.setMask f m).loop = s.loop := rfl
@[simp] theorem setMask_vsetTx (s : State) (f : Fld) (m : Nat) : (s.setMask f m).vsetTx = s.vsetTx := rfl
@[simp] theorem setMask_satSeq (s : State) (f : Fld) (m : Nat) : (s.setMask f m).satSeq = s.satSeq := rfl
@[simp] theorem setMask_vcl (s : State) (f : Fld) (m : Nat) : (s.setMask f m).vcl = s.vcl := rfl
@[simp] theorem setMask_once (s : State) (f : Fld) (m : Nat) : (s.setMask f m).once = s.once := rfl
@[simp] theorem setMask_thm (s : State) (f : Fld) (m : Nat) : (s.setMask f m).thm = s.thm := rfl
@[simp] theorem setMask_thmDie (s : State) (f : Fld) (m : Nat) : (s.setMask f m).thmDie = s.thmDie := rfl
@[simp] theorem setMask_trip (s : State) (f : Fld) (m : Nat) : (s.setMask f m).trip = s.trip := rfl
@[simp] theorem setMask_sen (s : State) (f : Fld) (m : Nat) : (s.setMask f m).sen = s.sen := rfl
@[simp] theorem setMask_libStored (s : State) (f : Fld) (m : Nat) : (s.setMask f m).libStored = s.libStored := rfl
@[simp] theorem setMask_lk (s : State) (f : Fld) (m : Nat) : (s.setMask f m).lk = s.lk := rfl
@[simp] theorem setMask_cas (s : State) (f : Fld) (m : Nat) : (s.setMask f m).cas = s.cas := rfl
@[simp] theorem setMask_frozenNs (s : State) (f : Fld) (m : Nat) : (s.setMask f m).frozenNs = s.frozenNs := rfl
@[simp] theorem setMask_frozeAt (s : State) (f : Fld) (m : Nat) : (s.setMask f m).frozeAt = s.frozeAt := rfl
@[simp] theorem setMask_queue (s : State) (f : Fld) (m : Nat) : (s.setMask f m).queue = s.queue := rfl
@[simp] theorem setMask_lastStart (s : State) (f : Fld) (m : Nat) : (s.setMask f m).lastStart = s.lastStart := rfl
@[simp] theorem setMask_nextPoll (s : State) (f : Fld) (m : Nat) : (s.setMask f m).nextPoll = s.nextPoll := rfl
@[simp] theorem setMask_mgt (s : State) (f : Fld) (m : Nat) : (s.setMask f m).mgt = s.mgt := rfl
@[simp] theorem setMask_fuses (s : State) (f : Fld) (m : Nat) : (s.setMask f m).fuses = s.fuses := rfl
@[simp] theorem setMask_siteFuse (s : State) (f : Fld) (m : Nat) : (s.setMask f m).siteFuse = s.siteFuse := rfl
@[simp] theorem setMask_tripTrim (s : State) (f : Fld) (m : Nat) : (s.setMask f m).tripTrim = s.tripTrim := rfl
@[simp] theorem setMask_rings (s : State) (f : Fld) (m : Nat) : (s.setMask f m).rings = s.rings := rfl
@[simp] theorem setMask_trcFifo (s : State) (f : Fld) (m : Nat) : (s.setMask f m).trcFifo = s.trcFifo := rfl
@[simp] theorem setMask_trcDrop (s : State) (f : Fld) (m : Nat) : (s.setMask f m).trcDrop = s.trcDrop := rfl
@[simp] theorem setMask_rcd (s : State) (f : Fld) (m : Nat) : (s.setMask f m).rcd = s.rcd := rfl
@[simp] theorem setMask_upd (s : State) (f : Fld) (m : Nat) : (s.setMask f m).upd = s.upd := rfl
@[simp] theorem setMask_flash (s : State) (f : Fld) (m : Nat) : (s.setMask f m).flash = s.flash := rfl
@[simp] theorem setMask_mtr (s : State) (f : Fld) (m : Nat) : (s.setMask f m).mtr = s.mtr := rfl
@[simp] theorem setMask_chain (s : State) (f : Fld) (m : Nat) : (s.setMask f m).chain = s.chain := rfl
@[simp] theorem setMask_seam (s : State) (f : Fld) (m : Nat) : (s.setMask f m).seam = s.seam := rfl
@[simp] theorem setMask_regs (s : State) (f : Fld) (m : Nat) : (s.setMask f m).regs = s.regs.set f (s.rd f ||| m) := rfl
@[simp] theorem setMask_live (s : State) (f : Fld) (m : Nat) : (s.setMask f m).live = s.live := rfl
@[simp] theorem setMask_rgcOn (s : State) (f : Fld) (m : Nat) : (s.setMask f m).rgcOn = s.rgcOn := rfl
@[simp] theorem setMask_frozenTime (s : State) (f : Fld) (m : Nat) : (s.setMask f m).frozenTime = s.frozenTime := rfl
@[simp] theorem setMask_cyc (s : State) (f : Fld) (m : Nat) : (s.setMask f m).cyc = s.cyc := rfl
@[simp] theorem setMask_window (s : State) (f : Fld) (m : Nat) : (s.setMask f m).window = s.window := rfl

@[simp] theorem clrMask_pending (s : State) (f : Fld) (m : Nat) : (s.clrMask f m).pending = s.pending := rfl
@[simp] theorem clrMask_now (s : State) (f : Fld) (m : Nat) : (s.clrMask f m).now = s.now := rfl
@[simp] theorem clrMask_strokeIdx (s : State) (f : Fld) (m : Nat) : (s.clrMask f m).strokeIdx = s.strokeIdx := rfl
@[simp] theorem clrMask_windowIdx (s : State) (f : Fld) (m : Nat) : (s.clrMask f m).windowIdx = s.windowIdx := rfl
@[simp] theorem clrMask_alignIdx (s : State) (f : Fld) (m : Nat) : (s.clrMask f m).alignIdx = s.alignIdx := rfl
@[simp] theorem clrMask_phase (s : State) (f : Fld) (m : Nat) : (s.clrMask f m).phase = s.phase := rfl
@[simp] theorem clrMask_frozen (s : State) (f : Fld) (m : Nat) : (s.clrMask f m).frozen = s.frozen := rfl
@[simp] theorem clrMask_resetReq (s : State) (f : Fld) (m : Nat) : (s.clrMask f m).resetReq = s.resetReq := rfl
@[simp] theorem clrMask_raised (s : State) (f : Fld) (m : Nat) : (s.clrMask f m).raised = s.raised := rfl
@[simp] theorem clrMask_out (s : State) (f : Fld) (m : Nat) : (s.clrMask f m).out = s.out := rfl
@[simp] theorem clrMask_freeCtr (s : State) (f : Fld) (m : Nat) : (s.clrMask f m).freeCtr = s.freeCtr := rfl
@[simp] theorem clrMask_adm (s : State) (f : Fld) (m : Nat) : (s.clrMask f m).adm = s.adm := rfl
@[simp] theorem clrMask_inbox (s : State) (f : Fld) (m : Nat) : (s.clrMask f m).inbox = s.inbox := rfl
@[simp] theorem clrMask_bus (s : State) (f : Fld) (m : Nat) : (s.clrMask f m).bus = s.bus := rfl
@[simp] theorem clrMask_gov (s : State) (f : Fld) (m : Nat) : (s.clrMask f m).gov = s.gov := rfl
@[simp] theorem clrMask_govDie (s : State) (f : Fld) (m : Nat) : (s.clrMask f m).govDie = s.govDie := rfl
@[simp] theorem clrMask_rail (s : State) (f : Fld) (m : Nat) : (s.clrMask f m).rail = s.rail := rfl
@[simp] theorem clrMask_rptIo (s : State) (f : Fld) (m : Nat) : (s.clrMask f m).rptIo = s.rptIo := rfl
@[simp] theorem clrMask_lastIo (s : State) (f : Fld) (m : Nat) : (s.clrMask f m).lastIo = s.lastIo := rfl
@[simp] theorem clrMask_clk (s : State) (f : Fld) (m : Nat) : (s.clrMask f m).clk = s.clk := rfl
@[simp] theorem clrMask_clkDie (s : State) (f : Fld) (m : Nat) : (s.clrMask f m).clkDie = s.clkDie := rfl
@[simp] theorem clrMask_hold (s : State) (f : Fld) (m : Nat) : (s.clrMask f m).hold = s.hold := rfl
@[simp] theorem clrMask_rgc (s : State) (f : Fld) (m : Nat) : (s.clrMask f m).rgc = s.rgc := rfl
@[simp] theorem clrMask_loop (s : State) (f : Fld) (m : Nat) : (s.clrMask f m).loop = s.loop := rfl
@[simp] theorem clrMask_vsetTx (s : State) (f : Fld) (m : Nat) : (s.clrMask f m).vsetTx = s.vsetTx := rfl
@[simp] theorem clrMask_satSeq (s : State) (f : Fld) (m : Nat) : (s.clrMask f m).satSeq = s.satSeq := rfl
@[simp] theorem clrMask_vcl (s : State) (f : Fld) (m : Nat) : (s.clrMask f m).vcl = s.vcl := rfl
@[simp] theorem clrMask_once (s : State) (f : Fld) (m : Nat) : (s.clrMask f m).once = s.once := rfl
@[simp] theorem clrMask_thm (s : State) (f : Fld) (m : Nat) : (s.clrMask f m).thm = s.thm := rfl
@[simp] theorem clrMask_thmDie (s : State) (f : Fld) (m : Nat) : (s.clrMask f m).thmDie = s.thmDie := rfl
@[simp] theorem clrMask_trip (s : State) (f : Fld) (m : Nat) : (s.clrMask f m).trip = s.trip := rfl
@[simp] theorem clrMask_sen (s : State) (f : Fld) (m : Nat) : (s.clrMask f m).sen = s.sen := rfl
@[simp] theorem clrMask_libStored (s : State) (f : Fld) (m : Nat) : (s.clrMask f m).libStored = s.libStored := rfl
@[simp] theorem clrMask_lk (s : State) (f : Fld) (m : Nat) : (s.clrMask f m).lk = s.lk := rfl
@[simp] theorem clrMask_cas (s : State) (f : Fld) (m : Nat) : (s.clrMask f m).cas = s.cas := rfl
@[simp] theorem clrMask_frozenNs (s : State) (f : Fld) (m : Nat) : (s.clrMask f m).frozenNs = s.frozenNs := rfl
@[simp] theorem clrMask_frozeAt (s : State) (f : Fld) (m : Nat) : (s.clrMask f m).frozeAt = s.frozeAt := rfl
@[simp] theorem clrMask_queue (s : State) (f : Fld) (m : Nat) : (s.clrMask f m).queue = s.queue := rfl
@[simp] theorem clrMask_lastStart (s : State) (f : Fld) (m : Nat) : (s.clrMask f m).lastStart = s.lastStart := rfl
@[simp] theorem clrMask_nextPoll (s : State) (f : Fld) (m : Nat) : (s.clrMask f m).nextPoll = s.nextPoll := rfl
@[simp] theorem clrMask_mgt (s : State) (f : Fld) (m : Nat) : (s.clrMask f m).mgt = s.mgt := rfl
@[simp] theorem clrMask_fuses (s : State) (f : Fld) (m : Nat) : (s.clrMask f m).fuses = s.fuses := rfl
@[simp] theorem clrMask_siteFuse (s : State) (f : Fld) (m : Nat) : (s.clrMask f m).siteFuse = s.siteFuse := rfl
@[simp] theorem clrMask_tripTrim (s : State) (f : Fld) (m : Nat) : (s.clrMask f m).tripTrim = s.tripTrim := rfl
@[simp] theorem clrMask_rings (s : State) (f : Fld) (m : Nat) : (s.clrMask f m).rings = s.rings := rfl
@[simp] theorem clrMask_trcFifo (s : State) (f : Fld) (m : Nat) : (s.clrMask f m).trcFifo = s.trcFifo := rfl
@[simp] theorem clrMask_trcDrop (s : State) (f : Fld) (m : Nat) : (s.clrMask f m).trcDrop = s.trcDrop := rfl
@[simp] theorem clrMask_rcd (s : State) (f : Fld) (m : Nat) : (s.clrMask f m).rcd = s.rcd := rfl
@[simp] theorem clrMask_upd (s : State) (f : Fld) (m : Nat) : (s.clrMask f m).upd = s.upd := rfl
@[simp] theorem clrMask_flash (s : State) (f : Fld) (m : Nat) : (s.clrMask f m).flash = s.flash := rfl
@[simp] theorem clrMask_mtr (s : State) (f : Fld) (m : Nat) : (s.clrMask f m).mtr = s.mtr := rfl
@[simp] theorem clrMask_chain (s : State) (f : Fld) (m : Nat) : (s.clrMask f m).chain = s.chain := rfl
@[simp] theorem clrMask_seam (s : State) (f : Fld) (m : Nat) : (s.clrMask f m).seam = s.seam := rfl
@[simp] theorem clrMask_regs (s : State) (f : Fld) (m : Nat) : (s.clrMask f m).regs = s.regs.set f (s.rd f - (s.rd f &&& m)) := rfl
@[simp] theorem clrMask_live (s : State) (f : Fld) (m : Nat) : (s.clrMask f m).live = s.live := rfl
@[simp] theorem clrMask_rgcOn (s : State) (f : Fld) (m : Nat) : (s.clrMask f m).rgcOn = s.rgcOn := rfl
@[simp] theorem clrMask_frozenTime (s : State) (f : Fld) (m : Nat) : (s.clrMask f m).frozenTime = s.frozenTime := rfl
@[simp] theorem clrMask_cyc (s : State) (f : Fld) (m : Nat) : (s.clrMask f m).cyc = s.cyc := rfl
@[simp] theorem clrMask_window (s : State) (f : Fld) (m : Nat) : (s.clrMask f m).window = s.window := rfl

@[simp] theorem emit_pending (s : State) (o : Out) : (s.emit o).pending = s.pending := rfl
@[simp] theorem emit_now (s : State) (o : Out) : (s.emit o).now = s.now := rfl
@[simp] theorem emit_strokeIdx (s : State) (o : Out) : (s.emit o).strokeIdx = s.strokeIdx := rfl
@[simp] theorem emit_windowIdx (s : State) (o : Out) : (s.emit o).windowIdx = s.windowIdx := rfl
@[simp] theorem emit_alignIdx (s : State) (o : Out) : (s.emit o).alignIdx = s.alignIdx := rfl
@[simp] theorem emit_phase (s : State) (o : Out) : (s.emit o).phase = s.phase := rfl
@[simp] theorem emit_frozen (s : State) (o : Out) : (s.emit o).frozen = s.frozen := rfl
@[simp] theorem emit_regs (s : State) (o : Out) : (s.emit o).regs = s.regs := rfl
@[simp] theorem emit_resetReq (s : State) (o : Out) : (s.emit o).resetReq = s.resetReq := rfl
@[simp] theorem emit_raised (s : State) (o : Out) : (s.emit o).raised = s.raised := rfl
@[simp] theorem emit_freeCtr (s : State) (o : Out) : (s.emit o).freeCtr = s.freeCtr := rfl
@[simp] theorem emit_adm (s : State) (o : Out) : (s.emit o).adm = s.adm := rfl
@[simp] theorem emit_inbox (s : State) (o : Out) : (s.emit o).inbox = s.inbox := rfl
@[simp] theorem emit_bus (s : State) (o : Out) : (s.emit o).bus = s.bus := rfl
@[simp] theorem emit_gov (s : State) (o : Out) : (s.emit o).gov = s.gov := rfl
@[simp] theorem emit_govDie (s : State) (o : Out) : (s.emit o).govDie = s.govDie := rfl
@[simp] theorem emit_rail (s : State) (o : Out) : (s.emit o).rail = s.rail := rfl
@[simp] theorem emit_rptIo (s : State) (o : Out) : (s.emit o).rptIo = s.rptIo := rfl
@[simp] theorem emit_lastIo (s : State) (o : Out) : (s.emit o).lastIo = s.lastIo := rfl
@[simp] theorem emit_clk (s : State) (o : Out) : (s.emit o).clk = s.clk := rfl
@[simp] theorem emit_clkDie (s : State) (o : Out) : (s.emit o).clkDie = s.clkDie := rfl
@[simp] theorem emit_hold (s : State) (o : Out) : (s.emit o).hold = s.hold := rfl
@[simp] theorem emit_rgc (s : State) (o : Out) : (s.emit o).rgc = s.rgc := rfl
@[simp] theorem emit_loop (s : State) (o : Out) : (s.emit o).loop = s.loop := rfl
@[simp] theorem emit_vsetTx (s : State) (o : Out) : (s.emit o).vsetTx = s.vsetTx := rfl
@[simp] theorem emit_satSeq (s : State) (o : Out) : (s.emit o).satSeq = s.satSeq := rfl
@[simp] theorem emit_vcl (s : State) (o : Out) : (s.emit o).vcl = s.vcl := rfl
@[simp] theorem emit_once (s : State) (o : Out) : (s.emit o).once = s.once := rfl
@[simp] theorem emit_thm (s : State) (o : Out) : (s.emit o).thm = s.thm := rfl
@[simp] theorem emit_thmDie (s : State) (o : Out) : (s.emit o).thmDie = s.thmDie := rfl
@[simp] theorem emit_trip (s : State) (o : Out) : (s.emit o).trip = s.trip := rfl
@[simp] theorem emit_sen (s : State) (o : Out) : (s.emit o).sen = s.sen := rfl
@[simp] theorem emit_libStored (s : State) (o : Out) : (s.emit o).libStored = s.libStored := rfl
@[simp] theorem emit_lk (s : State) (o : Out) : (s.emit o).lk = s.lk := rfl
@[simp] theorem emit_cas (s : State) (o : Out) : (s.emit o).cas = s.cas := rfl
@[simp] theorem emit_frozenNs (s : State) (o : Out) : (s.emit o).frozenNs = s.frozenNs := rfl
@[simp] theorem emit_frozeAt (s : State) (o : Out) : (s.emit o).frozeAt = s.frozeAt := rfl
@[simp] theorem emit_queue (s : State) (o : Out) : (s.emit o).queue = s.queue := rfl
@[simp] theorem emit_lastStart (s : State) (o : Out) : (s.emit o).lastStart = s.lastStart := rfl
@[simp] theorem emit_nextPoll (s : State) (o : Out) : (s.emit o).nextPoll = s.nextPoll := rfl
@[simp] theorem emit_mgt (s : State) (o : Out) : (s.emit o).mgt = s.mgt := rfl
@[simp] theorem emit_fuses (s : State) (o : Out) : (s.emit o).fuses = s.fuses := rfl
@[simp] theorem emit_siteFuse (s : State) (o : Out) : (s.emit o).siteFuse = s.siteFuse := rfl
@[simp] theorem emit_tripTrim (s : State) (o : Out) : (s.emit o).tripTrim = s.tripTrim := rfl
@[simp] theorem emit_rings (s : State) (o : Out) : (s.emit o).rings = s.rings := rfl
@[simp] theorem emit_trcFifo (s : State) (o : Out) : (s.emit o).trcFifo = s.trcFifo := rfl
@[simp] theorem emit_trcDrop (s : State) (o : Out) : (s.emit o).trcDrop = s.trcDrop := rfl
@[simp] theorem emit_rcd (s : State) (o : Out) : (s.emit o).rcd = s.rcd := rfl
@[simp] theorem emit_upd (s : State) (o : Out) : (s.emit o).upd = s.upd := rfl
@[simp] theorem emit_flash (s : State) (o : Out) : (s.emit o).flash = s.flash := rfl
@[simp] theorem emit_mtr (s : State) (o : Out) : (s.emit o).mtr = s.mtr := rfl
@[simp] theorem emit_chain (s : State) (o : Out) : (s.emit o).chain = s.chain := rfl
@[simp] theorem emit_seam (s : State) (o : Out) : (s.emit o).seam = s.seam := rfl
@[simp] theorem emit_out (s : State) (o : Out) : (s.emit o).out = s.out ++ [o] := rfl
@[simp] theorem emit_rd (s : State) (o : Out) (z : Fld) : (s.emit o).rd z = s.rd z := rfl
@[simp] theorem emit_on (s : State) (o : Out) (z : Fld) : (s.emit o).on z = s.on z := rfl
@[simp] theorem emit_live (s : State) (o : Out) : (s.emit o).live = s.live := rfl
@[simp] theorem emit_rgcOn (s : State) (o : Out) : (s.emit o).rgcOn = s.rgcOn := rfl
@[simp] theorem emit_frozenTime (s : State) (o : Out) : (s.emit o).frozenTime = s.frozenTime := rfl
@[simp] theorem emit_cyc (s : State) (o : Out) : (s.emit o).cyc = s.cyc := rfl
@[simp] theorem emit_window (s : State) (o : Out) : (s.emit o).window = s.window := rfl
@[simp] theorem emit_seamUp (s : State) (o : Out) (z : Sat) : (s.emit o).seamUp z = s.seamUp z := rfl
@[simp] theorem emit_fenced (s : State) (o : Out) (z : Die) : (s.emit o).fenced z = s.fenced z := rfl
@[simp] theorem emit_safeTier (s : State) (o : Out) (z : Die) : (s.emit o).safeTier z = s.safeTier z := rfl
@[simp] theorem emit_mode (s : State) (o : Out) (z : Loop) : (s.emit o).mode z = s.mode z := rfl

@[simp] theorem raise_pending (s : State) (c u d : Nat) (b : List Nat) : (s.raise c u d b).pending = s.pending := rfl
@[simp] theorem raise_now (s : State) (c u d : Nat) (b : List Nat) : (s.raise c u d b).now = s.now := rfl
@[simp] theorem raise_strokeIdx (s : State) (c u d : Nat) (b : List Nat) : (s.raise c u d b).strokeIdx = s.strokeIdx := rfl
@[simp] theorem raise_windowIdx (s : State) (c u d : Nat) (b : List Nat) : (s.raise c u d b).windowIdx = s.windowIdx := rfl
@[simp] theorem raise_alignIdx (s : State) (c u d : Nat) (b : List Nat) : (s.raise c u d b).alignIdx = s.alignIdx := rfl
@[simp] theorem raise_phase (s : State) (c u d : Nat) (b : List Nat) : (s.raise c u d b).phase = s.phase := rfl
@[simp] theorem raise_frozen (s : State) (c u d : Nat) (b : List Nat) : (s.raise c u d b).frozen = s.frozen := rfl
@[simp] theorem raise_regs (s : State) (c u d : Nat) (b : List Nat) : (s.raise c u d b).regs = s.regs := rfl
@[simp] theorem raise_resetReq (s : State) (c u d : Nat) (b : List Nat) : (s.raise c u d b).resetReq = s.resetReq := rfl
@[simp] theorem raise_out (s : State) (c u d : Nat) (b : List Nat) : (s.raise c u d b).out = s.out := rfl
@[simp] theorem raise_freeCtr (s : State) (c u d : Nat) (b : List Nat) : (s.raise c u d b).freeCtr = s.freeCtr := rfl
@[simp] theorem raise_adm (s : State) (c u d : Nat) (b : List Nat) : (s.raise c u d b).adm = s.adm := rfl
@[simp] theorem raise_inbox (s : State) (c u d : Nat) (b : List Nat) : (s.raise c u d b).inbox = s.inbox := rfl
@[simp] theorem raise_bus (s : State) (c u d : Nat) (b : List Nat) : (s.raise c u d b).bus = s.bus := rfl
@[simp] theorem raise_gov (s : State) (c u d : Nat) (b : List Nat) : (s.raise c u d b).gov = s.gov := rfl
@[simp] theorem raise_govDie (s : State) (c u d : Nat) (b : List Nat) : (s.raise c u d b).govDie = s.govDie := rfl
@[simp] theorem raise_rail (s : State) (c u d : Nat) (b : List Nat) : (s.raise c u d b).rail = s.rail := rfl
@[simp] theorem raise_rptIo (s : State) (c u d : Nat) (b : List Nat) : (s.raise c u d b).rptIo = s.rptIo := rfl
@[simp] theorem raise_lastIo (s : State) (c u d : Nat) (b : List Nat) : (s.raise c u d b).lastIo = s.lastIo := rfl
@[simp] theorem raise_clk (s : State) (c u d : Nat) (b : List Nat) : (s.raise c u d b).clk = s.clk := rfl
@[simp] theorem raise_clkDie (s : State) (c u d : Nat) (b : List Nat) : (s.raise c u d b).clkDie = s.clkDie := rfl
@[simp] theorem raise_hold (s : State) (c u d : Nat) (b : List Nat) : (s.raise c u d b).hold = s.hold := rfl
@[simp] theorem raise_rgc (s : State) (c u d : Nat) (b : List Nat) : (s.raise c u d b).rgc = s.rgc := rfl
@[simp] theorem raise_loop (s : State) (c u d : Nat) (b : List Nat) : (s.raise c u d b).loop = s.loop := rfl
@[simp] theorem raise_vsetTx (s : State) (c u d : Nat) (b : List Nat) : (s.raise c u d b).vsetTx = s.vsetTx := rfl
@[simp] theorem raise_satSeq (s : State) (c u d : Nat) (b : List Nat) : (s.raise c u d b).satSeq = s.satSeq := rfl
@[simp] theorem raise_vcl (s : State) (c u d : Nat) (b : List Nat) : (s.raise c u d b).vcl = s.vcl := rfl
@[simp] theorem raise_once (s : State) (c u d : Nat) (b : List Nat) : (s.raise c u d b).once = s.once := rfl
@[simp] theorem raise_thm (s : State) (c u d : Nat) (b : List Nat) : (s.raise c u d b).thm = s.thm := rfl
@[simp] theorem raise_thmDie (s : State) (c u d : Nat) (b : List Nat) : (s.raise c u d b).thmDie = s.thmDie := rfl
@[simp] theorem raise_trip (s : State) (c u d : Nat) (b : List Nat) : (s.raise c u d b).trip = s.trip := rfl
@[simp] theorem raise_sen (s : State) (c u d : Nat) (b : List Nat) : (s.raise c u d b).sen = s.sen := rfl
@[simp] theorem raise_libStored (s : State) (c u d : Nat) (b : List Nat) : (s.raise c u d b).libStored = s.libStored := rfl
@[simp] theorem raise_lk (s : State) (c u d : Nat) (b : List Nat) : (s.raise c u d b).lk = s.lk := rfl
@[simp] theorem raise_cas (s : State) (c u d : Nat) (b : List Nat) : (s.raise c u d b).cas = s.cas := rfl
@[simp] theorem raise_frozenNs (s : State) (c u d : Nat) (b : List Nat) : (s.raise c u d b).frozenNs = s.frozenNs := rfl
@[simp] theorem raise_frozeAt (s : State) (c u d : Nat) (b : List Nat) : (s.raise c u d b).frozeAt = s.frozeAt := rfl
@[simp] theorem raise_queue (s : State) (c u d : Nat) (b : List Nat) : (s.raise c u d b).queue = s.queue := rfl
@[simp] theorem raise_lastStart (s : State) (c u d : Nat) (b : List Nat) : (s.raise c u d b).lastStart = s.lastStart := rfl
@[simp] theorem raise_nextPoll (s : State) (c u d : Nat) (b : List Nat) : (s.raise c u d b).nextPoll = s.nextPoll := rfl
@[simp] theorem raise_mgt (s : State) (c u d : Nat) (b : List Nat) : (s.raise c u d b).mgt = s.mgt := rfl
@[simp] theorem raise_fuses (s : State) (c u d : Nat) (b : List Nat) : (s.raise c u d b).fuses = s.fuses := rfl
@[simp] theorem raise_siteFuse (s : State) (c u d : Nat) (b : List Nat) : (s.raise c u d b).siteFuse = s.siteFuse := rfl
@[simp] theorem raise_tripTrim (s : State) (c u d : Nat) (b : List Nat) : (s.raise c u d b).tripTrim = s.tripTrim := rfl
@[simp] theorem raise_rings (s : State) (c u d : Nat) (b : List Nat) : (s.raise c u d b).rings = s.rings := rfl
@[simp] theorem raise_trcFifo (s : State) (c u d : Nat) (b : List Nat) : (s.raise c u d b).trcFifo = s.trcFifo := rfl
@[simp] theorem raise_trcDrop (s : State) (c u d : Nat) (b : List Nat) : (s.raise c u d b).trcDrop = s.trcDrop := rfl
@[simp] theorem raise_rcd (s : State) (c u d : Nat) (b : List Nat) : (s.raise c u d b).rcd = s.rcd := rfl
@[simp] theorem raise_upd (s : State) (c u d : Nat) (b : List Nat) : (s.raise c u d b).upd = s.upd := rfl
@[simp] theorem raise_flash (s : State) (c u d : Nat) (b : List Nat) : (s.raise c u d b).flash = s.flash := rfl
@[simp] theorem raise_mtr (s : State) (c u d : Nat) (b : List Nat) : (s.raise c u d b).mtr = s.mtr := rfl
@[simp] theorem raise_chain (s : State) (c u d : Nat) (b : List Nat) : (s.raise c u d b).chain = s.chain := rfl
@[simp] theorem raise_seam (s : State) (c u d : Nat) (b : List Nat) : (s.raise c u d b).seam = s.seam := rfl
@[simp] theorem raise_raised (s : State) (c u d : Nat) (b : List Nat) : (s.raise c u d b).raised = s.raised ++ [⟨c, u, d, b⟩] := rfl
@[simp] theorem raise_rd (s : State) (c u d : Nat) (b : List Nat) (z : Fld) : (s.raise c u d b).rd z = s.rd z := rfl
@[simp] theorem raise_on (s : State) (c u d : Nat) (b : List Nat) (z : Fld) : (s.raise c u d b).on z = s.on z := rfl
@[simp] theorem raise_live (s : State) (c u d : Nat) (b : List Nat) : (s.raise c u d b).live = s.live := rfl
@[simp] theorem raise_rgcOn (s : State) (c u d : Nat) (b : List Nat) : (s.raise c u d b).rgcOn = s.rgcOn := rfl
@[simp] theorem raise_frozenTime (s : State) (c u d : Nat) (b : List Nat) : (s.raise c u d b).frozenTime = s.frozenTime := rfl
@[simp] theorem raise_cyc (s : State) (c u d : Nat) (b : List Nat) : (s.raise c u d b).cyc = s.cyc := rfl
@[simp] theorem raise_window (s : State) (c u d : Nat) (b : List Nat) : (s.raise c u d b).window = s.window := rfl
@[simp] theorem raise_seamUp (s : State) (c u d : Nat) (b : List Nat) (z : Sat) : (s.raise c u d b).seamUp z = s.seamUp z := rfl
@[simp] theorem raise_fenced (s : State) (c u d : Nat) (b : List Nat) (z : Die) : (s.raise c u d b).fenced z = s.fenced z := rfl
@[simp] theorem raise_safeTier (s : State) (c u d : Nat) (b : List Nat) (z : Die) : (s.raise c u d b).safeTier z = s.safeTier z := rfl
@[simp] theorem raise_mode (s : State) (c u d : Nat) (b : List Nat) (z : Loop) : (s.raise c u d b).mode z = s.mode z := rfl

@[simp] theorem advance_pending (s : State) (n : Nat) : (s.advance n).pending = s.pending := rfl
@[simp] theorem advance_strokeIdx (s : State) (n : Nat) : (s.advance n).strokeIdx = s.strokeIdx := rfl
@[simp] theorem advance_windowIdx (s : State) (n : Nat) : (s.advance n).windowIdx = s.windowIdx := rfl
@[simp] theorem advance_alignIdx (s : State) (n : Nat) : (s.advance n).alignIdx = s.alignIdx := rfl
@[simp] theorem advance_phase (s : State) (n : Nat) : (s.advance n).phase = s.phase := rfl
@[simp] theorem advance_frozen (s : State) (n : Nat) : (s.advance n).frozen = s.frozen := rfl
@[simp] theorem advance_regs (s : State) (n : Nat) : (s.advance n).regs = s.regs := rfl
@[simp] theorem advance_resetReq (s : State) (n : Nat) : (s.advance n).resetReq = s.resetReq := rfl
@[simp] theorem advance_raised (s : State) (n : Nat) : (s.advance n).raised = s.raised := rfl
@[simp] theorem advance_out (s : State) (n : Nat) : (s.advance n).out = s.out := rfl
@[simp] theorem advance_freeCtr (s : State) (n : Nat) : (s.advance n).freeCtr = s.freeCtr := rfl
@[simp] theorem advance_adm (s : State) (n : Nat) : (s.advance n).adm = s.adm := rfl
@[simp] theorem advance_inbox (s : State) (n : Nat) : (s.advance n).inbox = s.inbox := rfl
@[simp] theorem advance_bus (s : State) (n : Nat) : (s.advance n).bus = s.bus := rfl
@[simp] theorem advance_gov (s : State) (n : Nat) : (s.advance n).gov = s.gov := rfl
@[simp] theorem advance_govDie (s : State) (n : Nat) : (s.advance n).govDie = s.govDie := rfl
@[simp] theorem advance_rail (s : State) (n : Nat) : (s.advance n).rail = s.rail := rfl
@[simp] theorem advance_rptIo (s : State) (n : Nat) : (s.advance n).rptIo = s.rptIo := rfl
@[simp] theorem advance_lastIo (s : State) (n : Nat) : (s.advance n).lastIo = s.lastIo := rfl
@[simp] theorem advance_clk (s : State) (n : Nat) : (s.advance n).clk = s.clk := rfl
@[simp] theorem advance_clkDie (s : State) (n : Nat) : (s.advance n).clkDie = s.clkDie := rfl
@[simp] theorem advance_hold (s : State) (n : Nat) : (s.advance n).hold = s.hold := rfl
@[simp] theorem advance_rgc (s : State) (n : Nat) : (s.advance n).rgc = s.rgc := rfl
@[simp] theorem advance_loop (s : State) (n : Nat) : (s.advance n).loop = s.loop := rfl
@[simp] theorem advance_vsetTx (s : State) (n : Nat) : (s.advance n).vsetTx = s.vsetTx := rfl
@[simp] theorem advance_satSeq (s : State) (n : Nat) : (s.advance n).satSeq = s.satSeq := rfl
@[simp] theorem advance_vcl (s : State) (n : Nat) : (s.advance n).vcl = s.vcl := rfl
@[simp] theorem advance_once (s : State) (n : Nat) : (s.advance n).once = s.once := rfl
@[simp] theorem advance_thm (s : State) (n : Nat) : (s.advance n).thm = s.thm := rfl
@[simp] theorem advance_thmDie (s : State) (n : Nat) : (s.advance n).thmDie = s.thmDie := rfl
@[simp] theorem advance_trip (s : State) (n : Nat) : (s.advance n).trip = s.trip := rfl
@[simp] theorem advance_sen (s : State) (n : Nat) : (s.advance n).sen = s.sen := rfl
@[simp] theorem advance_libStored (s : State) (n : Nat) : (s.advance n).libStored = s.libStored := rfl
@[simp] theorem advance_lk (s : State) (n : Nat) : (s.advance n).lk = s.lk := rfl
@[simp] theorem advance_cas (s : State) (n : Nat) : (s.advance n).cas = s.cas := rfl
@[simp] theorem advance_frozenNs (s : State) (n : Nat) : (s.advance n).frozenNs = s.frozenNs := rfl
@[simp] theorem advance_frozeAt (s : State) (n : Nat) : (s.advance n).frozeAt = s.frozeAt := rfl
@[simp] theorem advance_queue (s : State) (n : Nat) : (s.advance n).queue = s.queue := rfl
@[simp] theorem advance_lastStart (s : State) (n : Nat) : (s.advance n).lastStart = s.lastStart := rfl
@[simp] theorem advance_nextPoll (s : State) (n : Nat) : (s.advance n).nextPoll = s.nextPoll := rfl
@[simp] theorem advance_mgt (s : State) (n : Nat) : (s.advance n).mgt = s.mgt := rfl
@[simp] theorem advance_fuses (s : State) (n : Nat) : (s.advance n).fuses = s.fuses := rfl
@[simp] theorem advance_siteFuse (s : State) (n : Nat) : (s.advance n).siteFuse = s.siteFuse := rfl
@[simp] theorem advance_tripTrim (s : State) (n : Nat) : (s.advance n).tripTrim = s.tripTrim := rfl
@[simp] theorem advance_rings (s : State) (n : Nat) : (s.advance n).rings = s.rings := rfl
@[simp] theorem advance_trcFifo (s : State) (n : Nat) : (s.advance n).trcFifo = s.trcFifo := rfl
@[simp] theorem advance_trcDrop (s : State) (n : Nat) : (s.advance n).trcDrop = s.trcDrop := rfl
@[simp] theorem advance_rcd (s : State) (n : Nat) : (s.advance n).rcd = s.rcd := rfl
@[simp] theorem advance_upd (s : State) (n : Nat) : (s.advance n).upd = s.upd := rfl
@[simp] theorem advance_flash (s : State) (n : Nat) : (s.advance n).flash = s.flash := rfl
@[simp] theorem advance_mtr (s : State) (n : Nat) : (s.advance n).mtr = s.mtr := rfl
@[simp] theorem advance_chain (s : State) (n : Nat) : (s.advance n).chain = s.chain := rfl
@[simp] theorem advance_seam (s : State) (n : Nat) : (s.advance n).seam = s.seam := rfl
@[simp] theorem advance_now (s : State) (n : Nat) : (s.advance n).now = max s.now n := rfl
@[simp] theorem advance_rd (s : State) (n : Nat) (z : Fld) : (s.advance n).rd z = s.rd z := rfl
@[simp] theorem advance_on (s : State) (n : Nat) (z : Fld) : (s.advance n).on z = s.on z := rfl
@[simp] theorem advance_live (s : State) (n : Nat) : (s.advance n).live = s.live := rfl
@[simp] theorem advance_rgcOn (s : State) (n : Nat) : (s.advance n).rgcOn = s.rgcOn := rfl
@[simp] theorem advance_window (s : State) (n : Nat) : (s.advance n).window = s.window := rfl
@[simp] theorem advance_seamUp (s : State) (n : Nat) (z : Sat) : (s.advance n).seamUp z = s.seamUp z := rfl
@[simp] theorem advance_fenced (s : State) (n : Nat) (z : Die) : (s.advance n).fenced z = s.fenced z := rfl
@[simp] theorem advance_safeTier (s : State) (n : Nat) (z : Die) : (s.advance n).safeTier z = s.safeTier z := rfl
@[simp] theorem advance_mode (s : State) (n : Nat) (z : Loop) : (s.advance n).mode z = s.mode z := rfl

@[simp] theorem report_pending (s : State) (x : Sat) (r : Report) : (s.report x r).pending = s.pending := rfl
@[simp] theorem report_now (s : State) (x : Sat) (r : Report) : (s.report x r).now = s.now := rfl
@[simp] theorem report_strokeIdx (s : State) (x : Sat) (r : Report) : (s.report x r).strokeIdx = s.strokeIdx := rfl
@[simp] theorem report_windowIdx (s : State) (x : Sat) (r : Report) : (s.report x r).windowIdx = s.windowIdx := rfl
@[simp] theorem report_alignIdx (s : State) (x : Sat) (r : Report) : (s.report x r).alignIdx = s.alignIdx := rfl
@[simp] theorem report_phase (s : State) (x : Sat) (r : Report) : (s.report x r).phase = s.phase := rfl
@[simp] theorem report_frozen (s : State) (x : Sat) (r : Report) : (s.report x r).frozen = s.frozen := rfl
@[simp] theorem report_regs (s : State) (x : Sat) (r : Report) : (s.report x r).regs = s.regs := rfl
@[simp] theorem report_resetReq (s : State) (x : Sat) (r : Report) : (s.report x r).resetReq = s.resetReq := rfl
@[simp] theorem report_raised (s : State) (x : Sat) (r : Report) : (s.report x r).raised = s.raised := rfl
@[simp] theorem report_out (s : State) (x : Sat) (r : Report) : (s.report x r).out = s.out := rfl
@[simp] theorem report_freeCtr (s : State) (x : Sat) (r : Report) : (s.report x r).freeCtr = s.freeCtr := rfl
@[simp] theorem report_adm (s : State) (x : Sat) (r : Report) : (s.report x r).adm = s.adm := rfl
@[simp] theorem report_bus (s : State) (x : Sat) (r : Report) : (s.report x r).bus = s.bus := rfl
@[simp] theorem report_gov (s : State) (x : Sat) (r : Report) : (s.report x r).gov = s.gov := rfl
@[simp] theorem report_govDie (s : State) (x : Sat) (r : Report) : (s.report x r).govDie = s.govDie := rfl
@[simp] theorem report_rail (s : State) (x : Sat) (r : Report) : (s.report x r).rail = s.rail := rfl
@[simp] theorem report_rptIo (s : State) (x : Sat) (r : Report) : (s.report x r).rptIo = s.rptIo := rfl
@[simp] theorem report_lastIo (s : State) (x : Sat) (r : Report) : (s.report x r).lastIo = s.lastIo := rfl
@[simp] theorem report_clk (s : State) (x : Sat) (r : Report) : (s.report x r).clk = s.clk := rfl
@[simp] theorem report_clkDie (s : State) (x : Sat) (r : Report) : (s.report x r).clkDie = s.clkDie := rfl
@[simp] theorem report_hold (s : State) (x : Sat) (r : Report) : (s.report x r).hold = s.hold := rfl
@[simp] theorem report_rgc (s : State) (x : Sat) (r : Report) : (s.report x r).rgc = s.rgc := rfl
@[simp] theorem report_loop (s : State) (x : Sat) (r : Report) : (s.report x r).loop = s.loop := rfl
@[simp] theorem report_vsetTx (s : State) (x : Sat) (r : Report) : (s.report x r).vsetTx = s.vsetTx := rfl
@[simp] theorem report_satSeq (s : State) (x : Sat) (r : Report) : (s.report x r).satSeq = s.satSeq := rfl
@[simp] theorem report_vcl (s : State) (x : Sat) (r : Report) : (s.report x r).vcl = s.vcl := rfl
@[simp] theorem report_once (s : State) (x : Sat) (r : Report) : (s.report x r).once = s.once := rfl
@[simp] theorem report_thm (s : State) (x : Sat) (r : Report) : (s.report x r).thm = s.thm := rfl
@[simp] theorem report_thmDie (s : State) (x : Sat) (r : Report) : (s.report x r).thmDie = s.thmDie := rfl
@[simp] theorem report_trip (s : State) (x : Sat) (r : Report) : (s.report x r).trip = s.trip := rfl
@[simp] theorem report_sen (s : State) (x : Sat) (r : Report) : (s.report x r).sen = s.sen := rfl
@[simp] theorem report_libStored (s : State) (x : Sat) (r : Report) : (s.report x r).libStored = s.libStored := rfl
@[simp] theorem report_lk (s : State) (x : Sat) (r : Report) : (s.report x r).lk = s.lk := rfl
@[simp] theorem report_cas (s : State) (x : Sat) (r : Report) : (s.report x r).cas = s.cas := rfl
@[simp] theorem report_frozenNs (s : State) (x : Sat) (r : Report) : (s.report x r).frozenNs = s.frozenNs := rfl
@[simp] theorem report_frozeAt (s : State) (x : Sat) (r : Report) : (s.report x r).frozeAt = s.frozeAt := rfl
@[simp] theorem report_queue (s : State) (x : Sat) (r : Report) : (s.report x r).queue = s.queue := rfl
@[simp] theorem report_lastStart (s : State) (x : Sat) (r : Report) : (s.report x r).lastStart = s.lastStart := rfl
@[simp] theorem report_nextPoll (s : State) (x : Sat) (r : Report) : (s.report x r).nextPoll = s.nextPoll := rfl
@[simp] theorem report_mgt (s : State) (x : Sat) (r : Report) : (s.report x r).mgt = s.mgt := rfl
@[simp] theorem report_fuses (s : State) (x : Sat) (r : Report) : (s.report x r).fuses = s.fuses := rfl
@[simp] theorem report_siteFuse (s : State) (x : Sat) (r : Report) : (s.report x r).siteFuse = s.siteFuse := rfl
@[simp] theorem report_tripTrim (s : State) (x : Sat) (r : Report) : (s.report x r).tripTrim = s.tripTrim := rfl
@[simp] theorem report_rings (s : State) (x : Sat) (r : Report) : (s.report x r).rings = s.rings := rfl
@[simp] theorem report_trcFifo (s : State) (x : Sat) (r : Report) : (s.report x r).trcFifo = s.trcFifo := rfl
@[simp] theorem report_trcDrop (s : State) (x : Sat) (r : Report) : (s.report x r).trcDrop = s.trcDrop := rfl
@[simp] theorem report_rcd (s : State) (x : Sat) (r : Report) : (s.report x r).rcd = s.rcd := rfl
@[simp] theorem report_upd (s : State) (x : Sat) (r : Report) : (s.report x r).upd = s.upd := rfl
@[simp] theorem report_flash (s : State) (x : Sat) (r : Report) : (s.report x r).flash = s.flash := rfl
@[simp] theorem report_mtr (s : State) (x : Sat) (r : Report) : (s.report x r).mtr = s.mtr := rfl
@[simp] theorem report_chain (s : State) (x : Sat) (r : Report) : (s.report x r).chain = s.chain := rfl
@[simp] theorem report_inbox (s : State) (x : Sat) (r : Report) : (s.report x r).inbox = s.inbox ++ [(s.now + 40, x, r)] := rfl
@[simp] theorem report_rd (s : State) (x : Sat) (r : Report) (z : Fld) : (s.report x r).rd z = s.rd z := rfl
@[simp] theorem report_on (s : State) (x : Sat) (r : Report) (z : Fld) : (s.report x r).on z = s.on z := rfl
@[simp] theorem report_live (s : State) (x : Sat) (r : Report) : (s.report x r).live = s.live := rfl
@[simp] theorem report_rgcOn (s : State) (x : Sat) (r : Report) : (s.report x r).rgcOn = s.rgcOn := rfl
@[simp] theorem report_frozenTime (s : State) (x : Sat) (r : Report) : (s.report x r).frozenTime = s.frozenTime := rfl
@[simp] theorem report_cyc (s : State) (x : Sat) (r : Report) : (s.report x r).cyc = s.cyc := rfl
@[simp] theorem report_window (s : State) (x : Sat) (r : Report) : (s.report x r).window = s.window := rfl
@[simp] theorem report_seamUp (s : State) (x : Sat) (r : Report) (z : Sat) : (s.report x r).seamUp z = s.seamUp z := rfl
@[simp] theorem report_fenced (s : State) (x : Sat) (r : Report) (z : Die) : (s.report x r).fenced z = s.fenced z := rfl
@[simp] theorem report_safeTier (s : State) (x : Sat) (r : Report) (z : Die) : (s.report x r).safeTier z = s.safeTier z := rfl
@[simp] theorem report_mode (s : State) (x : Sat) (r : Report) (z : Loop) : (s.report x r).mode z = s.mode z := rfl

@[simp] theorem modAdm_pending (s : State) (d : Die) (g : AdmDie → AdmDie) : (s.modAdm d g).pending = s.pending := rfl
@[simp] theorem modAdm_now (s : State) (d : Die) (g : AdmDie → AdmDie) : (s.modAdm d g).now = s.now := rfl
@[simp] theorem modAdm_strokeIdx (s : State) (d : Die) (g : AdmDie → AdmDie) : (s.modAdm d g).strokeIdx = s.strokeIdx := rfl
@[simp] theorem modAdm_windowIdx (s : State) (d : Die) (g : AdmDie → AdmDie) : (s.modAdm d g).windowIdx = s.windowIdx := rfl
@[simp] theorem modAdm_alignIdx (s : State) (d : Die) (g : AdmDie → AdmDie) : (s.modAdm d g).alignIdx = s.alignIdx := rfl
@[simp] theorem modAdm_phase (s : State) (d : Die) (g : AdmDie → AdmDie) : (s.modAdm d g).phase = s.phase := rfl
@[simp] theorem modAdm_frozen (s : State) (d : Die) (g : AdmDie → AdmDie) : (s.modAdm d g).frozen = s.frozen := rfl
@[simp] theorem modAdm_regs (s : State) (d : Die) (g : AdmDie → AdmDie) : (s.modAdm d g).regs = s.regs := rfl
@[simp] theorem modAdm_resetReq (s : State) (d : Die) (g : AdmDie → AdmDie) : (s.modAdm d g).resetReq = s.resetReq := rfl
@[simp] theorem modAdm_raised (s : State) (d : Die) (g : AdmDie → AdmDie) : (s.modAdm d g).raised = s.raised := rfl
@[simp] theorem modAdm_out (s : State) (d : Die) (g : AdmDie → AdmDie) : (s.modAdm d g).out = s.out := rfl
@[simp] theorem modAdm_freeCtr (s : State) (d : Die) (g : AdmDie → AdmDie) : (s.modAdm d g).freeCtr = s.freeCtr := rfl
@[simp] theorem modAdm_inbox (s : State) (d : Die) (g : AdmDie → AdmDie) : (s.modAdm d g).inbox = s.inbox := rfl
@[simp] theorem modAdm_bus (s : State) (d : Die) (g : AdmDie → AdmDie) : (s.modAdm d g).bus = s.bus := rfl
@[simp] theorem modAdm_gov (s : State) (d : Die) (g : AdmDie → AdmDie) : (s.modAdm d g).gov = s.gov := rfl
@[simp] theorem modAdm_govDie (s : State) (d : Die) (g : AdmDie → AdmDie) : (s.modAdm d g).govDie = s.govDie := rfl
@[simp] theorem modAdm_rail (s : State) (d : Die) (g : AdmDie → AdmDie) : (s.modAdm d g).rail = s.rail := rfl
@[simp] theorem modAdm_rptIo (s : State) (d : Die) (g : AdmDie → AdmDie) : (s.modAdm d g).rptIo = s.rptIo := rfl
@[simp] theorem modAdm_lastIo (s : State) (d : Die) (g : AdmDie → AdmDie) : (s.modAdm d g).lastIo = s.lastIo := rfl
@[simp] theorem modAdm_clk (s : State) (d : Die) (g : AdmDie → AdmDie) : (s.modAdm d g).clk = s.clk := rfl
@[simp] theorem modAdm_clkDie (s : State) (d : Die) (g : AdmDie → AdmDie) : (s.modAdm d g).clkDie = s.clkDie := rfl
@[simp] theorem modAdm_hold (s : State) (d : Die) (g : AdmDie → AdmDie) : (s.modAdm d g).hold = s.hold := rfl
@[simp] theorem modAdm_rgc (s : State) (d : Die) (g : AdmDie → AdmDie) : (s.modAdm d g).rgc = s.rgc := rfl
@[simp] theorem modAdm_loop (s : State) (d : Die) (g : AdmDie → AdmDie) : (s.modAdm d g).loop = s.loop := rfl
@[simp] theorem modAdm_vsetTx (s : State) (d : Die) (g : AdmDie → AdmDie) : (s.modAdm d g).vsetTx = s.vsetTx := rfl
@[simp] theorem modAdm_satSeq (s : State) (d : Die) (g : AdmDie → AdmDie) : (s.modAdm d g).satSeq = s.satSeq := rfl
@[simp] theorem modAdm_vcl (s : State) (d : Die) (g : AdmDie → AdmDie) : (s.modAdm d g).vcl = s.vcl := rfl
@[simp] theorem modAdm_once (s : State) (d : Die) (g : AdmDie → AdmDie) : (s.modAdm d g).once = s.once := rfl
@[simp] theorem modAdm_thm (s : State) (d : Die) (g : AdmDie → AdmDie) : (s.modAdm d g).thm = s.thm := rfl
@[simp] theorem modAdm_thmDie (s : State) (d : Die) (g : AdmDie → AdmDie) : (s.modAdm d g).thmDie = s.thmDie := rfl
@[simp] theorem modAdm_trip (s : State) (d : Die) (g : AdmDie → AdmDie) : (s.modAdm d g).trip = s.trip := rfl
@[simp] theorem modAdm_sen (s : State) (d : Die) (g : AdmDie → AdmDie) : (s.modAdm d g).sen = s.sen := rfl
@[simp] theorem modAdm_libStored (s : State) (d : Die) (g : AdmDie → AdmDie) : (s.modAdm d g).libStored = s.libStored := rfl
@[simp] theorem modAdm_lk (s : State) (d : Die) (g : AdmDie → AdmDie) : (s.modAdm d g).lk = s.lk := rfl
@[simp] theorem modAdm_cas (s : State) (d : Die) (g : AdmDie → AdmDie) : (s.modAdm d g).cas = s.cas := rfl
@[simp] theorem modAdm_frozenNs (s : State) (d : Die) (g : AdmDie → AdmDie) : (s.modAdm d g).frozenNs = s.frozenNs := rfl
@[simp] theorem modAdm_frozeAt (s : State) (d : Die) (g : AdmDie → AdmDie) : (s.modAdm d g).frozeAt = s.frozeAt := rfl
@[simp] theorem modAdm_queue (s : State) (d : Die) (g : AdmDie → AdmDie) : (s.modAdm d g).queue = s.queue := rfl
@[simp] theorem modAdm_lastStart (s : State) (d : Die) (g : AdmDie → AdmDie) : (s.modAdm d g).lastStart = s.lastStart := rfl
@[simp] theorem modAdm_nextPoll (s : State) (d : Die) (g : AdmDie → AdmDie) : (s.modAdm d g).nextPoll = s.nextPoll := rfl
@[simp] theorem modAdm_mgt (s : State) (d : Die) (g : AdmDie → AdmDie) : (s.modAdm d g).mgt = s.mgt := rfl
@[simp] theorem modAdm_fuses (s : State) (d : Die) (g : AdmDie → AdmDie) : (s.modAdm d g).fuses = s.fuses := rfl
@[simp] theorem modAdm_siteFuse (s : State) (d : Die) (g : AdmDie → AdmDie) : (s.modAdm d g).siteFuse = s.siteFuse := rfl
@[simp] theorem modAdm_tripTrim (s : State) (d : Die) (g : AdmDie → AdmDie) : (s.modAdm d g).tripTrim = s.tripTrim := rfl
@[simp] theorem modAdm_rings (s : State) (d : Die) (g : AdmDie → AdmDie) : (s.modAdm d g).rings = s.rings := rfl
@[simp] theorem modAdm_trcFifo (s : State) (d : Die) (g : AdmDie → AdmDie) : (s.modAdm d g).trcFifo = s.trcFifo := rfl
@[simp] theorem modAdm_trcDrop (s : State) (d : Die) (g : AdmDie → AdmDie) : (s.modAdm d g).trcDrop = s.trcDrop := rfl
@[simp] theorem modAdm_rcd (s : State) (d : Die) (g : AdmDie → AdmDie) : (s.modAdm d g).rcd = s.rcd := rfl
@[simp] theorem modAdm_upd (s : State) (d : Die) (g : AdmDie → AdmDie) : (s.modAdm d g).upd = s.upd := rfl
@[simp] theorem modAdm_flash (s : State) (d : Die) (g : AdmDie → AdmDie) : (s.modAdm d g).flash = s.flash := rfl
@[simp] theorem modAdm_mtr (s : State) (d : Die) (g : AdmDie → AdmDie) : (s.modAdm d g).mtr = s.mtr := rfl
@[simp] theorem modAdm_chain (s : State) (d : Die) (g : AdmDie → AdmDie) : (s.modAdm d g).chain = s.chain := rfl
@[simp] theorem modAdm_seam (s : State) (d : Die) (g : AdmDie → AdmDie) : (s.modAdm d g).seam = s.seam := rfl
@[simp] theorem modAdm_adm (s : State) (d : Die) (g : AdmDie → AdmDie) : (s.modAdm d g).adm = s.adm.set d (g s.adm[d]) := rfl
@[simp] theorem modAdm_rd (s : State) (d : Die) (g : AdmDie → AdmDie) (z : Fld) : (s.modAdm d g).rd z = s.rd z := rfl
@[simp] theorem modAdm_on (s : State) (d : Die) (g : AdmDie → AdmDie) (z : Fld) : (s.modAdm d g).on z = s.on z := rfl
@[simp] theorem modAdm_live (s : State) (d : Die) (g : AdmDie → AdmDie) : (s.modAdm d g).live = s.live := rfl
@[simp] theorem modAdm_rgcOn (s : State) (d : Die) (g : AdmDie → AdmDie) : (s.modAdm d g).rgcOn = s.rgcOn := rfl
@[simp] theorem modAdm_frozenTime (s : State) (d : Die) (g : AdmDie → AdmDie) : (s.modAdm d g).frozenTime = s.frozenTime := rfl
@[simp] theorem modAdm_cyc (s : State) (d : Die) (g : AdmDie → AdmDie) : (s.modAdm d g).cyc = s.cyc := rfl
@[simp] theorem modAdm_window (s : State) (d : Die) (g : AdmDie → AdmDie) : (s.modAdm d g).window = s.window := rfl
@[simp] theorem modAdm_seamUp (s : State) (d : Die) (g : AdmDie → AdmDie) (z : Sat) : (s.modAdm d g).seamUp z = s.seamUp z := rfl
@[simp] theorem modAdm_fenced (s : State) (d : Die) (g : AdmDie → AdmDie) (z : Die) : (s.modAdm d g).fenced z = s.fenced z := rfl
@[simp] theorem modAdm_safeTier (s : State) (d : Die) (g : AdmDie → AdmDie) (z : Die) : (s.modAdm d g).safeTier z = s.safeTier z := rfl
@[simp] theorem modAdm_mode (s : State) (d : Die) (g : AdmDie → AdmDie) (z : Loop) : (s.modAdm d g).mode z = s.mode z := rfl

@[simp] theorem modClk_pending (s : State) (d : Die) (g : ClkDie → ClkDie) : (s.modClk d g).pending = s.pending := rfl
@[simp] theorem modClk_now (s : State) (d : Die) (g : ClkDie → ClkDie) : (s.modClk d g).now = s.now := rfl
@[simp] theorem modClk_strokeIdx (s : State) (d : Die) (g : ClkDie → ClkDie) : (s.modClk d g).strokeIdx = s.strokeIdx := rfl
@[simp] theorem modClk_windowIdx (s : State) (d : Die) (g : ClkDie → ClkDie) : (s.modClk d g).windowIdx = s.windowIdx := rfl
@[simp] theorem modClk_alignIdx (s : State) (d : Die) (g : ClkDie → ClkDie) : (s.modClk d g).alignIdx = s.alignIdx := rfl
@[simp] theorem modClk_phase (s : State) (d : Die) (g : ClkDie → ClkDie) : (s.modClk d g).phase = s.phase := rfl
@[simp] theorem modClk_frozen (s : State) (d : Die) (g : ClkDie → ClkDie) : (s.modClk d g).frozen = s.frozen := rfl
@[simp] theorem modClk_regs (s : State) (d : Die) (g : ClkDie → ClkDie) : (s.modClk d g).regs = s.regs := rfl
@[simp] theorem modClk_resetReq (s : State) (d : Die) (g : ClkDie → ClkDie) : (s.modClk d g).resetReq = s.resetReq := rfl
@[simp] theorem modClk_raised (s : State) (d : Die) (g : ClkDie → ClkDie) : (s.modClk d g).raised = s.raised := rfl
@[simp] theorem modClk_out (s : State) (d : Die) (g : ClkDie → ClkDie) : (s.modClk d g).out = s.out := rfl
@[simp] theorem modClk_freeCtr (s : State) (d : Die) (g : ClkDie → ClkDie) : (s.modClk d g).freeCtr = s.freeCtr := rfl
@[simp] theorem modClk_adm (s : State) (d : Die) (g : ClkDie → ClkDie) : (s.modClk d g).adm = s.adm := rfl
@[simp] theorem modClk_inbox (s : State) (d : Die) (g : ClkDie → ClkDie) : (s.modClk d g).inbox = s.inbox := rfl
@[simp] theorem modClk_bus (s : State) (d : Die) (g : ClkDie → ClkDie) : (s.modClk d g).bus = s.bus := rfl
@[simp] theorem modClk_gov (s : State) (d : Die) (g : ClkDie → ClkDie) : (s.modClk d g).gov = s.gov := rfl
@[simp] theorem modClk_govDie (s : State) (d : Die) (g : ClkDie → ClkDie) : (s.modClk d g).govDie = s.govDie := rfl
@[simp] theorem modClk_rail (s : State) (d : Die) (g : ClkDie → ClkDie) : (s.modClk d g).rail = s.rail := rfl
@[simp] theorem modClk_rptIo (s : State) (d : Die) (g : ClkDie → ClkDie) : (s.modClk d g).rptIo = s.rptIo := rfl
@[simp] theorem modClk_lastIo (s : State) (d : Die) (g : ClkDie → ClkDie) : (s.modClk d g).lastIo = s.lastIo := rfl
@[simp] theorem modClk_clk (s : State) (d : Die) (g : ClkDie → ClkDie) : (s.modClk d g).clk = s.clk := rfl
@[simp] theorem modClk_hold (s : State) (d : Die) (g : ClkDie → ClkDie) : (s.modClk d g).hold = s.hold := rfl
@[simp] theorem modClk_rgc (s : State) (d : Die) (g : ClkDie → ClkDie) : (s.modClk d g).rgc = s.rgc := rfl
@[simp] theorem modClk_loop (s : State) (d : Die) (g : ClkDie → ClkDie) : (s.modClk d g).loop = s.loop := rfl
@[simp] theorem modClk_vsetTx (s : State) (d : Die) (g : ClkDie → ClkDie) : (s.modClk d g).vsetTx = s.vsetTx := rfl
@[simp] theorem modClk_satSeq (s : State) (d : Die) (g : ClkDie → ClkDie) : (s.modClk d g).satSeq = s.satSeq := rfl
@[simp] theorem modClk_vcl (s : State) (d : Die) (g : ClkDie → ClkDie) : (s.modClk d g).vcl = s.vcl := rfl
@[simp] theorem modClk_once (s : State) (d : Die) (g : ClkDie → ClkDie) : (s.modClk d g).once = s.once := rfl
@[simp] theorem modClk_thm (s : State) (d : Die) (g : ClkDie → ClkDie) : (s.modClk d g).thm = s.thm := rfl
@[simp] theorem modClk_thmDie (s : State) (d : Die) (g : ClkDie → ClkDie) : (s.modClk d g).thmDie = s.thmDie := rfl
@[simp] theorem modClk_trip (s : State) (d : Die) (g : ClkDie → ClkDie) : (s.modClk d g).trip = s.trip := rfl
@[simp] theorem modClk_sen (s : State) (d : Die) (g : ClkDie → ClkDie) : (s.modClk d g).sen = s.sen := rfl
@[simp] theorem modClk_libStored (s : State) (d : Die) (g : ClkDie → ClkDie) : (s.modClk d g).libStored = s.libStored := rfl
@[simp] theorem modClk_lk (s : State) (d : Die) (g : ClkDie → ClkDie) : (s.modClk d g).lk = s.lk := rfl
@[simp] theorem modClk_cas (s : State) (d : Die) (g : ClkDie → ClkDie) : (s.modClk d g).cas = s.cas := rfl
@[simp] theorem modClk_frozenNs (s : State) (d : Die) (g : ClkDie → ClkDie) : (s.modClk d g).frozenNs = s.frozenNs := rfl
@[simp] theorem modClk_frozeAt (s : State) (d : Die) (g : ClkDie → ClkDie) : (s.modClk d g).frozeAt = s.frozeAt := rfl
@[simp] theorem modClk_queue (s : State) (d : Die) (g : ClkDie → ClkDie) : (s.modClk d g).queue = s.queue := rfl
@[simp] theorem modClk_lastStart (s : State) (d : Die) (g : ClkDie → ClkDie) : (s.modClk d g).lastStart = s.lastStart := rfl
@[simp] theorem modClk_nextPoll (s : State) (d : Die) (g : ClkDie → ClkDie) : (s.modClk d g).nextPoll = s.nextPoll := rfl
@[simp] theorem modClk_mgt (s : State) (d : Die) (g : ClkDie → ClkDie) : (s.modClk d g).mgt = s.mgt := rfl
@[simp] theorem modClk_fuses (s : State) (d : Die) (g : ClkDie → ClkDie) : (s.modClk d g).fuses = s.fuses := rfl
@[simp] theorem modClk_siteFuse (s : State) (d : Die) (g : ClkDie → ClkDie) : (s.modClk d g).siteFuse = s.siteFuse := rfl
@[simp] theorem modClk_tripTrim (s : State) (d : Die) (g : ClkDie → ClkDie) : (s.modClk d g).tripTrim = s.tripTrim := rfl
@[simp] theorem modClk_rings (s : State) (d : Die) (g : ClkDie → ClkDie) : (s.modClk d g).rings = s.rings := rfl
@[simp] theorem modClk_trcFifo (s : State) (d : Die) (g : ClkDie → ClkDie) : (s.modClk d g).trcFifo = s.trcFifo := rfl
@[simp] theorem modClk_trcDrop (s : State) (d : Die) (g : ClkDie → ClkDie) : (s.modClk d g).trcDrop = s.trcDrop := rfl
@[simp] theorem modClk_rcd (s : State) (d : Die) (g : ClkDie → ClkDie) : (s.modClk d g).rcd = s.rcd := rfl
@[simp] theorem modClk_upd (s : State) (d : Die) (g : ClkDie → ClkDie) : (s.modClk d g).upd = s.upd := rfl
@[simp] theorem modClk_flash (s : State) (d : Die) (g : ClkDie → ClkDie) : (s.modClk d g).flash = s.flash := rfl
@[simp] theorem modClk_mtr (s : State) (d : Die) (g : ClkDie → ClkDie) : (s.modClk d g).mtr = s.mtr := rfl
@[simp] theorem modClk_chain (s : State) (d : Die) (g : ClkDie → ClkDie) : (s.modClk d g).chain = s.chain := rfl
@[simp] theorem modClk_seam (s : State) (d : Die) (g : ClkDie → ClkDie) : (s.modClk d g).seam = s.seam := rfl
@[simp] theorem modClk_clkDie (s : State) (d : Die) (g : ClkDie → ClkDie) : (s.modClk d g).clkDie = s.clkDie.set d (g s.clkDie[d]) := rfl
@[simp] theorem modClk_rd (s : State) (d : Die) (g : ClkDie → ClkDie) (z : Fld) : (s.modClk d g).rd z = s.rd z := rfl
@[simp] theorem modClk_on (s : State) (d : Die) (g : ClkDie → ClkDie) (z : Fld) : (s.modClk d g).on z = s.on z := rfl
@[simp] theorem modClk_live (s : State) (d : Die) (g : ClkDie → ClkDie) : (s.modClk d g).live = s.live := rfl
@[simp] theorem modClk_rgcOn (s : State) (d : Die) (g : ClkDie → ClkDie) : (s.modClk d g).rgcOn = s.rgcOn := rfl
@[simp] theorem modClk_frozenTime (s : State) (d : Die) (g : ClkDie → ClkDie) : (s.modClk d g).frozenTime = s.frozenTime := rfl
@[simp] theorem modClk_cyc (s : State) (d : Die) (g : ClkDie → ClkDie) : (s.modClk d g).cyc = s.cyc := rfl
@[simp] theorem modClk_window (s : State) (d : Die) (g : ClkDie → ClkDie) : (s.modClk d g).window = s.window := rfl
@[simp] theorem modClk_seamUp (s : State) (d : Die) (g : ClkDie → ClkDie) (z : Sat) : (s.modClk d g).seamUp z = s.seamUp z := rfl
@[simp] theorem modClk_fenced (s : State) (d : Die) (g : ClkDie → ClkDie) (z : Die) : (s.modClk d g).fenced z = s.fenced z := rfl
@[simp] theorem modClk_safeTier (s : State) (d : Die) (g : ClkDie → ClkDie) (z : Die) : (s.modClk d g).safeTier z = s.safeTier z := rfl
@[simp] theorem modClk_mode (s : State) (d : Die) (g : ClkDie → ClkDie) (z : Loop) : (s.modClk d g).mode z = s.mode z := rfl

@[simp] theorem modHold_pending (s : State) (d : Die) (g : HoldSt → HoldSt) : (s.modHold d g).pending = s.pending := rfl
@[simp] theorem modHold_now (s : State) (d : Die) (g : HoldSt → HoldSt) : (s.modHold d g).now = s.now := rfl
@[simp] theorem modHold_strokeIdx (s : State) (d : Die) (g : HoldSt → HoldSt) : (s.modHold d g).strokeIdx = s.strokeIdx := rfl
@[simp] theorem modHold_windowIdx (s : State) (d : Die) (g : HoldSt → HoldSt) : (s.modHold d g).windowIdx = s.windowIdx := rfl
@[simp] theorem modHold_alignIdx (s : State) (d : Die) (g : HoldSt → HoldSt) : (s.modHold d g).alignIdx = s.alignIdx := rfl
@[simp] theorem modHold_phase (s : State) (d : Die) (g : HoldSt → HoldSt) : (s.modHold d g).phase = s.phase := rfl
@[simp] theorem modHold_frozen (s : State) (d : Die) (g : HoldSt → HoldSt) : (s.modHold d g).frozen = s.frozen := rfl
@[simp] theorem modHold_regs (s : State) (d : Die) (g : HoldSt → HoldSt) : (s.modHold d g).regs = s.regs := rfl
@[simp] theorem modHold_resetReq (s : State) (d : Die) (g : HoldSt → HoldSt) : (s.modHold d g).resetReq = s.resetReq := rfl
@[simp] theorem modHold_raised (s : State) (d : Die) (g : HoldSt → HoldSt) : (s.modHold d g).raised = s.raised := rfl
@[simp] theorem modHold_out (s : State) (d : Die) (g : HoldSt → HoldSt) : (s.modHold d g).out = s.out := rfl
@[simp] theorem modHold_freeCtr (s : State) (d : Die) (g : HoldSt → HoldSt) : (s.modHold d g).freeCtr = s.freeCtr := rfl
@[simp] theorem modHold_adm (s : State) (d : Die) (g : HoldSt → HoldSt) : (s.modHold d g).adm = s.adm := rfl
@[simp] theorem modHold_inbox (s : State) (d : Die) (g : HoldSt → HoldSt) : (s.modHold d g).inbox = s.inbox := rfl
@[simp] theorem modHold_bus (s : State) (d : Die) (g : HoldSt → HoldSt) : (s.modHold d g).bus = s.bus := rfl
@[simp] theorem modHold_gov (s : State) (d : Die) (g : HoldSt → HoldSt) : (s.modHold d g).gov = s.gov := rfl
@[simp] theorem modHold_govDie (s : State) (d : Die) (g : HoldSt → HoldSt) : (s.modHold d g).govDie = s.govDie := rfl
@[simp] theorem modHold_rail (s : State) (d : Die) (g : HoldSt → HoldSt) : (s.modHold d g).rail = s.rail := rfl
@[simp] theorem modHold_rptIo (s : State) (d : Die) (g : HoldSt → HoldSt) : (s.modHold d g).rptIo = s.rptIo := rfl
@[simp] theorem modHold_lastIo (s : State) (d : Die) (g : HoldSt → HoldSt) : (s.modHold d g).lastIo = s.lastIo := rfl
@[simp] theorem modHold_clk (s : State) (d : Die) (g : HoldSt → HoldSt) : (s.modHold d g).clk = s.clk := rfl
@[simp] theorem modHold_clkDie (s : State) (d : Die) (g : HoldSt → HoldSt) : (s.modHold d g).clkDie = s.clkDie := rfl
@[simp] theorem modHold_rgc (s : State) (d : Die) (g : HoldSt → HoldSt) : (s.modHold d g).rgc = s.rgc := rfl
@[simp] theorem modHold_loop (s : State) (d : Die) (g : HoldSt → HoldSt) : (s.modHold d g).loop = s.loop := rfl
@[simp] theorem modHold_vsetTx (s : State) (d : Die) (g : HoldSt → HoldSt) : (s.modHold d g).vsetTx = s.vsetTx := rfl
@[simp] theorem modHold_satSeq (s : State) (d : Die) (g : HoldSt → HoldSt) : (s.modHold d g).satSeq = s.satSeq := rfl
@[simp] theorem modHold_vcl (s : State) (d : Die) (g : HoldSt → HoldSt) : (s.modHold d g).vcl = s.vcl := rfl
@[simp] theorem modHold_once (s : State) (d : Die) (g : HoldSt → HoldSt) : (s.modHold d g).once = s.once := rfl
@[simp] theorem modHold_thm (s : State) (d : Die) (g : HoldSt → HoldSt) : (s.modHold d g).thm = s.thm := rfl
@[simp] theorem modHold_thmDie (s : State) (d : Die) (g : HoldSt → HoldSt) : (s.modHold d g).thmDie = s.thmDie := rfl
@[simp] theorem modHold_trip (s : State) (d : Die) (g : HoldSt → HoldSt) : (s.modHold d g).trip = s.trip := rfl
@[simp] theorem modHold_sen (s : State) (d : Die) (g : HoldSt → HoldSt) : (s.modHold d g).sen = s.sen := rfl
@[simp] theorem modHold_libStored (s : State) (d : Die) (g : HoldSt → HoldSt) : (s.modHold d g).libStored = s.libStored := rfl
@[simp] theorem modHold_lk (s : State) (d : Die) (g : HoldSt → HoldSt) : (s.modHold d g).lk = s.lk := rfl
@[simp] theorem modHold_cas (s : State) (d : Die) (g : HoldSt → HoldSt) : (s.modHold d g).cas = s.cas := rfl
@[simp] theorem modHold_frozenNs (s : State) (d : Die) (g : HoldSt → HoldSt) : (s.modHold d g).frozenNs = s.frozenNs := rfl
@[simp] theorem modHold_frozeAt (s : State) (d : Die) (g : HoldSt → HoldSt) : (s.modHold d g).frozeAt = s.frozeAt := rfl
@[simp] theorem modHold_queue (s : State) (d : Die) (g : HoldSt → HoldSt) : (s.modHold d g).queue = s.queue := rfl
@[simp] theorem modHold_lastStart (s : State) (d : Die) (g : HoldSt → HoldSt) : (s.modHold d g).lastStart = s.lastStart := rfl
@[simp] theorem modHold_nextPoll (s : State) (d : Die) (g : HoldSt → HoldSt) : (s.modHold d g).nextPoll = s.nextPoll := rfl
@[simp] theorem modHold_mgt (s : State) (d : Die) (g : HoldSt → HoldSt) : (s.modHold d g).mgt = s.mgt := rfl
@[simp] theorem modHold_fuses (s : State) (d : Die) (g : HoldSt → HoldSt) : (s.modHold d g).fuses = s.fuses := rfl
@[simp] theorem modHold_siteFuse (s : State) (d : Die) (g : HoldSt → HoldSt) : (s.modHold d g).siteFuse = s.siteFuse := rfl
@[simp] theorem modHold_tripTrim (s : State) (d : Die) (g : HoldSt → HoldSt) : (s.modHold d g).tripTrim = s.tripTrim := rfl
@[simp] theorem modHold_rings (s : State) (d : Die) (g : HoldSt → HoldSt) : (s.modHold d g).rings = s.rings := rfl
@[simp] theorem modHold_trcFifo (s : State) (d : Die) (g : HoldSt → HoldSt) : (s.modHold d g).trcFifo = s.trcFifo := rfl
@[simp] theorem modHold_trcDrop (s : State) (d : Die) (g : HoldSt → HoldSt) : (s.modHold d g).trcDrop = s.trcDrop := rfl
@[simp] theorem modHold_rcd (s : State) (d : Die) (g : HoldSt → HoldSt) : (s.modHold d g).rcd = s.rcd := rfl
@[simp] theorem modHold_upd (s : State) (d : Die) (g : HoldSt → HoldSt) : (s.modHold d g).upd = s.upd := rfl
@[simp] theorem modHold_flash (s : State) (d : Die) (g : HoldSt → HoldSt) : (s.modHold d g).flash = s.flash := rfl
@[simp] theorem modHold_mtr (s : State) (d : Die) (g : HoldSt → HoldSt) : (s.modHold d g).mtr = s.mtr := rfl
@[simp] theorem modHold_chain (s : State) (d : Die) (g : HoldSt → HoldSt) : (s.modHold d g).chain = s.chain := rfl
@[simp] theorem modHold_seam (s : State) (d : Die) (g : HoldSt → HoldSt) : (s.modHold d g).seam = s.seam := rfl
@[simp] theorem modHold_hold (s : State) (d : Die) (g : HoldSt → HoldSt) : (s.modHold d g).hold = s.hold.set d (g s.hold[d]) := rfl
@[simp] theorem modHold_rd (s : State) (d : Die) (g : HoldSt → HoldSt) (z : Fld) : (s.modHold d g).rd z = s.rd z := rfl
@[simp] theorem modHold_on (s : State) (d : Die) (g : HoldSt → HoldSt) (z : Fld) : (s.modHold d g).on z = s.on z := rfl
@[simp] theorem modHold_live (s : State) (d : Die) (g : HoldSt → HoldSt) : (s.modHold d g).live = s.live := rfl
@[simp] theorem modHold_rgcOn (s : State) (d : Die) (g : HoldSt → HoldSt) : (s.modHold d g).rgcOn = s.rgcOn := rfl
@[simp] theorem modHold_frozenTime (s : State) (d : Die) (g : HoldSt → HoldSt) : (s.modHold d g).frozenTime = s.frozenTime := rfl
@[simp] theorem modHold_cyc (s : State) (d : Die) (g : HoldSt → HoldSt) : (s.modHold d g).cyc = s.cyc := rfl
@[simp] theorem modHold_window (s : State) (d : Die) (g : HoldSt → HoldSt) : (s.modHold d g).window = s.window := rfl
@[simp] theorem modHold_seamUp (s : State) (d : Die) (g : HoldSt → HoldSt) (z : Sat) : (s.modHold d g).seamUp z = s.seamUp z := rfl
@[simp] theorem modHold_fenced (s : State) (d : Die) (g : HoldSt → HoldSt) (z : Die) : (s.modHold d g).fenced z = s.fenced z := rfl
@[simp] theorem modHold_safeTier (s : State) (d : Die) (g : HoldSt → HoldSt) (z : Die) : (s.modHold d g).safeTier z = s.safeTier z := rfl
@[simp] theorem modHold_mode (s : State) (d : Die) (g : HoldSt → HoldSt) (z : Loop) : (s.modHold d g).mode z = s.mode z := rfl

@[simp] theorem modLoop_pending (s : State) (l : Loop) (g : LoopSt → LoopSt) : (s.modLoop l g).pending = s.pending := rfl
@[simp] theorem modLoop_now (s : State) (l : Loop) (g : LoopSt → LoopSt) : (s.modLoop l g).now = s.now := rfl
@[simp] theorem modLoop_strokeIdx (s : State) (l : Loop) (g : LoopSt → LoopSt) : (s.modLoop l g).strokeIdx = s.strokeIdx := rfl
@[simp] theorem modLoop_windowIdx (s : State) (l : Loop) (g : LoopSt → LoopSt) : (s.modLoop l g).windowIdx = s.windowIdx := rfl
@[simp] theorem modLoop_alignIdx (s : State) (l : Loop) (g : LoopSt → LoopSt) : (s.modLoop l g).alignIdx = s.alignIdx := rfl
@[simp] theorem modLoop_phase (s : State) (l : Loop) (g : LoopSt → LoopSt) : (s.modLoop l g).phase = s.phase := rfl
@[simp] theorem modLoop_frozen (s : State) (l : Loop) (g : LoopSt → LoopSt) : (s.modLoop l g).frozen = s.frozen := rfl
@[simp] theorem modLoop_regs (s : State) (l : Loop) (g : LoopSt → LoopSt) : (s.modLoop l g).regs = s.regs := rfl
@[simp] theorem modLoop_resetReq (s : State) (l : Loop) (g : LoopSt → LoopSt) : (s.modLoop l g).resetReq = s.resetReq := rfl
@[simp] theorem modLoop_raised (s : State) (l : Loop) (g : LoopSt → LoopSt) : (s.modLoop l g).raised = s.raised := rfl
@[simp] theorem modLoop_out (s : State) (l : Loop) (g : LoopSt → LoopSt) : (s.modLoop l g).out = s.out := rfl
@[simp] theorem modLoop_freeCtr (s : State) (l : Loop) (g : LoopSt → LoopSt) : (s.modLoop l g).freeCtr = s.freeCtr := rfl
@[simp] theorem modLoop_adm (s : State) (l : Loop) (g : LoopSt → LoopSt) : (s.modLoop l g).adm = s.adm := rfl
@[simp] theorem modLoop_inbox (s : State) (l : Loop) (g : LoopSt → LoopSt) : (s.modLoop l g).inbox = s.inbox := rfl
@[simp] theorem modLoop_bus (s : State) (l : Loop) (g : LoopSt → LoopSt) : (s.modLoop l g).bus = s.bus := rfl
@[simp] theorem modLoop_gov (s : State) (l : Loop) (g : LoopSt → LoopSt) : (s.modLoop l g).gov = s.gov := rfl
@[simp] theorem modLoop_govDie (s : State) (l : Loop) (g : LoopSt → LoopSt) : (s.modLoop l g).govDie = s.govDie := rfl
@[simp] theorem modLoop_rail (s : State) (l : Loop) (g : LoopSt → LoopSt) : (s.modLoop l g).rail = s.rail := rfl
@[simp] theorem modLoop_rptIo (s : State) (l : Loop) (g : LoopSt → LoopSt) : (s.modLoop l g).rptIo = s.rptIo := rfl
@[simp] theorem modLoop_lastIo (s : State) (l : Loop) (g : LoopSt → LoopSt) : (s.modLoop l g).lastIo = s.lastIo := rfl
@[simp] theorem modLoop_clk (s : State) (l : Loop) (g : LoopSt → LoopSt) : (s.modLoop l g).clk = s.clk := rfl
@[simp] theorem modLoop_clkDie (s : State) (l : Loop) (g : LoopSt → LoopSt) : (s.modLoop l g).clkDie = s.clkDie := rfl
@[simp] theorem modLoop_hold (s : State) (l : Loop) (g : LoopSt → LoopSt) : (s.modLoop l g).hold = s.hold := rfl
@[simp] theorem modLoop_rgc (s : State) (l : Loop) (g : LoopSt → LoopSt) : (s.modLoop l g).rgc = s.rgc := rfl
@[simp] theorem modLoop_vsetTx (s : State) (l : Loop) (g : LoopSt → LoopSt) : (s.modLoop l g).vsetTx = s.vsetTx := rfl
@[simp] theorem modLoop_satSeq (s : State) (l : Loop) (g : LoopSt → LoopSt) : (s.modLoop l g).satSeq = s.satSeq := rfl
@[simp] theorem modLoop_vcl (s : State) (l : Loop) (g : LoopSt → LoopSt) : (s.modLoop l g).vcl = s.vcl := rfl
@[simp] theorem modLoop_once (s : State) (l : Loop) (g : LoopSt → LoopSt) : (s.modLoop l g).once = s.once := rfl
@[simp] theorem modLoop_thm (s : State) (l : Loop) (g : LoopSt → LoopSt) : (s.modLoop l g).thm = s.thm := rfl
@[simp] theorem modLoop_thmDie (s : State) (l : Loop) (g : LoopSt → LoopSt) : (s.modLoop l g).thmDie = s.thmDie := rfl
@[simp] theorem modLoop_trip (s : State) (l : Loop) (g : LoopSt → LoopSt) : (s.modLoop l g).trip = s.trip := rfl
@[simp] theorem modLoop_sen (s : State) (l : Loop) (g : LoopSt → LoopSt) : (s.modLoop l g).sen = s.sen := rfl
@[simp] theorem modLoop_libStored (s : State) (l : Loop) (g : LoopSt → LoopSt) : (s.modLoop l g).libStored = s.libStored := rfl
@[simp] theorem modLoop_lk (s : State) (l : Loop) (g : LoopSt → LoopSt) : (s.modLoop l g).lk = s.lk := rfl
@[simp] theorem modLoop_cas (s : State) (l : Loop) (g : LoopSt → LoopSt) : (s.modLoop l g).cas = s.cas := rfl
@[simp] theorem modLoop_frozenNs (s : State) (l : Loop) (g : LoopSt → LoopSt) : (s.modLoop l g).frozenNs = s.frozenNs := rfl
@[simp] theorem modLoop_frozeAt (s : State) (l : Loop) (g : LoopSt → LoopSt) : (s.modLoop l g).frozeAt = s.frozeAt := rfl
@[simp] theorem modLoop_queue (s : State) (l : Loop) (g : LoopSt → LoopSt) : (s.modLoop l g).queue = s.queue := rfl
@[simp] theorem modLoop_lastStart (s : State) (l : Loop) (g : LoopSt → LoopSt) : (s.modLoop l g).lastStart = s.lastStart := rfl
@[simp] theorem modLoop_nextPoll (s : State) (l : Loop) (g : LoopSt → LoopSt) : (s.modLoop l g).nextPoll = s.nextPoll := rfl
@[simp] theorem modLoop_mgt (s : State) (l : Loop) (g : LoopSt → LoopSt) : (s.modLoop l g).mgt = s.mgt := rfl
@[simp] theorem modLoop_fuses (s : State) (l : Loop) (g : LoopSt → LoopSt) : (s.modLoop l g).fuses = s.fuses := rfl
@[simp] theorem modLoop_siteFuse (s : State) (l : Loop) (g : LoopSt → LoopSt) : (s.modLoop l g).siteFuse = s.siteFuse := rfl
@[simp] theorem modLoop_tripTrim (s : State) (l : Loop) (g : LoopSt → LoopSt) : (s.modLoop l g).tripTrim = s.tripTrim := rfl
@[simp] theorem modLoop_rings (s : State) (l : Loop) (g : LoopSt → LoopSt) : (s.modLoop l g).rings = s.rings := rfl
@[simp] theorem modLoop_trcFifo (s : State) (l : Loop) (g : LoopSt → LoopSt) : (s.modLoop l g).trcFifo = s.trcFifo := rfl
@[simp] theorem modLoop_trcDrop (s : State) (l : Loop) (g : LoopSt → LoopSt) : (s.modLoop l g).trcDrop = s.trcDrop := rfl
@[simp] theorem modLoop_rcd (s : State) (l : Loop) (g : LoopSt → LoopSt) : (s.modLoop l g).rcd = s.rcd := rfl
@[simp] theorem modLoop_upd (s : State) (l : Loop) (g : LoopSt → LoopSt) : (s.modLoop l g).upd = s.upd := rfl
@[simp] theorem modLoop_flash (s : State) (l : Loop) (g : LoopSt → LoopSt) : (s.modLoop l g).flash = s.flash := rfl
@[simp] theorem modLoop_mtr (s : State) (l : Loop) (g : LoopSt → LoopSt) : (s.modLoop l g).mtr = s.mtr := rfl
@[simp] theorem modLoop_chain (s : State) (l : Loop) (g : LoopSt → LoopSt) : (s.modLoop l g).chain = s.chain := rfl
@[simp] theorem modLoop_seam (s : State) (l : Loop) (g : LoopSt → LoopSt) : (s.modLoop l g).seam = s.seam := rfl
@[simp] theorem modLoop_loop (s : State) (l : Loop) (g : LoopSt → LoopSt) : (s.modLoop l g).loop = s.loop.set l (g s.loop[l]) := rfl
@[simp] theorem modLoop_rd (s : State) (l : Loop) (g : LoopSt → LoopSt) (z : Fld) : (s.modLoop l g).rd z = s.rd z := rfl
@[simp] theorem modLoop_on (s : State) (l : Loop) (g : LoopSt → LoopSt) (z : Fld) : (s.modLoop l g).on z = s.on z := rfl
@[simp] theorem modLoop_live (s : State) (l : Loop) (g : LoopSt → LoopSt) : (s.modLoop l g).live = s.live := rfl
@[simp] theorem modLoop_rgcOn (s : State) (l : Loop) (g : LoopSt → LoopSt) : (s.modLoop l g).rgcOn = s.rgcOn := rfl
@[simp] theorem modLoop_frozenTime (s : State) (l : Loop) (g : LoopSt → LoopSt) : (s.modLoop l g).frozenTime = s.frozenTime := rfl
@[simp] theorem modLoop_cyc (s : State) (l : Loop) (g : LoopSt → LoopSt) : (s.modLoop l g).cyc = s.cyc := rfl
@[simp] theorem modLoop_window (s : State) (l : Loop) (g : LoopSt → LoopSt) : (s.modLoop l g).window = s.window := rfl
@[simp] theorem modLoop_seamUp (s : State) (l : Loop) (g : LoopSt → LoopSt) (z : Sat) : (s.modLoop l g).seamUp z = s.seamUp z := rfl
@[simp] theorem modLoop_fenced (s : State) (l : Loop) (g : LoopSt → LoopSt) (z : Die) : (s.modLoop l g).fenced z = s.fenced z := rfl
@[simp] theorem modLoop_safeTier (s : State) (l : Loop) (g : LoopSt → LoopSt) (z : Die) : (s.modLoop l g).safeTier z = s.safeTier z := rfl
@[simp] theorem modLoop_mode (s : State) (l : Loop) (g : LoopSt → LoopSt) (z : Loop) : (s.modLoop l g).mode z = s.mode z := rfl

@[simp] theorem modPhase_pending (s : State) (l : Loop) (p : Phase) (g : PhaseSt → PhaseSt) : (s.modPhase l p g).pending = s.pending := rfl
@[simp] theorem modPhase_now (s : State) (l : Loop) (p : Phase) (g : PhaseSt → PhaseSt) : (s.modPhase l p g).now = s.now := rfl
@[simp] theorem modPhase_strokeIdx (s : State) (l : Loop) (p : Phase) (g : PhaseSt → PhaseSt) : (s.modPhase l p g).strokeIdx = s.strokeIdx := rfl
@[simp] theorem modPhase_windowIdx (s : State) (l : Loop) (p : Phase) (g : PhaseSt → PhaseSt) : (s.modPhase l p g).windowIdx = s.windowIdx := rfl
@[simp] theorem modPhase_alignIdx (s : State) (l : Loop) (p : Phase) (g : PhaseSt → PhaseSt) : (s.modPhase l p g).alignIdx = s.alignIdx := rfl
@[simp] theorem modPhase_phase (s : State) (l : Loop) (p : Phase) (g : PhaseSt → PhaseSt) : (s.modPhase l p g).phase = s.phase := rfl
@[simp] theorem modPhase_frozen (s : State) (l : Loop) (p : Phase) (g : PhaseSt → PhaseSt) : (s.modPhase l p g).frozen = s.frozen := rfl
@[simp] theorem modPhase_regs (s : State) (l : Loop) (p : Phase) (g : PhaseSt → PhaseSt) : (s.modPhase l p g).regs = s.regs := rfl
@[simp] theorem modPhase_resetReq (s : State) (l : Loop) (p : Phase) (g : PhaseSt → PhaseSt) : (s.modPhase l p g).resetReq = s.resetReq := rfl
@[simp] theorem modPhase_raised (s : State) (l : Loop) (p : Phase) (g : PhaseSt → PhaseSt) : (s.modPhase l p g).raised = s.raised := rfl
@[simp] theorem modPhase_out (s : State) (l : Loop) (p : Phase) (g : PhaseSt → PhaseSt) : (s.modPhase l p g).out = s.out := rfl
@[simp] theorem modPhase_freeCtr (s : State) (l : Loop) (p : Phase) (g : PhaseSt → PhaseSt) : (s.modPhase l p g).freeCtr = s.freeCtr := rfl
@[simp] theorem modPhase_adm (s : State) (l : Loop) (p : Phase) (g : PhaseSt → PhaseSt) : (s.modPhase l p g).adm = s.adm := rfl
@[simp] theorem modPhase_inbox (s : State) (l : Loop) (p : Phase) (g : PhaseSt → PhaseSt) : (s.modPhase l p g).inbox = s.inbox := rfl
@[simp] theorem modPhase_bus (s : State) (l : Loop) (p : Phase) (g : PhaseSt → PhaseSt) : (s.modPhase l p g).bus = s.bus := rfl
@[simp] theorem modPhase_gov (s : State) (l : Loop) (p : Phase) (g : PhaseSt → PhaseSt) : (s.modPhase l p g).gov = s.gov := rfl
@[simp] theorem modPhase_govDie (s : State) (l : Loop) (p : Phase) (g : PhaseSt → PhaseSt) : (s.modPhase l p g).govDie = s.govDie := rfl
@[simp] theorem modPhase_rail (s : State) (l : Loop) (p : Phase) (g : PhaseSt → PhaseSt) : (s.modPhase l p g).rail = s.rail := rfl
@[simp] theorem modPhase_rptIo (s : State) (l : Loop) (p : Phase) (g : PhaseSt → PhaseSt) : (s.modPhase l p g).rptIo = s.rptIo := rfl
@[simp] theorem modPhase_lastIo (s : State) (l : Loop) (p : Phase) (g : PhaseSt → PhaseSt) : (s.modPhase l p g).lastIo = s.lastIo := rfl
@[simp] theorem modPhase_clk (s : State) (l : Loop) (p : Phase) (g : PhaseSt → PhaseSt) : (s.modPhase l p g).clk = s.clk := rfl
@[simp] theorem modPhase_clkDie (s : State) (l : Loop) (p : Phase) (g : PhaseSt → PhaseSt) : (s.modPhase l p g).clkDie = s.clkDie := rfl
@[simp] theorem modPhase_hold (s : State) (l : Loop) (p : Phase) (g : PhaseSt → PhaseSt) : (s.modPhase l p g).hold = s.hold := rfl
@[simp] theorem modPhase_rgc (s : State) (l : Loop) (p : Phase) (g : PhaseSt → PhaseSt) : (s.modPhase l p g).rgc = s.rgc := rfl
@[simp] theorem modPhase_vsetTx (s : State) (l : Loop) (p : Phase) (g : PhaseSt → PhaseSt) : (s.modPhase l p g).vsetTx = s.vsetTx := rfl
@[simp] theorem modPhase_satSeq (s : State) (l : Loop) (p : Phase) (g : PhaseSt → PhaseSt) : (s.modPhase l p g).satSeq = s.satSeq := rfl
@[simp] theorem modPhase_vcl (s : State) (l : Loop) (p : Phase) (g : PhaseSt → PhaseSt) : (s.modPhase l p g).vcl = s.vcl := rfl
@[simp] theorem modPhase_once (s : State) (l : Loop) (p : Phase) (g : PhaseSt → PhaseSt) : (s.modPhase l p g).once = s.once := rfl
@[simp] theorem modPhase_thm (s : State) (l : Loop) (p : Phase) (g : PhaseSt → PhaseSt) : (s.modPhase l p g).thm = s.thm := rfl
@[simp] theorem modPhase_thmDie (s : State) (l : Loop) (p : Phase) (g : PhaseSt → PhaseSt) : (s.modPhase l p g).thmDie = s.thmDie := rfl
@[simp] theorem modPhase_trip (s : State) (l : Loop) (p : Phase) (g : PhaseSt → PhaseSt) : (s.modPhase l p g).trip = s.trip := rfl
@[simp] theorem modPhase_sen (s : State) (l : Loop) (p : Phase) (g : PhaseSt → PhaseSt) : (s.modPhase l p g).sen = s.sen := rfl
@[simp] theorem modPhase_libStored (s : State) (l : Loop) (p : Phase) (g : PhaseSt → PhaseSt) : (s.modPhase l p g).libStored = s.libStored := rfl
@[simp] theorem modPhase_lk (s : State) (l : Loop) (p : Phase) (g : PhaseSt → PhaseSt) : (s.modPhase l p g).lk = s.lk := rfl
@[simp] theorem modPhase_cas (s : State) (l : Loop) (p : Phase) (g : PhaseSt → PhaseSt) : (s.modPhase l p g).cas = s.cas := rfl
@[simp] theorem modPhase_frozenNs (s : State) (l : Loop) (p : Phase) (g : PhaseSt → PhaseSt) : (s.modPhase l p g).frozenNs = s.frozenNs := rfl
@[simp] theorem modPhase_frozeAt (s : State) (l : Loop) (p : Phase) (g : PhaseSt → PhaseSt) : (s.modPhase l p g).frozeAt = s.frozeAt := rfl
@[simp] theorem modPhase_queue (s : State) (l : Loop) (p : Phase) (g : PhaseSt → PhaseSt) : (s.modPhase l p g).queue = s.queue := rfl
@[simp] theorem modPhase_lastStart (s : State) (l : Loop) (p : Phase) (g : PhaseSt → PhaseSt) : (s.modPhase l p g).lastStart = s.lastStart := rfl
@[simp] theorem modPhase_nextPoll (s : State) (l : Loop) (p : Phase) (g : PhaseSt → PhaseSt) : (s.modPhase l p g).nextPoll = s.nextPoll := rfl
@[simp] theorem modPhase_mgt (s : State) (l : Loop) (p : Phase) (g : PhaseSt → PhaseSt) : (s.modPhase l p g).mgt = s.mgt := rfl
@[simp] theorem modPhase_fuses (s : State) (l : Loop) (p : Phase) (g : PhaseSt → PhaseSt) : (s.modPhase l p g).fuses = s.fuses := rfl
@[simp] theorem modPhase_siteFuse (s : State) (l : Loop) (p : Phase) (g : PhaseSt → PhaseSt) : (s.modPhase l p g).siteFuse = s.siteFuse := rfl
@[simp] theorem modPhase_tripTrim (s : State) (l : Loop) (p : Phase) (g : PhaseSt → PhaseSt) : (s.modPhase l p g).tripTrim = s.tripTrim := rfl
@[simp] theorem modPhase_rings (s : State) (l : Loop) (p : Phase) (g : PhaseSt → PhaseSt) : (s.modPhase l p g).rings = s.rings := rfl
@[simp] theorem modPhase_trcFifo (s : State) (l : Loop) (p : Phase) (g : PhaseSt → PhaseSt) : (s.modPhase l p g).trcFifo = s.trcFifo := rfl
@[simp] theorem modPhase_trcDrop (s : State) (l : Loop) (p : Phase) (g : PhaseSt → PhaseSt) : (s.modPhase l p g).trcDrop = s.trcDrop := rfl
@[simp] theorem modPhase_rcd (s : State) (l : Loop) (p : Phase) (g : PhaseSt → PhaseSt) : (s.modPhase l p g).rcd = s.rcd := rfl
@[simp] theorem modPhase_upd (s : State) (l : Loop) (p : Phase) (g : PhaseSt → PhaseSt) : (s.modPhase l p g).upd = s.upd := rfl
@[simp] theorem modPhase_flash (s : State) (l : Loop) (p : Phase) (g : PhaseSt → PhaseSt) : (s.modPhase l p g).flash = s.flash := rfl
@[simp] theorem modPhase_mtr (s : State) (l : Loop) (p : Phase) (g : PhaseSt → PhaseSt) : (s.modPhase l p g).mtr = s.mtr := rfl
@[simp] theorem modPhase_chain (s : State) (l : Loop) (p : Phase) (g : PhaseSt → PhaseSt) : (s.modPhase l p g).chain = s.chain := rfl
@[simp] theorem modPhase_seam (s : State) (l : Loop) (p : Phase) (g : PhaseSt → PhaseSt) : (s.modPhase l p g).seam = s.seam := rfl
@[simp] theorem modPhase_rd (s : State) (l : Loop) (p : Phase) (g : PhaseSt → PhaseSt) (z : Fld) : (s.modPhase l p g).rd z = s.rd z := rfl
@[simp] theorem modPhase_on (s : State) (l : Loop) (p : Phase) (g : PhaseSt → PhaseSt) (z : Fld) : (s.modPhase l p g).on z = s.on z := rfl
@[simp] theorem modPhase_live (s : State) (l : Loop) (p : Phase) (g : PhaseSt → PhaseSt) : (s.modPhase l p g).live = s.live := rfl
@[simp] theorem modPhase_rgcOn (s : State) (l : Loop) (p : Phase) (g : PhaseSt → PhaseSt) : (s.modPhase l p g).rgcOn = s.rgcOn := rfl
@[simp] theorem modPhase_frozenTime (s : State) (l : Loop) (p : Phase) (g : PhaseSt → PhaseSt) : (s.modPhase l p g).frozenTime = s.frozenTime := rfl
@[simp] theorem modPhase_cyc (s : State) (l : Loop) (p : Phase) (g : PhaseSt → PhaseSt) : (s.modPhase l p g).cyc = s.cyc := rfl
@[simp] theorem modPhase_window (s : State) (l : Loop) (p : Phase) (g : PhaseSt → PhaseSt) : (s.modPhase l p g).window = s.window := rfl
@[simp] theorem modPhase_seamUp (s : State) (l : Loop) (p : Phase) (g : PhaseSt → PhaseSt) (z : Sat) : (s.modPhase l p g).seamUp z = s.seamUp z := rfl
@[simp] theorem modPhase_fenced (s : State) (l : Loop) (p : Phase) (g : PhaseSt → PhaseSt) (z : Die) : (s.modPhase l p g).fenced z = s.fenced z := rfl
@[simp] theorem modPhase_safeTier (s : State) (l : Loop) (p : Phase) (g : PhaseSt → PhaseSt) (z : Die) : (s.modPhase l p g).safeTier z = s.safeTier z := rfl
@[simp] theorem modPhase_mode (s : State) (l : Loop) (p : Phase) (g : PhaseSt → PhaseSt) (z : Loop) : (s.modPhase l p g).mode z = s.mode z := rfl

@[simp] theorem modVcl_pending (s : State) (x : Sat) (g : VclSt → VclSt) : (s.modVcl x g).pending = s.pending := rfl
@[simp] theorem modVcl_now (s : State) (x : Sat) (g : VclSt → VclSt) : (s.modVcl x g).now = s.now := rfl
@[simp] theorem modVcl_strokeIdx (s : State) (x : Sat) (g : VclSt → VclSt) : (s.modVcl x g).strokeIdx = s.strokeIdx := rfl
@[simp] theorem modVcl_windowIdx (s : State) (x : Sat) (g : VclSt → VclSt) : (s.modVcl x g).windowIdx = s.windowIdx := rfl
@[simp] theorem modVcl_alignIdx (s : State) (x : Sat) (g : VclSt → VclSt) : (s.modVcl x g).alignIdx = s.alignIdx := rfl
@[simp] theorem modVcl_phase (s : State) (x : Sat) (g : VclSt → VclSt) : (s.modVcl x g).phase = s.phase := rfl
@[simp] theorem modVcl_frozen (s : State) (x : Sat) (g : VclSt → VclSt) : (s.modVcl x g).frozen = s.frozen := rfl
@[simp] theorem modVcl_regs (s : State) (x : Sat) (g : VclSt → VclSt) : (s.modVcl x g).regs = s.regs := rfl
@[simp] theorem modVcl_resetReq (s : State) (x : Sat) (g : VclSt → VclSt) : (s.modVcl x g).resetReq = s.resetReq := rfl
@[simp] theorem modVcl_raised (s : State) (x : Sat) (g : VclSt → VclSt) : (s.modVcl x g).raised = s.raised := rfl
@[simp] theorem modVcl_out (s : State) (x : Sat) (g : VclSt → VclSt) : (s.modVcl x g).out = s.out := rfl
@[simp] theorem modVcl_freeCtr (s : State) (x : Sat) (g : VclSt → VclSt) : (s.modVcl x g).freeCtr = s.freeCtr := rfl
@[simp] theorem modVcl_adm (s : State) (x : Sat) (g : VclSt → VclSt) : (s.modVcl x g).adm = s.adm := rfl
@[simp] theorem modVcl_inbox (s : State) (x : Sat) (g : VclSt → VclSt) : (s.modVcl x g).inbox = s.inbox := rfl
@[simp] theorem modVcl_bus (s : State) (x : Sat) (g : VclSt → VclSt) : (s.modVcl x g).bus = s.bus := rfl
@[simp] theorem modVcl_gov (s : State) (x : Sat) (g : VclSt → VclSt) : (s.modVcl x g).gov = s.gov := rfl
@[simp] theorem modVcl_govDie (s : State) (x : Sat) (g : VclSt → VclSt) : (s.modVcl x g).govDie = s.govDie := rfl
@[simp] theorem modVcl_rail (s : State) (x : Sat) (g : VclSt → VclSt) : (s.modVcl x g).rail = s.rail := rfl
@[simp] theorem modVcl_rptIo (s : State) (x : Sat) (g : VclSt → VclSt) : (s.modVcl x g).rptIo = s.rptIo := rfl
@[simp] theorem modVcl_lastIo (s : State) (x : Sat) (g : VclSt → VclSt) : (s.modVcl x g).lastIo = s.lastIo := rfl
@[simp] theorem modVcl_clk (s : State) (x : Sat) (g : VclSt → VclSt) : (s.modVcl x g).clk = s.clk := rfl
@[simp] theorem modVcl_clkDie (s : State) (x : Sat) (g : VclSt → VclSt) : (s.modVcl x g).clkDie = s.clkDie := rfl
@[simp] theorem modVcl_hold (s : State) (x : Sat) (g : VclSt → VclSt) : (s.modVcl x g).hold = s.hold := rfl
@[simp] theorem modVcl_rgc (s : State) (x : Sat) (g : VclSt → VclSt) : (s.modVcl x g).rgc = s.rgc := rfl
@[simp] theorem modVcl_loop (s : State) (x : Sat) (g : VclSt → VclSt) : (s.modVcl x g).loop = s.loop := rfl
@[simp] theorem modVcl_vsetTx (s : State) (x : Sat) (g : VclSt → VclSt) : (s.modVcl x g).vsetTx = s.vsetTx := rfl
@[simp] theorem modVcl_satSeq (s : State) (x : Sat) (g : VclSt → VclSt) : (s.modVcl x g).satSeq = s.satSeq := rfl
@[simp] theorem modVcl_once (s : State) (x : Sat) (g : VclSt → VclSt) : (s.modVcl x g).once = s.once := rfl
@[simp] theorem modVcl_thm (s : State) (x : Sat) (g : VclSt → VclSt) : (s.modVcl x g).thm = s.thm := rfl
@[simp] theorem modVcl_thmDie (s : State) (x : Sat) (g : VclSt → VclSt) : (s.modVcl x g).thmDie = s.thmDie := rfl
@[simp] theorem modVcl_trip (s : State) (x : Sat) (g : VclSt → VclSt) : (s.modVcl x g).trip = s.trip := rfl
@[simp] theorem modVcl_sen (s : State) (x : Sat) (g : VclSt → VclSt) : (s.modVcl x g).sen = s.sen := rfl
@[simp] theorem modVcl_libStored (s : State) (x : Sat) (g : VclSt → VclSt) : (s.modVcl x g).libStored = s.libStored := rfl
@[simp] theorem modVcl_lk (s : State) (x : Sat) (g : VclSt → VclSt) : (s.modVcl x g).lk = s.lk := rfl
@[simp] theorem modVcl_cas (s : State) (x : Sat) (g : VclSt → VclSt) : (s.modVcl x g).cas = s.cas := rfl
@[simp] theorem modVcl_frozenNs (s : State) (x : Sat) (g : VclSt → VclSt) : (s.modVcl x g).frozenNs = s.frozenNs := rfl
@[simp] theorem modVcl_frozeAt (s : State) (x : Sat) (g : VclSt → VclSt) : (s.modVcl x g).frozeAt = s.frozeAt := rfl
@[simp] theorem modVcl_queue (s : State) (x : Sat) (g : VclSt → VclSt) : (s.modVcl x g).queue = s.queue := rfl
@[simp] theorem modVcl_lastStart (s : State) (x : Sat) (g : VclSt → VclSt) : (s.modVcl x g).lastStart = s.lastStart := rfl
@[simp] theorem modVcl_nextPoll (s : State) (x : Sat) (g : VclSt → VclSt) : (s.modVcl x g).nextPoll = s.nextPoll := rfl
@[simp] theorem modVcl_mgt (s : State) (x : Sat) (g : VclSt → VclSt) : (s.modVcl x g).mgt = s.mgt := rfl
@[simp] theorem modVcl_fuses (s : State) (x : Sat) (g : VclSt → VclSt) : (s.modVcl x g).fuses = s.fuses := rfl
@[simp] theorem modVcl_siteFuse (s : State) (x : Sat) (g : VclSt → VclSt) : (s.modVcl x g).siteFuse = s.siteFuse := rfl
@[simp] theorem modVcl_tripTrim (s : State) (x : Sat) (g : VclSt → VclSt) : (s.modVcl x g).tripTrim = s.tripTrim := rfl
@[simp] theorem modVcl_rings (s : State) (x : Sat) (g : VclSt → VclSt) : (s.modVcl x g).rings = s.rings := rfl
@[simp] theorem modVcl_trcFifo (s : State) (x : Sat) (g : VclSt → VclSt) : (s.modVcl x g).trcFifo = s.trcFifo := rfl
@[simp] theorem modVcl_trcDrop (s : State) (x : Sat) (g : VclSt → VclSt) : (s.modVcl x g).trcDrop = s.trcDrop := rfl
@[simp] theorem modVcl_rcd (s : State) (x : Sat) (g : VclSt → VclSt) : (s.modVcl x g).rcd = s.rcd := rfl
@[simp] theorem modVcl_upd (s : State) (x : Sat) (g : VclSt → VclSt) : (s.modVcl x g).upd = s.upd := rfl
@[simp] theorem modVcl_flash (s : State) (x : Sat) (g : VclSt → VclSt) : (s.modVcl x g).flash = s.flash := rfl
@[simp] theorem modVcl_mtr (s : State) (x : Sat) (g : VclSt → VclSt) : (s.modVcl x g).mtr = s.mtr := rfl
@[simp] theorem modVcl_chain (s : State) (x : Sat) (g : VclSt → VclSt) : (s.modVcl x g).chain = s.chain := rfl
@[simp] theorem modVcl_seam (s : State) (x : Sat) (g : VclSt → VclSt) : (s.modVcl x g).seam = s.seam := rfl
@[simp] theorem modVcl_vcl (s : State) (x : Sat) (g : VclSt → VclSt) : (s.modVcl x g).vcl = s.vcl.set x (g s.vcl[x]) := rfl
@[simp] theorem modVcl_rd (s : State) (x : Sat) (g : VclSt → VclSt) (z : Fld) : (s.modVcl x g).rd z = s.rd z := rfl
@[simp] theorem modVcl_on (s : State) (x : Sat) (g : VclSt → VclSt) (z : Fld) : (s.modVcl x g).on z = s.on z := rfl
@[simp] theorem modVcl_live (s : State) (x : Sat) (g : VclSt → VclSt) : (s.modVcl x g).live = s.live := rfl
@[simp] theorem modVcl_rgcOn (s : State) (x : Sat) (g : VclSt → VclSt) : (s.modVcl x g).rgcOn = s.rgcOn := rfl
@[simp] theorem modVcl_frozenTime (s : State) (x : Sat) (g : VclSt → VclSt) : (s.modVcl x g).frozenTime = s.frozenTime := rfl
@[simp] theorem modVcl_cyc (s : State) (x : Sat) (g : VclSt → VclSt) : (s.modVcl x g).cyc = s.cyc := rfl
@[simp] theorem modVcl_window (s : State) (x : Sat) (g : VclSt → VclSt) : (s.modVcl x g).window = s.window := rfl
@[simp] theorem modVcl_seamUp (s : State) (x : Sat) (g : VclSt → VclSt) (z : Sat) : (s.modVcl x g).seamUp z = s.seamUp z := rfl
@[simp] theorem modVcl_fenced (s : State) (x : Sat) (g : VclSt → VclSt) (z : Die) : (s.modVcl x g).fenced z = s.fenced z := rfl
@[simp] theorem modVcl_safeTier (s : State) (x : Sat) (g : VclSt → VclSt) (z : Die) : (s.modVcl x g).safeTier z = s.safeTier z := rfl
@[simp] theorem modVcl_mode (s : State) (x : Sat) (g : VclSt → VclSt) (z : Loop) : (s.modVcl x g).mode z = s.mode z := rfl

@[simp] theorem modTx_pending (s : State) (l : Loop) (g : VsetTx → VsetTx) : (s.modTx l g).pending = s.pending := rfl
@[simp] theorem modTx_now (s : State) (l : Loop) (g : VsetTx → VsetTx) : (s.modTx l g).now = s.now := rfl
@[simp] theorem modTx_strokeIdx (s : State) (l : Loop) (g : VsetTx → VsetTx) : (s.modTx l g).strokeIdx = s.strokeIdx := rfl
@[simp] theorem modTx_windowIdx (s : State) (l : Loop) (g : VsetTx → VsetTx) : (s.modTx l g).windowIdx = s.windowIdx := rfl
@[simp] theorem modTx_alignIdx (s : State) (l : Loop) (g : VsetTx → VsetTx) : (s.modTx l g).alignIdx = s.alignIdx := rfl
@[simp] theorem modTx_phase (s : State) (l : Loop) (g : VsetTx → VsetTx) : (s.modTx l g).phase = s.phase := rfl
@[simp] theorem modTx_frozen (s : State) (l : Loop) (g : VsetTx → VsetTx) : (s.modTx l g).frozen = s.frozen := rfl
@[simp] theorem modTx_regs (s : State) (l : Loop) (g : VsetTx → VsetTx) : (s.modTx l g).regs = s.regs := rfl
@[simp] theorem modTx_resetReq (s : State) (l : Loop) (g : VsetTx → VsetTx) : (s.modTx l g).resetReq = s.resetReq := rfl
@[simp] theorem modTx_raised (s : State) (l : Loop) (g : VsetTx → VsetTx) : (s.modTx l g).raised = s.raised := rfl
@[simp] theorem modTx_out (s : State) (l : Loop) (g : VsetTx → VsetTx) : (s.modTx l g).out = s.out := rfl
@[simp] theorem modTx_freeCtr (s : State) (l : Loop) (g : VsetTx → VsetTx) : (s.modTx l g).freeCtr = s.freeCtr := rfl
@[simp] theorem modTx_adm (s : State) (l : Loop) (g : VsetTx → VsetTx) : (s.modTx l g).adm = s.adm := rfl
@[simp] theorem modTx_inbox (s : State) (l : Loop) (g : VsetTx → VsetTx) : (s.modTx l g).inbox = s.inbox := rfl
@[simp] theorem modTx_bus (s : State) (l : Loop) (g : VsetTx → VsetTx) : (s.modTx l g).bus = s.bus := rfl
@[simp] theorem modTx_gov (s : State) (l : Loop) (g : VsetTx → VsetTx) : (s.modTx l g).gov = s.gov := rfl
@[simp] theorem modTx_govDie (s : State) (l : Loop) (g : VsetTx → VsetTx) : (s.modTx l g).govDie = s.govDie := rfl
@[simp] theorem modTx_rail (s : State) (l : Loop) (g : VsetTx → VsetTx) : (s.modTx l g).rail = s.rail := rfl
@[simp] theorem modTx_rptIo (s : State) (l : Loop) (g : VsetTx → VsetTx) : (s.modTx l g).rptIo = s.rptIo := rfl
@[simp] theorem modTx_lastIo (s : State) (l : Loop) (g : VsetTx → VsetTx) : (s.modTx l g).lastIo = s.lastIo := rfl
@[simp] theorem modTx_clk (s : State) (l : Loop) (g : VsetTx → VsetTx) : (s.modTx l g).clk = s.clk := rfl
@[simp] theorem modTx_clkDie (s : State) (l : Loop) (g : VsetTx → VsetTx) : (s.modTx l g).clkDie = s.clkDie := rfl
@[simp] theorem modTx_hold (s : State) (l : Loop) (g : VsetTx → VsetTx) : (s.modTx l g).hold = s.hold := rfl
@[simp] theorem modTx_rgc (s : State) (l : Loop) (g : VsetTx → VsetTx) : (s.modTx l g).rgc = s.rgc := rfl
@[simp] theorem modTx_loop (s : State) (l : Loop) (g : VsetTx → VsetTx) : (s.modTx l g).loop = s.loop := rfl
@[simp] theorem modTx_satSeq (s : State) (l : Loop) (g : VsetTx → VsetTx) : (s.modTx l g).satSeq = s.satSeq := rfl
@[simp] theorem modTx_vcl (s : State) (l : Loop) (g : VsetTx → VsetTx) : (s.modTx l g).vcl = s.vcl := rfl
@[simp] theorem modTx_once (s : State) (l : Loop) (g : VsetTx → VsetTx) : (s.modTx l g).once = s.once := rfl
@[simp] theorem modTx_thm (s : State) (l : Loop) (g : VsetTx → VsetTx) : (s.modTx l g).thm = s.thm := rfl
@[simp] theorem modTx_thmDie (s : State) (l : Loop) (g : VsetTx → VsetTx) : (s.modTx l g).thmDie = s.thmDie := rfl
@[simp] theorem modTx_trip (s : State) (l : Loop) (g : VsetTx → VsetTx) : (s.modTx l g).trip = s.trip := rfl
@[simp] theorem modTx_sen (s : State) (l : Loop) (g : VsetTx → VsetTx) : (s.modTx l g).sen = s.sen := rfl
@[simp] theorem modTx_libStored (s : State) (l : Loop) (g : VsetTx → VsetTx) : (s.modTx l g).libStored = s.libStored := rfl
@[simp] theorem modTx_lk (s : State) (l : Loop) (g : VsetTx → VsetTx) : (s.modTx l g).lk = s.lk := rfl
@[simp] theorem modTx_cas (s : State) (l : Loop) (g : VsetTx → VsetTx) : (s.modTx l g).cas = s.cas := rfl
@[simp] theorem modTx_frozenNs (s : State) (l : Loop) (g : VsetTx → VsetTx) : (s.modTx l g).frozenNs = s.frozenNs := rfl
@[simp] theorem modTx_frozeAt (s : State) (l : Loop) (g : VsetTx → VsetTx) : (s.modTx l g).frozeAt = s.frozeAt := rfl
@[simp] theorem modTx_queue (s : State) (l : Loop) (g : VsetTx → VsetTx) : (s.modTx l g).queue = s.queue := rfl
@[simp] theorem modTx_lastStart (s : State) (l : Loop) (g : VsetTx → VsetTx) : (s.modTx l g).lastStart = s.lastStart := rfl
@[simp] theorem modTx_nextPoll (s : State) (l : Loop) (g : VsetTx → VsetTx) : (s.modTx l g).nextPoll = s.nextPoll := rfl
@[simp] theorem modTx_mgt (s : State) (l : Loop) (g : VsetTx → VsetTx) : (s.modTx l g).mgt = s.mgt := rfl
@[simp] theorem modTx_fuses (s : State) (l : Loop) (g : VsetTx → VsetTx) : (s.modTx l g).fuses = s.fuses := rfl
@[simp] theorem modTx_siteFuse (s : State) (l : Loop) (g : VsetTx → VsetTx) : (s.modTx l g).siteFuse = s.siteFuse := rfl
@[simp] theorem modTx_tripTrim (s : State) (l : Loop) (g : VsetTx → VsetTx) : (s.modTx l g).tripTrim = s.tripTrim := rfl
@[simp] theorem modTx_rings (s : State) (l : Loop) (g : VsetTx → VsetTx) : (s.modTx l g).rings = s.rings := rfl
@[simp] theorem modTx_trcFifo (s : State) (l : Loop) (g : VsetTx → VsetTx) : (s.modTx l g).trcFifo = s.trcFifo := rfl
@[simp] theorem modTx_trcDrop (s : State) (l : Loop) (g : VsetTx → VsetTx) : (s.modTx l g).trcDrop = s.trcDrop := rfl
@[simp] theorem modTx_rcd (s : State) (l : Loop) (g : VsetTx → VsetTx) : (s.modTx l g).rcd = s.rcd := rfl
@[simp] theorem modTx_upd (s : State) (l : Loop) (g : VsetTx → VsetTx) : (s.modTx l g).upd = s.upd := rfl
@[simp] theorem modTx_flash (s : State) (l : Loop) (g : VsetTx → VsetTx) : (s.modTx l g).flash = s.flash := rfl
@[simp] theorem modTx_mtr (s : State) (l : Loop) (g : VsetTx → VsetTx) : (s.modTx l g).mtr = s.mtr := rfl
@[simp] theorem modTx_chain (s : State) (l : Loop) (g : VsetTx → VsetTx) : (s.modTx l g).chain = s.chain := rfl
@[simp] theorem modTx_seam (s : State) (l : Loop) (g : VsetTx → VsetTx) : (s.modTx l g).seam = s.seam := rfl
@[simp] theorem modTx_vsetTx (s : State) (l : Loop) (g : VsetTx → VsetTx) : (s.modTx l g).vsetTx = s.vsetTx.set l (g s.vsetTx[l]) := rfl
@[simp] theorem modTx_rd (s : State) (l : Loop) (g : VsetTx → VsetTx) (z : Fld) : (s.modTx l g).rd z = s.rd z := rfl
@[simp] theorem modTx_on (s : State) (l : Loop) (g : VsetTx → VsetTx) (z : Fld) : (s.modTx l g).on z = s.on z := rfl
@[simp] theorem modTx_live (s : State) (l : Loop) (g : VsetTx → VsetTx) : (s.modTx l g).live = s.live := rfl
@[simp] theorem modTx_rgcOn (s : State) (l : Loop) (g : VsetTx → VsetTx) : (s.modTx l g).rgcOn = s.rgcOn := rfl
@[simp] theorem modTx_frozenTime (s : State) (l : Loop) (g : VsetTx → VsetTx) : (s.modTx l g).frozenTime = s.frozenTime := rfl
@[simp] theorem modTx_cyc (s : State) (l : Loop) (g : VsetTx → VsetTx) : (s.modTx l g).cyc = s.cyc := rfl
@[simp] theorem modTx_window (s : State) (l : Loop) (g : VsetTx → VsetTx) : (s.modTx l g).window = s.window := rfl
@[simp] theorem modTx_seamUp (s : State) (l : Loop) (g : VsetTx → VsetTx) (z : Sat) : (s.modTx l g).seamUp z = s.seamUp z := rfl
@[simp] theorem modTx_fenced (s : State) (l : Loop) (g : VsetTx → VsetTx) (z : Die) : (s.modTx l g).fenced z = s.fenced z := rfl
@[simp] theorem modTx_safeTier (s : State) (l : Loop) (g : VsetTx → VsetTx) (z : Die) : (s.modTx l g).safeTier z = s.safeTier z := rfl
@[simp] theorem modTx_mode (s : State) (l : Loop) (g : VsetTx → VsetTx) (z : Loop) : (s.modTx l g).mode z = s.mode z := rfl

@[simp] theorem modRgc_pending (s : State) (g : RgcSt → RgcSt) : (s.modRgc g).pending = s.pending := rfl
@[simp] theorem modRgc_now (s : State) (g : RgcSt → RgcSt) : (s.modRgc g).now = s.now := rfl
@[simp] theorem modRgc_strokeIdx (s : State) (g : RgcSt → RgcSt) : (s.modRgc g).strokeIdx = s.strokeIdx := rfl
@[simp] theorem modRgc_windowIdx (s : State) (g : RgcSt → RgcSt) : (s.modRgc g).windowIdx = s.windowIdx := rfl
@[simp] theorem modRgc_alignIdx (s : State) (g : RgcSt → RgcSt) : (s.modRgc g).alignIdx = s.alignIdx := rfl
@[simp] theorem modRgc_phase (s : State) (g : RgcSt → RgcSt) : (s.modRgc g).phase = s.phase := rfl
@[simp] theorem modRgc_frozen (s : State) (g : RgcSt → RgcSt) : (s.modRgc g).frozen = s.frozen := rfl
@[simp] theorem modRgc_regs (s : State) (g : RgcSt → RgcSt) : (s.modRgc g).regs = s.regs := rfl
@[simp] theorem modRgc_resetReq (s : State) (g : RgcSt → RgcSt) : (s.modRgc g).resetReq = s.resetReq := rfl
@[simp] theorem modRgc_raised (s : State) (g : RgcSt → RgcSt) : (s.modRgc g).raised = s.raised := rfl
@[simp] theorem modRgc_out (s : State) (g : RgcSt → RgcSt) : (s.modRgc g).out = s.out := rfl
@[simp] theorem modRgc_freeCtr (s : State) (g : RgcSt → RgcSt) : (s.modRgc g).freeCtr = s.freeCtr := rfl
@[simp] theorem modRgc_adm (s : State) (g : RgcSt → RgcSt) : (s.modRgc g).adm = s.adm := rfl
@[simp] theorem modRgc_inbox (s : State) (g : RgcSt → RgcSt) : (s.modRgc g).inbox = s.inbox := rfl
@[simp] theorem modRgc_bus (s : State) (g : RgcSt → RgcSt) : (s.modRgc g).bus = s.bus := rfl
@[simp] theorem modRgc_gov (s : State) (g : RgcSt → RgcSt) : (s.modRgc g).gov = s.gov := rfl
@[simp] theorem modRgc_govDie (s : State) (g : RgcSt → RgcSt) : (s.modRgc g).govDie = s.govDie := rfl
@[simp] theorem modRgc_rail (s : State) (g : RgcSt → RgcSt) : (s.modRgc g).rail = s.rail := rfl
@[simp] theorem modRgc_rptIo (s : State) (g : RgcSt → RgcSt) : (s.modRgc g).rptIo = s.rptIo := rfl
@[simp] theorem modRgc_lastIo (s : State) (g : RgcSt → RgcSt) : (s.modRgc g).lastIo = s.lastIo := rfl
@[simp] theorem modRgc_clk (s : State) (g : RgcSt → RgcSt) : (s.modRgc g).clk = s.clk := rfl
@[simp] theorem modRgc_clkDie (s : State) (g : RgcSt → RgcSt) : (s.modRgc g).clkDie = s.clkDie := rfl
@[simp] theorem modRgc_hold (s : State) (g : RgcSt → RgcSt) : (s.modRgc g).hold = s.hold := rfl
@[simp] theorem modRgc_loop (s : State) (g : RgcSt → RgcSt) : (s.modRgc g).loop = s.loop := rfl
@[simp] theorem modRgc_vsetTx (s : State) (g : RgcSt → RgcSt) : (s.modRgc g).vsetTx = s.vsetTx := rfl
@[simp] theorem modRgc_satSeq (s : State) (g : RgcSt → RgcSt) : (s.modRgc g).satSeq = s.satSeq := rfl
@[simp] theorem modRgc_vcl (s : State) (g : RgcSt → RgcSt) : (s.modRgc g).vcl = s.vcl := rfl
@[simp] theorem modRgc_once (s : State) (g : RgcSt → RgcSt) : (s.modRgc g).once = s.once := rfl
@[simp] theorem modRgc_thm (s : State) (g : RgcSt → RgcSt) : (s.modRgc g).thm = s.thm := rfl
@[simp] theorem modRgc_thmDie (s : State) (g : RgcSt → RgcSt) : (s.modRgc g).thmDie = s.thmDie := rfl
@[simp] theorem modRgc_trip (s : State) (g : RgcSt → RgcSt) : (s.modRgc g).trip = s.trip := rfl
@[simp] theorem modRgc_sen (s : State) (g : RgcSt → RgcSt) : (s.modRgc g).sen = s.sen := rfl
@[simp] theorem modRgc_libStored (s : State) (g : RgcSt → RgcSt) : (s.modRgc g).libStored = s.libStored := rfl
@[simp] theorem modRgc_lk (s : State) (g : RgcSt → RgcSt) : (s.modRgc g).lk = s.lk := rfl
@[simp] theorem modRgc_cas (s : State) (g : RgcSt → RgcSt) : (s.modRgc g).cas = s.cas := rfl
@[simp] theorem modRgc_frozenNs (s : State) (g : RgcSt → RgcSt) : (s.modRgc g).frozenNs = s.frozenNs := rfl
@[simp] theorem modRgc_frozeAt (s : State) (g : RgcSt → RgcSt) : (s.modRgc g).frozeAt = s.frozeAt := rfl
@[simp] theorem modRgc_queue (s : State) (g : RgcSt → RgcSt) : (s.modRgc g).queue = s.queue := rfl
@[simp] theorem modRgc_lastStart (s : State) (g : RgcSt → RgcSt) : (s.modRgc g).lastStart = s.lastStart := rfl
@[simp] theorem modRgc_nextPoll (s : State) (g : RgcSt → RgcSt) : (s.modRgc g).nextPoll = s.nextPoll := rfl
@[simp] theorem modRgc_mgt (s : State) (g : RgcSt → RgcSt) : (s.modRgc g).mgt = s.mgt := rfl
@[simp] theorem modRgc_fuses (s : State) (g : RgcSt → RgcSt) : (s.modRgc g).fuses = s.fuses := rfl
@[simp] theorem modRgc_siteFuse (s : State) (g : RgcSt → RgcSt) : (s.modRgc g).siteFuse = s.siteFuse := rfl
@[simp] theorem modRgc_tripTrim (s : State) (g : RgcSt → RgcSt) : (s.modRgc g).tripTrim = s.tripTrim := rfl
@[simp] theorem modRgc_rings (s : State) (g : RgcSt → RgcSt) : (s.modRgc g).rings = s.rings := rfl
@[simp] theorem modRgc_trcFifo (s : State) (g : RgcSt → RgcSt) : (s.modRgc g).trcFifo = s.trcFifo := rfl
@[simp] theorem modRgc_trcDrop (s : State) (g : RgcSt → RgcSt) : (s.modRgc g).trcDrop = s.trcDrop := rfl
@[simp] theorem modRgc_rcd (s : State) (g : RgcSt → RgcSt) : (s.modRgc g).rcd = s.rcd := rfl
@[simp] theorem modRgc_upd (s : State) (g : RgcSt → RgcSt) : (s.modRgc g).upd = s.upd := rfl
@[simp] theorem modRgc_flash (s : State) (g : RgcSt → RgcSt) : (s.modRgc g).flash = s.flash := rfl
@[simp] theorem modRgc_mtr (s : State) (g : RgcSt → RgcSt) : (s.modRgc g).mtr = s.mtr := rfl
@[simp] theorem modRgc_chain (s : State) (g : RgcSt → RgcSt) : (s.modRgc g).chain = s.chain := rfl
@[simp] theorem modRgc_seam (s : State) (g : RgcSt → RgcSt) : (s.modRgc g).seam = s.seam := rfl
@[simp] theorem modRgc_rgc (s : State) (g : RgcSt → RgcSt) : (s.modRgc g).rgc = g s.rgc := rfl
@[simp] theorem modRgc_rd (s : State) (g : RgcSt → RgcSt) (z : Fld) : (s.modRgc g).rd z = s.rd z := rfl
@[simp] theorem modRgc_on (s : State) (g : RgcSt → RgcSt) (z : Fld) : (s.modRgc g).on z = s.on z := rfl
@[simp] theorem modRgc_live (s : State) (g : RgcSt → RgcSt) : (s.modRgc g).live = s.live := rfl
@[simp] theorem modRgc_rgcOn (s : State) (g : RgcSt → RgcSt) : (s.modRgc g).rgcOn = s.rgcOn := rfl
@[simp] theorem modRgc_frozenTime (s : State) (g : RgcSt → RgcSt) : (s.modRgc g).frozenTime = s.frozenTime := rfl
@[simp] theorem modRgc_cyc (s : State) (g : RgcSt → RgcSt) : (s.modRgc g).cyc = s.cyc := rfl
@[simp] theorem modRgc_window (s : State) (g : RgcSt → RgcSt) : (s.modRgc g).window = s.window := rfl
@[simp] theorem modRgc_seamUp (s : State) (g : RgcSt → RgcSt) (z : Sat) : (s.modRgc g).seamUp z = s.seamUp z := rfl
@[simp] theorem modRgc_fenced (s : State) (g : RgcSt → RgcSt) (z : Die) : (s.modRgc g).fenced z = s.fenced z := rfl
@[simp] theorem modRgc_safeTier (s : State) (g : RgcSt → RgcSt) (z : Die) : (s.modRgc g).safeTier z = s.safeTier z := rfl
@[simp] theorem modRgc_mode (s : State) (g : RgcSt → RgcSt) (z : Loop) : (s.modRgc g).mode z = s.mode z := rfl

@[simp] theorem modClkGen_pending (s : State) (g : ClkSt → ClkSt) : (s.modClkGen g).pending = s.pending := rfl
@[simp] theorem modClkGen_now (s : State) (g : ClkSt → ClkSt) : (s.modClkGen g).now = s.now := rfl
@[simp] theorem modClkGen_strokeIdx (s : State) (g : ClkSt → ClkSt) : (s.modClkGen g).strokeIdx = s.strokeIdx := rfl
@[simp] theorem modClkGen_windowIdx (s : State) (g : ClkSt → ClkSt) : (s.modClkGen g).windowIdx = s.windowIdx := rfl
@[simp] theorem modClkGen_alignIdx (s : State) (g : ClkSt → ClkSt) : (s.modClkGen g).alignIdx = s.alignIdx := rfl
@[simp] theorem modClkGen_phase (s : State) (g : ClkSt → ClkSt) : (s.modClkGen g).phase = s.phase := rfl
@[simp] theorem modClkGen_frozen (s : State) (g : ClkSt → ClkSt) : (s.modClkGen g).frozen = s.frozen := rfl
@[simp] theorem modClkGen_regs (s : State) (g : ClkSt → ClkSt) : (s.modClkGen g).regs = s.regs := rfl
@[simp] theorem modClkGen_resetReq (s : State) (g : ClkSt → ClkSt) : (s.modClkGen g).resetReq = s.resetReq := rfl
@[simp] theorem modClkGen_raised (s : State) (g : ClkSt → ClkSt) : (s.modClkGen g).raised = s.raised := rfl
@[simp] theorem modClkGen_out (s : State) (g : ClkSt → ClkSt) : (s.modClkGen g).out = s.out := rfl
@[simp] theorem modClkGen_freeCtr (s : State) (g : ClkSt → ClkSt) : (s.modClkGen g).freeCtr = s.freeCtr := rfl
@[simp] theorem modClkGen_adm (s : State) (g : ClkSt → ClkSt) : (s.modClkGen g).adm = s.adm := rfl
@[simp] theorem modClkGen_inbox (s : State) (g : ClkSt → ClkSt) : (s.modClkGen g).inbox = s.inbox := rfl
@[simp] theorem modClkGen_bus (s : State) (g : ClkSt → ClkSt) : (s.modClkGen g).bus = s.bus := rfl
@[simp] theorem modClkGen_gov (s : State) (g : ClkSt → ClkSt) : (s.modClkGen g).gov = s.gov := rfl
@[simp] theorem modClkGen_govDie (s : State) (g : ClkSt → ClkSt) : (s.modClkGen g).govDie = s.govDie := rfl
@[simp] theorem modClkGen_rail (s : State) (g : ClkSt → ClkSt) : (s.modClkGen g).rail = s.rail := rfl
@[simp] theorem modClkGen_rptIo (s : State) (g : ClkSt → ClkSt) : (s.modClkGen g).rptIo = s.rptIo := rfl
@[simp] theorem modClkGen_lastIo (s : State) (g : ClkSt → ClkSt) : (s.modClkGen g).lastIo = s.lastIo := rfl
@[simp] theorem modClkGen_clkDie (s : State) (g : ClkSt → ClkSt) : (s.modClkGen g).clkDie = s.clkDie := rfl
@[simp] theorem modClkGen_hold (s : State) (g : ClkSt → ClkSt) : (s.modClkGen g).hold = s.hold := rfl
@[simp] theorem modClkGen_rgc (s : State) (g : ClkSt → ClkSt) : (s.modClkGen g).rgc = s.rgc := rfl
@[simp] theorem modClkGen_loop (s : State) (g : ClkSt → ClkSt) : (s.modClkGen g).loop = s.loop := rfl
@[simp] theorem modClkGen_vsetTx (s : State) (g : ClkSt → ClkSt) : (s.modClkGen g).vsetTx = s.vsetTx := rfl
@[simp] theorem modClkGen_satSeq (s : State) (g : ClkSt → ClkSt) : (s.modClkGen g).satSeq = s.satSeq := rfl
@[simp] theorem modClkGen_vcl (s : State) (g : ClkSt → ClkSt) : (s.modClkGen g).vcl = s.vcl := rfl
@[simp] theorem modClkGen_once (s : State) (g : ClkSt → ClkSt) : (s.modClkGen g).once = s.once := rfl
@[simp] theorem modClkGen_thm (s : State) (g : ClkSt → ClkSt) : (s.modClkGen g).thm = s.thm := rfl
@[simp] theorem modClkGen_thmDie (s : State) (g : ClkSt → ClkSt) : (s.modClkGen g).thmDie = s.thmDie := rfl
@[simp] theorem modClkGen_trip (s : State) (g : ClkSt → ClkSt) : (s.modClkGen g).trip = s.trip := rfl
@[simp] theorem modClkGen_sen (s : State) (g : ClkSt → ClkSt) : (s.modClkGen g).sen = s.sen := rfl
@[simp] theorem modClkGen_libStored (s : State) (g : ClkSt → ClkSt) : (s.modClkGen g).libStored = s.libStored := rfl
@[simp] theorem modClkGen_lk (s : State) (g : ClkSt → ClkSt) : (s.modClkGen g).lk = s.lk := rfl
@[simp] theorem modClkGen_cas (s : State) (g : ClkSt → ClkSt) : (s.modClkGen g).cas = s.cas := rfl
@[simp] theorem modClkGen_frozenNs (s : State) (g : ClkSt → ClkSt) : (s.modClkGen g).frozenNs = s.frozenNs := rfl
@[simp] theorem modClkGen_frozeAt (s : State) (g : ClkSt → ClkSt) : (s.modClkGen g).frozeAt = s.frozeAt := rfl
@[simp] theorem modClkGen_queue (s : State) (g : ClkSt → ClkSt) : (s.modClkGen g).queue = s.queue := rfl
@[simp] theorem modClkGen_lastStart (s : State) (g : ClkSt → ClkSt) : (s.modClkGen g).lastStart = s.lastStart := rfl
@[simp] theorem modClkGen_nextPoll (s : State) (g : ClkSt → ClkSt) : (s.modClkGen g).nextPoll = s.nextPoll := rfl
@[simp] theorem modClkGen_mgt (s : State) (g : ClkSt → ClkSt) : (s.modClkGen g).mgt = s.mgt := rfl
@[simp] theorem modClkGen_fuses (s : State) (g : ClkSt → ClkSt) : (s.modClkGen g).fuses = s.fuses := rfl
@[simp] theorem modClkGen_siteFuse (s : State) (g : ClkSt → ClkSt) : (s.modClkGen g).siteFuse = s.siteFuse := rfl
@[simp] theorem modClkGen_tripTrim (s : State) (g : ClkSt → ClkSt) : (s.modClkGen g).tripTrim = s.tripTrim := rfl
@[simp] theorem modClkGen_rings (s : State) (g : ClkSt → ClkSt) : (s.modClkGen g).rings = s.rings := rfl
@[simp] theorem modClkGen_trcFifo (s : State) (g : ClkSt → ClkSt) : (s.modClkGen g).trcFifo = s.trcFifo := rfl
@[simp] theorem modClkGen_trcDrop (s : State) (g : ClkSt → ClkSt) : (s.modClkGen g).trcDrop = s.trcDrop := rfl
@[simp] theorem modClkGen_rcd (s : State) (g : ClkSt → ClkSt) : (s.modClkGen g).rcd = s.rcd := rfl
@[simp] theorem modClkGen_upd (s : State) (g : ClkSt → ClkSt) : (s.modClkGen g).upd = s.upd := rfl
@[simp] theorem modClkGen_flash (s : State) (g : ClkSt → ClkSt) : (s.modClkGen g).flash = s.flash := rfl
@[simp] theorem modClkGen_mtr (s : State) (g : ClkSt → ClkSt) : (s.modClkGen g).mtr = s.mtr := rfl
@[simp] theorem modClkGen_chain (s : State) (g : ClkSt → ClkSt) : (s.modClkGen g).chain = s.chain := rfl
@[simp] theorem modClkGen_seam (s : State) (g : ClkSt → ClkSt) : (s.modClkGen g).seam = s.seam := rfl
@[simp] theorem modClkGen_clk (s : State) (g : ClkSt → ClkSt) : (s.modClkGen g).clk = g s.clk := rfl
@[simp] theorem modClkGen_rd (s : State) (g : ClkSt → ClkSt) (z : Fld) : (s.modClkGen g).rd z = s.rd z := rfl
@[simp] theorem modClkGen_on (s : State) (g : ClkSt → ClkSt) (z : Fld) : (s.modClkGen g).on z = s.on z := rfl
@[simp] theorem modClkGen_live (s : State) (g : ClkSt → ClkSt) : (s.modClkGen g).live = s.live := rfl
@[simp] theorem modClkGen_rgcOn (s : State) (g : ClkSt → ClkSt) : (s.modClkGen g).rgcOn = s.rgcOn := rfl
@[simp] theorem modClkGen_frozenTime (s : State) (g : ClkSt → ClkSt) : (s.modClkGen g).frozenTime = s.frozenTime := rfl
@[simp] theorem modClkGen_cyc (s : State) (g : ClkSt → ClkSt) : (s.modClkGen g).cyc = s.cyc := rfl
@[simp] theorem modClkGen_window (s : State) (g : ClkSt → ClkSt) : (s.modClkGen g).window = s.window := rfl
@[simp] theorem modClkGen_seamUp (s : State) (g : ClkSt → ClkSt) (z : Sat) : (s.modClkGen g).seamUp z = s.seamUp z := rfl
@[simp] theorem modClkGen_fenced (s : State) (g : ClkSt → ClkSt) (z : Die) : (s.modClkGen g).fenced z = s.fenced z := rfl
@[simp] theorem modClkGen_safeTier (s : State) (g : ClkSt → ClkSt) (z : Die) : (s.modClkGen g).safeTier z = s.safeTier z := rfl
@[simp] theorem modClkGen_mode (s : State) (g : ClkSt → ClkSt) (z : Loop) : (s.modClkGen g).mode z = s.mode z := rfl

@[simp] theorem modGov_pending (s : State) (g : GovSt → GovSt) : (s.modGov g).pending = s.pending := rfl
@[simp] theorem modGov_now (s : State) (g : GovSt → GovSt) : (s.modGov g).now = s.now := rfl
@[simp] theorem modGov_strokeIdx (s : State) (g : GovSt → GovSt) : (s.modGov g).strokeIdx = s.strokeIdx := rfl
@[simp] theorem modGov_windowIdx (s : State) (g : GovSt → GovSt) : (s.modGov g).windowIdx = s.windowIdx := rfl
@[simp] theorem modGov_alignIdx (s : State) (g : GovSt → GovSt) : (s.modGov g).alignIdx = s.alignIdx := rfl
@[simp] theorem modGov_phase (s : State) (g : GovSt → GovSt) : (s.modGov g).phase = s.phase := rfl
@[simp] theorem modGov_frozen (s : State) (g : GovSt → GovSt) : (s.modGov g).frozen = s.frozen := rfl
@[simp] theorem modGov_regs (s : State) (g : GovSt → GovSt) : (s.modGov g).regs = s.regs := rfl
@[simp] theorem modGov_resetReq (s : State) (g : GovSt → GovSt) : (s.modGov g).resetReq = s.resetReq := rfl
@[simp] theorem modGov_raised (s : State) (g : GovSt → GovSt) : (s.modGov g).raised = s.raised := rfl
@[simp] theorem modGov_out (s : State) (g : GovSt → GovSt) : (s.modGov g).out = s.out := rfl
@[simp] theorem modGov_freeCtr (s : State) (g : GovSt → GovSt) : (s.modGov g).freeCtr = s.freeCtr := rfl
@[simp] theorem modGov_adm (s : State) (g : GovSt → GovSt) : (s.modGov g).adm = s.adm := rfl
@[simp] theorem modGov_inbox (s : State) (g : GovSt → GovSt) : (s.modGov g).inbox = s.inbox := rfl
@[simp] theorem modGov_bus (s : State) (g : GovSt → GovSt) : (s.modGov g).bus = s.bus := rfl
@[simp] theorem modGov_govDie (s : State) (g : GovSt → GovSt) : (s.modGov g).govDie = s.govDie := rfl
@[simp] theorem modGov_rail (s : State) (g : GovSt → GovSt) : (s.modGov g).rail = s.rail := rfl
@[simp] theorem modGov_rptIo (s : State) (g : GovSt → GovSt) : (s.modGov g).rptIo = s.rptIo := rfl
@[simp] theorem modGov_lastIo (s : State) (g : GovSt → GovSt) : (s.modGov g).lastIo = s.lastIo := rfl
@[simp] theorem modGov_clk (s : State) (g : GovSt → GovSt) : (s.modGov g).clk = s.clk := rfl
@[simp] theorem modGov_clkDie (s : State) (g : GovSt → GovSt) : (s.modGov g).clkDie = s.clkDie := rfl
@[simp] theorem modGov_hold (s : State) (g : GovSt → GovSt) : (s.modGov g).hold = s.hold := rfl
@[simp] theorem modGov_rgc (s : State) (g : GovSt → GovSt) : (s.modGov g).rgc = s.rgc := rfl
@[simp] theorem modGov_loop (s : State) (g : GovSt → GovSt) : (s.modGov g).loop = s.loop := rfl
@[simp] theorem modGov_vsetTx (s : State) (g : GovSt → GovSt) : (s.modGov g).vsetTx = s.vsetTx := rfl
@[simp] theorem modGov_satSeq (s : State) (g : GovSt → GovSt) : (s.modGov g).satSeq = s.satSeq := rfl
@[simp] theorem modGov_vcl (s : State) (g : GovSt → GovSt) : (s.modGov g).vcl = s.vcl := rfl
@[simp] theorem modGov_once (s : State) (g : GovSt → GovSt) : (s.modGov g).once = s.once := rfl
@[simp] theorem modGov_thm (s : State) (g : GovSt → GovSt) : (s.modGov g).thm = s.thm := rfl
@[simp] theorem modGov_thmDie (s : State) (g : GovSt → GovSt) : (s.modGov g).thmDie = s.thmDie := rfl
@[simp] theorem modGov_trip (s : State) (g : GovSt → GovSt) : (s.modGov g).trip = s.trip := rfl
@[simp] theorem modGov_sen (s : State) (g : GovSt → GovSt) : (s.modGov g).sen = s.sen := rfl
@[simp] theorem modGov_libStored (s : State) (g : GovSt → GovSt) : (s.modGov g).libStored = s.libStored := rfl
@[simp] theorem modGov_lk (s : State) (g : GovSt → GovSt) : (s.modGov g).lk = s.lk := rfl
@[simp] theorem modGov_cas (s : State) (g : GovSt → GovSt) : (s.modGov g).cas = s.cas := rfl
@[simp] theorem modGov_frozenNs (s : State) (g : GovSt → GovSt) : (s.modGov g).frozenNs = s.frozenNs := rfl
@[simp] theorem modGov_frozeAt (s : State) (g : GovSt → GovSt) : (s.modGov g).frozeAt = s.frozeAt := rfl
@[simp] theorem modGov_queue (s : State) (g : GovSt → GovSt) : (s.modGov g).queue = s.queue := rfl
@[simp] theorem modGov_lastStart (s : State) (g : GovSt → GovSt) : (s.modGov g).lastStart = s.lastStart := rfl
@[simp] theorem modGov_nextPoll (s : State) (g : GovSt → GovSt) : (s.modGov g).nextPoll = s.nextPoll := rfl
@[simp] theorem modGov_mgt (s : State) (g : GovSt → GovSt) : (s.modGov g).mgt = s.mgt := rfl
@[simp] theorem modGov_fuses (s : State) (g : GovSt → GovSt) : (s.modGov g).fuses = s.fuses := rfl
@[simp] theorem modGov_siteFuse (s : State) (g : GovSt → GovSt) : (s.modGov g).siteFuse = s.siteFuse := rfl
@[simp] theorem modGov_tripTrim (s : State) (g : GovSt → GovSt) : (s.modGov g).tripTrim = s.tripTrim := rfl
@[simp] theorem modGov_rings (s : State) (g : GovSt → GovSt) : (s.modGov g).rings = s.rings := rfl
@[simp] theorem modGov_trcFifo (s : State) (g : GovSt → GovSt) : (s.modGov g).trcFifo = s.trcFifo := rfl
@[simp] theorem modGov_trcDrop (s : State) (g : GovSt → GovSt) : (s.modGov g).trcDrop = s.trcDrop := rfl
@[simp] theorem modGov_rcd (s : State) (g : GovSt → GovSt) : (s.modGov g).rcd = s.rcd := rfl
@[simp] theorem modGov_upd (s : State) (g : GovSt → GovSt) : (s.modGov g).upd = s.upd := rfl
@[simp] theorem modGov_flash (s : State) (g : GovSt → GovSt) : (s.modGov g).flash = s.flash := rfl
@[simp] theorem modGov_mtr (s : State) (g : GovSt → GovSt) : (s.modGov g).mtr = s.mtr := rfl
@[simp] theorem modGov_chain (s : State) (g : GovSt → GovSt) : (s.modGov g).chain = s.chain := rfl
@[simp] theorem modGov_seam (s : State) (g : GovSt → GovSt) : (s.modGov g).seam = s.seam := rfl
@[simp] theorem modGov_gov (s : State) (g : GovSt → GovSt) : (s.modGov g).gov = g s.gov := rfl
@[simp] theorem modGov_rd (s : State) (g : GovSt → GovSt) (z : Fld) : (s.modGov g).rd z = s.rd z := rfl
@[simp] theorem modGov_on (s : State) (g : GovSt → GovSt) (z : Fld) : (s.modGov g).on z = s.on z := rfl
@[simp] theorem modGov_live (s : State) (g : GovSt → GovSt) : (s.modGov g).live = s.live := rfl
@[simp] theorem modGov_rgcOn (s : State) (g : GovSt → GovSt) : (s.modGov g).rgcOn = s.rgcOn := rfl
@[simp] theorem modGov_frozenTime (s : State) (g : GovSt → GovSt) : (s.modGov g).frozenTime = s.frozenTime := rfl
@[simp] theorem modGov_cyc (s : State) (g : GovSt → GovSt) : (s.modGov g).cyc = s.cyc := rfl
@[simp] theorem modGov_window (s : State) (g : GovSt → GovSt) : (s.modGov g).window = s.window := rfl
@[simp] theorem modGov_seamUp (s : State) (g : GovSt → GovSt) (z : Sat) : (s.modGov g).seamUp z = s.seamUp z := rfl
@[simp] theorem modGov_fenced (s : State) (g : GovSt → GovSt) (z : Die) : (s.modGov g).fenced z = s.fenced z := rfl
@[simp] theorem modGov_safeTier (s : State) (g : GovSt → GovSt) (z : Die) : (s.modGov g).safeTier z = s.safeTier z := rfl
@[simp] theorem modGov_mode (s : State) (g : GovSt → GovSt) (z : Loop) : (s.modGov g).mode z = s.mode z := rfl

@[simp] theorem modRail_pending (s : State) (l : Loop) (g : RailSt → RailSt) : (s.modRail l g).pending = s.pending := rfl
@[simp] theorem modRail_now (s : State) (l : Loop) (g : RailSt → RailSt) : (s.modRail l g).now = s.now := rfl
@[simp] theorem modRail_strokeIdx (s : State) (l : Loop) (g : RailSt → RailSt) : (s.modRail l g).strokeIdx = s.strokeIdx := rfl
@[simp] theorem modRail_windowIdx (s : State) (l : Loop) (g : RailSt → RailSt) : (s.modRail l g).windowIdx = s.windowIdx := rfl
@[simp] theorem modRail_alignIdx (s : State) (l : Loop) (g : RailSt → RailSt) : (s.modRail l g).alignIdx = s.alignIdx := rfl
@[simp] theorem modRail_phase (s : State) (l : Loop) (g : RailSt → RailSt) : (s.modRail l g).phase = s.phase := rfl
@[simp] theorem modRail_frozen (s : State) (l : Loop) (g : RailSt → RailSt) : (s.modRail l g).frozen = s.frozen := rfl
@[simp] theorem modRail_regs (s : State) (l : Loop) (g : RailSt → RailSt) : (s.modRail l g).regs = s.regs := rfl
@[simp] theorem modRail_resetReq (s : State) (l : Loop) (g : RailSt → RailSt) : (s.modRail l g).resetReq = s.resetReq := rfl
@[simp] theorem modRail_raised (s : State) (l : Loop) (g : RailSt → RailSt) : (s.modRail l g).raised = s.raised := rfl
@[simp] theorem modRail_out (s : State) (l : Loop) (g : RailSt → RailSt) : (s.modRail l g).out = s.out := rfl
@[simp] theorem modRail_freeCtr (s : State) (l : Loop) (g : RailSt → RailSt) : (s.modRail l g).freeCtr = s.freeCtr := rfl
@[simp] theorem modRail_adm (s : State) (l : Loop) (g : RailSt → RailSt) : (s.modRail l g).adm = s.adm := rfl
@[simp] theorem modRail_inbox (s : State) (l : Loop) (g : RailSt → RailSt) : (s.modRail l g).inbox = s.inbox := rfl
@[simp] theorem modRail_bus (s : State) (l : Loop) (g : RailSt → RailSt) : (s.modRail l g).bus = s.bus := rfl
@[simp] theorem modRail_gov (s : State) (l : Loop) (g : RailSt → RailSt) : (s.modRail l g).gov = s.gov := rfl
@[simp] theorem modRail_govDie (s : State) (l : Loop) (g : RailSt → RailSt) : (s.modRail l g).govDie = s.govDie := rfl
@[simp] theorem modRail_rptIo (s : State) (l : Loop) (g : RailSt → RailSt) : (s.modRail l g).rptIo = s.rptIo := rfl
@[simp] theorem modRail_lastIo (s : State) (l : Loop) (g : RailSt → RailSt) : (s.modRail l g).lastIo = s.lastIo := rfl
@[simp] theorem modRail_clk (s : State) (l : Loop) (g : RailSt → RailSt) : (s.modRail l g).clk = s.clk := rfl
@[simp] theorem modRail_clkDie (s : State) (l : Loop) (g : RailSt → RailSt) : (s.modRail l g).clkDie = s.clkDie := rfl
@[simp] theorem modRail_hold (s : State) (l : Loop) (g : RailSt → RailSt) : (s.modRail l g).hold = s.hold := rfl
@[simp] theorem modRail_rgc (s : State) (l : Loop) (g : RailSt → RailSt) : (s.modRail l g).rgc = s.rgc := rfl
@[simp] theorem modRail_loop (s : State) (l : Loop) (g : RailSt → RailSt) : (s.modRail l g).loop = s.loop := rfl
@[simp] theorem modRail_vsetTx (s : State) (l : Loop) (g : RailSt → RailSt) : (s.modRail l g).vsetTx = s.vsetTx := rfl
@[simp] theorem modRail_satSeq (s : State) (l : Loop) (g : RailSt → RailSt) : (s.modRail l g).satSeq = s.satSeq := rfl
@[simp] theorem modRail_vcl (s : State) (l : Loop) (g : RailSt → RailSt) : (s.modRail l g).vcl = s.vcl := rfl
@[simp] theorem modRail_once (s : State) (l : Loop) (g : RailSt → RailSt) : (s.modRail l g).once = s.once := rfl
@[simp] theorem modRail_thm (s : State) (l : Loop) (g : RailSt → RailSt) : (s.modRail l g).thm = s.thm := rfl
@[simp] theorem modRail_thmDie (s : State) (l : Loop) (g : RailSt → RailSt) : (s.modRail l g).thmDie = s.thmDie := rfl
@[simp] theorem modRail_trip (s : State) (l : Loop) (g : RailSt → RailSt) : (s.modRail l g).trip = s.trip := rfl
@[simp] theorem modRail_sen (s : State) (l : Loop) (g : RailSt → RailSt) : (s.modRail l g).sen = s.sen := rfl
@[simp] theorem modRail_libStored (s : State) (l : Loop) (g : RailSt → RailSt) : (s.modRail l g).libStored = s.libStored := rfl
@[simp] theorem modRail_lk (s : State) (l : Loop) (g : RailSt → RailSt) : (s.modRail l g).lk = s.lk := rfl
@[simp] theorem modRail_cas (s : State) (l : Loop) (g : RailSt → RailSt) : (s.modRail l g).cas = s.cas := rfl
@[simp] theorem modRail_frozenNs (s : State) (l : Loop) (g : RailSt → RailSt) : (s.modRail l g).frozenNs = s.frozenNs := rfl
@[simp] theorem modRail_frozeAt (s : State) (l : Loop) (g : RailSt → RailSt) : (s.modRail l g).frozeAt = s.frozeAt := rfl
@[simp] theorem modRail_queue (s : State) (l : Loop) (g : RailSt → RailSt) : (s.modRail l g).queue = s.queue := rfl
@[simp] theorem modRail_lastStart (s : State) (l : Loop) (g : RailSt → RailSt) : (s.modRail l g).lastStart = s.lastStart := rfl
@[simp] theorem modRail_nextPoll (s : State) (l : Loop) (g : RailSt → RailSt) : (s.modRail l g).nextPoll = s.nextPoll := rfl
@[simp] theorem modRail_mgt (s : State) (l : Loop) (g : RailSt → RailSt) : (s.modRail l g).mgt = s.mgt := rfl
@[simp] theorem modRail_fuses (s : State) (l : Loop) (g : RailSt → RailSt) : (s.modRail l g).fuses = s.fuses := rfl
@[simp] theorem modRail_siteFuse (s : State) (l : Loop) (g : RailSt → RailSt) : (s.modRail l g).siteFuse = s.siteFuse := rfl
@[simp] theorem modRail_tripTrim (s : State) (l : Loop) (g : RailSt → RailSt) : (s.modRail l g).tripTrim = s.tripTrim := rfl
@[simp] theorem modRail_rings (s : State) (l : Loop) (g : RailSt → RailSt) : (s.modRail l g).rings = s.rings := rfl
@[simp] theorem modRail_trcFifo (s : State) (l : Loop) (g : RailSt → RailSt) : (s.modRail l g).trcFifo = s.trcFifo := rfl
@[simp] theorem modRail_trcDrop (s : State) (l : Loop) (g : RailSt → RailSt) : (s.modRail l g).trcDrop = s.trcDrop := rfl
@[simp] theorem modRail_rcd (s : State) (l : Loop) (g : RailSt → RailSt) : (s.modRail l g).rcd = s.rcd := rfl
@[simp] theorem modRail_upd (s : State) (l : Loop) (g : RailSt → RailSt) : (s.modRail l g).upd = s.upd := rfl
@[simp] theorem modRail_flash (s : State) (l : Loop) (g : RailSt → RailSt) : (s.modRail l g).flash = s.flash := rfl
@[simp] theorem modRail_mtr (s : State) (l : Loop) (g : RailSt → RailSt) : (s.modRail l g).mtr = s.mtr := rfl
@[simp] theorem modRail_chain (s : State) (l : Loop) (g : RailSt → RailSt) : (s.modRail l g).chain = s.chain := rfl
@[simp] theorem modRail_seam (s : State) (l : Loop) (g : RailSt → RailSt) : (s.modRail l g).seam = s.seam := rfl
@[simp] theorem modRail_rail (s : State) (l : Loop) (g : RailSt → RailSt) : (s.modRail l g).rail = s.rail.set l (g s.rail[l]) := rfl
@[simp] theorem modRail_rd (s : State) (l : Loop) (g : RailSt → RailSt) (z : Fld) : (s.modRail l g).rd z = s.rd z := rfl
@[simp] theorem modRail_on (s : State) (l : Loop) (g : RailSt → RailSt) (z : Fld) : (s.modRail l g).on z = s.on z := rfl
@[simp] theorem modRail_live (s : State) (l : Loop) (g : RailSt → RailSt) : (s.modRail l g).live = s.live := rfl
@[simp] theorem modRail_rgcOn (s : State) (l : Loop) (g : RailSt → RailSt) : (s.modRail l g).rgcOn = s.rgcOn := rfl
@[simp] theorem modRail_frozenTime (s : State) (l : Loop) (g : RailSt → RailSt) : (s.modRail l g).frozenTime = s.frozenTime := rfl
@[simp] theorem modRail_cyc (s : State) (l : Loop) (g : RailSt → RailSt) : (s.modRail l g).cyc = s.cyc := rfl
@[simp] theorem modRail_window (s : State) (l : Loop) (g : RailSt → RailSt) : (s.modRail l g).window = s.window := rfl
@[simp] theorem modRail_seamUp (s : State) (l : Loop) (g : RailSt → RailSt) (z : Sat) : (s.modRail l g).seamUp z = s.seamUp z := rfl
@[simp] theorem modRail_fenced (s : State) (l : Loop) (g : RailSt → RailSt) (z : Die) : (s.modRail l g).fenced z = s.fenced z := rfl
@[simp] theorem modRail_safeTier (s : State) (l : Loop) (g : RailSt → RailSt) (z : Die) : (s.modRail l g).safeTier z = s.safeTier z := rfl
@[simp] theorem modRail_mode (s : State) (l : Loop) (g : RailSt → RailSt) (z : Loop) : (s.modRail l g).mode z = s.mode z := rfl

@[simp] theorem modGovDie_pending (s : State) (d : Die) (g : GovDie → GovDie) : (s.modGovDie d g).pending = s.pending := rfl
@[simp] theorem modGovDie_now (s : State) (d : Die) (g : GovDie → GovDie) : (s.modGovDie d g).now = s.now := rfl
@[simp] theorem modGovDie_strokeIdx (s : State) (d : Die) (g : GovDie → GovDie) : (s.modGovDie d g).strokeIdx = s.strokeIdx := rfl
@[simp] theorem modGovDie_windowIdx (s : State) (d : Die) (g : GovDie → GovDie) : (s.modGovDie d g).windowIdx = s.windowIdx := rfl
@[simp] theorem modGovDie_alignIdx (s : State) (d : Die) (g : GovDie → GovDie) : (s.modGovDie d g).alignIdx = s.alignIdx := rfl
@[simp] theorem modGovDie_phase (s : State) (d : Die) (g : GovDie → GovDie) : (s.modGovDie d g).phase = s.phase := rfl
@[simp] theorem modGovDie_frozen (s : State) (d : Die) (g : GovDie → GovDie) : (s.modGovDie d g).frozen = s.frozen := rfl
@[simp] theorem modGovDie_regs (s : State) (d : Die) (g : GovDie → GovDie) : (s.modGovDie d g).regs = s.regs := rfl
@[simp] theorem modGovDie_resetReq (s : State) (d : Die) (g : GovDie → GovDie) : (s.modGovDie d g).resetReq = s.resetReq := rfl
@[simp] theorem modGovDie_raised (s : State) (d : Die) (g : GovDie → GovDie) : (s.modGovDie d g).raised = s.raised := rfl
@[simp] theorem modGovDie_out (s : State) (d : Die) (g : GovDie → GovDie) : (s.modGovDie d g).out = s.out := rfl
@[simp] theorem modGovDie_freeCtr (s : State) (d : Die) (g : GovDie → GovDie) : (s.modGovDie d g).freeCtr = s.freeCtr := rfl
@[simp] theorem modGovDie_adm (s : State) (d : Die) (g : GovDie → GovDie) : (s.modGovDie d g).adm = s.adm := rfl
@[simp] theorem modGovDie_inbox (s : State) (d : Die) (g : GovDie → GovDie) : (s.modGovDie d g).inbox = s.inbox := rfl
@[simp] theorem modGovDie_bus (s : State) (d : Die) (g : GovDie → GovDie) : (s.modGovDie d g).bus = s.bus := rfl
@[simp] theorem modGovDie_gov (s : State) (d : Die) (g : GovDie → GovDie) : (s.modGovDie d g).gov = s.gov := rfl
@[simp] theorem modGovDie_rail (s : State) (d : Die) (g : GovDie → GovDie) : (s.modGovDie d g).rail = s.rail := rfl
@[simp] theorem modGovDie_rptIo (s : State) (d : Die) (g : GovDie → GovDie) : (s.modGovDie d g).rptIo = s.rptIo := rfl
@[simp] theorem modGovDie_lastIo (s : State) (d : Die) (g : GovDie → GovDie) : (s.modGovDie d g).lastIo = s.lastIo := rfl
@[simp] theorem modGovDie_clk (s : State) (d : Die) (g : GovDie → GovDie) : (s.modGovDie d g).clk = s.clk := rfl
@[simp] theorem modGovDie_clkDie (s : State) (d : Die) (g : GovDie → GovDie) : (s.modGovDie d g).clkDie = s.clkDie := rfl
@[simp] theorem modGovDie_hold (s : State) (d : Die) (g : GovDie → GovDie) : (s.modGovDie d g).hold = s.hold := rfl
@[simp] theorem modGovDie_rgc (s : State) (d : Die) (g : GovDie → GovDie) : (s.modGovDie d g).rgc = s.rgc := rfl
@[simp] theorem modGovDie_loop (s : State) (d : Die) (g : GovDie → GovDie) : (s.modGovDie d g).loop = s.loop := rfl
@[simp] theorem modGovDie_vsetTx (s : State) (d : Die) (g : GovDie → GovDie) : (s.modGovDie d g).vsetTx = s.vsetTx := rfl
@[simp] theorem modGovDie_satSeq (s : State) (d : Die) (g : GovDie → GovDie) : (s.modGovDie d g).satSeq = s.satSeq := rfl
@[simp] theorem modGovDie_vcl (s : State) (d : Die) (g : GovDie → GovDie) : (s.modGovDie d g).vcl = s.vcl := rfl
@[simp] theorem modGovDie_once (s : State) (d : Die) (g : GovDie → GovDie) : (s.modGovDie d g).once = s.once := rfl
@[simp] theorem modGovDie_thm (s : State) (d : Die) (g : GovDie → GovDie) : (s.modGovDie d g).thm = s.thm := rfl
@[simp] theorem modGovDie_thmDie (s : State) (d : Die) (g : GovDie → GovDie) : (s.modGovDie d g).thmDie = s.thmDie := rfl
@[simp] theorem modGovDie_trip (s : State) (d : Die) (g : GovDie → GovDie) : (s.modGovDie d g).trip = s.trip := rfl
@[simp] theorem modGovDie_sen (s : State) (d : Die) (g : GovDie → GovDie) : (s.modGovDie d g).sen = s.sen := rfl
@[simp] theorem modGovDie_libStored (s : State) (d : Die) (g : GovDie → GovDie) : (s.modGovDie d g).libStored = s.libStored := rfl
@[simp] theorem modGovDie_lk (s : State) (d : Die) (g : GovDie → GovDie) : (s.modGovDie d g).lk = s.lk := rfl
@[simp] theorem modGovDie_cas (s : State) (d : Die) (g : GovDie → GovDie) : (s.modGovDie d g).cas = s.cas := rfl
@[simp] theorem modGovDie_frozenNs (s : State) (d : Die) (g : GovDie → GovDie) : (s.modGovDie d g).frozenNs = s.frozenNs := rfl
@[simp] theorem modGovDie_frozeAt (s : State) (d : Die) (g : GovDie → GovDie) : (s.modGovDie d g).frozeAt = s.frozeAt := rfl
@[simp] theorem modGovDie_queue (s : State) (d : Die) (g : GovDie → GovDie) : (s.modGovDie d g).queue = s.queue := rfl
@[simp] theorem modGovDie_lastStart (s : State) (d : Die) (g : GovDie → GovDie) : (s.modGovDie d g).lastStart = s.lastStart := rfl
@[simp] theorem modGovDie_nextPoll (s : State) (d : Die) (g : GovDie → GovDie) : (s.modGovDie d g).nextPoll = s.nextPoll := rfl
@[simp] theorem modGovDie_mgt (s : State) (d : Die) (g : GovDie → GovDie) : (s.modGovDie d g).mgt = s.mgt := rfl
@[simp] theorem modGovDie_fuses (s : State) (d : Die) (g : GovDie → GovDie) : (s.modGovDie d g).fuses = s.fuses := rfl
@[simp] theorem modGovDie_siteFuse (s : State) (d : Die) (g : GovDie → GovDie) : (s.modGovDie d g).siteFuse = s.siteFuse := rfl
@[simp] theorem modGovDie_tripTrim (s : State) (d : Die) (g : GovDie → GovDie) : (s.modGovDie d g).tripTrim = s.tripTrim := rfl
@[simp] theorem modGovDie_rings (s : State) (d : Die) (g : GovDie → GovDie) : (s.modGovDie d g).rings = s.rings := rfl
@[simp] theorem modGovDie_trcFifo (s : State) (d : Die) (g : GovDie → GovDie) : (s.modGovDie d g).trcFifo = s.trcFifo := rfl
@[simp] theorem modGovDie_trcDrop (s : State) (d : Die) (g : GovDie → GovDie) : (s.modGovDie d g).trcDrop = s.trcDrop := rfl
@[simp] theorem modGovDie_rcd (s : State) (d : Die) (g : GovDie → GovDie) : (s.modGovDie d g).rcd = s.rcd := rfl
@[simp] theorem modGovDie_upd (s : State) (d : Die) (g : GovDie → GovDie) : (s.modGovDie d g).upd = s.upd := rfl
@[simp] theorem modGovDie_flash (s : State) (d : Die) (g : GovDie → GovDie) : (s.modGovDie d g).flash = s.flash := rfl
@[simp] theorem modGovDie_mtr (s : State) (d : Die) (g : GovDie → GovDie) : (s.modGovDie d g).mtr = s.mtr := rfl
@[simp] theorem modGovDie_chain (s : State) (d : Die) (g : GovDie → GovDie) : (s.modGovDie d g).chain = s.chain := rfl
@[simp] theorem modGovDie_seam (s : State) (d : Die) (g : GovDie → GovDie) : (s.modGovDie d g).seam = s.seam := rfl
@[simp] theorem modGovDie_govDie (s : State) (d : Die) (g : GovDie → GovDie) : (s.modGovDie d g).govDie = s.govDie.set d (g s.govDie[d]) := rfl
@[simp] theorem modGovDie_rd (s : State) (d : Die) (g : GovDie → GovDie) (z : Fld) : (s.modGovDie d g).rd z = s.rd z := rfl
@[simp] theorem modGovDie_on (s : State) (d : Die) (g : GovDie → GovDie) (z : Fld) : (s.modGovDie d g).on z = s.on z := rfl
@[simp] theorem modGovDie_live (s : State) (d : Die) (g : GovDie → GovDie) : (s.modGovDie d g).live = s.live := rfl
@[simp] theorem modGovDie_rgcOn (s : State) (d : Die) (g : GovDie → GovDie) : (s.modGovDie d g).rgcOn = s.rgcOn := rfl
@[simp] theorem modGovDie_frozenTime (s : State) (d : Die) (g : GovDie → GovDie) : (s.modGovDie d g).frozenTime = s.frozenTime := rfl
@[simp] theorem modGovDie_cyc (s : State) (d : Die) (g : GovDie → GovDie) : (s.modGovDie d g).cyc = s.cyc := rfl
@[simp] theorem modGovDie_window (s : State) (d : Die) (g : GovDie → GovDie) : (s.modGovDie d g).window = s.window := rfl
@[simp] theorem modGovDie_seamUp (s : State) (d : Die) (g : GovDie → GovDie) (z : Sat) : (s.modGovDie d g).seamUp z = s.seamUp z := rfl
@[simp] theorem modGovDie_fenced (s : State) (d : Die) (g : GovDie → GovDie) (z : Die) : (s.modGovDie d g).fenced z = s.fenced z := rfl
@[simp] theorem modGovDie_safeTier (s : State) (d : Die) (g : GovDie → GovDie) (z : Die) : (s.modGovDie d g).safeTier z = s.safeTier z := rfl
@[simp] theorem modGovDie_mode (s : State) (d : Die) (g : GovDie → GovDie) (z : Loop) : (s.modGovDie d g).mode z = s.mode z := rfl

@[simp] theorem modQueue_pending (s : State) (q : Queue) (g : QueueSt → QueueSt) : (s.modQueue q g).pending = s.pending := rfl
@[simp] theorem modQueue_now (s : State) (q : Queue) (g : QueueSt → QueueSt) : (s.modQueue q g).now = s.now := rfl
@[simp] theorem modQueue_strokeIdx (s : State) (q : Queue) (g : QueueSt → QueueSt) : (s.modQueue q g).strokeIdx = s.strokeIdx := rfl
@[simp] theorem modQueue_windowIdx (s : State) (q : Queue) (g : QueueSt → QueueSt) : (s.modQueue q g).windowIdx = s.windowIdx := rfl
@[simp] theorem modQueue_alignIdx (s : State) (q : Queue) (g : QueueSt → QueueSt) : (s.modQueue q g).alignIdx = s.alignIdx := rfl
@[simp] theorem modQueue_phase (s : State) (q : Queue) (g : QueueSt → QueueSt) : (s.modQueue q g).phase = s.phase := rfl
@[simp] theorem modQueue_frozen (s : State) (q : Queue) (g : QueueSt → QueueSt) : (s.modQueue q g).frozen = s.frozen := rfl
@[simp] theorem modQueue_regs (s : State) (q : Queue) (g : QueueSt → QueueSt) : (s.modQueue q g).regs = s.regs := rfl
@[simp] theorem modQueue_resetReq (s : State) (q : Queue) (g : QueueSt → QueueSt) : (s.modQueue q g).resetReq = s.resetReq := rfl
@[simp] theorem modQueue_raised (s : State) (q : Queue) (g : QueueSt → QueueSt) : (s.modQueue q g).raised = s.raised := rfl
@[simp] theorem modQueue_out (s : State) (q : Queue) (g : QueueSt → QueueSt) : (s.modQueue q g).out = s.out := rfl
@[simp] theorem modQueue_freeCtr (s : State) (q : Queue) (g : QueueSt → QueueSt) : (s.modQueue q g).freeCtr = s.freeCtr := rfl
@[simp] theorem modQueue_adm (s : State) (q : Queue) (g : QueueSt → QueueSt) : (s.modQueue q g).adm = s.adm := rfl
@[simp] theorem modQueue_inbox (s : State) (q : Queue) (g : QueueSt → QueueSt) : (s.modQueue q g).inbox = s.inbox := rfl
@[simp] theorem modQueue_bus (s : State) (q : Queue) (g : QueueSt → QueueSt) : (s.modQueue q g).bus = s.bus := rfl
@[simp] theorem modQueue_gov (s : State) (q : Queue) (g : QueueSt → QueueSt) : (s.modQueue q g).gov = s.gov := rfl
@[simp] theorem modQueue_govDie (s : State) (q : Queue) (g : QueueSt → QueueSt) : (s.modQueue q g).govDie = s.govDie := rfl
@[simp] theorem modQueue_rail (s : State) (q : Queue) (g : QueueSt → QueueSt) : (s.modQueue q g).rail = s.rail := rfl
@[simp] theorem modQueue_rptIo (s : State) (q : Queue) (g : QueueSt → QueueSt) : (s.modQueue q g).rptIo = s.rptIo := rfl
@[simp] theorem modQueue_lastIo (s : State) (q : Queue) (g : QueueSt → QueueSt) : (s.modQueue q g).lastIo = s.lastIo := rfl
@[simp] theorem modQueue_clk (s : State) (q : Queue) (g : QueueSt → QueueSt) : (s.modQueue q g).clk = s.clk := rfl
@[simp] theorem modQueue_clkDie (s : State) (q : Queue) (g : QueueSt → QueueSt) : (s.modQueue q g).clkDie = s.clkDie := rfl
@[simp] theorem modQueue_hold (s : State) (q : Queue) (g : QueueSt → QueueSt) : (s.modQueue q g).hold = s.hold := rfl
@[simp] theorem modQueue_rgc (s : State) (q : Queue) (g : QueueSt → QueueSt) : (s.modQueue q g).rgc = s.rgc := rfl
@[simp] theorem modQueue_loop (s : State) (q : Queue) (g : QueueSt → QueueSt) : (s.modQueue q g).loop = s.loop := rfl
@[simp] theorem modQueue_vsetTx (s : State) (q : Queue) (g : QueueSt → QueueSt) : (s.modQueue q g).vsetTx = s.vsetTx := rfl
@[simp] theorem modQueue_satSeq (s : State) (q : Queue) (g : QueueSt → QueueSt) : (s.modQueue q g).satSeq = s.satSeq := rfl
@[simp] theorem modQueue_vcl (s : State) (q : Queue) (g : QueueSt → QueueSt) : (s.modQueue q g).vcl = s.vcl := rfl
@[simp] theorem modQueue_once (s : State) (q : Queue) (g : QueueSt → QueueSt) : (s.modQueue q g).once = s.once := rfl
@[simp] theorem modQueue_thm (s : State) (q : Queue) (g : QueueSt → QueueSt) : (s.modQueue q g).thm = s.thm := rfl
@[simp] theorem modQueue_thmDie (s : State) (q : Queue) (g : QueueSt → QueueSt) : (s.modQueue q g).thmDie = s.thmDie := rfl
@[simp] theorem modQueue_trip (s : State) (q : Queue) (g : QueueSt → QueueSt) : (s.modQueue q g).trip = s.trip := rfl
@[simp] theorem modQueue_sen (s : State) (q : Queue) (g : QueueSt → QueueSt) : (s.modQueue q g).sen = s.sen := rfl
@[simp] theorem modQueue_libStored (s : State) (q : Queue) (g : QueueSt → QueueSt) : (s.modQueue q g).libStored = s.libStored := rfl
@[simp] theorem modQueue_lk (s : State) (q : Queue) (g : QueueSt → QueueSt) : (s.modQueue q g).lk = s.lk := rfl
@[simp] theorem modQueue_cas (s : State) (q : Queue) (g : QueueSt → QueueSt) : (s.modQueue q g).cas = s.cas := rfl
@[simp] theorem modQueue_frozenNs (s : State) (q : Queue) (g : QueueSt → QueueSt) : (s.modQueue q g).frozenNs = s.frozenNs := rfl
@[simp] theorem modQueue_frozeAt (s : State) (q : Queue) (g : QueueSt → QueueSt) : (s.modQueue q g).frozeAt = s.frozeAt := rfl
@[simp] theorem modQueue_lastStart (s : State) (q : Queue) (g : QueueSt → QueueSt) : (s.modQueue q g).lastStart = s.lastStart := rfl
@[simp] theorem modQueue_nextPoll (s : State) (q : Queue) (g : QueueSt → QueueSt) : (s.modQueue q g).nextPoll = s.nextPoll := rfl
@[simp] theorem modQueue_mgt (s : State) (q : Queue) (g : QueueSt → QueueSt) : (s.modQueue q g).mgt = s.mgt := rfl
@[simp] theorem modQueue_fuses (s : State) (q : Queue) (g : QueueSt → QueueSt) : (s.modQueue q g).fuses = s.fuses := rfl
@[simp] theorem modQueue_siteFuse (s : State) (q : Queue) (g : QueueSt → QueueSt) : (s.modQueue q g).siteFuse = s.siteFuse := rfl
@[simp] theorem modQueue_tripTrim (s : State) (q : Queue) (g : QueueSt → QueueSt) : (s.modQueue q g).tripTrim = s.tripTrim := rfl
@[simp] theorem modQueue_rings (s : State) (q : Queue) (g : QueueSt → QueueSt) : (s.modQueue q g).rings = s.rings := rfl
@[simp] theorem modQueue_trcFifo (s : State) (q : Queue) (g : QueueSt → QueueSt) : (s.modQueue q g).trcFifo = s.trcFifo := rfl
@[simp] theorem modQueue_trcDrop (s : State) (q : Queue) (g : QueueSt → QueueSt) : (s.modQueue q g).trcDrop = s.trcDrop := rfl
@[simp] theorem modQueue_rcd (s : State) (q : Queue) (g : QueueSt → QueueSt) : (s.modQueue q g).rcd = s.rcd := rfl
@[simp] theorem modQueue_upd (s : State) (q : Queue) (g : QueueSt → QueueSt) : (s.modQueue q g).upd = s.upd := rfl
@[simp] theorem modQueue_flash (s : State) (q : Queue) (g : QueueSt → QueueSt) : (s.modQueue q g).flash = s.flash := rfl
@[simp] theorem modQueue_mtr (s : State) (q : Queue) (g : QueueSt → QueueSt) : (s.modQueue q g).mtr = s.mtr := rfl
@[simp] theorem modQueue_chain (s : State) (q : Queue) (g : QueueSt → QueueSt) : (s.modQueue q g).chain = s.chain := rfl
@[simp] theorem modQueue_seam (s : State) (q : Queue) (g : QueueSt → QueueSt) : (s.modQueue q g).seam = s.seam := rfl
@[simp] theorem modQueue_queue (s : State) (q : Queue) (g : QueueSt → QueueSt) : (s.modQueue q g).queue = s.queue.set q (g s.queue[q]) := rfl
@[simp] theorem modQueue_rd (s : State) (q : Queue) (g : QueueSt → QueueSt) (z : Fld) : (s.modQueue q g).rd z = s.rd z := rfl
@[simp] theorem modQueue_on (s : State) (q : Queue) (g : QueueSt → QueueSt) (z : Fld) : (s.modQueue q g).on z = s.on z := rfl
@[simp] theorem modQueue_live (s : State) (q : Queue) (g : QueueSt → QueueSt) : (s.modQueue q g).live = s.live := rfl
@[simp] theorem modQueue_rgcOn (s : State) (q : Queue) (g : QueueSt → QueueSt) : (s.modQueue q g).rgcOn = s.rgcOn := rfl
@[simp] theorem modQueue_frozenTime (s : State) (q : Queue) (g : QueueSt → QueueSt) : (s.modQueue q g).frozenTime = s.frozenTime := rfl
@[simp] theorem modQueue_cyc (s : State) (q : Queue) (g : QueueSt → QueueSt) : (s.modQueue q g).cyc = s.cyc := rfl
@[simp] theorem modQueue_window (s : State) (q : Queue) (g : QueueSt → QueueSt) : (s.modQueue q g).window = s.window := rfl
@[simp] theorem modQueue_seamUp (s : State) (q : Queue) (g : QueueSt → QueueSt) (z : Sat) : (s.modQueue q g).seamUp z = s.seamUp z := rfl
@[simp] theorem modQueue_fenced (s : State) (q : Queue) (g : QueueSt → QueueSt) (z : Die) : (s.modQueue q g).fenced z = s.fenced z := rfl
@[simp] theorem modQueue_safeTier (s : State) (q : Queue) (g : QueueSt → QueueSt) (z : Die) : (s.modQueue q g).safeTier z = s.safeTier z := rfl
@[simp] theorem modQueue_mode (s : State) (q : Queue) (g : QueueSt → QueueSt) (z : Loop) : (s.modQueue q g).mode z = s.mode z := rfl

@[simp] theorem modMgt_pending (s : State) (g : MgtSt → MgtSt) : (s.modMgt g).pending = s.pending := rfl
@[simp] theorem modMgt_now (s : State) (g : MgtSt → MgtSt) : (s.modMgt g).now = s.now := rfl
@[simp] theorem modMgt_strokeIdx (s : State) (g : MgtSt → MgtSt) : (s.modMgt g).strokeIdx = s.strokeIdx := rfl
@[simp] theorem modMgt_windowIdx (s : State) (g : MgtSt → MgtSt) : (s.modMgt g).windowIdx = s.windowIdx := rfl
@[simp] theorem modMgt_alignIdx (s : State) (g : MgtSt → MgtSt) : (s.modMgt g).alignIdx = s.alignIdx := rfl
@[simp] theorem modMgt_phase (s : State) (g : MgtSt → MgtSt) : (s.modMgt g).phase = s.phase := rfl
@[simp] theorem modMgt_frozen (s : State) (g : MgtSt → MgtSt) : (s.modMgt g).frozen = s.frozen := rfl
@[simp] theorem modMgt_regs (s : State) (g : MgtSt → MgtSt) : (s.modMgt g).regs = s.regs := rfl
@[simp] theorem modMgt_resetReq (s : State) (g : MgtSt → MgtSt) : (s.modMgt g).resetReq = s.resetReq := rfl
@[simp] theorem modMgt_raised (s : State) (g : MgtSt → MgtSt) : (s.modMgt g).raised = s.raised := rfl
@[simp] theorem modMgt_out (s : State) (g : MgtSt → MgtSt) : (s.modMgt g).out = s.out := rfl
@[simp] theorem modMgt_freeCtr (s : State) (g : MgtSt → MgtSt) : (s.modMgt g).freeCtr = s.freeCtr := rfl
@[simp] theorem modMgt_adm (s : State) (g : MgtSt → MgtSt) : (s.modMgt g).adm = s.adm := rfl
@[simp] theorem modMgt_inbox (s : State) (g : MgtSt → MgtSt) : (s.modMgt g).inbox = s.inbox := rfl
@[simp] theorem modMgt_bus (s : State) (g : MgtSt → MgtSt) : (s.modMgt g).bus = s.bus := rfl
@[simp] theorem modMgt_gov (s : State) (g : MgtSt → MgtSt) : (s.modMgt g).gov = s.gov := rfl
@[simp] theorem modMgt_govDie (s : State) (g : MgtSt → MgtSt) : (s.modMgt g).govDie = s.govDie := rfl
@[simp] theorem modMgt_rail (s : State) (g : MgtSt → MgtSt) : (s.modMgt g).rail = s.rail := rfl
@[simp] theorem modMgt_rptIo (s : State) (g : MgtSt → MgtSt) : (s.modMgt g).rptIo = s.rptIo := rfl
@[simp] theorem modMgt_lastIo (s : State) (g : MgtSt → MgtSt) : (s.modMgt g).lastIo = s.lastIo := rfl
@[simp] theorem modMgt_clk (s : State) (g : MgtSt → MgtSt) : (s.modMgt g).clk = s.clk := rfl
@[simp] theorem modMgt_clkDie (s : State) (g : MgtSt → MgtSt) : (s.modMgt g).clkDie = s.clkDie := rfl
@[simp] theorem modMgt_hold (s : State) (g : MgtSt → MgtSt) : (s.modMgt g).hold = s.hold := rfl
@[simp] theorem modMgt_rgc (s : State) (g : MgtSt → MgtSt) : (s.modMgt g).rgc = s.rgc := rfl
@[simp] theorem modMgt_loop (s : State) (g : MgtSt → MgtSt) : (s.modMgt g).loop = s.loop := rfl
@[simp] theorem modMgt_vsetTx (s : State) (g : MgtSt → MgtSt) : (s.modMgt g).vsetTx = s.vsetTx := rfl
@[simp] theorem modMgt_satSeq (s : State) (g : MgtSt → MgtSt) : (s.modMgt g).satSeq = s.satSeq := rfl
@[simp] theorem modMgt_vcl (s : State) (g : MgtSt → MgtSt) : (s.modMgt g).vcl = s.vcl := rfl
@[simp] theorem modMgt_once (s : State) (g : MgtSt → MgtSt) : (s.modMgt g).once = s.once := rfl
@[simp] theorem modMgt_thm (s : State) (g : MgtSt → MgtSt) : (s.modMgt g).thm = s.thm := rfl
@[simp] theorem modMgt_thmDie (s : State) (g : MgtSt → MgtSt) : (s.modMgt g).thmDie = s.thmDie := rfl
@[simp] theorem modMgt_trip (s : State) (g : MgtSt → MgtSt) : (s.modMgt g).trip = s.trip := rfl
@[simp] theorem modMgt_sen (s : State) (g : MgtSt → MgtSt) : (s.modMgt g).sen = s.sen := rfl
@[simp] theorem modMgt_libStored (s : State) (g : MgtSt → MgtSt) : (s.modMgt g).libStored = s.libStored := rfl
@[simp] theorem modMgt_lk (s : State) (g : MgtSt → MgtSt) : (s.modMgt g).lk = s.lk := rfl
@[simp] theorem modMgt_cas (s : State) (g : MgtSt → MgtSt) : (s.modMgt g).cas = s.cas := rfl
@[simp] theorem modMgt_frozenNs (s : State) (g : MgtSt → MgtSt) : (s.modMgt g).frozenNs = s.frozenNs := rfl
@[simp] theorem modMgt_frozeAt (s : State) (g : MgtSt → MgtSt) : (s.modMgt g).frozeAt = s.frozeAt := rfl
@[simp] theorem modMgt_queue (s : State) (g : MgtSt → MgtSt) : (s.modMgt g).queue = s.queue := rfl
@[simp] theorem modMgt_lastStart (s : State) (g : MgtSt → MgtSt) : (s.modMgt g).lastStart = s.lastStart := rfl
@[simp] theorem modMgt_nextPoll (s : State) (g : MgtSt → MgtSt) : (s.modMgt g).nextPoll = s.nextPoll := rfl
@[simp] theorem modMgt_fuses (s : State) (g : MgtSt → MgtSt) : (s.modMgt g).fuses = s.fuses := rfl
@[simp] theorem modMgt_siteFuse (s : State) (g : MgtSt → MgtSt) : (s.modMgt g).siteFuse = s.siteFuse := rfl
@[simp] theorem modMgt_tripTrim (s : State) (g : MgtSt → MgtSt) : (s.modMgt g).tripTrim = s.tripTrim := rfl
@[simp] theorem modMgt_rings (s : State) (g : MgtSt → MgtSt) : (s.modMgt g).rings = s.rings := rfl
@[simp] theorem modMgt_trcFifo (s : State) (g : MgtSt → MgtSt) : (s.modMgt g).trcFifo = s.trcFifo := rfl
@[simp] theorem modMgt_trcDrop (s : State) (g : MgtSt → MgtSt) : (s.modMgt g).trcDrop = s.trcDrop := rfl
@[simp] theorem modMgt_rcd (s : State) (g : MgtSt → MgtSt) : (s.modMgt g).rcd = s.rcd := rfl
@[simp] theorem modMgt_upd (s : State) (g : MgtSt → MgtSt) : (s.modMgt g).upd = s.upd := rfl
@[simp] theorem modMgt_flash (s : State) (g : MgtSt → MgtSt) : (s.modMgt g).flash = s.flash := rfl
@[simp] theorem modMgt_mtr (s : State) (g : MgtSt → MgtSt) : (s.modMgt g).mtr = s.mtr := rfl
@[simp] theorem modMgt_chain (s : State) (g : MgtSt → MgtSt) : (s.modMgt g).chain = s.chain := rfl
@[simp] theorem modMgt_seam (s : State) (g : MgtSt → MgtSt) : (s.modMgt g).seam = s.seam := rfl
@[simp] theorem modMgt_mgt (s : State) (g : MgtSt → MgtSt) : (s.modMgt g).mgt = g s.mgt := rfl
@[simp] theorem modMgt_rd (s : State) (g : MgtSt → MgtSt) (z : Fld) : (s.modMgt g).rd z = s.rd z := rfl
@[simp] theorem modMgt_on (s : State) (g : MgtSt → MgtSt) (z : Fld) : (s.modMgt g).on z = s.on z := rfl
@[simp] theorem modMgt_live (s : State) (g : MgtSt → MgtSt) : (s.modMgt g).live = s.live := rfl
@[simp] theorem modMgt_rgcOn (s : State) (g : MgtSt → MgtSt) : (s.modMgt g).rgcOn = s.rgcOn := rfl
@[simp] theorem modMgt_frozenTime (s : State) (g : MgtSt → MgtSt) : (s.modMgt g).frozenTime = s.frozenTime := rfl
@[simp] theorem modMgt_cyc (s : State) (g : MgtSt → MgtSt) : (s.modMgt g).cyc = s.cyc := rfl
@[simp] theorem modMgt_window (s : State) (g : MgtSt → MgtSt) : (s.modMgt g).window = s.window := rfl
@[simp] theorem modMgt_seamUp (s : State) (g : MgtSt → MgtSt) (z : Sat) : (s.modMgt g).seamUp z = s.seamUp z := rfl
@[simp] theorem modMgt_fenced (s : State) (g : MgtSt → MgtSt) (z : Die) : (s.modMgt g).fenced z = s.fenced z := rfl
@[simp] theorem modMgt_safeTier (s : State) (g : MgtSt → MgtSt) (z : Die) : (s.modMgt g).safeTier z = s.safeTier z := rfl
@[simp] theorem modMgt_mode (s : State) (g : MgtSt → MgtSt) (z : Loop) : (s.modMgt g).mode z = s.mode z := rfl

@[simp] theorem modProc_pending (s : State) (p : Proc) (g : ProcSt → ProcSt) : (s.modProc p g).pending = s.pending := rfl
@[simp] theorem modProc_now (s : State) (p : Proc) (g : ProcSt → ProcSt) : (s.modProc p g).now = s.now := rfl
@[simp] theorem modProc_strokeIdx (s : State) (p : Proc) (g : ProcSt → ProcSt) : (s.modProc p g).strokeIdx = s.strokeIdx := rfl
@[simp] theorem modProc_windowIdx (s : State) (p : Proc) (g : ProcSt → ProcSt) : (s.modProc p g).windowIdx = s.windowIdx := rfl
@[simp] theorem modProc_alignIdx (s : State) (p : Proc) (g : ProcSt → ProcSt) : (s.modProc p g).alignIdx = s.alignIdx := rfl
@[simp] theorem modProc_phase (s : State) (p : Proc) (g : ProcSt → ProcSt) : (s.modProc p g).phase = s.phase := rfl
@[simp] theorem modProc_frozen (s : State) (p : Proc) (g : ProcSt → ProcSt) : (s.modProc p g).frozen = s.frozen := rfl
@[simp] theorem modProc_regs (s : State) (p : Proc) (g : ProcSt → ProcSt) : (s.modProc p g).regs = s.regs := rfl
@[simp] theorem modProc_resetReq (s : State) (p : Proc) (g : ProcSt → ProcSt) : (s.modProc p g).resetReq = s.resetReq := rfl
@[simp] theorem modProc_raised (s : State) (p : Proc) (g : ProcSt → ProcSt) : (s.modProc p g).raised = s.raised := rfl
@[simp] theorem modProc_out (s : State) (p : Proc) (g : ProcSt → ProcSt) : (s.modProc p g).out = s.out := rfl
@[simp] theorem modProc_freeCtr (s : State) (p : Proc) (g : ProcSt → ProcSt) : (s.modProc p g).freeCtr = s.freeCtr := rfl
@[simp] theorem modProc_adm (s : State) (p : Proc) (g : ProcSt → ProcSt) : (s.modProc p g).adm = s.adm := rfl
@[simp] theorem modProc_inbox (s : State) (p : Proc) (g : ProcSt → ProcSt) : (s.modProc p g).inbox = s.inbox := rfl
@[simp] theorem modProc_bus (s : State) (p : Proc) (g : ProcSt → ProcSt) : (s.modProc p g).bus = s.bus := rfl
@[simp] theorem modProc_gov (s : State) (p : Proc) (g : ProcSt → ProcSt) : (s.modProc p g).gov = s.gov := rfl
@[simp] theorem modProc_govDie (s : State) (p : Proc) (g : ProcSt → ProcSt) : (s.modProc p g).govDie = s.govDie := rfl
@[simp] theorem modProc_rail (s : State) (p : Proc) (g : ProcSt → ProcSt) : (s.modProc p g).rail = s.rail := rfl
@[simp] theorem modProc_rptIo (s : State) (p : Proc) (g : ProcSt → ProcSt) : (s.modProc p g).rptIo = s.rptIo := rfl
@[simp] theorem modProc_lastIo (s : State) (p : Proc) (g : ProcSt → ProcSt) : (s.modProc p g).lastIo = s.lastIo := rfl
@[simp] theorem modProc_clk (s : State) (p : Proc) (g : ProcSt → ProcSt) : (s.modProc p g).clk = s.clk := rfl
@[simp] theorem modProc_clkDie (s : State) (p : Proc) (g : ProcSt → ProcSt) : (s.modProc p g).clkDie = s.clkDie := rfl
@[simp] theorem modProc_hold (s : State) (p : Proc) (g : ProcSt → ProcSt) : (s.modProc p g).hold = s.hold := rfl
@[simp] theorem modProc_rgc (s : State) (p : Proc) (g : ProcSt → ProcSt) : (s.modProc p g).rgc = s.rgc := rfl
@[simp] theorem modProc_loop (s : State) (p : Proc) (g : ProcSt → ProcSt) : (s.modProc p g).loop = s.loop := rfl
@[simp] theorem modProc_vsetTx (s : State) (p : Proc) (g : ProcSt → ProcSt) : (s.modProc p g).vsetTx = s.vsetTx := rfl
@[simp] theorem modProc_satSeq (s : State) (p : Proc) (g : ProcSt → ProcSt) : (s.modProc p g).satSeq = s.satSeq := rfl
@[simp] theorem modProc_vcl (s : State) (p : Proc) (g : ProcSt → ProcSt) : (s.modProc p g).vcl = s.vcl := rfl
@[simp] theorem modProc_once (s : State) (p : Proc) (g : ProcSt → ProcSt) : (s.modProc p g).once = s.once := rfl
@[simp] theorem modProc_thm (s : State) (p : Proc) (g : ProcSt → ProcSt) : (s.modProc p g).thm = s.thm := rfl
@[simp] theorem modProc_thmDie (s : State) (p : Proc) (g : ProcSt → ProcSt) : (s.modProc p g).thmDie = s.thmDie := rfl
@[simp] theorem modProc_trip (s : State) (p : Proc) (g : ProcSt → ProcSt) : (s.modProc p g).trip = s.trip := rfl
@[simp] theorem modProc_sen (s : State) (p : Proc) (g : ProcSt → ProcSt) : (s.modProc p g).sen = s.sen := rfl
@[simp] theorem modProc_libStored (s : State) (p : Proc) (g : ProcSt → ProcSt) : (s.modProc p g).libStored = s.libStored := rfl
@[simp] theorem modProc_lk (s : State) (p : Proc) (g : ProcSt → ProcSt) : (s.modProc p g).lk = s.lk := rfl
@[simp] theorem modProc_cas (s : State) (p : Proc) (g : ProcSt → ProcSt) : (s.modProc p g).cas = s.cas := rfl
@[simp] theorem modProc_frozenNs (s : State) (p : Proc) (g : ProcSt → ProcSt) : (s.modProc p g).frozenNs = s.frozenNs := rfl
@[simp] theorem modProc_frozeAt (s : State) (p : Proc) (g : ProcSt → ProcSt) : (s.modProc p g).frozeAt = s.frozeAt := rfl
@[simp] theorem modProc_queue (s : State) (p : Proc) (g : ProcSt → ProcSt) : (s.modProc p g).queue = s.queue := rfl
@[simp] theorem modProc_lastStart (s : State) (p : Proc) (g : ProcSt → ProcSt) : (s.modProc p g).lastStart = s.lastStart := rfl
@[simp] theorem modProc_nextPoll (s : State) (p : Proc) (g : ProcSt → ProcSt) : (s.modProc p g).nextPoll = s.nextPoll := rfl
@[simp] theorem modProc_fuses (s : State) (p : Proc) (g : ProcSt → ProcSt) : (s.modProc p g).fuses = s.fuses := rfl
@[simp] theorem modProc_siteFuse (s : State) (p : Proc) (g : ProcSt → ProcSt) : (s.modProc p g).siteFuse = s.siteFuse := rfl
@[simp] theorem modProc_tripTrim (s : State) (p : Proc) (g : ProcSt → ProcSt) : (s.modProc p g).tripTrim = s.tripTrim := rfl
@[simp] theorem modProc_rings (s : State) (p : Proc) (g : ProcSt → ProcSt) : (s.modProc p g).rings = s.rings := rfl
@[simp] theorem modProc_trcFifo (s : State) (p : Proc) (g : ProcSt → ProcSt) : (s.modProc p g).trcFifo = s.trcFifo := rfl
@[simp] theorem modProc_trcDrop (s : State) (p : Proc) (g : ProcSt → ProcSt) : (s.modProc p g).trcDrop = s.trcDrop := rfl
@[simp] theorem modProc_rcd (s : State) (p : Proc) (g : ProcSt → ProcSt) : (s.modProc p g).rcd = s.rcd := rfl
@[simp] theorem modProc_upd (s : State) (p : Proc) (g : ProcSt → ProcSt) : (s.modProc p g).upd = s.upd := rfl
@[simp] theorem modProc_flash (s : State) (p : Proc) (g : ProcSt → ProcSt) : (s.modProc p g).flash = s.flash := rfl
@[simp] theorem modProc_mtr (s : State) (p : Proc) (g : ProcSt → ProcSt) : (s.modProc p g).mtr = s.mtr := rfl
@[simp] theorem modProc_chain (s : State) (p : Proc) (g : ProcSt → ProcSt) : (s.modProc p g).chain = s.chain := rfl
@[simp] theorem modProc_seam (s : State) (p : Proc) (g : ProcSt → ProcSt) : (s.modProc p g).seam = s.seam := rfl
@[simp] theorem modProc_rd (s : State) (p : Proc) (g : ProcSt → ProcSt) (z : Fld) : (s.modProc p g).rd z = s.rd z := rfl
@[simp] theorem modProc_on (s : State) (p : Proc) (g : ProcSt → ProcSt) (z : Fld) : (s.modProc p g).on z = s.on z := rfl
@[simp] theorem modProc_live (s : State) (p : Proc) (g : ProcSt → ProcSt) : (s.modProc p g).live = s.live := rfl
@[simp] theorem modProc_rgcOn (s : State) (p : Proc) (g : ProcSt → ProcSt) : (s.modProc p g).rgcOn = s.rgcOn := rfl
@[simp] theorem modProc_frozenTime (s : State) (p : Proc) (g : ProcSt → ProcSt) : (s.modProc p g).frozenTime = s.frozenTime := rfl
@[simp] theorem modProc_cyc (s : State) (p : Proc) (g : ProcSt → ProcSt) : (s.modProc p g).cyc = s.cyc := rfl
@[simp] theorem modProc_window (s : State) (p : Proc) (g : ProcSt → ProcSt) : (s.modProc p g).window = s.window := rfl
@[simp] theorem modProc_seamUp (s : State) (p : Proc) (g : ProcSt → ProcSt) (z : Sat) : (s.modProc p g).seamUp z = s.seamUp z := rfl
@[simp] theorem modProc_fenced (s : State) (p : Proc) (g : ProcSt → ProcSt) (z : Die) : (s.modProc p g).fenced z = s.fenced z := rfl
@[simp] theorem modProc_safeTier (s : State) (p : Proc) (g : ProcSt → ProcSt) (z : Die) : (s.modProc p g).safeTier z = s.safeTier z := rfl
@[simp] theorem modProc_mode (s : State) (p : Proc) (g : ProcSt → ProcSt) (z : Loop) : (s.modProc p g).mode z = s.mode z := rfl

@[simp] theorem modMbx_pending (s : State) (k : Mbx) (g : MbxSt → MbxSt) : (s.modMbx k g).pending = s.pending := rfl
@[simp] theorem modMbx_now (s : State) (k : Mbx) (g : MbxSt → MbxSt) : (s.modMbx k g).now = s.now := rfl
@[simp] theorem modMbx_strokeIdx (s : State) (k : Mbx) (g : MbxSt → MbxSt) : (s.modMbx k g).strokeIdx = s.strokeIdx := rfl
@[simp] theorem modMbx_windowIdx (s : State) (k : Mbx) (g : MbxSt → MbxSt) : (s.modMbx k g).windowIdx = s.windowIdx := rfl
@[simp] theorem modMbx_alignIdx (s : State) (k : Mbx) (g : MbxSt → MbxSt) : (s.modMbx k g).alignIdx = s.alignIdx := rfl
@[simp] theorem modMbx_phase (s : State) (k : Mbx) (g : MbxSt → MbxSt) : (s.modMbx k g).phase = s.phase := rfl
@[simp] theorem modMbx_frozen (s : State) (k : Mbx) (g : MbxSt → MbxSt) : (s.modMbx k g).frozen = s.frozen := rfl
@[simp] theorem modMbx_regs (s : State) (k : Mbx) (g : MbxSt → MbxSt) : (s.modMbx k g).regs = s.regs := rfl
@[simp] theorem modMbx_resetReq (s : State) (k : Mbx) (g : MbxSt → MbxSt) : (s.modMbx k g).resetReq = s.resetReq := rfl
@[simp] theorem modMbx_raised (s : State) (k : Mbx) (g : MbxSt → MbxSt) : (s.modMbx k g).raised = s.raised := rfl
@[simp] theorem modMbx_out (s : State) (k : Mbx) (g : MbxSt → MbxSt) : (s.modMbx k g).out = s.out := rfl
@[simp] theorem modMbx_freeCtr (s : State) (k : Mbx) (g : MbxSt → MbxSt) : (s.modMbx k g).freeCtr = s.freeCtr := rfl
@[simp] theorem modMbx_adm (s : State) (k : Mbx) (g : MbxSt → MbxSt) : (s.modMbx k g).adm = s.adm := rfl
@[simp] theorem modMbx_inbox (s : State) (k : Mbx) (g : MbxSt → MbxSt) : (s.modMbx k g).inbox = s.inbox := rfl
@[simp] theorem modMbx_bus (s : State) (k : Mbx) (g : MbxSt → MbxSt) : (s.modMbx k g).bus = s.bus := rfl
@[simp] theorem modMbx_gov (s : State) (k : Mbx) (g : MbxSt → MbxSt) : (s.modMbx k g).gov = s.gov := rfl
@[simp] theorem modMbx_govDie (s : State) (k : Mbx) (g : MbxSt → MbxSt) : (s.modMbx k g).govDie = s.govDie := rfl
@[simp] theorem modMbx_rail (s : State) (k : Mbx) (g : MbxSt → MbxSt) : (s.modMbx k g).rail = s.rail := rfl
@[simp] theorem modMbx_rptIo (s : State) (k : Mbx) (g : MbxSt → MbxSt) : (s.modMbx k g).rptIo = s.rptIo := rfl
@[simp] theorem modMbx_lastIo (s : State) (k : Mbx) (g : MbxSt → MbxSt) : (s.modMbx k g).lastIo = s.lastIo := rfl
@[simp] theorem modMbx_clk (s : State) (k : Mbx) (g : MbxSt → MbxSt) : (s.modMbx k g).clk = s.clk := rfl
@[simp] theorem modMbx_clkDie (s : State) (k : Mbx) (g : MbxSt → MbxSt) : (s.modMbx k g).clkDie = s.clkDie := rfl
@[simp] theorem modMbx_hold (s : State) (k : Mbx) (g : MbxSt → MbxSt) : (s.modMbx k g).hold = s.hold := rfl
@[simp] theorem modMbx_rgc (s : State) (k : Mbx) (g : MbxSt → MbxSt) : (s.modMbx k g).rgc = s.rgc := rfl
@[simp] theorem modMbx_loop (s : State) (k : Mbx) (g : MbxSt → MbxSt) : (s.modMbx k g).loop = s.loop := rfl
@[simp] theorem modMbx_vsetTx (s : State) (k : Mbx) (g : MbxSt → MbxSt) : (s.modMbx k g).vsetTx = s.vsetTx := rfl
@[simp] theorem modMbx_satSeq (s : State) (k : Mbx) (g : MbxSt → MbxSt) : (s.modMbx k g).satSeq = s.satSeq := rfl
@[simp] theorem modMbx_vcl (s : State) (k : Mbx) (g : MbxSt → MbxSt) : (s.modMbx k g).vcl = s.vcl := rfl
@[simp] theorem modMbx_once (s : State) (k : Mbx) (g : MbxSt → MbxSt) : (s.modMbx k g).once = s.once := rfl
@[simp] theorem modMbx_thm (s : State) (k : Mbx) (g : MbxSt → MbxSt) : (s.modMbx k g).thm = s.thm := rfl
@[simp] theorem modMbx_thmDie (s : State) (k : Mbx) (g : MbxSt → MbxSt) : (s.modMbx k g).thmDie = s.thmDie := rfl
@[simp] theorem modMbx_trip (s : State) (k : Mbx) (g : MbxSt → MbxSt) : (s.modMbx k g).trip = s.trip := rfl
@[simp] theorem modMbx_sen (s : State) (k : Mbx) (g : MbxSt → MbxSt) : (s.modMbx k g).sen = s.sen := rfl
@[simp] theorem modMbx_libStored (s : State) (k : Mbx) (g : MbxSt → MbxSt) : (s.modMbx k g).libStored = s.libStored := rfl
@[simp] theorem modMbx_lk (s : State) (k : Mbx) (g : MbxSt → MbxSt) : (s.modMbx k g).lk = s.lk := rfl
@[simp] theorem modMbx_cas (s : State) (k : Mbx) (g : MbxSt → MbxSt) : (s.modMbx k g).cas = s.cas := rfl
@[simp] theorem modMbx_frozenNs (s : State) (k : Mbx) (g : MbxSt → MbxSt) : (s.modMbx k g).frozenNs = s.frozenNs := rfl
@[simp] theorem modMbx_frozeAt (s : State) (k : Mbx) (g : MbxSt → MbxSt) : (s.modMbx k g).frozeAt = s.frozeAt := rfl
@[simp] theorem modMbx_queue (s : State) (k : Mbx) (g : MbxSt → MbxSt) : (s.modMbx k g).queue = s.queue := rfl
@[simp] theorem modMbx_lastStart (s : State) (k : Mbx) (g : MbxSt → MbxSt) : (s.modMbx k g).lastStart = s.lastStart := rfl
@[simp] theorem modMbx_nextPoll (s : State) (k : Mbx) (g : MbxSt → MbxSt) : (s.modMbx k g).nextPoll = s.nextPoll := rfl
@[simp] theorem modMbx_fuses (s : State) (k : Mbx) (g : MbxSt → MbxSt) : (s.modMbx k g).fuses = s.fuses := rfl
@[simp] theorem modMbx_siteFuse (s : State) (k : Mbx) (g : MbxSt → MbxSt) : (s.modMbx k g).siteFuse = s.siteFuse := rfl
@[simp] theorem modMbx_tripTrim (s : State) (k : Mbx) (g : MbxSt → MbxSt) : (s.modMbx k g).tripTrim = s.tripTrim := rfl
@[simp] theorem modMbx_rings (s : State) (k : Mbx) (g : MbxSt → MbxSt) : (s.modMbx k g).rings = s.rings := rfl
@[simp] theorem modMbx_trcFifo (s : State) (k : Mbx) (g : MbxSt → MbxSt) : (s.modMbx k g).trcFifo = s.trcFifo := rfl
@[simp] theorem modMbx_trcDrop (s : State) (k : Mbx) (g : MbxSt → MbxSt) : (s.modMbx k g).trcDrop = s.trcDrop := rfl
@[simp] theorem modMbx_rcd (s : State) (k : Mbx) (g : MbxSt → MbxSt) : (s.modMbx k g).rcd = s.rcd := rfl
@[simp] theorem modMbx_upd (s : State) (k : Mbx) (g : MbxSt → MbxSt) : (s.modMbx k g).upd = s.upd := rfl
@[simp] theorem modMbx_flash (s : State) (k : Mbx) (g : MbxSt → MbxSt) : (s.modMbx k g).flash = s.flash := rfl
@[simp] theorem modMbx_mtr (s : State) (k : Mbx) (g : MbxSt → MbxSt) : (s.modMbx k g).mtr = s.mtr := rfl
@[simp] theorem modMbx_chain (s : State) (k : Mbx) (g : MbxSt → MbxSt) : (s.modMbx k g).chain = s.chain := rfl
@[simp] theorem modMbx_seam (s : State) (k : Mbx) (g : MbxSt → MbxSt) : (s.modMbx k g).seam = s.seam := rfl
@[simp] theorem modMbx_rd (s : State) (k : Mbx) (g : MbxSt → MbxSt) (z : Fld) : (s.modMbx k g).rd z = s.rd z := rfl
@[simp] theorem modMbx_on (s : State) (k : Mbx) (g : MbxSt → MbxSt) (z : Fld) : (s.modMbx k g).on z = s.on z := rfl
@[simp] theorem modMbx_live (s : State) (k : Mbx) (g : MbxSt → MbxSt) : (s.modMbx k g).live = s.live := rfl
@[simp] theorem modMbx_rgcOn (s : State) (k : Mbx) (g : MbxSt → MbxSt) : (s.modMbx k g).rgcOn = s.rgcOn := rfl
@[simp] theorem modMbx_frozenTime (s : State) (k : Mbx) (g : MbxSt → MbxSt) : (s.modMbx k g).frozenTime = s.frozenTime := rfl
@[simp] theorem modMbx_cyc (s : State) (k : Mbx) (g : MbxSt → MbxSt) : (s.modMbx k g).cyc = s.cyc := rfl
@[simp] theorem modMbx_window (s : State) (k : Mbx) (g : MbxSt → MbxSt) : (s.modMbx k g).window = s.window := rfl
@[simp] theorem modMbx_seamUp (s : State) (k : Mbx) (g : MbxSt → MbxSt) (z : Sat) : (s.modMbx k g).seamUp z = s.seamUp z := rfl
@[simp] theorem modMbx_fenced (s : State) (k : Mbx) (g : MbxSt → MbxSt) (z : Die) : (s.modMbx k g).fenced z = s.fenced z := rfl
@[simp] theorem modMbx_safeTier (s : State) (k : Mbx) (g : MbxSt → MbxSt) (z : Die) : (s.modMbx k g).safeTier z = s.safeTier z := rfl
@[simp] theorem modMbx_mode (s : State) (k : Mbx) (g : MbxSt → MbxSt) (z : Loop) : (s.modMbx k g).mode z = s.mode z := rfl

@[simp] theorem modFlash_pending (s : State) (g : FlashSt → FlashSt) : (s.modFlash g).pending = s.pending := rfl
@[simp] theorem modFlash_now (s : State) (g : FlashSt → FlashSt) : (s.modFlash g).now = s.now := rfl
@[simp] theorem modFlash_strokeIdx (s : State) (g : FlashSt → FlashSt) : (s.modFlash g).strokeIdx = s.strokeIdx := rfl
@[simp] theorem modFlash_windowIdx (s : State) (g : FlashSt → FlashSt) : (s.modFlash g).windowIdx = s.windowIdx := rfl
@[simp] theorem modFlash_alignIdx (s : State) (g : FlashSt → FlashSt) : (s.modFlash g).alignIdx = s.alignIdx := rfl
@[simp] theorem modFlash_phase (s : State) (g : FlashSt → FlashSt) : (s.modFlash g).phase = s.phase := rfl
@[simp] theorem modFlash_frozen (s : State) (g : FlashSt → FlashSt) : (s.modFlash g).frozen = s.frozen := rfl
@[simp] theorem modFlash_regs (s : State) (g : FlashSt → FlashSt) : (s.modFlash g).regs = s.regs := rfl
@[simp] theorem modFlash_resetReq (s : State) (g : FlashSt → FlashSt) : (s.modFlash g).resetReq = s.resetReq := rfl
@[simp] theorem modFlash_raised (s : State) (g : FlashSt → FlashSt) : (s.modFlash g).raised = s.raised := rfl
@[simp] theorem modFlash_out (s : State) (g : FlashSt → FlashSt) : (s.modFlash g).out = s.out := rfl
@[simp] theorem modFlash_freeCtr (s : State) (g : FlashSt → FlashSt) : (s.modFlash g).freeCtr = s.freeCtr := rfl
@[simp] theorem modFlash_adm (s : State) (g : FlashSt → FlashSt) : (s.modFlash g).adm = s.adm := rfl
@[simp] theorem modFlash_inbox (s : State) (g : FlashSt → FlashSt) : (s.modFlash g).inbox = s.inbox := rfl
@[simp] theorem modFlash_bus (s : State) (g : FlashSt → FlashSt) : (s.modFlash g).bus = s.bus := rfl
@[simp] theorem modFlash_gov (s : State) (g : FlashSt → FlashSt) : (s.modFlash g).gov = s.gov := rfl
@[simp] theorem modFlash_govDie (s : State) (g : FlashSt → FlashSt) : (s.modFlash g).govDie = s.govDie := rfl
@[simp] theorem modFlash_rail (s : State) (g : FlashSt → FlashSt) : (s.modFlash g).rail = s.rail := rfl
@[simp] theorem modFlash_rptIo (s : State) (g : FlashSt → FlashSt) : (s.modFlash g).rptIo = s.rptIo := rfl
@[simp] theorem modFlash_lastIo (s : State) (g : FlashSt → FlashSt) : (s.modFlash g).lastIo = s.lastIo := rfl
@[simp] theorem modFlash_clk (s : State) (g : FlashSt → FlashSt) : (s.modFlash g).clk = s.clk := rfl
@[simp] theorem modFlash_clkDie (s : State) (g : FlashSt → FlashSt) : (s.modFlash g).clkDie = s.clkDie := rfl
@[simp] theorem modFlash_hold (s : State) (g : FlashSt → FlashSt) : (s.modFlash g).hold = s.hold := rfl
@[simp] theorem modFlash_rgc (s : State) (g : FlashSt → FlashSt) : (s.modFlash g).rgc = s.rgc := rfl
@[simp] theorem modFlash_loop (s : State) (g : FlashSt → FlashSt) : (s.modFlash g).loop = s.loop := rfl
@[simp] theorem modFlash_vsetTx (s : State) (g : FlashSt → FlashSt) : (s.modFlash g).vsetTx = s.vsetTx := rfl
@[simp] theorem modFlash_satSeq (s : State) (g : FlashSt → FlashSt) : (s.modFlash g).satSeq = s.satSeq := rfl
@[simp] theorem modFlash_vcl (s : State) (g : FlashSt → FlashSt) : (s.modFlash g).vcl = s.vcl := rfl
@[simp] theorem modFlash_once (s : State) (g : FlashSt → FlashSt) : (s.modFlash g).once = s.once := rfl
@[simp] theorem modFlash_thm (s : State) (g : FlashSt → FlashSt) : (s.modFlash g).thm = s.thm := rfl
@[simp] theorem modFlash_thmDie (s : State) (g : FlashSt → FlashSt) : (s.modFlash g).thmDie = s.thmDie := rfl
@[simp] theorem modFlash_trip (s : State) (g : FlashSt → FlashSt) : (s.modFlash g).trip = s.trip := rfl
@[simp] theorem modFlash_sen (s : State) (g : FlashSt → FlashSt) : (s.modFlash g).sen = s.sen := rfl
@[simp] theorem modFlash_libStored (s : State) (g : FlashSt → FlashSt) : (s.modFlash g).libStored = s.libStored := rfl
@[simp] theorem modFlash_lk (s : State) (g : FlashSt → FlashSt) : (s.modFlash g).lk = s.lk := rfl
@[simp] theorem modFlash_cas (s : State) (g : FlashSt → FlashSt) : (s.modFlash g).cas = s.cas := rfl
@[simp] theorem modFlash_frozenNs (s : State) (g : FlashSt → FlashSt) : (s.modFlash g).frozenNs = s.frozenNs := rfl
@[simp] theorem modFlash_frozeAt (s : State) (g : FlashSt → FlashSt) : (s.modFlash g).frozeAt = s.frozeAt := rfl
@[simp] theorem modFlash_queue (s : State) (g : FlashSt → FlashSt) : (s.modFlash g).queue = s.queue := rfl
@[simp] theorem modFlash_lastStart (s : State) (g : FlashSt → FlashSt) : (s.modFlash g).lastStart = s.lastStart := rfl
@[simp] theorem modFlash_nextPoll (s : State) (g : FlashSt → FlashSt) : (s.modFlash g).nextPoll = s.nextPoll := rfl
@[simp] theorem modFlash_mgt (s : State) (g : FlashSt → FlashSt) : (s.modFlash g).mgt = s.mgt := rfl
@[simp] theorem modFlash_fuses (s : State) (g : FlashSt → FlashSt) : (s.modFlash g).fuses = s.fuses := rfl
@[simp] theorem modFlash_siteFuse (s : State) (g : FlashSt → FlashSt) : (s.modFlash g).siteFuse = s.siteFuse := rfl
@[simp] theorem modFlash_tripTrim (s : State) (g : FlashSt → FlashSt) : (s.modFlash g).tripTrim = s.tripTrim := rfl
@[simp] theorem modFlash_rings (s : State) (g : FlashSt → FlashSt) : (s.modFlash g).rings = s.rings := rfl
@[simp] theorem modFlash_trcFifo (s : State) (g : FlashSt → FlashSt) : (s.modFlash g).trcFifo = s.trcFifo := rfl
@[simp] theorem modFlash_trcDrop (s : State) (g : FlashSt → FlashSt) : (s.modFlash g).trcDrop = s.trcDrop := rfl
@[simp] theorem modFlash_rcd (s : State) (g : FlashSt → FlashSt) : (s.modFlash g).rcd = s.rcd := rfl
@[simp] theorem modFlash_upd (s : State) (g : FlashSt → FlashSt) : (s.modFlash g).upd = s.upd := rfl
@[simp] theorem modFlash_mtr (s : State) (g : FlashSt → FlashSt) : (s.modFlash g).mtr = s.mtr := rfl
@[simp] theorem modFlash_chain (s : State) (g : FlashSt → FlashSt) : (s.modFlash g).chain = s.chain := rfl
@[simp] theorem modFlash_seam (s : State) (g : FlashSt → FlashSt) : (s.modFlash g).seam = s.seam := rfl
@[simp] theorem modFlash_flash (s : State) (g : FlashSt → FlashSt) : (s.modFlash g).flash = g s.flash := rfl
@[simp] theorem modFlash_rd (s : State) (g : FlashSt → FlashSt) (z : Fld) : (s.modFlash g).rd z = s.rd z := rfl
@[simp] theorem modFlash_on (s : State) (g : FlashSt → FlashSt) (z : Fld) : (s.modFlash g).on z = s.on z := rfl
@[simp] theorem modFlash_live (s : State) (g : FlashSt → FlashSt) : (s.modFlash g).live = s.live := rfl
@[simp] theorem modFlash_rgcOn (s : State) (g : FlashSt → FlashSt) : (s.modFlash g).rgcOn = s.rgcOn := rfl
@[simp] theorem modFlash_frozenTime (s : State) (g : FlashSt → FlashSt) : (s.modFlash g).frozenTime = s.frozenTime := rfl
@[simp] theorem modFlash_cyc (s : State) (g : FlashSt → FlashSt) : (s.modFlash g).cyc = s.cyc := rfl
@[simp] theorem modFlash_window (s : State) (g : FlashSt → FlashSt) : (s.modFlash g).window = s.window := rfl
@[simp] theorem modFlash_seamUp (s : State) (g : FlashSt → FlashSt) (z : Sat) : (s.modFlash g).seamUp z = s.seamUp z := rfl
@[simp] theorem modFlash_fenced (s : State) (g : FlashSt → FlashSt) (z : Die) : (s.modFlash g).fenced z = s.fenced z := rfl
@[simp] theorem modFlash_safeTier (s : State) (g : FlashSt → FlashSt) (z : Die) : (s.modFlash g).safeTier z = s.safeTier z := rfl
@[simp] theorem modFlash_mode (s : State) (g : FlashSt → FlashSt) (z : Loop) : (s.modFlash g).mode z = s.mode z := rfl

@[simp] theorem modUpd_pending (s : State) (g : UpdSt → UpdSt) : (s.modUpd g).pending = s.pending := rfl
@[simp] theorem modUpd_now (s : State) (g : UpdSt → UpdSt) : (s.modUpd g).now = s.now := rfl
@[simp] theorem modUpd_strokeIdx (s : State) (g : UpdSt → UpdSt) : (s.modUpd g).strokeIdx = s.strokeIdx := rfl
@[simp] theorem modUpd_windowIdx (s : State) (g : UpdSt → UpdSt) : (s.modUpd g).windowIdx = s.windowIdx := rfl
@[simp] theorem modUpd_alignIdx (s : State) (g : UpdSt → UpdSt) : (s.modUpd g).alignIdx = s.alignIdx := rfl
@[simp] theorem modUpd_phase (s : State) (g : UpdSt → UpdSt) : (s.modUpd g).phase = s.phase := rfl
@[simp] theorem modUpd_frozen (s : State) (g : UpdSt → UpdSt) : (s.modUpd g).frozen = s.frozen := rfl
@[simp] theorem modUpd_regs (s : State) (g : UpdSt → UpdSt) : (s.modUpd g).regs = s.regs := rfl
@[simp] theorem modUpd_resetReq (s : State) (g : UpdSt → UpdSt) : (s.modUpd g).resetReq = s.resetReq := rfl
@[simp] theorem modUpd_raised (s : State) (g : UpdSt → UpdSt) : (s.modUpd g).raised = s.raised := rfl
@[simp] theorem modUpd_out (s : State) (g : UpdSt → UpdSt) : (s.modUpd g).out = s.out := rfl
@[simp] theorem modUpd_freeCtr (s : State) (g : UpdSt → UpdSt) : (s.modUpd g).freeCtr = s.freeCtr := rfl
@[simp] theorem modUpd_adm (s : State) (g : UpdSt → UpdSt) : (s.modUpd g).adm = s.adm := rfl
@[simp] theorem modUpd_inbox (s : State) (g : UpdSt → UpdSt) : (s.modUpd g).inbox = s.inbox := rfl
@[simp] theorem modUpd_bus (s : State) (g : UpdSt → UpdSt) : (s.modUpd g).bus = s.bus := rfl
@[simp] theorem modUpd_gov (s : State) (g : UpdSt → UpdSt) : (s.modUpd g).gov = s.gov := rfl
@[simp] theorem modUpd_govDie (s : State) (g : UpdSt → UpdSt) : (s.modUpd g).govDie = s.govDie := rfl
@[simp] theorem modUpd_rail (s : State) (g : UpdSt → UpdSt) : (s.modUpd g).rail = s.rail := rfl
@[simp] theorem modUpd_rptIo (s : State) (g : UpdSt → UpdSt) : (s.modUpd g).rptIo = s.rptIo := rfl
@[simp] theorem modUpd_lastIo (s : State) (g : UpdSt → UpdSt) : (s.modUpd g).lastIo = s.lastIo := rfl
@[simp] theorem modUpd_clk (s : State) (g : UpdSt → UpdSt) : (s.modUpd g).clk = s.clk := rfl
@[simp] theorem modUpd_clkDie (s : State) (g : UpdSt → UpdSt) : (s.modUpd g).clkDie = s.clkDie := rfl
@[simp] theorem modUpd_hold (s : State) (g : UpdSt → UpdSt) : (s.modUpd g).hold = s.hold := rfl
@[simp] theorem modUpd_rgc (s : State) (g : UpdSt → UpdSt) : (s.modUpd g).rgc = s.rgc := rfl
@[simp] theorem modUpd_loop (s : State) (g : UpdSt → UpdSt) : (s.modUpd g).loop = s.loop := rfl
@[simp] theorem modUpd_vsetTx (s : State) (g : UpdSt → UpdSt) : (s.modUpd g).vsetTx = s.vsetTx := rfl
@[simp] theorem modUpd_satSeq (s : State) (g : UpdSt → UpdSt) : (s.modUpd g).satSeq = s.satSeq := rfl
@[simp] theorem modUpd_vcl (s : State) (g : UpdSt → UpdSt) : (s.modUpd g).vcl = s.vcl := rfl
@[simp] theorem modUpd_once (s : State) (g : UpdSt → UpdSt) : (s.modUpd g).once = s.once := rfl
@[simp] theorem modUpd_thm (s : State) (g : UpdSt → UpdSt) : (s.modUpd g).thm = s.thm := rfl
@[simp] theorem modUpd_thmDie (s : State) (g : UpdSt → UpdSt) : (s.modUpd g).thmDie = s.thmDie := rfl
@[simp] theorem modUpd_trip (s : State) (g : UpdSt → UpdSt) : (s.modUpd g).trip = s.trip := rfl
@[simp] theorem modUpd_sen (s : State) (g : UpdSt → UpdSt) : (s.modUpd g).sen = s.sen := rfl
@[simp] theorem modUpd_libStored (s : State) (g : UpdSt → UpdSt) : (s.modUpd g).libStored = s.libStored := rfl
@[simp] theorem modUpd_lk (s : State) (g : UpdSt → UpdSt) : (s.modUpd g).lk = s.lk := rfl
@[simp] theorem modUpd_cas (s : State) (g : UpdSt → UpdSt) : (s.modUpd g).cas = s.cas := rfl
@[simp] theorem modUpd_frozenNs (s : State) (g : UpdSt → UpdSt) : (s.modUpd g).frozenNs = s.frozenNs := rfl
@[simp] theorem modUpd_frozeAt (s : State) (g : UpdSt → UpdSt) : (s.modUpd g).frozeAt = s.frozeAt := rfl
@[simp] theorem modUpd_queue (s : State) (g : UpdSt → UpdSt) : (s.modUpd g).queue = s.queue := rfl
@[simp] theorem modUpd_lastStart (s : State) (g : UpdSt → UpdSt) : (s.modUpd g).lastStart = s.lastStart := rfl
@[simp] theorem modUpd_nextPoll (s : State) (g : UpdSt → UpdSt) : (s.modUpd g).nextPoll = s.nextPoll := rfl
@[simp] theorem modUpd_mgt (s : State) (g : UpdSt → UpdSt) : (s.modUpd g).mgt = s.mgt := rfl
@[simp] theorem modUpd_fuses (s : State) (g : UpdSt → UpdSt) : (s.modUpd g).fuses = s.fuses := rfl
@[simp] theorem modUpd_siteFuse (s : State) (g : UpdSt → UpdSt) : (s.modUpd g).siteFuse = s.siteFuse := rfl
@[simp] theorem modUpd_tripTrim (s : State) (g : UpdSt → UpdSt) : (s.modUpd g).tripTrim = s.tripTrim := rfl
@[simp] theorem modUpd_rings (s : State) (g : UpdSt → UpdSt) : (s.modUpd g).rings = s.rings := rfl
@[simp] theorem modUpd_trcFifo (s : State) (g : UpdSt → UpdSt) : (s.modUpd g).trcFifo = s.trcFifo := rfl
@[simp] theorem modUpd_trcDrop (s : State) (g : UpdSt → UpdSt) : (s.modUpd g).trcDrop = s.trcDrop := rfl
@[simp] theorem modUpd_rcd (s : State) (g : UpdSt → UpdSt) : (s.modUpd g).rcd = s.rcd := rfl
@[simp] theorem modUpd_flash (s : State) (g : UpdSt → UpdSt) : (s.modUpd g).flash = s.flash := rfl
@[simp] theorem modUpd_mtr (s : State) (g : UpdSt → UpdSt) : (s.modUpd g).mtr = s.mtr := rfl
@[simp] theorem modUpd_chain (s : State) (g : UpdSt → UpdSt) : (s.modUpd g).chain = s.chain := rfl
@[simp] theorem modUpd_seam (s : State) (g : UpdSt → UpdSt) : (s.modUpd g).seam = s.seam := rfl
@[simp] theorem modUpd_upd (s : State) (g : UpdSt → UpdSt) : (s.modUpd g).upd = g s.upd := rfl
@[simp] theorem modUpd_rd (s : State) (g : UpdSt → UpdSt) (z : Fld) : (s.modUpd g).rd z = s.rd z := rfl
@[simp] theorem modUpd_on (s : State) (g : UpdSt → UpdSt) (z : Fld) : (s.modUpd g).on z = s.on z := rfl
@[simp] theorem modUpd_live (s : State) (g : UpdSt → UpdSt) : (s.modUpd g).live = s.live := rfl
@[simp] theorem modUpd_rgcOn (s : State) (g : UpdSt → UpdSt) : (s.modUpd g).rgcOn = s.rgcOn := rfl
@[simp] theorem modUpd_frozenTime (s : State) (g : UpdSt → UpdSt) : (s.modUpd g).frozenTime = s.frozenTime := rfl
@[simp] theorem modUpd_cyc (s : State) (g : UpdSt → UpdSt) : (s.modUpd g).cyc = s.cyc := rfl
@[simp] theorem modUpd_window (s : State) (g : UpdSt → UpdSt) : (s.modUpd g).window = s.window := rfl
@[simp] theorem modUpd_seamUp (s : State) (g : UpdSt → UpdSt) (z : Sat) : (s.modUpd g).seamUp z = s.seamUp z := rfl
@[simp] theorem modUpd_fenced (s : State) (g : UpdSt → UpdSt) (z : Die) : (s.modUpd g).fenced z = s.fenced z := rfl
@[simp] theorem modUpd_safeTier (s : State) (g : UpdSt → UpdSt) (z : Die) : (s.modUpd g).safeTier z = s.safeTier z := rfl
@[simp] theorem modUpd_mode (s : State) (g : UpdSt → UpdSt) (z : Loop) : (s.modUpd g).mode z = s.mode z := rfl

@[simp] theorem modCas_pending (s : State) (g : CasSt → CasSt) : (s.modCas g).pending = s.pending := rfl
@[simp] theorem modCas_now (s : State) (g : CasSt → CasSt) : (s.modCas g).now = s.now := rfl
@[simp] theorem modCas_strokeIdx (s : State) (g : CasSt → CasSt) : (s.modCas g).strokeIdx = s.strokeIdx := rfl
@[simp] theorem modCas_windowIdx (s : State) (g : CasSt → CasSt) : (s.modCas g).windowIdx = s.windowIdx := rfl
@[simp] theorem modCas_alignIdx (s : State) (g : CasSt → CasSt) : (s.modCas g).alignIdx = s.alignIdx := rfl
@[simp] theorem modCas_phase (s : State) (g : CasSt → CasSt) : (s.modCas g).phase = s.phase := rfl
@[simp] theorem modCas_frozen (s : State) (g : CasSt → CasSt) : (s.modCas g).frozen = s.frozen := rfl
@[simp] theorem modCas_regs (s : State) (g : CasSt → CasSt) : (s.modCas g).regs = s.regs := rfl
@[simp] theorem modCas_resetReq (s : State) (g : CasSt → CasSt) : (s.modCas g).resetReq = s.resetReq := rfl
@[simp] theorem modCas_raised (s : State) (g : CasSt → CasSt) : (s.modCas g).raised = s.raised := rfl
@[simp] theorem modCas_out (s : State) (g : CasSt → CasSt) : (s.modCas g).out = s.out := rfl
@[simp] theorem modCas_freeCtr (s : State) (g : CasSt → CasSt) : (s.modCas g).freeCtr = s.freeCtr := rfl
@[simp] theorem modCas_adm (s : State) (g : CasSt → CasSt) : (s.modCas g).adm = s.adm := rfl
@[simp] theorem modCas_inbox (s : State) (g : CasSt → CasSt) : (s.modCas g).inbox = s.inbox := rfl
@[simp] theorem modCas_bus (s : State) (g : CasSt → CasSt) : (s.modCas g).bus = s.bus := rfl
@[simp] theorem modCas_gov (s : State) (g : CasSt → CasSt) : (s.modCas g).gov = s.gov := rfl
@[simp] theorem modCas_govDie (s : State) (g : CasSt → CasSt) : (s.modCas g).govDie = s.govDie := rfl
@[simp] theorem modCas_rail (s : State) (g : CasSt → CasSt) : (s.modCas g).rail = s.rail := rfl
@[simp] theorem modCas_rptIo (s : State) (g : CasSt → CasSt) : (s.modCas g).rptIo = s.rptIo := rfl
@[simp] theorem modCas_lastIo (s : State) (g : CasSt → CasSt) : (s.modCas g).lastIo = s.lastIo := rfl
@[simp] theorem modCas_clk (s : State) (g : CasSt → CasSt) : (s.modCas g).clk = s.clk := rfl
@[simp] theorem modCas_clkDie (s : State) (g : CasSt → CasSt) : (s.modCas g).clkDie = s.clkDie := rfl
@[simp] theorem modCas_hold (s : State) (g : CasSt → CasSt) : (s.modCas g).hold = s.hold := rfl
@[simp] theorem modCas_rgc (s : State) (g : CasSt → CasSt) : (s.modCas g).rgc = s.rgc := rfl
@[simp] theorem modCas_loop (s : State) (g : CasSt → CasSt) : (s.modCas g).loop = s.loop := rfl
@[simp] theorem modCas_vsetTx (s : State) (g : CasSt → CasSt) : (s.modCas g).vsetTx = s.vsetTx := rfl
@[simp] theorem modCas_satSeq (s : State) (g : CasSt → CasSt) : (s.modCas g).satSeq = s.satSeq := rfl
@[simp] theorem modCas_vcl (s : State) (g : CasSt → CasSt) : (s.modCas g).vcl = s.vcl := rfl
@[simp] theorem modCas_once (s : State) (g : CasSt → CasSt) : (s.modCas g).once = s.once := rfl
@[simp] theorem modCas_thm (s : State) (g : CasSt → CasSt) : (s.modCas g).thm = s.thm := rfl
@[simp] theorem modCas_thmDie (s : State) (g : CasSt → CasSt) : (s.modCas g).thmDie = s.thmDie := rfl
@[simp] theorem modCas_trip (s : State) (g : CasSt → CasSt) : (s.modCas g).trip = s.trip := rfl
@[simp] theorem modCas_sen (s : State) (g : CasSt → CasSt) : (s.modCas g).sen = s.sen := rfl
@[simp] theorem modCas_libStored (s : State) (g : CasSt → CasSt) : (s.modCas g).libStored = s.libStored := rfl
@[simp] theorem modCas_lk (s : State) (g : CasSt → CasSt) : (s.modCas g).lk = s.lk := rfl
@[simp] theorem modCas_frozenNs (s : State) (g : CasSt → CasSt) : (s.modCas g).frozenNs = s.frozenNs := rfl
@[simp] theorem modCas_frozeAt (s : State) (g : CasSt → CasSt) : (s.modCas g).frozeAt = s.frozeAt := rfl
@[simp] theorem modCas_queue (s : State) (g : CasSt → CasSt) : (s.modCas g).queue = s.queue := rfl
@[simp] theorem modCas_lastStart (s : State) (g : CasSt → CasSt) : (s.modCas g).lastStart = s.lastStart := rfl
@[simp] theorem modCas_nextPoll (s : State) (g : CasSt → CasSt) : (s.modCas g).nextPoll = s.nextPoll := rfl
@[simp] theorem modCas_mgt (s : State) (g : CasSt → CasSt) : (s.modCas g).mgt = s.mgt := rfl
@[simp] theorem modCas_fuses (s : State) (g : CasSt → CasSt) : (s.modCas g).fuses = s.fuses := rfl
@[simp] theorem modCas_siteFuse (s : State) (g : CasSt → CasSt) : (s.modCas g).siteFuse = s.siteFuse := rfl
@[simp] theorem modCas_tripTrim (s : State) (g : CasSt → CasSt) : (s.modCas g).tripTrim = s.tripTrim := rfl
@[simp] theorem modCas_rings (s : State) (g : CasSt → CasSt) : (s.modCas g).rings = s.rings := rfl
@[simp] theorem modCas_trcFifo (s : State) (g : CasSt → CasSt) : (s.modCas g).trcFifo = s.trcFifo := rfl
@[simp] theorem modCas_trcDrop (s : State) (g : CasSt → CasSt) : (s.modCas g).trcDrop = s.trcDrop := rfl
@[simp] theorem modCas_rcd (s : State) (g : CasSt → CasSt) : (s.modCas g).rcd = s.rcd := rfl
@[simp] theorem modCas_upd (s : State) (g : CasSt → CasSt) : (s.modCas g).upd = s.upd := rfl
@[simp] theorem modCas_flash (s : State) (g : CasSt → CasSt) : (s.modCas g).flash = s.flash := rfl
@[simp] theorem modCas_mtr (s : State) (g : CasSt → CasSt) : (s.modCas g).mtr = s.mtr := rfl
@[simp] theorem modCas_chain (s : State) (g : CasSt → CasSt) : (s.modCas g).chain = s.chain := rfl
@[simp] theorem modCas_seam (s : State) (g : CasSt → CasSt) : (s.modCas g).seam = s.seam := rfl
@[simp] theorem modCas_cas (s : State) (g : CasSt → CasSt) : (s.modCas g).cas = g s.cas := rfl
@[simp] theorem modCas_rd (s : State) (g : CasSt → CasSt) (z : Fld) : (s.modCas g).rd z = s.rd z := rfl
@[simp] theorem modCas_on (s : State) (g : CasSt → CasSt) (z : Fld) : (s.modCas g).on z = s.on z := rfl
@[simp] theorem modCas_live (s : State) (g : CasSt → CasSt) : (s.modCas g).live = s.live := rfl
@[simp] theorem modCas_rgcOn (s : State) (g : CasSt → CasSt) : (s.modCas g).rgcOn = s.rgcOn := rfl
@[simp] theorem modCas_frozenTime (s : State) (g : CasSt → CasSt) : (s.modCas g).frozenTime = s.frozenTime := rfl
@[simp] theorem modCas_cyc (s : State) (g : CasSt → CasSt) : (s.modCas g).cyc = s.cyc := rfl
@[simp] theorem modCas_window (s : State) (g : CasSt → CasSt) : (s.modCas g).window = s.window := rfl
@[simp] theorem modCas_seamUp (s : State) (g : CasSt → CasSt) (z : Sat) : (s.modCas g).seamUp z = s.seamUp z := rfl
@[simp] theorem modCas_fenced (s : State) (g : CasSt → CasSt) (z : Die) : (s.modCas g).fenced z = s.fenced z := rfl
@[simp] theorem modCas_safeTier (s : State) (g : CasSt → CasSt) (z : Die) : (s.modCas g).safeTier z = s.safeTier z := rfl
@[simp] theorem modCas_mode (s : State) (g : CasSt → CasSt) (z : Loop) : (s.modCas g).mode z = s.mode z := rfl

@[simp] theorem modLane_pending (s : State) (k : Lane) (g : CasLane → CasLane) : (s.modLane k g).pending = s.pending := rfl
@[simp] theorem modLane_now (s : State) (k : Lane) (g : CasLane → CasLane) : (s.modLane k g).now = s.now := rfl
@[simp] theorem modLane_strokeIdx (s : State) (k : Lane) (g : CasLane → CasLane) : (s.modLane k g).strokeIdx = s.strokeIdx := rfl
@[simp] theorem modLane_windowIdx (s : State) (k : Lane) (g : CasLane → CasLane) : (s.modLane k g).windowIdx = s.windowIdx := rfl
@[simp] theorem modLane_alignIdx (s : State) (k : Lane) (g : CasLane → CasLane) : (s.modLane k g).alignIdx = s.alignIdx := rfl
@[simp] theorem modLane_phase (s : State) (k : Lane) (g : CasLane → CasLane) : (s.modLane k g).phase = s.phase := rfl
@[simp] theorem modLane_frozen (s : State) (k : Lane) (g : CasLane → CasLane) : (s.modLane k g).frozen = s.frozen := rfl
@[simp] theorem modLane_regs (s : State) (k : Lane) (g : CasLane → CasLane) : (s.modLane k g).regs = s.regs := rfl
@[simp] theorem modLane_resetReq (s : State) (k : Lane) (g : CasLane → CasLane) : (s.modLane k g).resetReq = s.resetReq := rfl
@[simp] theorem modLane_raised (s : State) (k : Lane) (g : CasLane → CasLane) : (s.modLane k g).raised = s.raised := rfl
@[simp] theorem modLane_out (s : State) (k : Lane) (g : CasLane → CasLane) : (s.modLane k g).out = s.out := rfl
@[simp] theorem modLane_freeCtr (s : State) (k : Lane) (g : CasLane → CasLane) : (s.modLane k g).freeCtr = s.freeCtr := rfl
@[simp] theorem modLane_adm (s : State) (k : Lane) (g : CasLane → CasLane) : (s.modLane k g).adm = s.adm := rfl
@[simp] theorem modLane_inbox (s : State) (k : Lane) (g : CasLane → CasLane) : (s.modLane k g).inbox = s.inbox := rfl
@[simp] theorem modLane_bus (s : State) (k : Lane) (g : CasLane → CasLane) : (s.modLane k g).bus = s.bus := rfl
@[simp] theorem modLane_gov (s : State) (k : Lane) (g : CasLane → CasLane) : (s.modLane k g).gov = s.gov := rfl
@[simp] theorem modLane_govDie (s : State) (k : Lane) (g : CasLane → CasLane) : (s.modLane k g).govDie = s.govDie := rfl
@[simp] theorem modLane_rail (s : State) (k : Lane) (g : CasLane → CasLane) : (s.modLane k g).rail = s.rail := rfl
@[simp] theorem modLane_rptIo (s : State) (k : Lane) (g : CasLane → CasLane) : (s.modLane k g).rptIo = s.rptIo := rfl
@[simp] theorem modLane_lastIo (s : State) (k : Lane) (g : CasLane → CasLane) : (s.modLane k g).lastIo = s.lastIo := rfl
@[simp] theorem modLane_clk (s : State) (k : Lane) (g : CasLane → CasLane) : (s.modLane k g).clk = s.clk := rfl
@[simp] theorem modLane_clkDie (s : State) (k : Lane) (g : CasLane → CasLane) : (s.modLane k g).clkDie = s.clkDie := rfl
@[simp] theorem modLane_hold (s : State) (k : Lane) (g : CasLane → CasLane) : (s.modLane k g).hold = s.hold := rfl
@[simp] theorem modLane_rgc (s : State) (k : Lane) (g : CasLane → CasLane) : (s.modLane k g).rgc = s.rgc := rfl
@[simp] theorem modLane_loop (s : State) (k : Lane) (g : CasLane → CasLane) : (s.modLane k g).loop = s.loop := rfl
@[simp] theorem modLane_vsetTx (s : State) (k : Lane) (g : CasLane → CasLane) : (s.modLane k g).vsetTx = s.vsetTx := rfl
@[simp] theorem modLane_satSeq (s : State) (k : Lane) (g : CasLane → CasLane) : (s.modLane k g).satSeq = s.satSeq := rfl
@[simp] theorem modLane_vcl (s : State) (k : Lane) (g : CasLane → CasLane) : (s.modLane k g).vcl = s.vcl := rfl
@[simp] theorem modLane_once (s : State) (k : Lane) (g : CasLane → CasLane) : (s.modLane k g).once = s.once := rfl
@[simp] theorem modLane_thm (s : State) (k : Lane) (g : CasLane → CasLane) : (s.modLane k g).thm = s.thm := rfl
@[simp] theorem modLane_thmDie (s : State) (k : Lane) (g : CasLane → CasLane) : (s.modLane k g).thmDie = s.thmDie := rfl
@[simp] theorem modLane_trip (s : State) (k : Lane) (g : CasLane → CasLane) : (s.modLane k g).trip = s.trip := rfl
@[simp] theorem modLane_sen (s : State) (k : Lane) (g : CasLane → CasLane) : (s.modLane k g).sen = s.sen := rfl
@[simp] theorem modLane_libStored (s : State) (k : Lane) (g : CasLane → CasLane) : (s.modLane k g).libStored = s.libStored := rfl
@[simp] theorem modLane_lk (s : State) (k : Lane) (g : CasLane → CasLane) : (s.modLane k g).lk = s.lk := rfl
@[simp] theorem modLane_frozenNs (s : State) (k : Lane) (g : CasLane → CasLane) : (s.modLane k g).frozenNs = s.frozenNs := rfl
@[simp] theorem modLane_frozeAt (s : State) (k : Lane) (g : CasLane → CasLane) : (s.modLane k g).frozeAt = s.frozeAt := rfl
@[simp] theorem modLane_queue (s : State) (k : Lane) (g : CasLane → CasLane) : (s.modLane k g).queue = s.queue := rfl
@[simp] theorem modLane_lastStart (s : State) (k : Lane) (g : CasLane → CasLane) : (s.modLane k g).lastStart = s.lastStart := rfl
@[simp] theorem modLane_nextPoll (s : State) (k : Lane) (g : CasLane → CasLane) : (s.modLane k g).nextPoll = s.nextPoll := rfl
@[simp] theorem modLane_mgt (s : State) (k : Lane) (g : CasLane → CasLane) : (s.modLane k g).mgt = s.mgt := rfl
@[simp] theorem modLane_fuses (s : State) (k : Lane) (g : CasLane → CasLane) : (s.modLane k g).fuses = s.fuses := rfl
@[simp] theorem modLane_siteFuse (s : State) (k : Lane) (g : CasLane → CasLane) : (s.modLane k g).siteFuse = s.siteFuse := rfl
@[simp] theorem modLane_tripTrim (s : State) (k : Lane) (g : CasLane → CasLane) : (s.modLane k g).tripTrim = s.tripTrim := rfl
@[simp] theorem modLane_rings (s : State) (k : Lane) (g : CasLane → CasLane) : (s.modLane k g).rings = s.rings := rfl
@[simp] theorem modLane_trcFifo (s : State) (k : Lane) (g : CasLane → CasLane) : (s.modLane k g).trcFifo = s.trcFifo := rfl
@[simp] theorem modLane_trcDrop (s : State) (k : Lane) (g : CasLane → CasLane) : (s.modLane k g).trcDrop = s.trcDrop := rfl
@[simp] theorem modLane_rcd (s : State) (k : Lane) (g : CasLane → CasLane) : (s.modLane k g).rcd = s.rcd := rfl
@[simp] theorem modLane_upd (s : State) (k : Lane) (g : CasLane → CasLane) : (s.modLane k g).upd = s.upd := rfl
@[simp] theorem modLane_flash (s : State) (k : Lane) (g : CasLane → CasLane) : (s.modLane k g).flash = s.flash := rfl
@[simp] theorem modLane_mtr (s : State) (k : Lane) (g : CasLane → CasLane) : (s.modLane k g).mtr = s.mtr := rfl
@[simp] theorem modLane_chain (s : State) (k : Lane) (g : CasLane → CasLane) : (s.modLane k g).chain = s.chain := rfl
@[simp] theorem modLane_seam (s : State) (k : Lane) (g : CasLane → CasLane) : (s.modLane k g).seam = s.seam := rfl
@[simp] theorem modLane_rd (s : State) (k : Lane) (g : CasLane → CasLane) (z : Fld) : (s.modLane k g).rd z = s.rd z := rfl
@[simp] theorem modLane_on (s : State) (k : Lane) (g : CasLane → CasLane) (z : Fld) : (s.modLane k g).on z = s.on z := rfl
@[simp] theorem modLane_live (s : State) (k : Lane) (g : CasLane → CasLane) : (s.modLane k g).live = s.live := rfl
@[simp] theorem modLane_rgcOn (s : State) (k : Lane) (g : CasLane → CasLane) : (s.modLane k g).rgcOn = s.rgcOn := rfl
@[simp] theorem modLane_frozenTime (s : State) (k : Lane) (g : CasLane → CasLane) : (s.modLane k g).frozenTime = s.frozenTime := rfl
@[simp] theorem modLane_cyc (s : State) (k : Lane) (g : CasLane → CasLane) : (s.modLane k g).cyc = s.cyc := rfl
@[simp] theorem modLane_window (s : State) (k : Lane) (g : CasLane → CasLane) : (s.modLane k g).window = s.window := rfl
@[simp] theorem modLane_seamUp (s : State) (k : Lane) (g : CasLane → CasLane) (z : Sat) : (s.modLane k g).seamUp z = s.seamUp z := rfl
@[simp] theorem modLane_fenced (s : State) (k : Lane) (g : CasLane → CasLane) (z : Die) : (s.modLane k g).fenced z = s.fenced z := rfl
@[simp] theorem modLane_safeTier (s : State) (k : Lane) (g : CasLane → CasLane) (z : Die) : (s.modLane k g).safeTier z = s.safeTier z := rfl
@[simp] theorem modLane_mode (s : State) (k : Lane) (g : CasLane → CasLane) (z : Loop) : (s.modLane k g).mode z = s.mode z := rfl

@[simp] theorem modObj_pending (s : State) (k : Nat) (g : CasObj → CasObj) : (s.modObj k g).pending = s.pending := rfl
@[simp] theorem modObj_now (s : State) (k : Nat) (g : CasObj → CasObj) : (s.modObj k g).now = s.now := rfl
@[simp] theorem modObj_strokeIdx (s : State) (k : Nat) (g : CasObj → CasObj) : (s.modObj k g).strokeIdx = s.strokeIdx := rfl
@[simp] theorem modObj_windowIdx (s : State) (k : Nat) (g : CasObj → CasObj) : (s.modObj k g).windowIdx = s.windowIdx := rfl
@[simp] theorem modObj_alignIdx (s : State) (k : Nat) (g : CasObj → CasObj) : (s.modObj k g).alignIdx = s.alignIdx := rfl
@[simp] theorem modObj_phase (s : State) (k : Nat) (g : CasObj → CasObj) : (s.modObj k g).phase = s.phase := rfl
@[simp] theorem modObj_frozen (s : State) (k : Nat) (g : CasObj → CasObj) : (s.modObj k g).frozen = s.frozen := rfl
@[simp] theorem modObj_regs (s : State) (k : Nat) (g : CasObj → CasObj) : (s.modObj k g).regs = s.regs := rfl
@[simp] theorem modObj_resetReq (s : State) (k : Nat) (g : CasObj → CasObj) : (s.modObj k g).resetReq = s.resetReq := rfl
@[simp] theorem modObj_raised (s : State) (k : Nat) (g : CasObj → CasObj) : (s.modObj k g).raised = s.raised := rfl
@[simp] theorem modObj_out (s : State) (k : Nat) (g : CasObj → CasObj) : (s.modObj k g).out = s.out := rfl
@[simp] theorem modObj_freeCtr (s : State) (k : Nat) (g : CasObj → CasObj) : (s.modObj k g).freeCtr = s.freeCtr := rfl
@[simp] theorem modObj_adm (s : State) (k : Nat) (g : CasObj → CasObj) : (s.modObj k g).adm = s.adm := rfl
@[simp] theorem modObj_inbox (s : State) (k : Nat) (g : CasObj → CasObj) : (s.modObj k g).inbox = s.inbox := rfl
@[simp] theorem modObj_bus (s : State) (k : Nat) (g : CasObj → CasObj) : (s.modObj k g).bus = s.bus := rfl
@[simp] theorem modObj_gov (s : State) (k : Nat) (g : CasObj → CasObj) : (s.modObj k g).gov = s.gov := rfl
@[simp] theorem modObj_govDie (s : State) (k : Nat) (g : CasObj → CasObj) : (s.modObj k g).govDie = s.govDie := rfl
@[simp] theorem modObj_rail (s : State) (k : Nat) (g : CasObj → CasObj) : (s.modObj k g).rail = s.rail := rfl
@[simp] theorem modObj_rptIo (s : State) (k : Nat) (g : CasObj → CasObj) : (s.modObj k g).rptIo = s.rptIo := rfl
@[simp] theorem modObj_lastIo (s : State) (k : Nat) (g : CasObj → CasObj) : (s.modObj k g).lastIo = s.lastIo := rfl
@[simp] theorem modObj_clk (s : State) (k : Nat) (g : CasObj → CasObj) : (s.modObj k g).clk = s.clk := rfl
@[simp] theorem modObj_clkDie (s : State) (k : Nat) (g : CasObj → CasObj) : (s.modObj k g).clkDie = s.clkDie := rfl
@[simp] theorem modObj_hold (s : State) (k : Nat) (g : CasObj → CasObj) : (s.modObj k g).hold = s.hold := rfl
@[simp] theorem modObj_rgc (s : State) (k : Nat) (g : CasObj → CasObj) : (s.modObj k g).rgc = s.rgc := rfl
@[simp] theorem modObj_loop (s : State) (k : Nat) (g : CasObj → CasObj) : (s.modObj k g).loop = s.loop := rfl
@[simp] theorem modObj_vsetTx (s : State) (k : Nat) (g : CasObj → CasObj) : (s.modObj k g).vsetTx = s.vsetTx := rfl
@[simp] theorem modObj_satSeq (s : State) (k : Nat) (g : CasObj → CasObj) : (s.modObj k g).satSeq = s.satSeq := rfl
@[simp] theorem modObj_vcl (s : State) (k : Nat) (g : CasObj → CasObj) : (s.modObj k g).vcl = s.vcl := rfl
@[simp] theorem modObj_once (s : State) (k : Nat) (g : CasObj → CasObj) : (s.modObj k g).once = s.once := rfl
@[simp] theorem modObj_thm (s : State) (k : Nat) (g : CasObj → CasObj) : (s.modObj k g).thm = s.thm := rfl
@[simp] theorem modObj_thmDie (s : State) (k : Nat) (g : CasObj → CasObj) : (s.modObj k g).thmDie = s.thmDie := rfl
@[simp] theorem modObj_trip (s : State) (k : Nat) (g : CasObj → CasObj) : (s.modObj k g).trip = s.trip := rfl
@[simp] theorem modObj_sen (s : State) (k : Nat) (g : CasObj → CasObj) : (s.modObj k g).sen = s.sen := rfl
@[simp] theorem modObj_libStored (s : State) (k : Nat) (g : CasObj → CasObj) : (s.modObj k g).libStored = s.libStored := rfl
@[simp] theorem modObj_lk (s : State) (k : Nat) (g : CasObj → CasObj) : (s.modObj k g).lk = s.lk := rfl
@[simp] theorem modObj_frozenNs (s : State) (k : Nat) (g : CasObj → CasObj) : (s.modObj k g).frozenNs = s.frozenNs := rfl
@[simp] theorem modObj_frozeAt (s : State) (k : Nat) (g : CasObj → CasObj) : (s.modObj k g).frozeAt = s.frozeAt := rfl
@[simp] theorem modObj_queue (s : State) (k : Nat) (g : CasObj → CasObj) : (s.modObj k g).queue = s.queue := rfl
@[simp] theorem modObj_lastStart (s : State) (k : Nat) (g : CasObj → CasObj) : (s.modObj k g).lastStart = s.lastStart := rfl
@[simp] theorem modObj_nextPoll (s : State) (k : Nat) (g : CasObj → CasObj) : (s.modObj k g).nextPoll = s.nextPoll := rfl
@[simp] theorem modObj_mgt (s : State) (k : Nat) (g : CasObj → CasObj) : (s.modObj k g).mgt = s.mgt := rfl
@[simp] theorem modObj_fuses (s : State) (k : Nat) (g : CasObj → CasObj) : (s.modObj k g).fuses = s.fuses := rfl
@[simp] theorem modObj_siteFuse (s : State) (k : Nat) (g : CasObj → CasObj) : (s.modObj k g).siteFuse = s.siteFuse := rfl
@[simp] theorem modObj_tripTrim (s : State) (k : Nat) (g : CasObj → CasObj) : (s.modObj k g).tripTrim = s.tripTrim := rfl
@[simp] theorem modObj_rings (s : State) (k : Nat) (g : CasObj → CasObj) : (s.modObj k g).rings = s.rings := rfl
@[simp] theorem modObj_trcFifo (s : State) (k : Nat) (g : CasObj → CasObj) : (s.modObj k g).trcFifo = s.trcFifo := rfl
@[simp] theorem modObj_trcDrop (s : State) (k : Nat) (g : CasObj → CasObj) : (s.modObj k g).trcDrop = s.trcDrop := rfl
@[simp] theorem modObj_rcd (s : State) (k : Nat) (g : CasObj → CasObj) : (s.modObj k g).rcd = s.rcd := rfl
@[simp] theorem modObj_upd (s : State) (k : Nat) (g : CasObj → CasObj) : (s.modObj k g).upd = s.upd := rfl
@[simp] theorem modObj_flash (s : State) (k : Nat) (g : CasObj → CasObj) : (s.modObj k g).flash = s.flash := rfl
@[simp] theorem modObj_mtr (s : State) (k : Nat) (g : CasObj → CasObj) : (s.modObj k g).mtr = s.mtr := rfl
@[simp] theorem modObj_chain (s : State) (k : Nat) (g : CasObj → CasObj) : (s.modObj k g).chain = s.chain := rfl
@[simp] theorem modObj_seam (s : State) (k : Nat) (g : CasObj → CasObj) : (s.modObj k g).seam = s.seam := rfl
@[simp] theorem modObj_rd (s : State) (k : Nat) (g : CasObj → CasObj) (z : Fld) : (s.modObj k g).rd z = s.rd z := rfl
@[simp] theorem modObj_on (s : State) (k : Nat) (g : CasObj → CasObj) (z : Fld) : (s.modObj k g).on z = s.on z := rfl
@[simp] theorem modObj_live (s : State) (k : Nat) (g : CasObj → CasObj) : (s.modObj k g).live = s.live := rfl
@[simp] theorem modObj_rgcOn (s : State) (k : Nat) (g : CasObj → CasObj) : (s.modObj k g).rgcOn = s.rgcOn := rfl
@[simp] theorem modObj_frozenTime (s : State) (k : Nat) (g : CasObj → CasObj) : (s.modObj k g).frozenTime = s.frozenTime := rfl
@[simp] theorem modObj_cyc (s : State) (k : Nat) (g : CasObj → CasObj) : (s.modObj k g).cyc = s.cyc := rfl
@[simp] theorem modObj_window (s : State) (k : Nat) (g : CasObj → CasObj) : (s.modObj k g).window = s.window := rfl
@[simp] theorem modObj_seamUp (s : State) (k : Nat) (g : CasObj → CasObj) (z : Sat) : (s.modObj k g).seamUp z = s.seamUp z := rfl
@[simp] theorem modObj_fenced (s : State) (k : Nat) (g : CasObj → CasObj) (z : Die) : (s.modObj k g).fenced z = s.fenced z := rfl
@[simp] theorem modObj_safeTier (s : State) (k : Nat) (g : CasObj → CasObj) (z : Die) : (s.modObj k g).safeTier z = s.safeTier z := rfl
@[simp] theorem modObj_mode (s : State) (k : Nat) (g : CasObj → CasObj) (z : Loop) : (s.modObj k g).mode z = s.mode z := rfl

@[simp] theorem modMtr_pending (s : State) (g : MtrSt → MtrSt) : (s.modMtr g).pending = s.pending := rfl
@[simp] theorem modMtr_now (s : State) (g : MtrSt → MtrSt) : (s.modMtr g).now = s.now := rfl
@[simp] theorem modMtr_strokeIdx (s : State) (g : MtrSt → MtrSt) : (s.modMtr g).strokeIdx = s.strokeIdx := rfl
@[simp] theorem modMtr_windowIdx (s : State) (g : MtrSt → MtrSt) : (s.modMtr g).windowIdx = s.windowIdx := rfl
@[simp] theorem modMtr_alignIdx (s : State) (g : MtrSt → MtrSt) : (s.modMtr g).alignIdx = s.alignIdx := rfl
@[simp] theorem modMtr_phase (s : State) (g : MtrSt → MtrSt) : (s.modMtr g).phase = s.phase := rfl
@[simp] theorem modMtr_frozen (s : State) (g : MtrSt → MtrSt) : (s.modMtr g).frozen = s.frozen := rfl
@[simp] theorem modMtr_regs (s : State) (g : MtrSt → MtrSt) : (s.modMtr g).regs = s.regs := rfl
@[simp] theorem modMtr_resetReq (s : State) (g : MtrSt → MtrSt) : (s.modMtr g).resetReq = s.resetReq := rfl
@[simp] theorem modMtr_raised (s : State) (g : MtrSt → MtrSt) : (s.modMtr g).raised = s.raised := rfl
@[simp] theorem modMtr_out (s : State) (g : MtrSt → MtrSt) : (s.modMtr g).out = s.out := rfl
@[simp] theorem modMtr_freeCtr (s : State) (g : MtrSt → MtrSt) : (s.modMtr g).freeCtr = s.freeCtr := rfl
@[simp] theorem modMtr_adm (s : State) (g : MtrSt → MtrSt) : (s.modMtr g).adm = s.adm := rfl
@[simp] theorem modMtr_inbox (s : State) (g : MtrSt → MtrSt) : (s.modMtr g).inbox = s.inbox := rfl
@[simp] theorem modMtr_bus (s : State) (g : MtrSt → MtrSt) : (s.modMtr g).bus = s.bus := rfl
@[simp] theorem modMtr_gov (s : State) (g : MtrSt → MtrSt) : (s.modMtr g).gov = s.gov := rfl
@[simp] theorem modMtr_govDie (s : State) (g : MtrSt → MtrSt) : (s.modMtr g).govDie = s.govDie := rfl
@[simp] theorem modMtr_rail (s : State) (g : MtrSt → MtrSt) : (s.modMtr g).rail = s.rail := rfl
@[simp] theorem modMtr_rptIo (s : State) (g : MtrSt → MtrSt) : (s.modMtr g).rptIo = s.rptIo := rfl
@[simp] theorem modMtr_lastIo (s : State) (g : MtrSt → MtrSt) : (s.modMtr g).lastIo = s.lastIo := rfl
@[simp] theorem modMtr_clk (s : State) (g : MtrSt → MtrSt) : (s.modMtr g).clk = s.clk := rfl
@[simp] theorem modMtr_clkDie (s : State) (g : MtrSt → MtrSt) : (s.modMtr g).clkDie = s.clkDie := rfl
@[simp] theorem modMtr_hold (s : State) (g : MtrSt → MtrSt) : (s.modMtr g).hold = s.hold := rfl
@[simp] theorem modMtr_rgc (s : State) (g : MtrSt → MtrSt) : (s.modMtr g).rgc = s.rgc := rfl
@[simp] theorem modMtr_loop (s : State) (g : MtrSt → MtrSt) : (s.modMtr g).loop = s.loop := rfl
@[simp] theorem modMtr_vsetTx (s : State) (g : MtrSt → MtrSt) : (s.modMtr g).vsetTx = s.vsetTx := rfl
@[simp] theorem modMtr_satSeq (s : State) (g : MtrSt → MtrSt) : (s.modMtr g).satSeq = s.satSeq := rfl
@[simp] theorem modMtr_vcl (s : State) (g : MtrSt → MtrSt) : (s.modMtr g).vcl = s.vcl := rfl
@[simp] theorem modMtr_once (s : State) (g : MtrSt → MtrSt) : (s.modMtr g).once = s.once := rfl
@[simp] theorem modMtr_thm (s : State) (g : MtrSt → MtrSt) : (s.modMtr g).thm = s.thm := rfl
@[simp] theorem modMtr_thmDie (s : State) (g : MtrSt → MtrSt) : (s.modMtr g).thmDie = s.thmDie := rfl
@[simp] theorem modMtr_trip (s : State) (g : MtrSt → MtrSt) : (s.modMtr g).trip = s.trip := rfl
@[simp] theorem modMtr_sen (s : State) (g : MtrSt → MtrSt) : (s.modMtr g).sen = s.sen := rfl
@[simp] theorem modMtr_libStored (s : State) (g : MtrSt → MtrSt) : (s.modMtr g).libStored = s.libStored := rfl
@[simp] theorem modMtr_lk (s : State) (g : MtrSt → MtrSt) : (s.modMtr g).lk = s.lk := rfl
@[simp] theorem modMtr_cas (s : State) (g : MtrSt → MtrSt) : (s.modMtr g).cas = s.cas := rfl
@[simp] theorem modMtr_frozenNs (s : State) (g : MtrSt → MtrSt) : (s.modMtr g).frozenNs = s.frozenNs := rfl
@[simp] theorem modMtr_frozeAt (s : State) (g : MtrSt → MtrSt) : (s.modMtr g).frozeAt = s.frozeAt := rfl
@[simp] theorem modMtr_queue (s : State) (g : MtrSt → MtrSt) : (s.modMtr g).queue = s.queue := rfl
@[simp] theorem modMtr_lastStart (s : State) (g : MtrSt → MtrSt) : (s.modMtr g).lastStart = s.lastStart := rfl
@[simp] theorem modMtr_nextPoll (s : State) (g : MtrSt → MtrSt) : (s.modMtr g).nextPoll = s.nextPoll := rfl
@[simp] theorem modMtr_mgt (s : State) (g : MtrSt → MtrSt) : (s.modMtr g).mgt = s.mgt := rfl
@[simp] theorem modMtr_fuses (s : State) (g : MtrSt → MtrSt) : (s.modMtr g).fuses = s.fuses := rfl
@[simp] theorem modMtr_siteFuse (s : State) (g : MtrSt → MtrSt) : (s.modMtr g).siteFuse = s.siteFuse := rfl
@[simp] theorem modMtr_tripTrim (s : State) (g : MtrSt → MtrSt) : (s.modMtr g).tripTrim = s.tripTrim := rfl
@[simp] theorem modMtr_rings (s : State) (g : MtrSt → MtrSt) : (s.modMtr g).rings = s.rings := rfl
@[simp] theorem modMtr_trcFifo (s : State) (g : MtrSt → MtrSt) : (s.modMtr g).trcFifo = s.trcFifo := rfl
@[simp] theorem modMtr_trcDrop (s : State) (g : MtrSt → MtrSt) : (s.modMtr g).trcDrop = s.trcDrop := rfl
@[simp] theorem modMtr_rcd (s : State) (g : MtrSt → MtrSt) : (s.modMtr g).rcd = s.rcd := rfl
@[simp] theorem modMtr_upd (s : State) (g : MtrSt → MtrSt) : (s.modMtr g).upd = s.upd := rfl
@[simp] theorem modMtr_flash (s : State) (g : MtrSt → MtrSt) : (s.modMtr g).flash = s.flash := rfl
@[simp] theorem modMtr_chain (s : State) (g : MtrSt → MtrSt) : (s.modMtr g).chain = s.chain := rfl
@[simp] theorem modMtr_seam (s : State) (g : MtrSt → MtrSt) : (s.modMtr g).seam = s.seam := rfl
@[simp] theorem modMtr_mtr (s : State) (g : MtrSt → MtrSt) : (s.modMtr g).mtr = g s.mtr := rfl
@[simp] theorem modMtr_rd (s : State) (g : MtrSt → MtrSt) (z : Fld) : (s.modMtr g).rd z = s.rd z := rfl
@[simp] theorem modMtr_on (s : State) (g : MtrSt → MtrSt) (z : Fld) : (s.modMtr g).on z = s.on z := rfl
@[simp] theorem modMtr_live (s : State) (g : MtrSt → MtrSt) : (s.modMtr g).live = s.live := rfl
@[simp] theorem modMtr_rgcOn (s : State) (g : MtrSt → MtrSt) : (s.modMtr g).rgcOn = s.rgcOn := rfl
@[simp] theorem modMtr_frozenTime (s : State) (g : MtrSt → MtrSt) : (s.modMtr g).frozenTime = s.frozenTime := rfl
@[simp] theorem modMtr_cyc (s : State) (g : MtrSt → MtrSt) : (s.modMtr g).cyc = s.cyc := rfl
@[simp] theorem modMtr_window (s : State) (g : MtrSt → MtrSt) : (s.modMtr g).window = s.window := rfl
@[simp] theorem modMtr_seamUp (s : State) (g : MtrSt → MtrSt) (z : Sat) : (s.modMtr g).seamUp z = s.seamUp z := rfl
@[simp] theorem modMtr_fenced (s : State) (g : MtrSt → MtrSt) (z : Die) : (s.modMtr g).fenced z = s.fenced z := rfl
@[simp] theorem modMtr_safeTier (s : State) (g : MtrSt → MtrSt) (z : Die) : (s.modMtr g).safeTier z = s.safeTier z := rfl
@[simp] theorem modMtr_mode (s : State) (g : MtrSt → MtrSt) (z : Loop) : (s.modMtr g).mode z = s.mode z := rfl

@[simp] theorem modRcd_pending (s : State) (g : RecSt → RecSt) : (s.modRcd g).pending = s.pending := rfl
@[simp] theorem modRcd_now (s : State) (g : RecSt → RecSt) : (s.modRcd g).now = s.now := rfl
@[simp] theorem modRcd_strokeIdx (s : State) (g : RecSt → RecSt) : (s.modRcd g).strokeIdx = s.strokeIdx := rfl
@[simp] theorem modRcd_windowIdx (s : State) (g : RecSt → RecSt) : (s.modRcd g).windowIdx = s.windowIdx := rfl
@[simp] theorem modRcd_alignIdx (s : State) (g : RecSt → RecSt) : (s.modRcd g).alignIdx = s.alignIdx := rfl
@[simp] theorem modRcd_phase (s : State) (g : RecSt → RecSt) : (s.modRcd g).phase = s.phase := rfl
@[simp] theorem modRcd_frozen (s : State) (g : RecSt → RecSt) : (s.modRcd g).frozen = s.frozen := rfl
@[simp] theorem modRcd_regs (s : State) (g : RecSt → RecSt) : (s.modRcd g).regs = s.regs := rfl
@[simp] theorem modRcd_resetReq (s : State) (g : RecSt → RecSt) : (s.modRcd g).resetReq = s.resetReq := rfl
@[simp] theorem modRcd_raised (s : State) (g : RecSt → RecSt) : (s.modRcd g).raised = s.raised := rfl
@[simp] theorem modRcd_out (s : State) (g : RecSt → RecSt) : (s.modRcd g).out = s.out := rfl
@[simp] theorem modRcd_freeCtr (s : State) (g : RecSt → RecSt) : (s.modRcd g).freeCtr = s.freeCtr := rfl
@[simp] theorem modRcd_adm (s : State) (g : RecSt → RecSt) : (s.modRcd g).adm = s.adm := rfl
@[simp] theorem modRcd_inbox (s : State) (g : RecSt → RecSt) : (s.modRcd g).inbox = s.inbox := rfl
@[simp] theorem modRcd_bus (s : State) (g : RecSt → RecSt) : (s.modRcd g).bus = s.bus := rfl
@[simp] theorem modRcd_gov (s : State) (g : RecSt → RecSt) : (s.modRcd g).gov = s.gov := rfl
@[simp] theorem modRcd_govDie (s : State) (g : RecSt → RecSt) : (s.modRcd g).govDie = s.govDie := rfl
@[simp] theorem modRcd_rail (s : State) (g : RecSt → RecSt) : (s.modRcd g).rail = s.rail := rfl
@[simp] theorem modRcd_rptIo (s : State) (g : RecSt → RecSt) : (s.modRcd g).rptIo = s.rptIo := rfl
@[simp] theorem modRcd_lastIo (s : State) (g : RecSt → RecSt) : (s.modRcd g).lastIo = s.lastIo := rfl
@[simp] theorem modRcd_clk (s : State) (g : RecSt → RecSt) : (s.modRcd g).clk = s.clk := rfl
@[simp] theorem modRcd_clkDie (s : State) (g : RecSt → RecSt) : (s.modRcd g).clkDie = s.clkDie := rfl
@[simp] theorem modRcd_hold (s : State) (g : RecSt → RecSt) : (s.modRcd g).hold = s.hold := rfl
@[simp] theorem modRcd_rgc (s : State) (g : RecSt → RecSt) : (s.modRcd g).rgc = s.rgc := rfl
@[simp] theorem modRcd_loop (s : State) (g : RecSt → RecSt) : (s.modRcd g).loop = s.loop := rfl
@[simp] theorem modRcd_vsetTx (s : State) (g : RecSt → RecSt) : (s.modRcd g).vsetTx = s.vsetTx := rfl
@[simp] theorem modRcd_satSeq (s : State) (g : RecSt → RecSt) : (s.modRcd g).satSeq = s.satSeq := rfl
@[simp] theorem modRcd_vcl (s : State) (g : RecSt → RecSt) : (s.modRcd g).vcl = s.vcl := rfl
@[simp] theorem modRcd_once (s : State) (g : RecSt → RecSt) : (s.modRcd g).once = s.once := rfl
@[simp] theorem modRcd_thm (s : State) (g : RecSt → RecSt) : (s.modRcd g).thm = s.thm := rfl
@[simp] theorem modRcd_thmDie (s : State) (g : RecSt → RecSt) : (s.modRcd g).thmDie = s.thmDie := rfl
@[simp] theorem modRcd_trip (s : State) (g : RecSt → RecSt) : (s.modRcd g).trip = s.trip := rfl
@[simp] theorem modRcd_sen (s : State) (g : RecSt → RecSt) : (s.modRcd g).sen = s.sen := rfl
@[simp] theorem modRcd_libStored (s : State) (g : RecSt → RecSt) : (s.modRcd g).libStored = s.libStored := rfl
@[simp] theorem modRcd_lk (s : State) (g : RecSt → RecSt) : (s.modRcd g).lk = s.lk := rfl
@[simp] theorem modRcd_cas (s : State) (g : RecSt → RecSt) : (s.modRcd g).cas = s.cas := rfl
@[simp] theorem modRcd_frozenNs (s : State) (g : RecSt → RecSt) : (s.modRcd g).frozenNs = s.frozenNs := rfl
@[simp] theorem modRcd_frozeAt (s : State) (g : RecSt → RecSt) : (s.modRcd g).frozeAt = s.frozeAt := rfl
@[simp] theorem modRcd_queue (s : State) (g : RecSt → RecSt) : (s.modRcd g).queue = s.queue := rfl
@[simp] theorem modRcd_lastStart (s : State) (g : RecSt → RecSt) : (s.modRcd g).lastStart = s.lastStart := rfl
@[simp] theorem modRcd_nextPoll (s : State) (g : RecSt → RecSt) : (s.modRcd g).nextPoll = s.nextPoll := rfl
@[simp] theorem modRcd_mgt (s : State) (g : RecSt → RecSt) : (s.modRcd g).mgt = s.mgt := rfl
@[simp] theorem modRcd_fuses (s : State) (g : RecSt → RecSt) : (s.modRcd g).fuses = s.fuses := rfl
@[simp] theorem modRcd_siteFuse (s : State) (g : RecSt → RecSt) : (s.modRcd g).siteFuse = s.siteFuse := rfl
@[simp] theorem modRcd_tripTrim (s : State) (g : RecSt → RecSt) : (s.modRcd g).tripTrim = s.tripTrim := rfl
@[simp] theorem modRcd_rings (s : State) (g : RecSt → RecSt) : (s.modRcd g).rings = s.rings := rfl
@[simp] theorem modRcd_trcFifo (s : State) (g : RecSt → RecSt) : (s.modRcd g).trcFifo = s.trcFifo := rfl
@[simp] theorem modRcd_trcDrop (s : State) (g : RecSt → RecSt) : (s.modRcd g).trcDrop = s.trcDrop := rfl
@[simp] theorem modRcd_upd (s : State) (g : RecSt → RecSt) : (s.modRcd g).upd = s.upd := rfl
@[simp] theorem modRcd_flash (s : State) (g : RecSt → RecSt) : (s.modRcd g).flash = s.flash := rfl
@[simp] theorem modRcd_mtr (s : State) (g : RecSt → RecSt) : (s.modRcd g).mtr = s.mtr := rfl
@[simp] theorem modRcd_chain (s : State) (g : RecSt → RecSt) : (s.modRcd g).chain = s.chain := rfl
@[simp] theorem modRcd_seam (s : State) (g : RecSt → RecSt) : (s.modRcd g).seam = s.seam := rfl
@[simp] theorem modRcd_rcd (s : State) (g : RecSt → RecSt) : (s.modRcd g).rcd = g s.rcd := rfl
@[simp] theorem modRcd_rd (s : State) (g : RecSt → RecSt) (z : Fld) : (s.modRcd g).rd z = s.rd z := rfl
@[simp] theorem modRcd_on (s : State) (g : RecSt → RecSt) (z : Fld) : (s.modRcd g).on z = s.on z := rfl
@[simp] theorem modRcd_live (s : State) (g : RecSt → RecSt) : (s.modRcd g).live = s.live := rfl
@[simp] theorem modRcd_rgcOn (s : State) (g : RecSt → RecSt) : (s.modRcd g).rgcOn = s.rgcOn := rfl
@[simp] theorem modRcd_frozenTime (s : State) (g : RecSt → RecSt) : (s.modRcd g).frozenTime = s.frozenTime := rfl
@[simp] theorem modRcd_cyc (s : State) (g : RecSt → RecSt) : (s.modRcd g).cyc = s.cyc := rfl
@[simp] theorem modRcd_window (s : State) (g : RecSt → RecSt) : (s.modRcd g).window = s.window := rfl
@[simp] theorem modRcd_seamUp (s : State) (g : RecSt → RecSt) (z : Sat) : (s.modRcd g).seamUp z = s.seamUp z := rfl
@[simp] theorem modRcd_fenced (s : State) (g : RecSt → RecSt) (z : Die) : (s.modRcd g).fenced z = s.fenced z := rfl
@[simp] theorem modRcd_safeTier (s : State) (g : RecSt → RecSt) (z : Die) : (s.modRcd g).safeTier z = s.safeTier z := rfl
@[simp] theorem modRcd_mode (s : State) (g : RecSt → RecSt) (z : Loop) : (s.modRcd g).mode z = s.mode z := rfl

@[simp] theorem modSeam_pending (s : State) (x : Sat) (g : SeamSt → SeamSt) : (s.modSeam x g).pending = s.pending := rfl
@[simp] theorem modSeam_now (s : State) (x : Sat) (g : SeamSt → SeamSt) : (s.modSeam x g).now = s.now := rfl
@[simp] theorem modSeam_strokeIdx (s : State) (x : Sat) (g : SeamSt → SeamSt) : (s.modSeam x g).strokeIdx = s.strokeIdx := rfl
@[simp] theorem modSeam_windowIdx (s : State) (x : Sat) (g : SeamSt → SeamSt) : (s.modSeam x g).windowIdx = s.windowIdx := rfl
@[simp] theorem modSeam_alignIdx (s : State) (x : Sat) (g : SeamSt → SeamSt) : (s.modSeam x g).alignIdx = s.alignIdx := rfl
@[simp] theorem modSeam_phase (s : State) (x : Sat) (g : SeamSt → SeamSt) : (s.modSeam x g).phase = s.phase := rfl
@[simp] theorem modSeam_frozen (s : State) (x : Sat) (g : SeamSt → SeamSt) : (s.modSeam x g).frozen = s.frozen := rfl
@[simp] theorem modSeam_regs (s : State) (x : Sat) (g : SeamSt → SeamSt) : (s.modSeam x g).regs = s.regs := rfl
@[simp] theorem modSeam_resetReq (s : State) (x : Sat) (g : SeamSt → SeamSt) : (s.modSeam x g).resetReq = s.resetReq := rfl
@[simp] theorem modSeam_raised (s : State) (x : Sat) (g : SeamSt → SeamSt) : (s.modSeam x g).raised = s.raised := rfl
@[simp] theorem modSeam_out (s : State) (x : Sat) (g : SeamSt → SeamSt) : (s.modSeam x g).out = s.out := rfl
@[simp] theorem modSeam_freeCtr (s : State) (x : Sat) (g : SeamSt → SeamSt) : (s.modSeam x g).freeCtr = s.freeCtr := rfl
@[simp] theorem modSeam_adm (s : State) (x : Sat) (g : SeamSt → SeamSt) : (s.modSeam x g).adm = s.adm := rfl
@[simp] theorem modSeam_inbox (s : State) (x : Sat) (g : SeamSt → SeamSt) : (s.modSeam x g).inbox = s.inbox := rfl
@[simp] theorem modSeam_bus (s : State) (x : Sat) (g : SeamSt → SeamSt) : (s.modSeam x g).bus = s.bus := rfl
@[simp] theorem modSeam_gov (s : State) (x : Sat) (g : SeamSt → SeamSt) : (s.modSeam x g).gov = s.gov := rfl
@[simp] theorem modSeam_govDie (s : State) (x : Sat) (g : SeamSt → SeamSt) : (s.modSeam x g).govDie = s.govDie := rfl
@[simp] theorem modSeam_rail (s : State) (x : Sat) (g : SeamSt → SeamSt) : (s.modSeam x g).rail = s.rail := rfl
@[simp] theorem modSeam_rptIo (s : State) (x : Sat) (g : SeamSt → SeamSt) : (s.modSeam x g).rptIo = s.rptIo := rfl
@[simp] theorem modSeam_lastIo (s : State) (x : Sat) (g : SeamSt → SeamSt) : (s.modSeam x g).lastIo = s.lastIo := rfl
@[simp] theorem modSeam_clk (s : State) (x : Sat) (g : SeamSt → SeamSt) : (s.modSeam x g).clk = s.clk := rfl
@[simp] theorem modSeam_clkDie (s : State) (x : Sat) (g : SeamSt → SeamSt) : (s.modSeam x g).clkDie = s.clkDie := rfl
@[simp] theorem modSeam_hold (s : State) (x : Sat) (g : SeamSt → SeamSt) : (s.modSeam x g).hold = s.hold := rfl
@[simp] theorem modSeam_rgc (s : State) (x : Sat) (g : SeamSt → SeamSt) : (s.modSeam x g).rgc = s.rgc := rfl
@[simp] theorem modSeam_loop (s : State) (x : Sat) (g : SeamSt → SeamSt) : (s.modSeam x g).loop = s.loop := rfl
@[simp] theorem modSeam_vsetTx (s : State) (x : Sat) (g : SeamSt → SeamSt) : (s.modSeam x g).vsetTx = s.vsetTx := rfl
@[simp] theorem modSeam_satSeq (s : State) (x : Sat) (g : SeamSt → SeamSt) : (s.modSeam x g).satSeq = s.satSeq := rfl
@[simp] theorem modSeam_vcl (s : State) (x : Sat) (g : SeamSt → SeamSt) : (s.modSeam x g).vcl = s.vcl := rfl
@[simp] theorem modSeam_once (s : State) (x : Sat) (g : SeamSt → SeamSt) : (s.modSeam x g).once = s.once := rfl
@[simp] theorem modSeam_thm (s : State) (x : Sat) (g : SeamSt → SeamSt) : (s.modSeam x g).thm = s.thm := rfl
@[simp] theorem modSeam_thmDie (s : State) (x : Sat) (g : SeamSt → SeamSt) : (s.modSeam x g).thmDie = s.thmDie := rfl
@[simp] theorem modSeam_trip (s : State) (x : Sat) (g : SeamSt → SeamSt) : (s.modSeam x g).trip = s.trip := rfl
@[simp] theorem modSeam_sen (s : State) (x : Sat) (g : SeamSt → SeamSt) : (s.modSeam x g).sen = s.sen := rfl
@[simp] theorem modSeam_libStored (s : State) (x : Sat) (g : SeamSt → SeamSt) : (s.modSeam x g).libStored = s.libStored := rfl
@[simp] theorem modSeam_lk (s : State) (x : Sat) (g : SeamSt → SeamSt) : (s.modSeam x g).lk = s.lk := rfl
@[simp] theorem modSeam_cas (s : State) (x : Sat) (g : SeamSt → SeamSt) : (s.modSeam x g).cas = s.cas := rfl
@[simp] theorem modSeam_frozenNs (s : State) (x : Sat) (g : SeamSt → SeamSt) : (s.modSeam x g).frozenNs = s.frozenNs := rfl
@[simp] theorem modSeam_frozeAt (s : State) (x : Sat) (g : SeamSt → SeamSt) : (s.modSeam x g).frozeAt = s.frozeAt := rfl
@[simp] theorem modSeam_queue (s : State) (x : Sat) (g : SeamSt → SeamSt) : (s.modSeam x g).queue = s.queue := rfl
@[simp] theorem modSeam_lastStart (s : State) (x : Sat) (g : SeamSt → SeamSt) : (s.modSeam x g).lastStart = s.lastStart := rfl
@[simp] theorem modSeam_nextPoll (s : State) (x : Sat) (g : SeamSt → SeamSt) : (s.modSeam x g).nextPoll = s.nextPoll := rfl
@[simp] theorem modSeam_mgt (s : State) (x : Sat) (g : SeamSt → SeamSt) : (s.modSeam x g).mgt = s.mgt := rfl
@[simp] theorem modSeam_fuses (s : State) (x : Sat) (g : SeamSt → SeamSt) : (s.modSeam x g).fuses = s.fuses := rfl
@[simp] theorem modSeam_siteFuse (s : State) (x : Sat) (g : SeamSt → SeamSt) : (s.modSeam x g).siteFuse = s.siteFuse := rfl
@[simp] theorem modSeam_tripTrim (s : State) (x : Sat) (g : SeamSt → SeamSt) : (s.modSeam x g).tripTrim = s.tripTrim := rfl
@[simp] theorem modSeam_rings (s : State) (x : Sat) (g : SeamSt → SeamSt) : (s.modSeam x g).rings = s.rings := rfl
@[simp] theorem modSeam_trcFifo (s : State) (x : Sat) (g : SeamSt → SeamSt) : (s.modSeam x g).trcFifo = s.trcFifo := rfl
@[simp] theorem modSeam_trcDrop (s : State) (x : Sat) (g : SeamSt → SeamSt) : (s.modSeam x g).trcDrop = s.trcDrop := rfl
@[simp] theorem modSeam_rcd (s : State) (x : Sat) (g : SeamSt → SeamSt) : (s.modSeam x g).rcd = s.rcd := rfl
@[simp] theorem modSeam_upd (s : State) (x : Sat) (g : SeamSt → SeamSt) : (s.modSeam x g).upd = s.upd := rfl
@[simp] theorem modSeam_flash (s : State) (x : Sat) (g : SeamSt → SeamSt) : (s.modSeam x g).flash = s.flash := rfl
@[simp] theorem modSeam_mtr (s : State) (x : Sat) (g : SeamSt → SeamSt) : (s.modSeam x g).mtr = s.mtr := rfl
@[simp] theorem modSeam_chain (s : State) (x : Sat) (g : SeamSt → SeamSt) : (s.modSeam x g).chain = s.chain := rfl
@[simp] theorem modSeam_seam (s : State) (x : Sat) (g : SeamSt → SeamSt) : (s.modSeam x g).seam = s.seam.set x (g s.seam[x]) := rfl
@[simp] theorem modSeam_rd (s : State) (x : Sat) (g : SeamSt → SeamSt) (z : Fld) : (s.modSeam x g).rd z = s.rd z := rfl
@[simp] theorem modSeam_on (s : State) (x : Sat) (g : SeamSt → SeamSt) (z : Fld) : (s.modSeam x g).on z = s.on z := rfl
@[simp] theorem modSeam_live (s : State) (x : Sat) (g : SeamSt → SeamSt) : (s.modSeam x g).live = s.live := rfl
@[simp] theorem modSeam_rgcOn (s : State) (x : Sat) (g : SeamSt → SeamSt) : (s.modSeam x g).rgcOn = s.rgcOn := rfl
@[simp] theorem modSeam_frozenTime (s : State) (x : Sat) (g : SeamSt → SeamSt) : (s.modSeam x g).frozenTime = s.frozenTime := rfl
@[simp] theorem modSeam_cyc (s : State) (x : Sat) (g : SeamSt → SeamSt) : (s.modSeam x g).cyc = s.cyc := rfl
@[simp] theorem modSeam_window (s : State) (x : Sat) (g : SeamSt → SeamSt) : (s.modSeam x g).window = s.window := rfl
@[simp] theorem modSeam_seamUp (s : State) (x : Sat) (g : SeamSt → SeamSt) (z : Sat) : (s.modSeam x g).seamUp z = s.seamUp z := rfl
@[simp] theorem modSeam_fenced (s : State) (x : Sat) (g : SeamSt → SeamSt) (z : Die) : (s.modSeam x g).fenced z = s.fenced z := rfl
@[simp] theorem modSeam_safeTier (s : State) (x : Sat) (g : SeamSt → SeamSt) (z : Die) : (s.modSeam x g).safeTier z = s.safeTier z := rfl
@[simp] theorem modSeam_mode (s : State) (x : Sat) (g : SeamSt → SeamSt) (z : Loop) : (s.modSeam x g).mode z = s.mode z := rfl

@[simp] theorem modSen_pending (s : State) (g : SenSt → SenSt) : (s.modSen g).pending = s.pending := rfl
@[simp] theorem modSen_now (s : State) (g : SenSt → SenSt) : (s.modSen g).now = s.now := rfl
@[simp] theorem modSen_strokeIdx (s : State) (g : SenSt → SenSt) : (s.modSen g).strokeIdx = s.strokeIdx := rfl
@[simp] theorem modSen_windowIdx (s : State) (g : SenSt → SenSt) : (s.modSen g).windowIdx = s.windowIdx := rfl
@[simp] theorem modSen_alignIdx (s : State) (g : SenSt → SenSt) : (s.modSen g).alignIdx = s.alignIdx := rfl
@[simp] theorem modSen_phase (s : State) (g : SenSt → SenSt) : (s.modSen g).phase = s.phase := rfl
@[simp] theorem modSen_frozen (s : State) (g : SenSt → SenSt) : (s.modSen g).frozen = s.frozen := rfl
@[simp] theorem modSen_regs (s : State) (g : SenSt → SenSt) : (s.modSen g).regs = s.regs := rfl
@[simp] theorem modSen_resetReq (s : State) (g : SenSt → SenSt) : (s.modSen g).resetReq = s.resetReq := rfl
@[simp] theorem modSen_raised (s : State) (g : SenSt → SenSt) : (s.modSen g).raised = s.raised := rfl
@[simp] theorem modSen_out (s : State) (g : SenSt → SenSt) : (s.modSen g).out = s.out := rfl
@[simp] theorem modSen_freeCtr (s : State) (g : SenSt → SenSt) : (s.modSen g).freeCtr = s.freeCtr := rfl
@[simp] theorem modSen_adm (s : State) (g : SenSt → SenSt) : (s.modSen g).adm = s.adm := rfl
@[simp] theorem modSen_inbox (s : State) (g : SenSt → SenSt) : (s.modSen g).inbox = s.inbox := rfl
@[simp] theorem modSen_bus (s : State) (g : SenSt → SenSt) : (s.modSen g).bus = s.bus := rfl
@[simp] theorem modSen_gov (s : State) (g : SenSt → SenSt) : (s.modSen g).gov = s.gov := rfl
@[simp] theorem modSen_govDie (s : State) (g : SenSt → SenSt) : (s.modSen g).govDie = s.govDie := rfl
@[simp] theorem modSen_rail (s : State) (g : SenSt → SenSt) : (s.modSen g).rail = s.rail := rfl
@[simp] theorem modSen_rptIo (s : State) (g : SenSt → SenSt) : (s.modSen g).rptIo = s.rptIo := rfl
@[simp] theorem modSen_lastIo (s : State) (g : SenSt → SenSt) : (s.modSen g).lastIo = s.lastIo := rfl
@[simp] theorem modSen_clk (s : State) (g : SenSt → SenSt) : (s.modSen g).clk = s.clk := rfl
@[simp] theorem modSen_clkDie (s : State) (g : SenSt → SenSt) : (s.modSen g).clkDie = s.clkDie := rfl
@[simp] theorem modSen_hold (s : State) (g : SenSt → SenSt) : (s.modSen g).hold = s.hold := rfl
@[simp] theorem modSen_rgc (s : State) (g : SenSt → SenSt) : (s.modSen g).rgc = s.rgc := rfl
@[simp] theorem modSen_loop (s : State) (g : SenSt → SenSt) : (s.modSen g).loop = s.loop := rfl
@[simp] theorem modSen_vsetTx (s : State) (g : SenSt → SenSt) : (s.modSen g).vsetTx = s.vsetTx := rfl
@[simp] theorem modSen_satSeq (s : State) (g : SenSt → SenSt) : (s.modSen g).satSeq = s.satSeq := rfl
@[simp] theorem modSen_vcl (s : State) (g : SenSt → SenSt) : (s.modSen g).vcl = s.vcl := rfl
@[simp] theorem modSen_once (s : State) (g : SenSt → SenSt) : (s.modSen g).once = s.once := rfl
@[simp] theorem modSen_thm (s : State) (g : SenSt → SenSt) : (s.modSen g).thm = s.thm := rfl
@[simp] theorem modSen_thmDie (s : State) (g : SenSt → SenSt) : (s.modSen g).thmDie = s.thmDie := rfl
@[simp] theorem modSen_trip (s : State) (g : SenSt → SenSt) : (s.modSen g).trip = s.trip := rfl
@[simp] theorem modSen_libStored (s : State) (g : SenSt → SenSt) : (s.modSen g).libStored = s.libStored := rfl
@[simp] theorem modSen_lk (s : State) (g : SenSt → SenSt) : (s.modSen g).lk = s.lk := rfl
@[simp] theorem modSen_cas (s : State) (g : SenSt → SenSt) : (s.modSen g).cas = s.cas := rfl
@[simp] theorem modSen_frozenNs (s : State) (g : SenSt → SenSt) : (s.modSen g).frozenNs = s.frozenNs := rfl
@[simp] theorem modSen_frozeAt (s : State) (g : SenSt → SenSt) : (s.modSen g).frozeAt = s.frozeAt := rfl
@[simp] theorem modSen_queue (s : State) (g : SenSt → SenSt) : (s.modSen g).queue = s.queue := rfl
@[simp] theorem modSen_lastStart (s : State) (g : SenSt → SenSt) : (s.modSen g).lastStart = s.lastStart := rfl
@[simp] theorem modSen_nextPoll (s : State) (g : SenSt → SenSt) : (s.modSen g).nextPoll = s.nextPoll := rfl
@[simp] theorem modSen_mgt (s : State) (g : SenSt → SenSt) : (s.modSen g).mgt = s.mgt := rfl
@[simp] theorem modSen_fuses (s : State) (g : SenSt → SenSt) : (s.modSen g).fuses = s.fuses := rfl
@[simp] theorem modSen_siteFuse (s : State) (g : SenSt → SenSt) : (s.modSen g).siteFuse = s.siteFuse := rfl
@[simp] theorem modSen_tripTrim (s : State) (g : SenSt → SenSt) : (s.modSen g).tripTrim = s.tripTrim := rfl
@[simp] theorem modSen_rings (s : State) (g : SenSt → SenSt) : (s.modSen g).rings = s.rings := rfl
@[simp] theorem modSen_trcFifo (s : State) (g : SenSt → SenSt) : (s.modSen g).trcFifo = s.trcFifo := rfl
@[simp] theorem modSen_trcDrop (s : State) (g : SenSt → SenSt) : (s.modSen g).trcDrop = s.trcDrop := rfl
@[simp] theorem modSen_rcd (s : State) (g : SenSt → SenSt) : (s.modSen g).rcd = s.rcd := rfl
@[simp] theorem modSen_upd (s : State) (g : SenSt → SenSt) : (s.modSen g).upd = s.upd := rfl
@[simp] theorem modSen_flash (s : State) (g : SenSt → SenSt) : (s.modSen g).flash = s.flash := rfl
@[simp] theorem modSen_mtr (s : State) (g : SenSt → SenSt) : (s.modSen g).mtr = s.mtr := rfl
@[simp] theorem modSen_chain (s : State) (g : SenSt → SenSt) : (s.modSen g).chain = s.chain := rfl
@[simp] theorem modSen_seam (s : State) (g : SenSt → SenSt) : (s.modSen g).seam = s.seam := rfl
@[simp] theorem modSen_sen (s : State) (g : SenSt → SenSt) : (s.modSen g).sen = g s.sen := rfl
@[simp] theorem modSen_rd (s : State) (g : SenSt → SenSt) (z : Fld) : (s.modSen g).rd z = s.rd z := rfl
@[simp] theorem modSen_on (s : State) (g : SenSt → SenSt) (z : Fld) : (s.modSen g).on z = s.on z := rfl
@[simp] theorem modSen_live (s : State) (g : SenSt → SenSt) : (s.modSen g).live = s.live := rfl
@[simp] theorem modSen_rgcOn (s : State) (g : SenSt → SenSt) : (s.modSen g).rgcOn = s.rgcOn := rfl
@[simp] theorem modSen_frozenTime (s : State) (g : SenSt → SenSt) : (s.modSen g).frozenTime = s.frozenTime := rfl
@[simp] theorem modSen_cyc (s : State) (g : SenSt → SenSt) : (s.modSen g).cyc = s.cyc := rfl
@[simp] theorem modSen_window (s : State) (g : SenSt → SenSt) : (s.modSen g).window = s.window := rfl
@[simp] theorem modSen_seamUp (s : State) (g : SenSt → SenSt) (z : Sat) : (s.modSen g).seamUp z = s.seamUp z := rfl
@[simp] theorem modSen_fenced (s : State) (g : SenSt → SenSt) (z : Die) : (s.modSen g).fenced z = s.fenced z := rfl
@[simp] theorem modSen_safeTier (s : State) (g : SenSt → SenSt) (z : Die) : (s.modSen g).safeTier z = s.safeTier z := rfl
@[simp] theorem modSen_mode (s : State) (g : SenSt → SenSt) (z : Loop) : (s.modSen g).mode z = s.mode z := rfl

@[simp] theorem modSenDie_pending (s : State) (d : Die) (g : SenDie → SenDie) : (s.modSenDie d g).pending = s.pending := rfl
@[simp] theorem modSenDie_now (s : State) (d : Die) (g : SenDie → SenDie) : (s.modSenDie d g).now = s.now := rfl
@[simp] theorem modSenDie_strokeIdx (s : State) (d : Die) (g : SenDie → SenDie) : (s.modSenDie d g).strokeIdx = s.strokeIdx := rfl
@[simp] theorem modSenDie_windowIdx (s : State) (d : Die) (g : SenDie → SenDie) : (s.modSenDie d g).windowIdx = s.windowIdx := rfl
@[simp] theorem modSenDie_alignIdx (s : State) (d : Die) (g : SenDie → SenDie) : (s.modSenDie d g).alignIdx = s.alignIdx := rfl
@[simp] theorem modSenDie_phase (s : State) (d : Die) (g : SenDie → SenDie) : (s.modSenDie d g).phase = s.phase := rfl
@[simp] theorem modSenDie_frozen (s : State) (d : Die) (g : SenDie → SenDie) : (s.modSenDie d g).frozen = s.frozen := rfl
@[simp] theorem modSenDie_regs (s : State) (d : Die) (g : SenDie → SenDie) : (s.modSenDie d g).regs = s.regs := rfl
@[simp] theorem modSenDie_resetReq (s : State) (d : Die) (g : SenDie → SenDie) : (s.modSenDie d g).resetReq = s.resetReq := rfl
@[simp] theorem modSenDie_raised (s : State) (d : Die) (g : SenDie → SenDie) : (s.modSenDie d g).raised = s.raised := rfl
@[simp] theorem modSenDie_out (s : State) (d : Die) (g : SenDie → SenDie) : (s.modSenDie d g).out = s.out := rfl
@[simp] theorem modSenDie_freeCtr (s : State) (d : Die) (g : SenDie → SenDie) : (s.modSenDie d g).freeCtr = s.freeCtr := rfl
@[simp] theorem modSenDie_adm (s : State) (d : Die) (g : SenDie → SenDie) : (s.modSenDie d g).adm = s.adm := rfl
@[simp] theorem modSenDie_inbox (s : State) (d : Die) (g : SenDie → SenDie) : (s.modSenDie d g).inbox = s.inbox := rfl
@[simp] theorem modSenDie_bus (s : State) (d : Die) (g : SenDie → SenDie) : (s.modSenDie d g).bus = s.bus := rfl
@[simp] theorem modSenDie_gov (s : State) (d : Die) (g : SenDie → SenDie) : (s.modSenDie d g).gov = s.gov := rfl
@[simp] theorem modSenDie_govDie (s : State) (d : Die) (g : SenDie → SenDie) : (s.modSenDie d g).govDie = s.govDie := rfl
@[simp] theorem modSenDie_rail (s : State) (d : Die) (g : SenDie → SenDie) : (s.modSenDie d g).rail = s.rail := rfl
@[simp] theorem modSenDie_rptIo (s : State) (d : Die) (g : SenDie → SenDie) : (s.modSenDie d g).rptIo = s.rptIo := rfl
@[simp] theorem modSenDie_lastIo (s : State) (d : Die) (g : SenDie → SenDie) : (s.modSenDie d g).lastIo = s.lastIo := rfl
@[simp] theorem modSenDie_clk (s : State) (d : Die) (g : SenDie → SenDie) : (s.modSenDie d g).clk = s.clk := rfl
@[simp] theorem modSenDie_clkDie (s : State) (d : Die) (g : SenDie → SenDie) : (s.modSenDie d g).clkDie = s.clkDie := rfl
@[simp] theorem modSenDie_hold (s : State) (d : Die) (g : SenDie → SenDie) : (s.modSenDie d g).hold = s.hold := rfl
@[simp] theorem modSenDie_rgc (s : State) (d : Die) (g : SenDie → SenDie) : (s.modSenDie d g).rgc = s.rgc := rfl
@[simp] theorem modSenDie_loop (s : State) (d : Die) (g : SenDie → SenDie) : (s.modSenDie d g).loop = s.loop := rfl
@[simp] theorem modSenDie_vsetTx (s : State) (d : Die) (g : SenDie → SenDie) : (s.modSenDie d g).vsetTx = s.vsetTx := rfl
@[simp] theorem modSenDie_satSeq (s : State) (d : Die) (g : SenDie → SenDie) : (s.modSenDie d g).satSeq = s.satSeq := rfl
@[simp] theorem modSenDie_vcl (s : State) (d : Die) (g : SenDie → SenDie) : (s.modSenDie d g).vcl = s.vcl := rfl
@[simp] theorem modSenDie_once (s : State) (d : Die) (g : SenDie → SenDie) : (s.modSenDie d g).once = s.once := rfl
@[simp] theorem modSenDie_thm (s : State) (d : Die) (g : SenDie → SenDie) : (s.modSenDie d g).thm = s.thm := rfl
@[simp] theorem modSenDie_thmDie (s : State) (d : Die) (g : SenDie → SenDie) : (s.modSenDie d g).thmDie = s.thmDie := rfl
@[simp] theorem modSenDie_trip (s : State) (d : Die) (g : SenDie → SenDie) : (s.modSenDie d g).trip = s.trip := rfl
@[simp] theorem modSenDie_libStored (s : State) (d : Die) (g : SenDie → SenDie) : (s.modSenDie d g).libStored = s.libStored := rfl
@[simp] theorem modSenDie_lk (s : State) (d : Die) (g : SenDie → SenDie) : (s.modSenDie d g).lk = s.lk := rfl
@[simp] theorem modSenDie_cas (s : State) (d : Die) (g : SenDie → SenDie) : (s.modSenDie d g).cas = s.cas := rfl
@[simp] theorem modSenDie_frozenNs (s : State) (d : Die) (g : SenDie → SenDie) : (s.modSenDie d g).frozenNs = s.frozenNs := rfl
@[simp] theorem modSenDie_frozeAt (s : State) (d : Die) (g : SenDie → SenDie) : (s.modSenDie d g).frozeAt = s.frozeAt := rfl
@[simp] theorem modSenDie_queue (s : State) (d : Die) (g : SenDie → SenDie) : (s.modSenDie d g).queue = s.queue := rfl
@[simp] theorem modSenDie_lastStart (s : State) (d : Die) (g : SenDie → SenDie) : (s.modSenDie d g).lastStart = s.lastStart := rfl
@[simp] theorem modSenDie_nextPoll (s : State) (d : Die) (g : SenDie → SenDie) : (s.modSenDie d g).nextPoll = s.nextPoll := rfl
@[simp] theorem modSenDie_mgt (s : State) (d : Die) (g : SenDie → SenDie) : (s.modSenDie d g).mgt = s.mgt := rfl
@[simp] theorem modSenDie_fuses (s : State) (d : Die) (g : SenDie → SenDie) : (s.modSenDie d g).fuses = s.fuses := rfl
@[simp] theorem modSenDie_siteFuse (s : State) (d : Die) (g : SenDie → SenDie) : (s.modSenDie d g).siteFuse = s.siteFuse := rfl
@[simp] theorem modSenDie_tripTrim (s : State) (d : Die) (g : SenDie → SenDie) : (s.modSenDie d g).tripTrim = s.tripTrim := rfl
@[simp] theorem modSenDie_rings (s : State) (d : Die) (g : SenDie → SenDie) : (s.modSenDie d g).rings = s.rings := rfl
@[simp] theorem modSenDie_trcFifo (s : State) (d : Die) (g : SenDie → SenDie) : (s.modSenDie d g).trcFifo = s.trcFifo := rfl
@[simp] theorem modSenDie_trcDrop (s : State) (d : Die) (g : SenDie → SenDie) : (s.modSenDie d g).trcDrop = s.trcDrop := rfl
@[simp] theorem modSenDie_rcd (s : State) (d : Die) (g : SenDie → SenDie) : (s.modSenDie d g).rcd = s.rcd := rfl
@[simp] theorem modSenDie_upd (s : State) (d : Die) (g : SenDie → SenDie) : (s.modSenDie d g).upd = s.upd := rfl
@[simp] theorem modSenDie_flash (s : State) (d : Die) (g : SenDie → SenDie) : (s.modSenDie d g).flash = s.flash := rfl
@[simp] theorem modSenDie_mtr (s : State) (d : Die) (g : SenDie → SenDie) : (s.modSenDie d g).mtr = s.mtr := rfl
@[simp] theorem modSenDie_chain (s : State) (d : Die) (g : SenDie → SenDie) : (s.modSenDie d g).chain = s.chain := rfl
@[simp] theorem modSenDie_seam (s : State) (d : Die) (g : SenDie → SenDie) : (s.modSenDie d g).seam = s.seam := rfl
@[simp] theorem modSenDie_rd (s : State) (d : Die) (g : SenDie → SenDie) (z : Fld) : (s.modSenDie d g).rd z = s.rd z := rfl
@[simp] theorem modSenDie_on (s : State) (d : Die) (g : SenDie → SenDie) (z : Fld) : (s.modSenDie d g).on z = s.on z := rfl
@[simp] theorem modSenDie_live (s : State) (d : Die) (g : SenDie → SenDie) : (s.modSenDie d g).live = s.live := rfl
@[simp] theorem modSenDie_rgcOn (s : State) (d : Die) (g : SenDie → SenDie) : (s.modSenDie d g).rgcOn = s.rgcOn := rfl
@[simp] theorem modSenDie_frozenTime (s : State) (d : Die) (g : SenDie → SenDie) : (s.modSenDie d g).frozenTime = s.frozenTime := rfl
@[simp] theorem modSenDie_cyc (s : State) (d : Die) (g : SenDie → SenDie) : (s.modSenDie d g).cyc = s.cyc := rfl
@[simp] theorem modSenDie_window (s : State) (d : Die) (g : SenDie → SenDie) : (s.modSenDie d g).window = s.window := rfl
@[simp] theorem modSenDie_seamUp (s : State) (d : Die) (g : SenDie → SenDie) (z : Sat) : (s.modSenDie d g).seamUp z = s.seamUp z := rfl
@[simp] theorem modSenDie_fenced (s : State) (d : Die) (g : SenDie → SenDie) (z : Die) : (s.modSenDie d g).fenced z = s.fenced z := rfl
@[simp] theorem modSenDie_safeTier (s : State) (d : Die) (g : SenDie → SenDie) (z : Die) : (s.modSenDie d g).safeTier z = s.safeTier z := rfl
@[simp] theorem modSenDie_mode (s : State) (d : Die) (g : SenDie → SenDie) (z : Loop) : (s.modSenDie d g).mode z = s.mode z := rfl

@[simp] theorem modThm_pending (s : State) (g : ThmSt → ThmSt) : (s.modThm g).pending = s.pending := rfl
@[simp] theorem modThm_now (s : State) (g : ThmSt → ThmSt) : (s.modThm g).now = s.now := rfl
@[simp] theorem modThm_strokeIdx (s : State) (g : ThmSt → ThmSt) : (s.modThm g).strokeIdx = s.strokeIdx := rfl
@[simp] theorem modThm_windowIdx (s : State) (g : ThmSt → ThmSt) : (s.modThm g).windowIdx = s.windowIdx := rfl
@[simp] theorem modThm_alignIdx (s : State) (g : ThmSt → ThmSt) : (s.modThm g).alignIdx = s.alignIdx := rfl
@[simp] theorem modThm_phase (s : State) (g : ThmSt → ThmSt) : (s.modThm g).phase = s.phase := rfl
@[simp] theorem modThm_frozen (s : State) (g : ThmSt → ThmSt) : (s.modThm g).frozen = s.frozen := rfl
@[simp] theorem modThm_regs (s : State) (g : ThmSt → ThmSt) : (s.modThm g).regs = s.regs := rfl
@[simp] theorem modThm_resetReq (s : State) (g : ThmSt → ThmSt) : (s.modThm g).resetReq = s.resetReq := rfl
@[simp] theorem modThm_raised (s : State) (g : ThmSt → ThmSt) : (s.modThm g).raised = s.raised := rfl
@[simp] theorem modThm_out (s : State) (g : ThmSt → ThmSt) : (s.modThm g).out = s.out := rfl
@[simp] theorem modThm_freeCtr (s : State) (g : ThmSt → ThmSt) : (s.modThm g).freeCtr = s.freeCtr := rfl
@[simp] theorem modThm_adm (s : State) (g : ThmSt → ThmSt) : (s.modThm g).adm = s.adm := rfl
@[simp] theorem modThm_inbox (s : State) (g : ThmSt → ThmSt) : (s.modThm g).inbox = s.inbox := rfl
@[simp] theorem modThm_bus (s : State) (g : ThmSt → ThmSt) : (s.modThm g).bus = s.bus := rfl
@[simp] theorem modThm_gov (s : State) (g : ThmSt → ThmSt) : (s.modThm g).gov = s.gov := rfl
@[simp] theorem modThm_govDie (s : State) (g : ThmSt → ThmSt) : (s.modThm g).govDie = s.govDie := rfl
@[simp] theorem modThm_rail (s : State) (g : ThmSt → ThmSt) : (s.modThm g).rail = s.rail := rfl
@[simp] theorem modThm_rptIo (s : State) (g : ThmSt → ThmSt) : (s.modThm g).rptIo = s.rptIo := rfl
@[simp] theorem modThm_lastIo (s : State) (g : ThmSt → ThmSt) : (s.modThm g).lastIo = s.lastIo := rfl
@[simp] theorem modThm_clk (s : State) (g : ThmSt → ThmSt) : (s.modThm g).clk = s.clk := rfl
@[simp] theorem modThm_clkDie (s : State) (g : ThmSt → ThmSt) : (s.modThm g).clkDie = s.clkDie := rfl
@[simp] theorem modThm_hold (s : State) (g : ThmSt → ThmSt) : (s.modThm g).hold = s.hold := rfl
@[simp] theorem modThm_rgc (s : State) (g : ThmSt → ThmSt) : (s.modThm g).rgc = s.rgc := rfl
@[simp] theorem modThm_loop (s : State) (g : ThmSt → ThmSt) : (s.modThm g).loop = s.loop := rfl
@[simp] theorem modThm_vsetTx (s : State) (g : ThmSt → ThmSt) : (s.modThm g).vsetTx = s.vsetTx := rfl
@[simp] theorem modThm_satSeq (s : State) (g : ThmSt → ThmSt) : (s.modThm g).satSeq = s.satSeq := rfl
@[simp] theorem modThm_vcl (s : State) (g : ThmSt → ThmSt) : (s.modThm g).vcl = s.vcl := rfl
@[simp] theorem modThm_once (s : State) (g : ThmSt → ThmSt) : (s.modThm g).once = s.once := rfl
@[simp] theorem modThm_thmDie (s : State) (g : ThmSt → ThmSt) : (s.modThm g).thmDie = s.thmDie := rfl
@[simp] theorem modThm_trip (s : State) (g : ThmSt → ThmSt) : (s.modThm g).trip = s.trip := rfl
@[simp] theorem modThm_sen (s : State) (g : ThmSt → ThmSt) : (s.modThm g).sen = s.sen := rfl
@[simp] theorem modThm_libStored (s : State) (g : ThmSt → ThmSt) : (s.modThm g).libStored = s.libStored := rfl
@[simp] theorem modThm_lk (s : State) (g : ThmSt → ThmSt) : (s.modThm g).lk = s.lk := rfl
@[simp] theorem modThm_cas (s : State) (g : ThmSt → ThmSt) : (s.modThm g).cas = s.cas := rfl
@[simp] theorem modThm_frozenNs (s : State) (g : ThmSt → ThmSt) : (s.modThm g).frozenNs = s.frozenNs := rfl
@[simp] theorem modThm_frozeAt (s : State) (g : ThmSt → ThmSt) : (s.modThm g).frozeAt = s.frozeAt := rfl
@[simp] theorem modThm_queue (s : State) (g : ThmSt → ThmSt) : (s.modThm g).queue = s.queue := rfl
@[simp] theorem modThm_lastStart (s : State) (g : ThmSt → ThmSt) : (s.modThm g).lastStart = s.lastStart := rfl
@[simp] theorem modThm_nextPoll (s : State) (g : ThmSt → ThmSt) : (s.modThm g).nextPoll = s.nextPoll := rfl
@[simp] theorem modThm_mgt (s : State) (g : ThmSt → ThmSt) : (s.modThm g).mgt = s.mgt := rfl
@[simp] theorem modThm_fuses (s : State) (g : ThmSt → ThmSt) : (s.modThm g).fuses = s.fuses := rfl
@[simp] theorem modThm_siteFuse (s : State) (g : ThmSt → ThmSt) : (s.modThm g).siteFuse = s.siteFuse := rfl
@[simp] theorem modThm_tripTrim (s : State) (g : ThmSt → ThmSt) : (s.modThm g).tripTrim = s.tripTrim := rfl
@[simp] theorem modThm_rings (s : State) (g : ThmSt → ThmSt) : (s.modThm g).rings = s.rings := rfl
@[simp] theorem modThm_trcFifo (s : State) (g : ThmSt → ThmSt) : (s.modThm g).trcFifo = s.trcFifo := rfl
@[simp] theorem modThm_trcDrop (s : State) (g : ThmSt → ThmSt) : (s.modThm g).trcDrop = s.trcDrop := rfl
@[simp] theorem modThm_rcd (s : State) (g : ThmSt → ThmSt) : (s.modThm g).rcd = s.rcd := rfl
@[simp] theorem modThm_upd (s : State) (g : ThmSt → ThmSt) : (s.modThm g).upd = s.upd := rfl
@[simp] theorem modThm_flash (s : State) (g : ThmSt → ThmSt) : (s.modThm g).flash = s.flash := rfl
@[simp] theorem modThm_mtr (s : State) (g : ThmSt → ThmSt) : (s.modThm g).mtr = s.mtr := rfl
@[simp] theorem modThm_chain (s : State) (g : ThmSt → ThmSt) : (s.modThm g).chain = s.chain := rfl
@[simp] theorem modThm_seam (s : State) (g : ThmSt → ThmSt) : (s.modThm g).seam = s.seam := rfl
@[simp] theorem modThm_thm (s : State) (g : ThmSt → ThmSt) : (s.modThm g).thm = g s.thm := rfl
@[simp] theorem modThm_rd (s : State) (g : ThmSt → ThmSt) (z : Fld) : (s.modThm g).rd z = s.rd z := rfl
@[simp] theorem modThm_on (s : State) (g : ThmSt → ThmSt) (z : Fld) : (s.modThm g).on z = s.on z := rfl
@[simp] theorem modThm_live (s : State) (g : ThmSt → ThmSt) : (s.modThm g).live = s.live := rfl
@[simp] theorem modThm_rgcOn (s : State) (g : ThmSt → ThmSt) : (s.modThm g).rgcOn = s.rgcOn := rfl
@[simp] theorem modThm_frozenTime (s : State) (g : ThmSt → ThmSt) : (s.modThm g).frozenTime = s.frozenTime := rfl
@[simp] theorem modThm_cyc (s : State) (g : ThmSt → ThmSt) : (s.modThm g).cyc = s.cyc := rfl
@[simp] theorem modThm_window (s : State) (g : ThmSt → ThmSt) : (s.modThm g).window = s.window := rfl
@[simp] theorem modThm_seamUp (s : State) (g : ThmSt → ThmSt) (z : Sat) : (s.modThm g).seamUp z = s.seamUp z := rfl
@[simp] theorem modThm_fenced (s : State) (g : ThmSt → ThmSt) (z : Die) : (s.modThm g).fenced z = s.fenced z := rfl
@[simp] theorem modThm_safeTier (s : State) (g : ThmSt → ThmSt) (z : Die) : (s.modThm g).safeTier z = s.safeTier z := rfl
@[simp] theorem modThm_mode (s : State) (g : ThmSt → ThmSt) (z : Loop) : (s.modThm g).mode z = s.mode z := rfl

@[simp] theorem modTd_pending (s : State) (x : Sat) (g : ThmDie → ThmDie) : (s.modTd x g).pending = s.pending := rfl
@[simp] theorem modTd_now (s : State) (x : Sat) (g : ThmDie → ThmDie) : (s.modTd x g).now = s.now := rfl
@[simp] theorem modTd_strokeIdx (s : State) (x : Sat) (g : ThmDie → ThmDie) : (s.modTd x g).strokeIdx = s.strokeIdx := rfl
@[simp] theorem modTd_windowIdx (s : State) (x : Sat) (g : ThmDie → ThmDie) : (s.modTd x g).windowIdx = s.windowIdx := rfl
@[simp] theorem modTd_alignIdx (s : State) (x : Sat) (g : ThmDie → ThmDie) : (s.modTd x g).alignIdx = s.alignIdx := rfl
@[simp] theorem modTd_phase (s : State) (x : Sat) (g : ThmDie → ThmDie) : (s.modTd x g).phase = s.phase := rfl
@[simp] theorem modTd_frozen (s : State) (x : Sat) (g : ThmDie → ThmDie) : (s.modTd x g).frozen = s.frozen := rfl
@[simp] theorem modTd_regs (s : State) (x : Sat) (g : ThmDie → ThmDie) : (s.modTd x g).regs = s.regs := rfl
@[simp] theorem modTd_resetReq (s : State) (x : Sat) (g : ThmDie → ThmDie) : (s.modTd x g).resetReq = s.resetReq := rfl
@[simp] theorem modTd_raised (s : State) (x : Sat) (g : ThmDie → ThmDie) : (s.modTd x g).raised = s.raised := rfl
@[simp] theorem modTd_out (s : State) (x : Sat) (g : ThmDie → ThmDie) : (s.modTd x g).out = s.out := rfl
@[simp] theorem modTd_freeCtr (s : State) (x : Sat) (g : ThmDie → ThmDie) : (s.modTd x g).freeCtr = s.freeCtr := rfl
@[simp] theorem modTd_adm (s : State) (x : Sat) (g : ThmDie → ThmDie) : (s.modTd x g).adm = s.adm := rfl
@[simp] theorem modTd_inbox (s : State) (x : Sat) (g : ThmDie → ThmDie) : (s.modTd x g).inbox = s.inbox := rfl
@[simp] theorem modTd_bus (s : State) (x : Sat) (g : ThmDie → ThmDie) : (s.modTd x g).bus = s.bus := rfl
@[simp] theorem modTd_gov (s : State) (x : Sat) (g : ThmDie → ThmDie) : (s.modTd x g).gov = s.gov := rfl
@[simp] theorem modTd_govDie (s : State) (x : Sat) (g : ThmDie → ThmDie) : (s.modTd x g).govDie = s.govDie := rfl
@[simp] theorem modTd_rail (s : State) (x : Sat) (g : ThmDie → ThmDie) : (s.modTd x g).rail = s.rail := rfl
@[simp] theorem modTd_rptIo (s : State) (x : Sat) (g : ThmDie → ThmDie) : (s.modTd x g).rptIo = s.rptIo := rfl
@[simp] theorem modTd_lastIo (s : State) (x : Sat) (g : ThmDie → ThmDie) : (s.modTd x g).lastIo = s.lastIo := rfl
@[simp] theorem modTd_clk (s : State) (x : Sat) (g : ThmDie → ThmDie) : (s.modTd x g).clk = s.clk := rfl
@[simp] theorem modTd_clkDie (s : State) (x : Sat) (g : ThmDie → ThmDie) : (s.modTd x g).clkDie = s.clkDie := rfl
@[simp] theorem modTd_hold (s : State) (x : Sat) (g : ThmDie → ThmDie) : (s.modTd x g).hold = s.hold := rfl
@[simp] theorem modTd_rgc (s : State) (x : Sat) (g : ThmDie → ThmDie) : (s.modTd x g).rgc = s.rgc := rfl
@[simp] theorem modTd_loop (s : State) (x : Sat) (g : ThmDie → ThmDie) : (s.modTd x g).loop = s.loop := rfl
@[simp] theorem modTd_vsetTx (s : State) (x : Sat) (g : ThmDie → ThmDie) : (s.modTd x g).vsetTx = s.vsetTx := rfl
@[simp] theorem modTd_satSeq (s : State) (x : Sat) (g : ThmDie → ThmDie) : (s.modTd x g).satSeq = s.satSeq := rfl
@[simp] theorem modTd_vcl (s : State) (x : Sat) (g : ThmDie → ThmDie) : (s.modTd x g).vcl = s.vcl := rfl
@[simp] theorem modTd_once (s : State) (x : Sat) (g : ThmDie → ThmDie) : (s.modTd x g).once = s.once := rfl
@[simp] theorem modTd_thm (s : State) (x : Sat) (g : ThmDie → ThmDie) : (s.modTd x g).thm = s.thm := rfl
@[simp] theorem modTd_trip (s : State) (x : Sat) (g : ThmDie → ThmDie) : (s.modTd x g).trip = s.trip := rfl
@[simp] theorem modTd_sen (s : State) (x : Sat) (g : ThmDie → ThmDie) : (s.modTd x g).sen = s.sen := rfl
@[simp] theorem modTd_libStored (s : State) (x : Sat) (g : ThmDie → ThmDie) : (s.modTd x g).libStored = s.libStored := rfl
@[simp] theorem modTd_lk (s : State) (x : Sat) (g : ThmDie → ThmDie) : (s.modTd x g).lk = s.lk := rfl
@[simp] theorem modTd_cas (s : State) (x : Sat) (g : ThmDie → ThmDie) : (s.modTd x g).cas = s.cas := rfl
@[simp] theorem modTd_frozenNs (s : State) (x : Sat) (g : ThmDie → ThmDie) : (s.modTd x g).frozenNs = s.frozenNs := rfl
@[simp] theorem modTd_frozeAt (s : State) (x : Sat) (g : ThmDie → ThmDie) : (s.modTd x g).frozeAt = s.frozeAt := rfl
@[simp] theorem modTd_queue (s : State) (x : Sat) (g : ThmDie → ThmDie) : (s.modTd x g).queue = s.queue := rfl
@[simp] theorem modTd_lastStart (s : State) (x : Sat) (g : ThmDie → ThmDie) : (s.modTd x g).lastStart = s.lastStart := rfl
@[simp] theorem modTd_nextPoll (s : State) (x : Sat) (g : ThmDie → ThmDie) : (s.modTd x g).nextPoll = s.nextPoll := rfl
@[simp] theorem modTd_mgt (s : State) (x : Sat) (g : ThmDie → ThmDie) : (s.modTd x g).mgt = s.mgt := rfl
@[simp] theorem modTd_fuses (s : State) (x : Sat) (g : ThmDie → ThmDie) : (s.modTd x g).fuses = s.fuses := rfl
@[simp] theorem modTd_siteFuse (s : State) (x : Sat) (g : ThmDie → ThmDie) : (s.modTd x g).siteFuse = s.siteFuse := rfl
@[simp] theorem modTd_tripTrim (s : State) (x : Sat) (g : ThmDie → ThmDie) : (s.modTd x g).tripTrim = s.tripTrim := rfl
@[simp] theorem modTd_rings (s : State) (x : Sat) (g : ThmDie → ThmDie) : (s.modTd x g).rings = s.rings := rfl
@[simp] theorem modTd_trcFifo (s : State) (x : Sat) (g : ThmDie → ThmDie) : (s.modTd x g).trcFifo = s.trcFifo := rfl
@[simp] theorem modTd_trcDrop (s : State) (x : Sat) (g : ThmDie → ThmDie) : (s.modTd x g).trcDrop = s.trcDrop := rfl
@[simp] theorem modTd_rcd (s : State) (x : Sat) (g : ThmDie → ThmDie) : (s.modTd x g).rcd = s.rcd := rfl
@[simp] theorem modTd_upd (s : State) (x : Sat) (g : ThmDie → ThmDie) : (s.modTd x g).upd = s.upd := rfl
@[simp] theorem modTd_flash (s : State) (x : Sat) (g : ThmDie → ThmDie) : (s.modTd x g).flash = s.flash := rfl
@[simp] theorem modTd_mtr (s : State) (x : Sat) (g : ThmDie → ThmDie) : (s.modTd x g).mtr = s.mtr := rfl
@[simp] theorem modTd_chain (s : State) (x : Sat) (g : ThmDie → ThmDie) : (s.modTd x g).chain = s.chain := rfl
@[simp] theorem modTd_seam (s : State) (x : Sat) (g : ThmDie → ThmDie) : (s.modTd x g).seam = s.seam := rfl
@[simp] theorem modTd_thmDie (s : State) (x : Sat) (g : ThmDie → ThmDie) : (s.modTd x g).thmDie = s.thmDie.set x (g s.thmDie[x]) := rfl
@[simp] theorem modTd_rd (s : State) (x : Sat) (g : ThmDie → ThmDie) (z : Fld) : (s.modTd x g).rd z = s.rd z := rfl
@[simp] theorem modTd_on (s : State) (x : Sat) (g : ThmDie → ThmDie) (z : Fld) : (s.modTd x g).on z = s.on z := rfl
@[simp] theorem modTd_live (s : State) (x : Sat) (g : ThmDie → ThmDie) : (s.modTd x g).live = s.live := rfl
@[simp] theorem modTd_rgcOn (s : State) (x : Sat) (g : ThmDie → ThmDie) : (s.modTd x g).rgcOn = s.rgcOn := rfl
@[simp] theorem modTd_frozenTime (s : State) (x : Sat) (g : ThmDie → ThmDie) : (s.modTd x g).frozenTime = s.frozenTime := rfl
@[simp] theorem modTd_cyc (s : State) (x : Sat) (g : ThmDie → ThmDie) : (s.modTd x g).cyc = s.cyc := rfl
@[simp] theorem modTd_window (s : State) (x : Sat) (g : ThmDie → ThmDie) : (s.modTd x g).window = s.window := rfl
@[simp] theorem modTd_seamUp (s : State) (x : Sat) (g : ThmDie → ThmDie) (z : Sat) : (s.modTd x g).seamUp z = s.seamUp z := rfl
@[simp] theorem modTd_fenced (s : State) (x : Sat) (g : ThmDie → ThmDie) (z : Die) : (s.modTd x g).fenced z = s.fenced z := rfl
@[simp] theorem modTd_safeTier (s : State) (x : Sat) (g : ThmDie → ThmDie) (z : Die) : (s.modTd x g).safeTier z = s.safeTier z := rfl
@[simp] theorem modTd_mode (s : State) (x : Sat) (g : ThmDie → ThmDie) (z : Loop) : (s.modTd x g).mode z = s.mode z := rfl

/-! Updates that may leave the state as it is. -/

@[simp] theorem count_pending (s : State) (f : Fld) (n : Nat) : (s.count f n).pending = s.pending := by simp only [count]; split <;> rfl
@[simp] theorem count_now (s : State) (f : Fld) (n : Nat) : (s.count f n).now = s.now := by simp only [count]; split <;> rfl
@[simp] theorem count_strokeIdx (s : State) (f : Fld) (n : Nat) : (s.count f n).strokeIdx = s.strokeIdx := by simp only [count]; split <;> rfl
@[simp] theorem count_windowIdx (s : State) (f : Fld) (n : Nat) : (s.count f n).windowIdx = s.windowIdx := by simp only [count]; split <;> rfl
@[simp] theorem count_alignIdx (s : State) (f : Fld) (n : Nat) : (s.count f n).alignIdx = s.alignIdx := by simp only [count]; split <;> rfl
@[simp] theorem count_phase (s : State) (f : Fld) (n : Nat) : (s.count f n).phase = s.phase := by simp only [count]; split <;> rfl
@[simp] theorem count_frozen (s : State) (f : Fld) (n : Nat) : (s.count f n).frozen = s.frozen := by simp only [count]; split <;> rfl
@[simp] theorem count_resetReq (s : State) (f : Fld) (n : Nat) : (s.count f n).resetReq = s.resetReq := by simp only [count]; split <;> rfl
@[simp] theorem count_raised (s : State) (f : Fld) (n : Nat) : (s.count f n).raised = s.raised := by simp only [count]; split <;> rfl
@[simp] theorem count_out (s : State) (f : Fld) (n : Nat) : (s.count f n).out = s.out := by simp only [count]; split <;> rfl
@[simp] theorem count_freeCtr (s : State) (f : Fld) (n : Nat) : (s.count f n).freeCtr = s.freeCtr := by simp only [count]; split <;> rfl
@[simp] theorem count_adm (s : State) (f : Fld) (n : Nat) : (s.count f n).adm = s.adm := by simp only [count]; split <;> rfl
@[simp] theorem count_inbox (s : State) (f : Fld) (n : Nat) : (s.count f n).inbox = s.inbox := by simp only [count]; split <;> rfl
@[simp] theorem count_bus (s : State) (f : Fld) (n : Nat) : (s.count f n).bus = s.bus := by simp only [count]; split <;> rfl
@[simp] theorem count_gov (s : State) (f : Fld) (n : Nat) : (s.count f n).gov = s.gov := by simp only [count]; split <;> rfl
@[simp] theorem count_govDie (s : State) (f : Fld) (n : Nat) : (s.count f n).govDie = s.govDie := by simp only [count]; split <;> rfl
@[simp] theorem count_rail (s : State) (f : Fld) (n : Nat) : (s.count f n).rail = s.rail := by simp only [count]; split <;> rfl
@[simp] theorem count_rptIo (s : State) (f : Fld) (n : Nat) : (s.count f n).rptIo = s.rptIo := by simp only [count]; split <;> rfl
@[simp] theorem count_lastIo (s : State) (f : Fld) (n : Nat) : (s.count f n).lastIo = s.lastIo := by simp only [count]; split <;> rfl
@[simp] theorem count_clk (s : State) (f : Fld) (n : Nat) : (s.count f n).clk = s.clk := by simp only [count]; split <;> rfl
@[simp] theorem count_clkDie (s : State) (f : Fld) (n : Nat) : (s.count f n).clkDie = s.clkDie := by simp only [count]; split <;> rfl
@[simp] theorem count_hold (s : State) (f : Fld) (n : Nat) : (s.count f n).hold = s.hold := by simp only [count]; split <;> rfl
@[simp] theorem count_rgc (s : State) (f : Fld) (n : Nat) : (s.count f n).rgc = s.rgc := by simp only [count]; split <;> rfl
@[simp] theorem count_loop (s : State) (f : Fld) (n : Nat) : (s.count f n).loop = s.loop := by simp only [count]; split <;> rfl
@[simp] theorem count_vsetTx (s : State) (f : Fld) (n : Nat) : (s.count f n).vsetTx = s.vsetTx := by simp only [count]; split <;> rfl
@[simp] theorem count_satSeq (s : State) (f : Fld) (n : Nat) : (s.count f n).satSeq = s.satSeq := by simp only [count]; split <;> rfl
@[simp] theorem count_vcl (s : State) (f : Fld) (n : Nat) : (s.count f n).vcl = s.vcl := by simp only [count]; split <;> rfl
@[simp] theorem count_once (s : State) (f : Fld) (n : Nat) : (s.count f n).once = s.once := by simp only [count]; split <;> rfl
@[simp] theorem count_thm (s : State) (f : Fld) (n : Nat) : (s.count f n).thm = s.thm := by simp only [count]; split <;> rfl
@[simp] theorem count_thmDie (s : State) (f : Fld) (n : Nat) : (s.count f n).thmDie = s.thmDie := by simp only [count]; split <;> rfl
@[simp] theorem count_trip (s : State) (f : Fld) (n : Nat) : (s.count f n).trip = s.trip := by simp only [count]; split <;> rfl
@[simp] theorem count_sen (s : State) (f : Fld) (n : Nat) : (s.count f n).sen = s.sen := by simp only [count]; split <;> rfl
@[simp] theorem count_libStored (s : State) (f : Fld) (n : Nat) : (s.count f n).libStored = s.libStored := by simp only [count]; split <;> rfl
@[simp] theorem count_lk (s : State) (f : Fld) (n : Nat) : (s.count f n).lk = s.lk := by simp only [count]; split <;> rfl
@[simp] theorem count_cas (s : State) (f : Fld) (n : Nat) : (s.count f n).cas = s.cas := by simp only [count]; split <;> rfl
@[simp] theorem count_frozenNs (s : State) (f : Fld) (n : Nat) : (s.count f n).frozenNs = s.frozenNs := by simp only [count]; split <;> rfl
@[simp] theorem count_frozeAt (s : State) (f : Fld) (n : Nat) : (s.count f n).frozeAt = s.frozeAt := by simp only [count]; split <;> rfl
@[simp] theorem count_queue (s : State) (f : Fld) (n : Nat) : (s.count f n).queue = s.queue := by simp only [count]; split <;> rfl
@[simp] theorem count_lastStart (s : State) (f : Fld) (n : Nat) : (s.count f n).lastStart = s.lastStart := by simp only [count]; split <;> rfl
@[simp] theorem count_nextPoll (s : State) (f : Fld) (n : Nat) : (s.count f n).nextPoll = s.nextPoll := by simp only [count]; split <;> rfl
@[simp] theorem count_mgt (s : State) (f : Fld) (n : Nat) : (s.count f n).mgt = s.mgt := by simp only [count]; split <;> rfl
@[simp] theorem count_fuses (s : State) (f : Fld) (n : Nat) : (s.count f n).fuses = s.fuses := by simp only [count]; split <;> rfl
@[simp] theorem count_siteFuse (s : State) (f : Fld) (n : Nat) : (s.count f n).siteFuse = s.siteFuse := by simp only [count]; split <;> rfl
@[simp] theorem count_tripTrim (s : State) (f : Fld) (n : Nat) : (s.count f n).tripTrim = s.tripTrim := by simp only [count]; split <;> rfl
@[simp] theorem count_rings (s : State) (f : Fld) (n : Nat) : (s.count f n).rings = s.rings := by simp only [count]; split <;> rfl
@[simp] theorem count_trcFifo (s : State) (f : Fld) (n : Nat) : (s.count f n).trcFifo = s.trcFifo := by simp only [count]; split <;> rfl
@[simp] theorem count_trcDrop (s : State) (f : Fld) (n : Nat) : (s.count f n).trcDrop = s.trcDrop := by simp only [count]; split <;> rfl
@[simp] theorem count_rcd (s : State) (f : Fld) (n : Nat) : (s.count f n).rcd = s.rcd := by simp only [count]; split <;> rfl
@[simp] theorem count_upd (s : State) (f : Fld) (n : Nat) : (s.count f n).upd = s.upd := by simp only [count]; split <;> rfl
@[simp] theorem count_flash (s : State) (f : Fld) (n : Nat) : (s.count f n).flash = s.flash := by simp only [count]; split <;> rfl
@[simp] theorem count_mtr (s : State) (f : Fld) (n : Nat) : (s.count f n).mtr = s.mtr := by simp only [count]; split <;> rfl
@[simp] theorem count_chain (s : State) (f : Fld) (n : Nat) : (s.count f n).chain = s.chain := by simp only [count]; split <;> rfl
@[simp] theorem count_seam (s : State) (f : Fld) (n : Nat) : (s.count f n).seam = s.seam := by simp only [count]; split <;> rfl

@[simp] theorem countSat_pending (s : State) (f : Fld) (n : Nat) : (s.countSat f n).pending = s.pending := by simp only [countSat]; split <;> rfl
@[simp] theorem countSat_now (s : State) (f : Fld) (n : Nat) : (s.countSat f n).now = s.now := by simp only [countSat]; split <;> rfl
@[simp] theorem countSat_strokeIdx (s : State) (f : Fld) (n : Nat) : (s.countSat f n).strokeIdx = s.strokeIdx := by simp only [countSat]; split <;> rfl
@[simp] theorem countSat_windowIdx (s : State) (f : Fld) (n : Nat) : (s.countSat f n).windowIdx = s.windowIdx := by simp only [countSat]; split <;> rfl
@[simp] theorem countSat_alignIdx (s : State) (f : Fld) (n : Nat) : (s.countSat f n).alignIdx = s.alignIdx := by simp only [countSat]; split <;> rfl
@[simp] theorem countSat_phase (s : State) (f : Fld) (n : Nat) : (s.countSat f n).phase = s.phase := by simp only [countSat]; split <;> rfl
@[simp] theorem countSat_frozen (s : State) (f : Fld) (n : Nat) : (s.countSat f n).frozen = s.frozen := by simp only [countSat]; split <;> rfl
@[simp] theorem countSat_resetReq (s : State) (f : Fld) (n : Nat) : (s.countSat f n).resetReq = s.resetReq := by simp only [countSat]; split <;> rfl
@[simp] theorem countSat_raised (s : State) (f : Fld) (n : Nat) : (s.countSat f n).raised = s.raised := by simp only [countSat]; split <;> rfl
@[simp] theorem countSat_out (s : State) (f : Fld) (n : Nat) : (s.countSat f n).out = s.out := by simp only [countSat]; split <;> rfl
@[simp] theorem countSat_freeCtr (s : State) (f : Fld) (n : Nat) : (s.countSat f n).freeCtr = s.freeCtr := by simp only [countSat]; split <;> rfl
@[simp] theorem countSat_adm (s : State) (f : Fld) (n : Nat) : (s.countSat f n).adm = s.adm := by simp only [countSat]; split <;> rfl
@[simp] theorem countSat_inbox (s : State) (f : Fld) (n : Nat) : (s.countSat f n).inbox = s.inbox := by simp only [countSat]; split <;> rfl
@[simp] theorem countSat_bus (s : State) (f : Fld) (n : Nat) : (s.countSat f n).bus = s.bus := by simp only [countSat]; split <;> rfl
@[simp] theorem countSat_gov (s : State) (f : Fld) (n : Nat) : (s.countSat f n).gov = s.gov := by simp only [countSat]; split <;> rfl
@[simp] theorem countSat_govDie (s : State) (f : Fld) (n : Nat) : (s.countSat f n).govDie = s.govDie := by simp only [countSat]; split <;> rfl
@[simp] theorem countSat_rail (s : State) (f : Fld) (n : Nat) : (s.countSat f n).rail = s.rail := by simp only [countSat]; split <;> rfl
@[simp] theorem countSat_rptIo (s : State) (f : Fld) (n : Nat) : (s.countSat f n).rptIo = s.rptIo := by simp only [countSat]; split <;> rfl
@[simp] theorem countSat_lastIo (s : State) (f : Fld) (n : Nat) : (s.countSat f n).lastIo = s.lastIo := by simp only [countSat]; split <;> rfl
@[simp] theorem countSat_clk (s : State) (f : Fld) (n : Nat) : (s.countSat f n).clk = s.clk := by simp only [countSat]; split <;> rfl
@[simp] theorem countSat_clkDie (s : State) (f : Fld) (n : Nat) : (s.countSat f n).clkDie = s.clkDie := by simp only [countSat]; split <;> rfl
@[simp] theorem countSat_hold (s : State) (f : Fld) (n : Nat) : (s.countSat f n).hold = s.hold := by simp only [countSat]; split <;> rfl
@[simp] theorem countSat_rgc (s : State) (f : Fld) (n : Nat) : (s.countSat f n).rgc = s.rgc := by simp only [countSat]; split <;> rfl
@[simp] theorem countSat_loop (s : State) (f : Fld) (n : Nat) : (s.countSat f n).loop = s.loop := by simp only [countSat]; split <;> rfl
@[simp] theorem countSat_vsetTx (s : State) (f : Fld) (n : Nat) : (s.countSat f n).vsetTx = s.vsetTx := by simp only [countSat]; split <;> rfl
@[simp] theorem countSat_satSeq (s : State) (f : Fld) (n : Nat) : (s.countSat f n).satSeq = s.satSeq := by simp only [countSat]; split <;> rfl
@[simp] theorem countSat_vcl (s : State) (f : Fld) (n : Nat) : (s.countSat f n).vcl = s.vcl := by simp only [countSat]; split <;> rfl
@[simp] theorem countSat_once (s : State) (f : Fld) (n : Nat) : (s.countSat f n).once = s.once := by simp only [countSat]; split <;> rfl
@[simp] theorem countSat_thm (s : State) (f : Fld) (n : Nat) : (s.countSat f n).thm = s.thm := by simp only [countSat]; split <;> rfl
@[simp] theorem countSat_thmDie (s : State) (f : Fld) (n : Nat) : (s.countSat f n).thmDie = s.thmDie := by simp only [countSat]; split <;> rfl
@[simp] theorem countSat_trip (s : State) (f : Fld) (n : Nat) : (s.countSat f n).trip = s.trip := by simp only [countSat]; split <;> rfl
@[simp] theorem countSat_sen (s : State) (f : Fld) (n : Nat) : (s.countSat f n).sen = s.sen := by simp only [countSat]; split <;> rfl
@[simp] theorem countSat_libStored (s : State) (f : Fld) (n : Nat) : (s.countSat f n).libStored = s.libStored := by simp only [countSat]; split <;> rfl
@[simp] theorem countSat_lk (s : State) (f : Fld) (n : Nat) : (s.countSat f n).lk = s.lk := by simp only [countSat]; split <;> rfl
@[simp] theorem countSat_cas (s : State) (f : Fld) (n : Nat) : (s.countSat f n).cas = s.cas := by simp only [countSat]; split <;> rfl
@[simp] theorem countSat_frozenNs (s : State) (f : Fld) (n : Nat) : (s.countSat f n).frozenNs = s.frozenNs := by simp only [countSat]; split <;> rfl
@[simp] theorem countSat_frozeAt (s : State) (f : Fld) (n : Nat) : (s.countSat f n).frozeAt = s.frozeAt := by simp only [countSat]; split <;> rfl
@[simp] theorem countSat_queue (s : State) (f : Fld) (n : Nat) : (s.countSat f n).queue = s.queue := by simp only [countSat]; split <;> rfl
@[simp] theorem countSat_lastStart (s : State) (f : Fld) (n : Nat) : (s.countSat f n).lastStart = s.lastStart := by simp only [countSat]; split <;> rfl
@[simp] theorem countSat_nextPoll (s : State) (f : Fld) (n : Nat) : (s.countSat f n).nextPoll = s.nextPoll := by simp only [countSat]; split <;> rfl
@[simp] theorem countSat_mgt (s : State) (f : Fld) (n : Nat) : (s.countSat f n).mgt = s.mgt := by simp only [countSat]; split <;> rfl
@[simp] theorem countSat_fuses (s : State) (f : Fld) (n : Nat) : (s.countSat f n).fuses = s.fuses := by simp only [countSat]; split <;> rfl
@[simp] theorem countSat_siteFuse (s : State) (f : Fld) (n : Nat) : (s.countSat f n).siteFuse = s.siteFuse := by simp only [countSat]; split <;> rfl
@[simp] theorem countSat_tripTrim (s : State) (f : Fld) (n : Nat) : (s.countSat f n).tripTrim = s.tripTrim := by simp only [countSat]; split <;> rfl
@[simp] theorem countSat_rings (s : State) (f : Fld) (n : Nat) : (s.countSat f n).rings = s.rings := by simp only [countSat]; split <;> rfl
@[simp] theorem countSat_trcFifo (s : State) (f : Fld) (n : Nat) : (s.countSat f n).trcFifo = s.trcFifo := by simp only [countSat]; split <;> rfl
@[simp] theorem countSat_trcDrop (s : State) (f : Fld) (n : Nat) : (s.countSat f n).trcDrop = s.trcDrop := by simp only [countSat]; split <;> rfl
@[simp] theorem countSat_rcd (s : State) (f : Fld) (n : Nat) : (s.countSat f n).rcd = s.rcd := by simp only [countSat]; split <;> rfl
@[simp] theorem countSat_upd (s : State) (f : Fld) (n : Nat) : (s.countSat f n).upd = s.upd := by simp only [countSat]; split <;> rfl
@[simp] theorem countSat_flash (s : State) (f : Fld) (n : Nat) : (s.countSat f n).flash = s.flash := by simp only [countSat]; split <;> rfl
@[simp] theorem countSat_mtr (s : State) (f : Fld) (n : Nat) : (s.countSat f n).mtr = s.mtr := by simp only [countSat]; split <;> rfl
@[simp] theorem countSat_chain (s : State) (f : Fld) (n : Nat) : (s.countSat f n).chain = s.chain := by simp only [countSat]; split <;> rfl
@[simp] theorem countSat_seam (s : State) (f : Fld) (n : Nat) : (s.countSat f n).seam = s.seam := by simp only [countSat]; split <;> rfl

@[simp] theorem raiseIf_pending (s : State) (b : Bool) (c u d : Nat) : (s.raiseIf b c u d).pending = s.pending := by simp only [raiseIf]; split <;> rfl
@[simp] theorem raiseIf_now (s : State) (b : Bool) (c u d : Nat) : (s.raiseIf b c u d).now = s.now := by simp only [raiseIf]; split <;> rfl
@[simp] theorem raiseIf_strokeIdx (s : State) (b : Bool) (c u d : Nat) : (s.raiseIf b c u d).strokeIdx = s.strokeIdx := by simp only [raiseIf]; split <;> rfl
@[simp] theorem raiseIf_windowIdx (s : State) (b : Bool) (c u d : Nat) : (s.raiseIf b c u d).windowIdx = s.windowIdx := by simp only [raiseIf]; split <;> rfl
@[simp] theorem raiseIf_alignIdx (s : State) (b : Bool) (c u d : Nat) : (s.raiseIf b c u d).alignIdx = s.alignIdx := by simp only [raiseIf]; split <;> rfl
@[simp] theorem raiseIf_phase (s : State) (b : Bool) (c u d : Nat) : (s.raiseIf b c u d).phase = s.phase := by simp only [raiseIf]; split <;> rfl
@[simp] theorem raiseIf_frozen (s : State) (b : Bool) (c u d : Nat) : (s.raiseIf b c u d).frozen = s.frozen := by simp only [raiseIf]; split <;> rfl
@[simp] theorem raiseIf_regs (s : State) (b : Bool) (c u d : Nat) : (s.raiseIf b c u d).regs = s.regs := by simp only [raiseIf]; split <;> rfl
@[simp] theorem raiseIf_resetReq (s : State) (b : Bool) (c u d : Nat) : (s.raiseIf b c u d).resetReq = s.resetReq := by simp only [raiseIf]; split <;> rfl
@[simp] theorem raiseIf_out (s : State) (b : Bool) (c u d : Nat) : (s.raiseIf b c u d).out = s.out := by simp only [raiseIf]; split <;> rfl
@[simp] theorem raiseIf_freeCtr (s : State) (b : Bool) (c u d : Nat) : (s.raiseIf b c u d).freeCtr = s.freeCtr := by simp only [raiseIf]; split <;> rfl
@[simp] theorem raiseIf_adm (s : State) (b : Bool) (c u d : Nat) : (s.raiseIf b c u d).adm = s.adm := by simp only [raiseIf]; split <;> rfl
@[simp] theorem raiseIf_inbox (s : State) (b : Bool) (c u d : Nat) : (s.raiseIf b c u d).inbox = s.inbox := by simp only [raiseIf]; split <;> rfl
@[simp] theorem raiseIf_bus (s : State) (b : Bool) (c u d : Nat) : (s.raiseIf b c u d).bus = s.bus := by simp only [raiseIf]; split <;> rfl
@[simp] theorem raiseIf_gov (s : State) (b : Bool) (c u d : Nat) : (s.raiseIf b c u d).gov = s.gov := by simp only [raiseIf]; split <;> rfl
@[simp] theorem raiseIf_govDie (s : State) (b : Bool) (c u d : Nat) : (s.raiseIf b c u d).govDie = s.govDie := by simp only [raiseIf]; split <;> rfl
@[simp] theorem raiseIf_rail (s : State) (b : Bool) (c u d : Nat) : (s.raiseIf b c u d).rail = s.rail := by simp only [raiseIf]; split <;> rfl
@[simp] theorem raiseIf_rptIo (s : State) (b : Bool) (c u d : Nat) : (s.raiseIf b c u d).rptIo = s.rptIo := by simp only [raiseIf]; split <;> rfl
@[simp] theorem raiseIf_lastIo (s : State) (b : Bool) (c u d : Nat) : (s.raiseIf b c u d).lastIo = s.lastIo := by simp only [raiseIf]; split <;> rfl
@[simp] theorem raiseIf_clk (s : State) (b : Bool) (c u d : Nat) : (s.raiseIf b c u d).clk = s.clk := by simp only [raiseIf]; split <;> rfl
@[simp] theorem raiseIf_clkDie (s : State) (b : Bool) (c u d : Nat) : (s.raiseIf b c u d).clkDie = s.clkDie := by simp only [raiseIf]; split <;> rfl
@[simp] theorem raiseIf_hold (s : State) (b : Bool) (c u d : Nat) : (s.raiseIf b c u d).hold = s.hold := by simp only [raiseIf]; split <;> rfl
@[simp] theorem raiseIf_rgc (s : State) (b : Bool) (c u d : Nat) : (s.raiseIf b c u d).rgc = s.rgc := by simp only [raiseIf]; split <;> rfl
@[simp] theorem raiseIf_loop (s : State) (b : Bool) (c u d : Nat) : (s.raiseIf b c u d).loop = s.loop := by simp only [raiseIf]; split <;> rfl
@[simp] theorem raiseIf_vsetTx (s : State) (b : Bool) (c u d : Nat) : (s.raiseIf b c u d).vsetTx = s.vsetTx := by simp only [raiseIf]; split <;> rfl
@[simp] theorem raiseIf_satSeq (s : State) (b : Bool) (c u d : Nat) : (s.raiseIf b c u d).satSeq = s.satSeq := by simp only [raiseIf]; split <;> rfl
@[simp] theorem raiseIf_vcl (s : State) (b : Bool) (c u d : Nat) : (s.raiseIf b c u d).vcl = s.vcl := by simp only [raiseIf]; split <;> rfl
@[simp] theorem raiseIf_once (s : State) (b : Bool) (c u d : Nat) : (s.raiseIf b c u d).once = s.once := by simp only [raiseIf]; split <;> rfl
@[simp] theorem raiseIf_thm (s : State) (b : Bool) (c u d : Nat) : (s.raiseIf b c u d).thm = s.thm := by simp only [raiseIf]; split <;> rfl
@[simp] theorem raiseIf_thmDie (s : State) (b : Bool) (c u d : Nat) : (s.raiseIf b c u d).thmDie = s.thmDie := by simp only [raiseIf]; split <;> rfl
@[simp] theorem raiseIf_trip (s : State) (b : Bool) (c u d : Nat) : (s.raiseIf b c u d).trip = s.trip := by simp only [raiseIf]; split <;> rfl
@[simp] theorem raiseIf_sen (s : State) (b : Bool) (c u d : Nat) : (s.raiseIf b c u d).sen = s.sen := by simp only [raiseIf]; split <;> rfl
@[simp] theorem raiseIf_libStored (s : State) (b : Bool) (c u d : Nat) : (s.raiseIf b c u d).libStored = s.libStored := by simp only [raiseIf]; split <;> rfl
@[simp] theorem raiseIf_lk (s : State) (b : Bool) (c u d : Nat) : (s.raiseIf b c u d).lk = s.lk := by simp only [raiseIf]; split <;> rfl
@[simp] theorem raiseIf_cas (s : State) (b : Bool) (c u d : Nat) : (s.raiseIf b c u d).cas = s.cas := by simp only [raiseIf]; split <;> rfl
@[simp] theorem raiseIf_frozenNs (s : State) (b : Bool) (c u d : Nat) : (s.raiseIf b c u d).frozenNs = s.frozenNs := by simp only [raiseIf]; split <;> rfl
@[simp] theorem raiseIf_frozeAt (s : State) (b : Bool) (c u d : Nat) : (s.raiseIf b c u d).frozeAt = s.frozeAt := by simp only [raiseIf]; split <;> rfl
@[simp] theorem raiseIf_queue (s : State) (b : Bool) (c u d : Nat) : (s.raiseIf b c u d).queue = s.queue := by simp only [raiseIf]; split <;> rfl
@[simp] theorem raiseIf_lastStart (s : State) (b : Bool) (c u d : Nat) : (s.raiseIf b c u d).lastStart = s.lastStart := by simp only [raiseIf]; split <;> rfl
@[simp] theorem raiseIf_nextPoll (s : State) (b : Bool) (c u d : Nat) : (s.raiseIf b c u d).nextPoll = s.nextPoll := by simp only [raiseIf]; split <;> rfl
@[simp] theorem raiseIf_mgt (s : State) (b : Bool) (c u d : Nat) : (s.raiseIf b c u d).mgt = s.mgt := by simp only [raiseIf]; split <;> rfl
@[simp] theorem raiseIf_fuses (s : State) (b : Bool) (c u d : Nat) : (s.raiseIf b c u d).fuses = s.fuses := by simp only [raiseIf]; split <;> rfl
@[simp] theorem raiseIf_siteFuse (s : State) (b : Bool) (c u d : Nat) : (s.raiseIf b c u d).siteFuse = s.siteFuse := by simp only [raiseIf]; split <;> rfl
@[simp] theorem raiseIf_tripTrim (s : State) (b : Bool) (c u d : Nat) : (s.raiseIf b c u d).tripTrim = s.tripTrim := by simp only [raiseIf]; split <;> rfl
@[simp] theorem raiseIf_rings (s : State) (b : Bool) (c u d : Nat) : (s.raiseIf b c u d).rings = s.rings := by simp only [raiseIf]; split <;> rfl
@[simp] theorem raiseIf_trcFifo (s : State) (b : Bool) (c u d : Nat) : (s.raiseIf b c u d).trcFifo = s.trcFifo := by simp only [raiseIf]; split <;> rfl
@[simp] theorem raiseIf_trcDrop (s : State) (b : Bool) (c u d : Nat) : (s.raiseIf b c u d).trcDrop = s.trcDrop := by simp only [raiseIf]; split <;> rfl
@[simp] theorem raiseIf_rcd (s : State) (b : Bool) (c u d : Nat) : (s.raiseIf b c u d).rcd = s.rcd := by simp only [raiseIf]; split <;> rfl
@[simp] theorem raiseIf_upd (s : State) (b : Bool) (c u d : Nat) : (s.raiseIf b c u d).upd = s.upd := by simp only [raiseIf]; split <;> rfl
@[simp] theorem raiseIf_flash (s : State) (b : Bool) (c u d : Nat) : (s.raiseIf b c u d).flash = s.flash := by simp only [raiseIf]; split <;> rfl
@[simp] theorem raiseIf_mtr (s : State) (b : Bool) (c u d : Nat) : (s.raiseIf b c u d).mtr = s.mtr := by simp only [raiseIf]; split <;> rfl
@[simp] theorem raiseIf_chain (s : State) (b : Bool) (c u d : Nat) : (s.raiseIf b c u d).chain = s.chain := by simp only [raiseIf]; split <;> rfl
@[simp] theorem raiseIf_seam (s : State) (b : Bool) (c u d : Nat) : (s.raiseIf b c u d).seam = s.seam := by simp only [raiseIf]; split <;> rfl

@[simp] theorem tel_pending (s : State) (f : Fld) (v : Nat) : (s.tel f v).pending = s.pending := by simp only [tel]; split <;> rfl
@[simp] theorem tel_now (s : State) (f : Fld) (v : Nat) : (s.tel f v).now = s.now := by simp only [tel]; split <;> rfl
@[simp] theorem tel_strokeIdx (s : State) (f : Fld) (v : Nat) : (s.tel f v).strokeIdx = s.strokeIdx := by simp only [tel]; split <;> rfl
@[simp] theorem tel_windowIdx (s : State) (f : Fld) (v : Nat) : (s.tel f v).windowIdx = s.windowIdx := by simp only [tel]; split <;> rfl
@[simp] theorem tel_alignIdx (s : State) (f : Fld) (v : Nat) : (s.tel f v).alignIdx = s.alignIdx := by simp only [tel]; split <;> rfl
@[simp] theorem tel_phase (s : State) (f : Fld) (v : Nat) : (s.tel f v).phase = s.phase := by simp only [tel]; split <;> rfl
@[simp] theorem tel_frozen (s : State) (f : Fld) (v : Nat) : (s.tel f v).frozen = s.frozen := by simp only [tel]; split <;> rfl
@[simp] theorem tel_resetReq (s : State) (f : Fld) (v : Nat) : (s.tel f v).resetReq = s.resetReq := by simp only [tel]; split <;> rfl
@[simp] theorem tel_raised (s : State) (f : Fld) (v : Nat) : (s.tel f v).raised = s.raised := by simp only [tel]; split <;> rfl
@[simp] theorem tel_out (s : State) (f : Fld) (v : Nat) : (s.tel f v).out = s.out := by simp only [tel]; split <;> rfl
@[simp] theorem tel_freeCtr (s : State) (f : Fld) (v : Nat) : (s.tel f v).freeCtr = s.freeCtr := by simp only [tel]; split <;> rfl
@[simp] theorem tel_adm (s : State) (f : Fld) (v : Nat) : (s.tel f v).adm = s.adm := by simp only [tel]; split <;> rfl
@[simp] theorem tel_inbox (s : State) (f : Fld) (v : Nat) : (s.tel f v).inbox = s.inbox := by simp only [tel]; split <;> rfl
@[simp] theorem tel_bus (s : State) (f : Fld) (v : Nat) : (s.tel f v).bus = s.bus := by simp only [tel]; split <;> rfl
@[simp] theorem tel_gov (s : State) (f : Fld) (v : Nat) : (s.tel f v).gov = s.gov := by simp only [tel]; split <;> rfl
@[simp] theorem tel_govDie (s : State) (f : Fld) (v : Nat) : (s.tel f v).govDie = s.govDie := by simp only [tel]; split <;> rfl
@[simp] theorem tel_rail (s : State) (f : Fld) (v : Nat) : (s.tel f v).rail = s.rail := by simp only [tel]; split <;> rfl
@[simp] theorem tel_rptIo (s : State) (f : Fld) (v : Nat) : (s.tel f v).rptIo = s.rptIo := by simp only [tel]; split <;> rfl
@[simp] theorem tel_lastIo (s : State) (f : Fld) (v : Nat) : (s.tel f v).lastIo = s.lastIo := by simp only [tel]; split <;> rfl
@[simp] theorem tel_clk (s : State) (f : Fld) (v : Nat) : (s.tel f v).clk = s.clk := by simp only [tel]; split <;> rfl
@[simp] theorem tel_clkDie (s : State) (f : Fld) (v : Nat) : (s.tel f v).clkDie = s.clkDie := by simp only [tel]; split <;> rfl
@[simp] theorem tel_hold (s : State) (f : Fld) (v : Nat) : (s.tel f v).hold = s.hold := by simp only [tel]; split <;> rfl
@[simp] theorem tel_rgc (s : State) (f : Fld) (v : Nat) : (s.tel f v).rgc = s.rgc := by simp only [tel]; split <;> rfl
@[simp] theorem tel_loop (s : State) (f : Fld) (v : Nat) : (s.tel f v).loop = s.loop := by simp only [tel]; split <;> rfl
@[simp] theorem tel_vsetTx (s : State) (f : Fld) (v : Nat) : (s.tel f v).vsetTx = s.vsetTx := by simp only [tel]; split <;> rfl
@[simp] theorem tel_satSeq (s : State) (f : Fld) (v : Nat) : (s.tel f v).satSeq = s.satSeq := by simp only [tel]; split <;> rfl
@[simp] theorem tel_vcl (s : State) (f : Fld) (v : Nat) : (s.tel f v).vcl = s.vcl := by simp only [tel]; split <;> rfl
@[simp] theorem tel_once (s : State) (f : Fld) (v : Nat) : (s.tel f v).once = s.once := by simp only [tel]; split <;> rfl
@[simp] theorem tel_thm (s : State) (f : Fld) (v : Nat) : (s.tel f v).thm = s.thm := by simp only [tel]; split <;> rfl
@[simp] theorem tel_thmDie (s : State) (f : Fld) (v : Nat) : (s.tel f v).thmDie = s.thmDie := by simp only [tel]; split <;> rfl
@[simp] theorem tel_trip (s : State) (f : Fld) (v : Nat) : (s.tel f v).trip = s.trip := by simp only [tel]; split <;> rfl
@[simp] theorem tel_sen (s : State) (f : Fld) (v : Nat) : (s.tel f v).sen = s.sen := by simp only [tel]; split <;> rfl
@[simp] theorem tel_libStored (s : State) (f : Fld) (v : Nat) : (s.tel f v).libStored = s.libStored := by simp only [tel]; split <;> rfl
@[simp] theorem tel_lk (s : State) (f : Fld) (v : Nat) : (s.tel f v).lk = s.lk := by simp only [tel]; split <;> rfl
@[simp] theorem tel_cas (s : State) (f : Fld) (v : Nat) : (s.tel f v).cas = s.cas := by simp only [tel]; split <;> rfl
@[simp] theorem tel_frozenNs (s : State) (f : Fld) (v : Nat) : (s.tel f v).frozenNs = s.frozenNs := by simp only [tel]; split <;> rfl
@[simp] theorem tel_frozeAt (s : State) (f : Fld) (v : Nat) : (s.tel f v).frozeAt = s.frozeAt := by simp only [tel]; split <;> rfl
@[simp] theorem tel_queue (s : State) (f : Fld) (v : Nat) : (s.tel f v).queue = s.queue := by simp only [tel]; split <;> rfl
@[simp] theorem tel_lastStart (s : State) (f : Fld) (v : Nat) : (s.tel f v).lastStart = s.lastStart := by simp only [tel]; split <;> rfl
@[simp] theorem tel_nextPoll (s : State) (f : Fld) (v : Nat) : (s.tel f v).nextPoll = s.nextPoll := by simp only [tel]; split <;> rfl
@[simp] theorem tel_mgt (s : State) (f : Fld) (v : Nat) : (s.tel f v).mgt = s.mgt := by simp only [tel]; split <;> rfl
@[simp] theorem tel_fuses (s : State) (f : Fld) (v : Nat) : (s.tel f v).fuses = s.fuses := by simp only [tel]; split <;> rfl
@[simp] theorem tel_siteFuse (s : State) (f : Fld) (v : Nat) : (s.tel f v).siteFuse = s.siteFuse := by simp only [tel]; split <;> rfl
@[simp] theorem tel_tripTrim (s : State) (f : Fld) (v : Nat) : (s.tel f v).tripTrim = s.tripTrim := by simp only [tel]; split <;> rfl
@[simp] theorem tel_rings (s : State) (f : Fld) (v : Nat) : (s.tel f v).rings = s.rings := by simp only [tel]; split <;> rfl
@[simp] theorem tel_trcFifo (s : State) (f : Fld) (v : Nat) : (s.tel f v).trcFifo = s.trcFifo := by simp only [tel]; split <;> rfl
@[simp] theorem tel_trcDrop (s : State) (f : Fld) (v : Nat) : (s.tel f v).trcDrop = s.trcDrop := by simp only [tel]; split <;> rfl
@[simp] theorem tel_rcd (s : State) (f : Fld) (v : Nat) : (s.tel f v).rcd = s.rcd := by simp only [tel]; split <;> rfl
@[simp] theorem tel_upd (s : State) (f : Fld) (v : Nat) : (s.tel f v).upd = s.upd := by simp only [tel]; split <;> rfl
@[simp] theorem tel_flash (s : State) (f : Fld) (v : Nat) : (s.tel f v).flash = s.flash := by simp only [tel]; split <;> rfl
@[simp] theorem tel_mtr (s : State) (f : Fld) (v : Nat) : (s.tel f v).mtr = s.mtr := by simp only [tel]; split <;> rfl
@[simp] theorem tel_chain (s : State) (f : Fld) (v : Nat) : (s.tel f v).chain = s.chain := by simp only [tel]; split <;> rfl
@[simp] theorem tel_seam (s : State) (f : Fld) (v : Nat) : (s.tel f v).seam = s.seam := by simp only [tel]; split <;> rfl

@[simp] theorem raiseIf_rd (s : State) (b : Bool) (c u d : Nat) (k : Fld) : (s.raiseIf b c u d).rd k = s.rd k := by
  simp only [raiseIf]; split <;> rfl

/-! Reading a field. -/

/-- A field reads as what was last written to it, cut to its width. -/
@[simp] theorem rd_wr_same (s : State) (f : Fld) (v : Nat) : (s.wr f v).rd f = v % 2 ^ f.w := Regs.get_set_same _ _ _
/-- A field never reads more than its width holds. -/
theorem rd_lt (s : State) (f : Fld) : s.rd f < 2 ^ f.w := s.regs.get_lt f
@[simp] theorem rd_mod (s : State) (f : Fld) : s.rd f % 2 ^ f.w = s.rd f := s.regs.get_mod f
/-- A write of a field leaves every other field alone. -/
theorem rd_wr_ne (s : State) {f g : Fld} (h : f.key ≠ g.key) (v : Nat) : (s.wr f v).rd g = s.rd g := Regs.get_set_ne _ h _
theorem rd_wr_other (s : State) {f g : Fld} (h : ¬ g.key = f.key) (v : Nat) : (s.wr f v).rd g = s.rd g :=
  rd_wr_ne s (fun e => h e.symm) v
@[simp] theorem rd_flag_same (s : State) (f : Fld) (b : Bool) : (s.flag f b).rd f = b2n b % 2 ^ f.w := rd_wr_same _ _ _
theorem rd_flag_ne (s : State) {f g : Fld} (h : f.key ≠ g.key) (b : Bool) : (s.flag f b).rd g = s.rd g := rd_wr_ne _ h _
/-- A counter of a root island gains, unless the package is frozen. -/
theorem rd_count_same (s : State) (f : Fld) (n : Nat) (h : s.frozen = false) :
    (s.count f n).rd f = (s.rd f + n) % 2 ^ f.w := by simp [count, h]
theorem rd_count_ne (s : State) {f g : Fld} (h : f.key ≠ g.key) (n : Nat) : (s.count f n).rd g = s.rd g := by
  simp only [count]; split
  · rfl
  · exact rd_wr_ne _ h _
/-- A counter holds while the package is frozen (R45). -/
theorem count_holds (s : State) (f : Fld) (n : Nat) (h : s.frozen = true) : s.count f n = s := by simp [count, h]

theorem rd_flag_other (s : State) {f g : Fld} (h : ¬ g.key = f.key) (b : Bool) : (s.flag f b).rd g = s.rd g := rd_wr_other s h _
theorem rd_count_other (s : State) {f g : Fld} (h : ¬ g.key = f.key) (n : Nat) : (s.count f n).rd g = s.rd g :=
  rd_count_ne s (fun e => h e.symm) n

/-! Guards and lists. -/

@[simp] theorem when_true (s : State) (g : State → State) : s.when true g = g s := rfl
@[simp] theorem when_false (s : State) (g : State → State) : s.when false g = s := rfl
@[simp] theorem each_nil {α : Type} (s : State) (g : α → State → State) : s.each [] g = s := rfl
@[simp] theorem each_cons {α : Type} (s : State) (a : α) (l : List α) (g : α → State → State) :
    s.each (a :: l) g = (g a s).each l g := rfl
/-- What each operation of a list keeps, the list keeps. -/
theorem each_induct {α : Type} (P : State → Prop) (l : List α) (g : α → State → State)
    (h : ∀ a u, P u → P (g a u)) : ∀ s, P s → P (s.each l g) := by
  induction l with
  | nil => intro s hs; exact hs
  | cons a l ih => intro s hs; exact ih _ (h a s hs)

end Sys2Proof.Machine.State
end

