-- ==== Sys2Proof/Laws/Ops.lean ====
section
/-!
SUPPORT. Laws/Ops.lean: for each operation of Machine/Ops.lean over fields, counters, events and the grid, what it does,
said once: proofs cite these and unfold no operation.
-/
namespace Sys2Proof.Machine.State

/-! Fields. -/

theorem on_flag_same (s : State) {f : Fld} (hw : 0 < f.w) (b : Bool) : (s.flag f b).on f = b := by
  have h : (1 : Nat) < 2 ^ f.w := Nat.one_lt_two_pow (by omega)
  cases b <;> simp [on, flag, b2n, Nat.mod_eq_of_lt h]

theorem rd_setMask_ne (s : State) {f g : Fld} (h : f.key ≠ g.key) (m : Nat) : (s.setMask f m).rd g = s.rd g :=
  rd_wr_ne s h _

/-- Setting bits that fit the field adds just these to it. -/
theorem rd_setMask_same (s : State) {f : Fld} {m : Nat} (hm : m < 2 ^ f.w) :
    (s.setMask f m).rd f = s.rd f ||| m := by
  simp [setMask, Nat.mod_eq_of_lt (Nat.or_lt_two_pow (s.rd_lt f) hm)]

theorem rd_clrMask_ne (s : State) {f g : Fld} (h : f.key ≠ g.key) (m : Nat) : (s.clrMask f m).rd g = s.rd g :=
  rd_wr_ne s h _

theorem rd_clrMask_same (s : State) (f : Fld) (m : Nat) :
    (s.clrMask f m).rd f = s.rd f - (s.rd f &&& m) := by
  simp [clrMask, Nat.mod_eq_of_lt (Nat.lt_of_le_of_lt (Nat.sub_le _ _) (s.rd_lt f))]

/-! Counters (R45, R437). -/

theorem count_of_frozen {s : State} (h : s.frozen = true) (f : Fld) (n : Nat) : s.count f n = s := by simp [count, h]

theorem countSat_of_frozen {s : State} (h : s.frozen = true) (f : Fld) (n : Nat) : s.countSat f n = s := by
  simp [countSat, h]

/-- A saturating counter never falls. -/
theorem rd_countSat_le (s : State) (f : Fld) (n : Nat) : s.rd f ≤ (s.countSat f n).rd f := by
  simp only [countSat]; split
  · exact Nat.le_refl _
  · have h1 := s.rd_lt f
    simp only [rd_wr_same, sat]
    rw [Nat.mod_eq_of_lt (by omega)]; omega

theorem rd_countSat_ne (s : State) {f g : Fld} (h : f.key ≠ g.key) (n : Nat) :
    (s.countSat f n).rd g = s.rd g := by
  simp only [countSat]; split
  · rfl
  · exact rd_wr_ne s h _

/-! Events and messages leave the window and the grid alone. -/

@[simp] theorem rd_raise (s : State) (c u d : Nat) (b : List Nat) (f : Fld) : (s.raise c u d b).rd f = s.rd f := rfl
@[simp] theorem rd_emit (s : State) (o : Out) (f : Fld) : (s.emit o).rd f = s.rd f := rfl

theorem rd_raiseOnce (s : State) (c u d : Nat) (f : Fld) : (s.raiseOnce c u d).rd f = s.rd f := by
  simp only [raiseOnce]; split <;> rfl

theorem rd_raiseIf (s : State) (b : Bool) (c u d : Nat) (f : Fld) : (s.raiseIf b c u d).rd f = s.rd f := by
  cases b <;> rfl

/-- A second event of a code and unit in one window is not raised. -/
theorem raiseOnce_again (s : State) (c u d : Nat) (h : (c, u) ∈ s.once) : s.raiseOnce c u d = s := by
  simp [raiseOnce, h]

theorem mem_once_raiseOnce (s : State) (c u d : Nat) : (c, u) ∈ (s.raiseOnce c u d).once := by
  simp only [raiseOnce]; split
  · assumption
  · simp [raise]

/-- Drawing a free value moves to the next one and touches nothing else. -/
theorem draw_snd (s : State) : s.draw.2 = { s with freeCtr := s.freeCtr + 1 } := rfl

/-! The window keeps its canonical form. -/

theorem wf_wr {s : State} (h : Tab.wf s.regs = true) (f : Fld) (v : Nat) : Tab.wf (s.wr f v).regs = true :=
  Regs.wf_set f v h
theorem wf_flag {s : State} (h : Tab.wf s.regs = true) (f : Fld) (b : Bool) : Tab.wf (s.flag f b).regs = true :=
  Regs.wf_set f _ h
theorem wf_setMask {s : State} (h : Tab.wf s.regs = true) (f : Fld) (m : Nat) :
    Tab.wf (s.setMask f m).regs = true := Regs.wf_set f _ h
theorem wf_clrMask {s : State} (h : Tab.wf s.regs = true) (f : Fld) (m : Nat) :
    Tab.wf (s.clrMask f m).regs = true := Regs.wf_set f _ h

theorem wf_count {s : State} (h : Tab.wf s.regs = true) (f : Fld) (n : Nat) :
    Tab.wf (s.count f n).regs = true := by
  simp only [count]; split
  · exact h
  · exact wf_wr h f _

theorem wf_countSat {s : State} (h : Tab.wf s.regs = true) (f : Fld) (n : Nat) :
    Tab.wf (s.countSat f n).regs = true := by
  simp only [countSat]; split
  · exact h
  · exact wf_wr h f _

/-! The grid (R29). -/

theorem now_le_advance (s : State) (t : Nat) : s.now ≤ (s.advance t).now := Nat.le_max_left _ _

/-- The next index of a grid is at no instant before the present one. -/
theorem now_le_gridIdx (s : State) (idx : Nat) {p : Nat} (hp : 0 < p) : s.now ≤ p * s.gridIdx idx p := by
  have h1 : s.now ≤ p * cdiv s.now p := by
    have h := Nat.div_add_mod (s.now + p - 1) p
    have h' := Nat.mod_lt (s.now + p - 1) hp
    simp only [cdiv]; omega
  exact Nat.le_trans h1 (Nat.mul_le_mul_left p (Nat.le_max_right _ _))

theorem le_gridIdx (s : State) (idx p : Nat) : idx ≤ s.gridIdx idx p := Nat.le_max_left _ _

/-- An alignment edge stands at a multiple of 20 ns, never before the present instant. -/
theorem toAlign_spec (s : State) :
    s.now ≤ s.toAlign.now ∧ s.toAlign.now = 20 * s.toAlign.edge ∧ s.alignIdx < s.toAlign.alignIdx := by
  refine ⟨now_le_gridIdx s s.alignIdx (by decide), ?_, ?_⟩
  · simp [toAlign, edge]
  · exact Nat.lt_succ_of_le (le_gridIdx s _ _)

theorem toEdge_spec (s : State) : s.now ≤ s.toEdge.now ∧ s.toEdge.now = 20 * s.toEdge.edge := by
  simp only [toEdge]; split
  · rename_i h; exact ⟨Nat.le_refl _, h.2⟩
  · exact ⟨s.toAlign_spec.1, s.toAlign_spec.2.1⟩

/-! Conditions and lists. -/

/-- What `g` gives under the condition and what held before it, either way. -/
theorem when_induct {P : State → Prop} {s : State} {b : Bool} {g : State → State} (h : P s)
    (hg : b = true → P (g s)) : P (s.when b g) := by
  cases b
  · exact h
  · exact hg rfl

end Sys2Proof.Machine.State
end

