-- ==== Sys2Proof/Laws/Proc.lean ====
section
/-!
SUPPORT. Laws/Proc.lean: what the operations of a processor on the fabric do: a processor's state read back after an update,
and the store buffer, its drain and the ordering points where there is nothing to drain or to report.
-/
namespace Sys2Proof.Machine.State

@[simp] theorem proc_modProc_same (s : State) (p : Proc) (g : ProcSt → ProcSt) : (s.modProc p g).proc p = g (s.proc p) := by
  simp [modProc, modMgt, proc]

theorem proc_modProc_ne (s : State) {p q : Proc} (h : p ≠ q) (g : ProcSt → ProcSt) : (s.modProc p g).proc q = s.proc q := by
  cases p <;> cases q <;> simp_all [modProc, modMgt, proc, Proc.fin]

@[simp] theorem rd_modProc (s : State) (p : Proc) (g : ProcSt → ProcSt) (f : Fld) : (s.modProc p g).rd f = s.rd f := rfl

/-- The host has no store buffer and no snapshot latch. -/
@[simp] theorem turn_host (s : State) : s.turn .host = s := rfl

theorem drainFirst_empty {s : State} {p : Proc} (h : (s.proc p).buf = []) : s.drainFirst p = s := by simp [drainFirst, h]

@[simp] theorem drainAll_empty {s : State} {p : Proc} (h : (s.proc p).buf = []) : s.drainAll p = s := by
  simp [drainAll, h, each]

/-- A store retires into a buffer that has room, and nothing else changes. -/
theorem retire_room {s : State} {p : Proc} (h : (s.proc p).buf.length < 8) (e : BufStore) :
    s.retire p e = s.modProc p fun q => { q with buf := q.buf ++ [e] } := by
  simp [retire, Nat.not_le.2 h]

/-- A fault with nothing in the buffer sets its three registers and nothing else. -/
theorem takeFault_drained {s : State} {p : Proc} (h : (s.proc p).buf = []) (pc cause addr : Nat) :
    s.takeFault p pc cause addr = s.modProc p fun q => { q with mepc := pc, mcause := cause, mtval := addr } := by
  simp [takeFault, h]

/-- An ordering point with no failure to report lets its instruction act on the drained state. -/
theorem atOrder_clean {s : State} {p : Proc} (h : ((s.drainAll p).proc p).fail = none) (pc : Nat) (go : State → State) :
    s.atOrder p pc go = go (s.drainAll p) := by simp [atOrder, reportStore, h]

/-- Of a processor that does not run no operation has an effect. -/
theorem orderingPoint_stopped {s : State} {p : Proc} (h : s.runs p = false) (pc : Nat) (op : OrdOp) :
    s.orderingPoint p pc op = s := by simp [orderingPoint, h]

end Sys2Proof.Machine.State
end

