-- ==== Sys2Proof/WellFormed.lean ====
section
/-!
DEFINITION. WellFormed.lean: which commands are well formed: each operand that stands for a field of a register, of a
frame or of a message is a number that field can hold. A command that is not well formed is no command the surroundings
can give; `exec` does not rely on it.
-/
namespace Sys2Proof

/-- A value fits a field of `w` bits. -/
def fits (w v : Nat) : Bool := decide (v < 2 ^ w)

/-- The parts of a flit have 16, 48 and 16 bits (R489). -/
def Flit.wf (f : Flit) : Bool := fits 16 f.header && fits 48 f.payload && fits 16 f.crc

/-- Each word of a voltage command link frame has 16 bits (R189). -/
def VclFrame.wf (f : VclFrame) : Bool :=
  fits 16 f.w0 && fits 16 f.w1 && fits 16 f.w2 && fits 16 f.w3 && fits 16 f.w4 && fits 16 f.w5

/-- Each word of a cascade frame has 32 bits (R313). -/
def CasFrame.wf (f : CasFrame) : Bool :=
  [f.w0, f.w1, f.w2, f.w3, f.w4, f.w5, f.p0, f.p1, f.p2, f.p3, f.p4, f.p5, f.p6, f.w13, f.w14, f.w15].all (fits 32)

/-- What a processor holds is 32, 9 and 16 words (R409). -/
def CoreDump.wf (c : CoreDump) : Bool :=
  c.x.length == 32 && c.csr.length == 9 && c.pcs.length == 16 && (c.x ++ c.csr ++ c.pcs).all (fits 32)

/-- 64 bytes of host memory, a doorbell line or a descriptor, as sixteen words (R360, R367). -/
def line16Wf (l : List Nat) : Bool := l.length == 16 && l.all (fits 32)
def doorbellWf (d : Doorbell) : Bool := d.all line16Wf

def Instr.wf (i : Instr) : Bool :=
  match i with
  | .windowBoundary acts => acts.length == 9 && (acts.take 8).all (fun l => l.length == 15 && l.all (fun n => decide (n ≤ 2048))) && (acts.drop 8).all fun l => l.length == 32 && l.all fun n => decide (n ≤ 2048)
  | .windowDecision => true
  | .strokeBoundary reqs means => (means.all fun l => l.length == 4) && reqs.all fun r => decide (r.site < 576) && fits 4 r.cls && fits 3 r.fmt && fits 2 r.sp
  | .seamCommandArrival _ _ _ => true
  | .packageFreezeRequest => true
  | .packageFreezeEdge => true
  | .lateDieFreeze _ => true
  | .packageThawEdge => true
  | .heavyAhead _ word => fits 64 word
  | .opStart _ word => fits 64 word
  | .opEnd _ word => fits 64 word
  | .armTimeout _ => true
  | .costSwap mask => fits 8 mask
  | .ltAccRead => true
  | .ltAccWrite => true
  | .ltAccInvalAll => true
  | .jobStart _ => true
  | .jobStop _ => true
  | .paceScheduleStart => true
  | .xtalAmplitudeGood => true
  | .sourceMonitorGate _ => true
  | .pllLock => true
  | .xtalProofTimeout => true
  | .crystalEdgeLoss => true
  | .pllLockLoss => true
  | .pllRelockTimeout => true
  | .clkReturn => true
  | .dividerStep _ => true
  | .vclAckTimeout _ => true
  | .heldRelease _ => true
  | .clusterGateRequest _ _ code => fits 2 code
  | .clusterClockStop _ _ => true
  | .clusterRestart _ _ => true
  | .droopAssert _ _ _ => true
  | .droopThr2Cross _ _ _ => true
  | .droopCuffCount _ _ => true
  | .droopClear _ _ _ => true
  | .droopRecovery _ => true
  | .droopStuckLimit _ _ => true
  | .droopReadmit _ mask => fits 32 mask
  | .fmcStart => true
  | .fmcGateEnd _ => true
  | .switchingCycle _ _ => true
  | .firingRotation _ => true
  | .syncLock run => decide (run.lo ≤ run.ps ∧ run.ps ≤ run.hi)
  | .syncInLoss => true
  | .syncReturn run => decide (run.lo ≤ run.ps ∧ run.ps ≤ run.hi)
  | .undershootCrossing _ _ _ => true
  | .undershootEnd _ _ _ => true
  | .overshootCrossing _ _ _ => true
  | .brakeEnd _ _ => true
  | .loadStepAnnounce _ _ _ _ => true
  | .prearmReached _ => true
  | .prearmExpiry _ => true
  | .prearmRelease _ => true
  | .vset _ f => f.wf
  | .ping _ f => f.wf
  | .vack _ f => f.wf
  | .cuff _ f => f.wf
  | .prearm _ f => f.wf
  | .vnak _ f => f.wf
  | .voltageReached _ => true
  | .vsetRepeat _ => true
  | .vclIdleSend _ _ => true
  | .vclDown _ _ => true
  | .vclRetrain _ => true
  | .vclRetrainEnd _ _ => true
  | .vclDeadClear mask => fits 9 mask
  | .loopApply _ => true
  | .rgcCuffCause _ _ _ => true
  | .seqOn _ => true
  | .softStartBegin _ _ => true
  | .powerGood _ => true
  | .seqOff _ => true
  | .rampDownBegin _ => true
  | .loopOff _ => true
  | .ssShortDetect _ => true
  | .ssRetry _ _ => true
  | .shortLatchClear _ => true
  | .faultPark _ => true
  | .phaseShortTrip _ _ => true
  | .regulationShort _ => true
  | .ovlFeather _ => true
  | .ovlTimerReset _ => true
  | .ovlShutdown _ => true
  | .ovlShutClear _ => true
  | .phaseRemoval _ _ => true
  | .capabilityChange _ => true
  | .phaseReadmit _ _ => true
  | .phaseTrialEnd _ _ => true
  | .remoteSenseLoss _ => true
  | .senseRetry _ => true
  | .senseRetryEnd _ => true
  | .bothSenseLoss _ => true
  | .vrAlertAssert _ => true
  | .vrAlertDeassert _ => true
  | .holdClear _ => true
  | .calStart _ => true
  | .calPhaseReady _ => true
  | .calDerateConfirmed _ => true
  | .calOffsetMeasure _ _ => true
  | .calGainTrim _ => true
  | .calPhaseDefer _ => true
  | .thermalDemandTimer => true
  | .demandNow => true
  | .demandIssue => true
  | .thermalDemandArrival _ => true
  | .conversionComplete _ _ => true
  | .thmCalStart => true
  | .thmCalPeriod => true
  | .thmCalStep => true
  | .thmCalStepEnd _ => true
  | .diodeReadmit _ mask => fits 16 mask
  | .tripComparatorAssert site _ => decide (site < 136)
  | .tripLatch => true
  | .tripRecord => true
  | .tripIoRailsOff => true
  | .tripMaskWrite _ v => fits 32 v
  | .tripTestStart => true
  | .tripTestEnd _ => true
  | .rowcolFail words => words.all (fits 128)
  | .cvMismatch word => fits 128 word
  | .poison word => fits 128 word
  | .weightCv word => fits 128 word
  | .stepEnd word => fits 128 word
  | .testSig word => fits 128 word
  | .senQueueOvf => true
  | .senRecordSend => true
  | .mapDone _ _ slot => decide (slot < 36)
  | .mapReady _ _ slot => decide (slot < 36)
  | .mapTimeout _ _ slot => decide (slot < 36)
  | .marginClrVstep _ => true
  | .marginClrCluster _ mask => fits 16 mask
  | .selfTestPeriod => true
  | .testReqStart _ site => fits 10 site
  | .libraryComponent bytes _ => bytes.all (fits 8)
  | .librarySwitch => true
  | .digest _ frame => frame.wf
  | .digestWaitExpiry group epoch => fits 16 group && fits 32 epoch
  | .verdict _ frame => frame.wf
  | .expelledClear _ => true
  | .retract _ frame => frame.wf
  | .retractAck => true
  | .abortClear => true
  | .slotRetire _ _ slot => fits 6 slot
  | .hello _ frame => frame.wf
  | .ack _ frame => frame.wf
  | .tsyncReq _ frame _ => frame.wf
  | .tsyncRsp _ frame _ => frame.wf
  | .tsyncPeriod => true
  | .topo _ frame => frame.wf
  | .formed _ frame => frame.wf
  | .formationTimeout => true
  | .detach _ frame => frame.wf
  | .takeover _ frame => frame.wf
  | .probe _ frame => frame.wf
  | .coxAlive _ frame => frame.wf
  | .probeTimeout => true
  | .mirror _ arrival => arrival.frame.wf
  | .coxBeat _ frame => frame.wf
  | .coxBeatTimer => true
  | .objUp _ arrival => arrival.frame.wf && fits 3 arrival.objType
  | .objDown _ arrival => arrival.frame.wf && fits 3 arrival.objType
  | .objBulk _ frame => frame.wf
  | .objCfgWrite type _ _ _ => fits 3 type
  | .barrierArrive obj => fits 14 obj
  | .objValWrite v => fits 32 v
  | .objUpdateInterval obj => fits 14 obj
  | .bcastUp _ frame => frame.wf
  | .hostBroadcast _ frame => frame.wf
  | .hostBroadcastSend => true
  | .broadcastResend req => fits 16 req
  | .pkgLost _ frame => frame.wf
  | .laneDown _ => true
  | .laneRetrain _ => true
  | .laneIdleSend _ => true
  | .schedReq _ frame => frame.wf
  | .sched _ frame => frame.wf
  | .cascadeFreezeRequest => true
  | .cascadeThawRequest => true
  | .cascadeResetRequest scope => fits 2 scope
  | .cascadeFreezeEdge => true
  | .cascadeThawEdge _ => true
  | .cascadeResetEdge => true
  | .frozenFrameArrival _ arrival => arrival.frame.wf && fits 3 arrival.objType
  | .paceUp _ frame => frame.wf
  | .pace _ frame => frame.wf
  | .pacePeriod => true
  | .paceEnd => true
  | .govEnable => true
  | .govDisable => true
  | .queueEnable _ db => doorbellWf db
  | .queueDisable _ => true
  | .queueDrained _ => true
  | .doorbellWatch _ db => doorbellWf db
  | .doorbellPoll dbs => dbs.all doorbellWf
  | .descriptorFetch _ d => d.all line16Wf
  | .nop _ => true
  | .snapshot _ offs _ => offs.all (fits 32)
  | .writeSet _ pairs _ => pairs.all fun p => fits 32 p.1 && fits 32 p.2
  | .ltRead _ _ => true
  | .ltWrite _ entries _ => entries.all fun e => e.length == 12 && e.all (fits 32)
  | .costLoad _ words _ => words.length == 128 && words.all (fits 32)
  | .jobCmdStart _ => true
  | .jobCmdStop _ => true
  | .msg _ words _ => words.all (fits 32)
  | .recRead _ _ => true
  | .meterRead _ _ => true
  | .completionWrite _ _ => true
  | .coalesceTimeout _ => true
  | .vectorUnmask _ => true
  | .functionEvtClear _ => true
  | .badAccess off _ _ => fits 20 off
  | .registerWrite ws off wide => fits 20 off && (ws.all fun w => fits 64 w.2) && off % (if wide then 8 else 4) == 0
  | .blockResetGo _ => true
  | .blockReset _ => true
  | .blockResetRelease => true
  | .trpBoot b => b.block.all (fits 8)
  | .keyBlockRetry b => b.block.all (fits 8)
  | .trpImageVerified prov _ => prov.all (fits 8)
  | .imageRelease _ _ _ => true
  | .startedWrite _ c0 c1 c2 c3 => fits 8 c0 && fits 8 c1 && fits 8 c2 && fits 8 c3
  | .plpReady weights leak => (weights.all fun w => fits 12 w.2.2) && leak.all fun x => fits 8 x.2.1 && fits 8 x.2.2.1 && fits 8 x.2.2.2.1 && fits 8 x.2.2.2.2
  | .mailboxGo _ _ long => long.all (fits 32)
  | .mailboxDone _ _ long => long.all (fits 32)
  | .mailboxAbort _ _ => true
  | .mailboxNote _ _ => true
  | .mailboxTimeout _ => true
  | .getVersion _ => true
  | .echo _ => true
  | .getState _ => true
  | .lcNonce _ => true
  | .lcToken _ b _ => b.all (fits 8)
  | .trustedRestartRequest _ core => core.wf
  | .storeFailure _ addr kind flash => fits 32 addr && fits 3 kind && flash.all (fits 25)
  | .orderingPoint _ pc op => fits 32 pc && match op with
    | .fence => true
    | .load a z _ => fits 32 a && decide (z < 3)
    | .amo a v => fits 32 a && a % 4 == 0 && v.all (fits 32)
    | .store a v z => fits 32 a && decide (z < 3) && fits (8 * 2 ^ z) v
    | .fetch a => fits 32 a && a % 2 == 0
    | .handler => true
    | .pmp _ c a => fits 8 c && fits 32 a
  | .watchdogExpiry _ core => core.wf
  | .watchdogKick _ => true
  | .processorRestartGo _ _ core => core.wf
  | .storeDrainEnd _ _ => true
  | .restartRelease _ b => b.block.all (fits 8)
  | .eventStage => true
  | .recordProgram _ => true
  | .stageLostRecord => true
  | .opsecAlive => true
  | .recorderMount _ => true
  | .recorderErase _ => true
  | .recorderEraseEnd => true
  | .fullAck => true
  | .ringSelect unit _ => fits 13 unit
  | .ringCopyDone => true
  | .triggerFire => true
  | .triggerPostExpiry => true
  | .triggerThaw => true
  | .traceLaneUp _ => true
  | .traceLaneDown _ => true
  | .traceAlignment => true
  | .traceLostPacket => true
  | .queryDeviceIdentifiers => true
  | .getFirmwareParameters => true
  | .requestUpdate => true
  | .passComponentTable id => fits 16 id
  | .updateComponent id size => fits 16 id && fits 32 size
  | .requestFirmwareData bytes => bytes.all (fits 8)
  | .transferComplete => true
  | .verifyComplete _ _ => true
  | .applyComplete => true
  | .activateFirmware => true
  | .getStatus => true
  | .cancelUpdateComponent => true
  | .cancelUpdate => true
  | .setRegatta t => fits 64 t
  | .regattaStep core => core.wf
  | .updateConfirm _ => true
  | .trialTimeout _ core => core.wf
  | .mirrorCopy => true
  | .meterPeriodicReading sig => decide (sig.length = 24) && sig.all (fits 32)
  | .meterSave => true
  | .meterPowerFailSave => true
  | .meterPowerUp _ badHash => badHash.all (fits 32)
  | .meterConditionChange _ _ => true
  | .meterXtalFail => true
  | .selftestFail _ => true
  | .stampRequest _ kind _ => fits 2 kind
  | .stampSigned sig => decide (sig.length = 24) && sig.all (fits 32)
  | .sealCommand _ _ _ sig => sig.length == 24 && sig.all (fits 32)
  | .trainFlit _ ver feat type gBad sBad => fits 8 ver && fits 8 feat && fits 4 type && fits 4 gBad && fits 4 sBad
  | .seamTrainingEnd _ _ => true
  | .seamDown _ _ => true
  | .seamRetrainTimer _ => true
  | .seamIdleSend _ _ => true
  | .seamNak _ _ => true
  | .seamRetrainWrite _ => true
  | .minVerWrite ver => fits 8 ver
  | .fenceRequest mask => fits 8 mask
  | .fenceLift mask => fits 8 mask
  | .standbyResetRelease => true
  | .startupOnWrite => true
  | .p12vOkLoss => true
  | .scanExit ir => ir.length == 10
  | .alignmentEdge _ => true
  | .tmonSample _ => true
  | .tripComparatorClear site _ => decide (site < 136)
  | .standbyPowerLoss => true
  | .p12vOkReturn => true
  | .meterProduct _ _ _ frac => decide (0 ≤ frac) && decide (frac < 16)
  | .flitCrcFail _ flit => flit.wf
  | .frameDiscard _ frame => frame.wf
  | .entdaa svp trp => fits 7 svp && fits 7 trp
  | .setEndpointId _ eid => fits 8 eid
  | .snapshotLatchRead _ off => fits 20 off && off % 4 == 0
  | .msgTimeout _ => true

end Sys2Proof
end

