-- ==== Sys2Proof/Tests/Slice0.lean ====
section
/-!
SUPPORT. Tests/Slice0.lean: witnesses of the statements' hypotheses, one theorem per statement, each with states and operands
that meet the hypotheses of each of its clauses; ill-formed commands that WellFormed.lean refuses; and small tests on values
from the spec's worked examples.
-/

namespace Sys2Proof.Tests

open Sys2Proof Sys2Proof.Machine

-- One proof at a time: each is a long evaluation by the kernel, and side by side they would fill the memory.
set_option Elab.async false

/-- The block running, at once after its release. -/
def run : State := { State.reset with phase := .running }
/-- The block running with every link inside the package up. -/
def linked : State :=
  let s := run.each sats fun x s => s.flag (R.ADM_SEAM_STS_UP x) true
  s.each sats fun x s => s.modVcl x fun v => { v with sat := { v.sat with up := true }, rgc := { v.rgc with up := true } }
/-- A descriptor by its operation code and first argument. -/
def desc (opc : Nat) (a : Nat := 0) : Desc :=
  { opc := opc, ver := 1, cid := 7, addr := 64, addr2 := 128, arg0 := a, arg1 := 1, arg2 := 0 }
/-- Its sixteen words. -/
def descLine (opc : Nat) (a : Nat := 0) : List Nat := [1 + 2 ^ 8 * opc + 2 ^ 16 * 7, a, 64, 0, 128, 0, 1] ++ List.replicate 9 0
/-- A doorbell line with its tail and its head. -/
def bell (tail head : Nat) : List Nat := [tail, head] ++ List.replicate 14 0
/-- A running block whose queue 31 works, on the command given and started, or on none. -/
def queued (c : Option Desc) (g : QueueSt → QueueSt) : State :=
  let s := ((run.setQState 31 1).wr (R.HIF_Q_CFG_SQ_LOG 31) 4).wr (R.HIF_Q_CFG_CQ_LOG 31) 4
  s.modQueue 31 fun q => g { q with cmd := c.map fun c => (c, 1), started := c.isSome }
/-- The block with a compute die's Seam in training. -/
def training (g : SeamSt → SeamSt) : State := run.modSeam 7 fun q => g { q with training := some 5 }
/-- A loop that regulates with its phases in rotation, in a block whose links are up. -/
def regulating (l : Loop) (g : LoopSt → LoopSt) : State :=
  (((linked.each (linked.phasesOf l) fun p s => s.setRot l p true).setMode l 2).modLoop l fun L => { L with vref := 800000 }).modLoop
    l g
/-- A report word: kind, source, die, unit and its three arguments. -/
def rep (kind src die unit a0 a1 a2 : Nat) : Nat :=
  2 ^ 124 + kind * 2 ^ 120 + src * 2 ^ 118 + die * 2 ^ 114 + unit * 2 ^ 104 + a0 * 2 ^ 64 + a1 * 2 ^ 32 + a2
/-- A package whose lane 8 is up in a role (1 up, 2 down), in a formed cascade of four at term 3. -/
def net (role : Nat) (g : State → State) : State :=
  g ((((((run.wr R.CAS_CTL_LANE_EN 511).flag (R.CAS_LANE_STS_UP 8) true).wr (R.CAS_LANE_STS_ROLE 8) role).wr R.CAS_TERM_TERM 3).wr
    R.CAS_STATUS_STATE 2).wr R.CAS_STATUS_N 4)
/-- A frame from package 77 to package 0 at term 3. -/
def fr (type : Nat) (p : List Nat) : CasFrame := CasFrame.make type 0 1 77 0 3 9 1000 p
/-- A frame of a higher count of hops. -/
def frFar (type : Nat) (p : List Nat) : CasFrame := CasFrame.make type 0 10 77 0 3 9 1000 p
/-- The state after a frame is accepted, and after it is passed on. -/
def accepted (s : State) (f : CasFrame) : State := (s.accept 8 f).1
def passed (s : State) (f : CasFrame) : State := ((accepted s f).transit 8 { frame := f }).1
/-- A map change of die 7. -/
def change (planned : Bool) : MapChange := { die := 7, cluster := 15, logical := 31, old := 2, new := 35, planned := planned, due := 90 }
/-- A library of one pattern. -/
def lib : Library := ⟨1, 1, 5, 3, 2, 64, [⟨3, 0, 0, 0, 0, 1, 0, 9⟩], true, true⟩
/-- The block with a processor running. -/
def awake (p : Proc) : State := run.wr (R.MGT_P_STATE_STATE p.idx) 2
/-- Every processor running, the keys of slots 1 and 2 in place. -/
def booted : State :=
  { (((run.wr (R.MGT_P_STATE_STATE 0) 2).wr (R.MGT_P_STATE_STATE 1) 2).wr (R.MGT_P_STATE_STATE 2) 2) with
    mgt := { ceilDone := true, keys := ((Vector.replicate 16 none).set 1 (some ⟨1, 3, 0, 0⟩)).set 4 (some ⟨1, 4, 0, 0⟩) } }
/-- A request from the host in mailbox 0, to the TRP, of format 3. -/
def mail (k : Mbx) (cmd len : Nat) : State :=
  ((booted.wr (R.MBX_DATA_DATA k 0) (0x30 + 2 ^ 16 * len)).wr (R.MBX_DATA_DATA k 1) cmd).flag (R.MBX_CTL_GO k) true
/-- A processor's state as a crash dump would show it. -/
def core : CoreDump := ⟨[], [], []⟩
/-- A record of an event, ordinary (0) or non-maskable (1). -/
def recOf (flags : Nat) : FlashRec :=
  { code := Ev.BUD_JOB_ERR, seq := 5, pcyc := 0, opsec := 0, time := 0, cyc := 0, unit := 0xFFFF, nreg := 0, flags := flags
    layer := 0, tag := 0, detail := 0, body := [] }
/-- A valid record of a format. -/
def formatRec : FlashRec :=
  let r := { recOf 0 with code := Ev.REC_FORMAT, mark := 0x5A }
  { r with crc := r.sum }
/-- An image of 96 bytes that speaks and accepts format major 3. -/
def imgOf (proc : Nat) : List Nat := [1, 0, proc, 0, 0, 0, 0, 0, 7, 0, 0, 0, 0, 0, 0, 0, 0x30, 0, 8, 0] ++ List.replicate 76 0
/-- A delta that brings it whole. -/
def deltaOf (proc : Nat) : List Nat := [1, 0, proc] ++ List.replicate 61 0 ++ [2, 96, 0, 0] ++ imgOf proc ++ [0]
/-- A component of the SVP that has come whole. -/
def compOf : UpdComp := { id := 3, size := (deltaOf 3).length, bytes := deltaOf 3, whole := true }
/-- A deployed package in an update that transfers a component. -/
def updating (c : UpdComp) : State :=
  { booted with fuses := 3, upd := { active := true, comps := [c], cur := some 0 }, flash := { image := [(0, imgOf 1), (2, imgOf 2), (4, imgOf 3)] } }
/-- The meter at work. -/
def metering (g : MtrSt → MtrSt) : State := { run with mtr := g { powered := true, running := true } }
/-- A stamp request. -/
def stampReq : StampReq := ⟨1, 2, 3, 4, 5, 6, 0⟩
/-- A command of a window. -/
def winCmd : WinCmd := ⟨900, 3, 113, false, none, false⟩
/-- The bytes of a library of one pattern. -/
def libBytes : List Nat :=
  [1, 0, 1, 0, 5, 0, 0, 0, 3, 0, 2, 0, 64, 0, 0, 0] ++ List.replicate 16 0 ++ [3, 0, 0, 0, 0, 0, 1, 0] ++ List.replicate 8 0 ++ [9] ++
    List.replicate 111 0
/-- The state after a frame with what its object or item says is passed on. -/
def passedOn (s : State) (a : CasRx) : State := ((accepted s a.frame).transit 8 a).1
/-- A frame of an unknown version with a good CRC. -/
def badVer : CasFrame :=
  let f : CasFrame := { fr 0x20 [] with w0 := 2 }
  { f with w15 := f.crc }

/-- Every processor running with an image that speaks and accepts format major 3. -/
def heard (s : State) : State :=
  { s with mgt := { s.mgt with proc := (Vector.replicate 3 { image := some { headerOf [1] with accept := 8, maj := 3 } }) } }
/-- A life-cycle token's bytes. -/
def tokBytes : List Nat :=
  [1, 0, 1, 0] ++ bytesOf 4 0 ++ bytesOf 8 Config.uid ++ List.replicate 16 0 ++ [4] ++ List.replicate 127 0
/-- A key block of three keys, with the signature verdicts of both slots. -/
def keysIn : BootIn :=
  ⟨[1] ++ List.replicate 7 0 ++ [1, 0, 8, 0] ++ List.replicate 124 0 ++ [1, 0, 1, 0] ++ List.replicate 124 0 ++ [1, 0, 4, 0] ++
    List.replicate 124 0, true, true, true, true⟩
/-- A provisioning record without ceilings or keys. -/
def provBytes : List Nat := [1, 0, 0, 0, 0, 0, 0, 0] ++ bytesOf 8 Config.uid ++ List.replicate 128 0
/-- Every link up, and a command on its way to die 7 since instant 5. -/
def onWay (c : SeamCmd) : State := linked.modSeam 7 fun q => { q with flits := [⟨5, 1, c⟩] }
/-- Every processor running with an image that accepts no format. -/
def deaf (s : State) : State :=
  { s with mgt := { s.mgt with proc := (Vector.replicate 3 { image := some (headerOf [1]) }) } }
/-- A request of format 2 in mailbox 0. -/
def oldMail (cmd words : Nat) : State :=
  (booted.wr (R.MBX_DATA_DATA 0 0) (cmd + 2 ^ 8 * words + 2 ^ 24 * 2)).flag (R.MBX_CTL_GO 0) true

/-! Small tests, on values that the spec's worked examples give. -/

theorem test_empty_queue_idles : step State.reset = .next State.reset := by rfl

theorem test_no_word_spells_a_command : State.reset.withFetchWord 32 0x00000013 = State.reset := by rfl

/-- Table register 0 (MMA, FP4) of die 7 resets to 0x0004_0507 (R83). -/
theorem test_cost_register : run.word .host (0x12000 + 0x200 * 7) = 0x00040507 := by decide +kernel

/-- LK_RGC_L1_CFG resets to 0x0010_DC0C (R198). -/
theorem test_loop_config : run.word .host 0x40400 = 0x0010DC0C := by decide +kernel

/-- A corner site has 3 neighbours, an edge site 5 and an inner site 8 (R242). -/
theorem test_neighbours : thmNear 0 5 = [0, 1, 2, 4, 6, 8, 9, 10] ∧ (thmNear 0 0).length = 3 ∧ (thmNear 0 7).length = 5 := by
  decide +kernel

/-- The pool of a limit of 513.3125 A is 4,481 tokens, that of 466.625 A 3,962 ("Phase loss at 500 A"). -/
theorem test_pools : run.poolOf 8213 = 4481 ∧ run.poolOf 7466 = 3962 := by decide +kernel

/-- Level 2,240 keeps 186 of 373 engines of 12 tokens ("Phase loss at 500 A"). -/
theorem test_held_set :
    (State.keepUpTo 2240 ((List.range 373).map fun k => ⟨k, 12⟩)).length = 186 := by decide +kernel

/-- With fast catch on die 3 alone the shares are 113 and 28; with it on all eight they are 53 ("A hinted start"). -/
def catching (l : List Die) : State :=
  linked.each l fun d s => (s.wr (R.ADM_SEAM_STS_FEAT d) 1).modGovDie d fun g => { g with announced := [1] }
theorem test_shares :
    (catching [3]).shareOf 3 = 113 ∧ (catching [3]).shareOf 2 = 28 ∧ dies.all (fun d => (catching dies).shareOf d == 53) := by
  decide +kernel

/-- An allowance of 113 takes 14 engines of 8 tokens, 112 tokens ("A hinted start"). -/
theorem test_scan : (scanSites 113 5000 [] ((List.range 512).map fun k => ⟨k, 8, 8⟩)).g = 112 := by decide +kernel

/-- The exchange of R327: t1 1,000,000.0, t2 1,000,180.0, t3 1,000,200.0 and t4 1,000,370.0 ns, in 1/2 ns, give a delay of
175 ns and an offset of +5 ns. -/
def exchange : State :=
  let f := CasFrame.make 0x04 0 1 77 0 3 9 2000400 [2000000, 0, 2000360, 0]
  ((net 1 fun s => s.modCas fun c => { c with joined := true }).setLk 2000740 0 0 0).tsyncRsp 8 f false
theorem test_exchange : exchange.rd R.CAS_TSYNC_OFS = 10 ∧ exchange.rd (R.CAS_LANE_DELAY_DELAY 8) = 350 ∧ exchange.lk.slew = 10 := by
  decide +kernel

/-- A limit written above its ceiling takes the ceiling (R11, R79). -/
theorem test_limit_write :
    (match execRegisterWrite [(.host, 0x03FF03FF)] 0x10004 false linked with
      | .next t => (t.rd R.ADM_RAMP_STEP, t.rd R.ADM_RAMP_FAST_STEP) | _ => (0, 0)) = (28, 113) := by decide +kernel

/-- A write of an unassigned offset changes nothing (R10). -/
theorem test_unassigned_write : execRegisterWrite [(.host, 5)] 0x1FFFC false run = .next run := by
  have h : run.initWrite .host 0x1FFFC 5 false = run := by decide +kernel
  have g : run.live = true := by decide +kernel
  simp [execRegisterWrite, g, State.when, inTurn, State.each, h]
/-- Of two writes of one register at one instant the TRP's comes last (R33). -/
theorem test_write_order :
    (match execRegisterWrite [(.trp, 3), (.host, 5)] 0x10004 false { booted with phase := .running } with
      | .next t => t.rd R.ADM_RAMP_STEP | _ => 0) = 3 := by decide +kernel
/-- The two ends of the scan chain answer IDCODE with stepping 1 and parts 0x4C33 and 0x5545 (R502). -/
theorem test_idcodes : run.idcode 0 / 2 ^ 12 = 0x14C33 ∧ run.idcode 9 / 2 ^ 12 = 0x15545 := by
  have h : ∀ a m : Nat, (a * 2 ^ 12 + m % 2 ^ 12) / 2 ^ 12 = a := by omega
  exact ⟨h 0x14C33 Config.idMaker, h 0x15545 Config.idMaker⟩

/-! Ill-formed commands, one for each check of WellFormed.lean, each refused by it. -/

/-- A frame of a voltage command link, and of the cascade, with one word too wide. -/
def badVcl (k : Nat) : VclFrame :=
  let w (i : Nat) : Nat := if i = k then 2 ^ 16 else 0
  ⟨w 0, w 1, w 2, w 3, w 4, w 5⟩
def badCas (k : Nat) : CasFrame :=
  let w (i : Nat) : Nat := if i = k then 2 ^ 32 else 0
  ⟨w 0, w 1, w 2, w 3, w 4, w 5, w 6, w 7, w 8, w 9, w 10, w 11, w 12, w 13, w 14, w 15⟩
/-- A well-formed frame of each. -/
def okVcl : VclFrame := badVcl 6
def okCas : CasFrame := badCas 16

theorem test_ill_formed_frames :
    okVcl.wf = true ∧ okCas.wf = true ∧ (List.range 6).all (fun k => !(badVcl k).wf) ∧
    (List.range 16).all (fun k => !(badCas k).wf) := by decide +kernel

theorem test_ill_formed_descriptors :
    line16Wf (descLine 0) = true ∧ line16Wf [] = false ∧ line16Wf (List.replicate 16 (2 ^ 32)) = false ∧
    doorbellWf (some (bell 4095 4095)) = true ∧ doorbellWf (some [1, 1]) = false ∧ doorbellWf (some (bell (2 ^ 32) 0)) = false := by
  decide +kernel

/-- The activity counts of a window, all zero. -/
def okActs : List (List Nat) := List.replicate 8 (List.replicate 15 0) ++ [List.replicate 32 0]

theorem test_ill_formed_operands :
    [Instr.windowBoundary okActs, .strokeBoundary [⟨7, 575, 15, 7, 3⟩] [[[0], [0], [0], [0]]], .registerWrite [(.host, 2 ^ 64 - 1)] 0xFFFF8 true].all
      (·.wf) ∧
    [Instr.windowBoundary [], .windowBoundary (List.replicate 8 [] ++ [List.replicate 32 0]),
      .windowBoundary (List.replicate 8 (List.replicate 15 2049) ++ [List.replicate 32 0]),
      .windowBoundary (List.replicate 8 (List.replicate 15 0) ++ [[]]),
      .windowBoundary (List.replicate 8 (List.replicate 15 0) ++ [List.replicate 32 2049]),
      .strokeBoundary [] [[[0]]], .strokeBoundary [⟨7, 576, 0, 0, 0⟩] [], .strokeBoundary [⟨7, 0, 16, 0, 0⟩] [],
      .strokeBoundary [⟨7, 0, 0, 8, 0⟩] [], .strokeBoundary [⟨7, 0, 0, 0, 4⟩] [],
      .heavyAhead 0 (2 ^ 64), .opStart 0 (2 ^ 64), .opEnd 0 (2 ^ 64), .costSwap 256, .clusterGateRequest 0 0 4,
      .droopReadmit 0 (2 ^ 32), .vclDeadClear 512, .diodeReadmit 0 (2 ^ 16), .tripComparatorAssert 136 0, .tripMaskWrite 0 (2 ^ 32),
      .rowcolFail [2 ^ 128], .cvMismatch (2 ^ 128), .poison (2 ^ 128), .weightCv (2 ^ 128), .stepEnd (2 ^ 128),
      .testSig (2 ^ 128), .mapDone 0 0 36, .mapReady 0 0 36, .mapTimeout 0 0 36, .marginClrCluster 0 (2 ^ 16),
      .testReqStart 0 1024, .slotRetire 0 0 64].all (fun i => !i.wf) := by decide +kernel

theorem test_ill_formed_frame_operands :
    [Instr.vset 0 (badVcl 0), .ping 0 (badVcl 1), .vack 0 (badVcl 2), .cuff 0 (badVcl 3), .prearm 0 (badVcl 4),
      .vnak 0 (badVcl 5), .digest 0 (badCas 0), .digestWaitExpiry (2 ^ 16) 0, .digestWaitExpiry 0 (2 ^ 32), .verdict 0 (badCas 1),
      .retract 0 (badCas 2), .hello 0 (badCas 3), .ack 0 (badCas 4), .tsyncReq 0 (badCas 5) true, .tsyncRsp 0 (badCas 6) true,
      .topo 0 (badCas 7), .formed 0 (badCas 8), .detach 0 (badCas 9), .takeover 0 (badCas 10), .probe 0 (badCas 11),
      .coxAlive 0 (badCas 12), .mirror 0 ⟨badCas 13, 0, 0, none⟩, .coxBeat 0 (badCas 14), .objUp 0 ⟨badCas 15, 0, 0, none⟩,
      .objUp 0 ⟨okCas, 8, 0, none⟩, .objDown 0 ⟨badCas 0, 0, 0, none⟩, .objDown 0 ⟨okCas, 8, 0, none⟩, .objBulk 0 (badCas 0),
      .objCfgWrite 8 true true true, .barrierArrive (2 ^ 14), .objValWrite (2 ^ 32), .objUpdateInterval (2 ^ 14),
      .bcastUp 0 (badCas 0), .hostBroadcast 0 (badCas 0), .broadcastResend (2 ^ 16), .pkgLost 0 (badCas 0),
      .schedReq 0 (badCas 0), .sched 0 (badCas 0), .cascadeResetRequest 4, .frozenFrameArrival 0 ⟨badCas 0, 0, 0, none⟩,
      .frozenFrameArrival 0 ⟨okCas, 8, 0, none⟩, .paceUp 0 (badCas 0), .pace 0 (badCas 0), .frameDiscard 0 (badCas 0)].all
      (fun i => !i.wf) := by decide +kernel

theorem test_ill_formed_host_operands :
    [Instr.queueEnable 0 (some []), .doorbellWatch 0 (some (bell 0 (2 ^ 32))), .doorbellPoll [some (bell (2 ^ 32) 0)],
      .descriptorFetch 0 (some (descLine 0 (2 ^ 32))), .snapshot 0 [2 ^ 32] true, .writeSet 0 [(2 ^ 32, 0)] true,
      .writeSet 0 [(0, 2 ^ 32)] true, .ltWrite 0 [[]] true, .ltWrite 0 [List.replicate 12 (2 ^ 32)] true, .costLoad 0 [] true,
      .costLoad 0 (List.replicate 128 (2 ^ 32)) true, .msg 0 [2 ^ 32] .good, .badAccess (2 ^ 20) 4 true,
      .registerWrite [] (2 ^ 20) false, .registerWrite [(.host, 2 ^ 64)] 0 false, .registerWrite [] 2 false,
      .registerWrite [] 4 true, .startedWrite .trp 256 0 0 0, .startedWrite .trp 0 256 0 0, .startedWrite .trp 0 0 256 0,
      .startedWrite .trp 0 0 0 256, .snapshotLatchRead .svp (2 ^ 20), .snapshotLatchRead .svp 2].all (fun i => !i.wf) := by
  decide +kernel

theorem test_ill_formed_management_operands :
    [Instr.plpReady [(0, 0, 4096)] [], .plpReady [] [(0, 256, 0, 0, 0)], .plpReady [] [(0, 0, 256, 0, 0)],
      .plpReady [] [(0, 0, 0, 256, 0)], .plpReady [] [(0, 0, 0, 0, 256)], .mailboxGo 0 .host [2 ^ 32],
      .mailboxDone 0 .trp [2 ^ 32], .storeFailure .trp (2 ^ 32) 0 none, .storeFailure .trp 0 8 none, .storeFailure .trp 0 0 (some (2 ^ 25)),
      .orderingPoint .trp (2 ^ 32) .fence, .orderingPoint .trp 0 (.load (2 ^ 32) 0 false), .orderingPoint .trp 0 (.load 0 3 false),
      .orderingPoint .trp 0 (.amo (2 ^ 32) none), .orderingPoint .trp 0 (.amo 2 none), .orderingPoint .trp 0 (.amo 0 (some (2 ^ 32))),
      .orderingPoint .trp 0 (.store (2 ^ 32) 0 0), .orderingPoint .trp 0 (.store 0 0 3), .orderingPoint .trp 0 (.store 0 256 0),
      .orderingPoint .trp 0 (.fetch (2 ^ 32)), .orderingPoint .trp 0 (.fetch 1), .orderingPoint .trp 0 (.pmp 0 256 0),
      .orderingPoint .trp 0 (.pmp 0 0 (2 ^ 32)), .watchdogExpiry .trp core, .processorRestartGo .svp .host core,
      .trustedRestartRequest .svp core, .regattaStep core, .trialTimeout .svp core, .flitCrcFail 0 ⟨true, 0, 2 ^ 16, 0, 0⟩,
      .flitCrcFail 0 ⟨true, 0, 0, 2 ^ 48, 0⟩, .flitCrcFail 0 ⟨true, 0, 0, 0, 2 ^ 16⟩, .scanExit [], .lcToken none [256] true, .trpImageVerified [256] true,
      .libraryComponent [256] true, .trpBoot ⟨[256], true, true, true, true⟩, .keyBlockRetry ⟨[256], true, true, true, true⟩,
      .restartRelease .svp ⟨[256], true, true, true, true⟩, .syncLock ⟨8, 2, 3, 1, 0⟩, .syncReturn ⟨8, 2, 3, 4, 0⟩,
      .ringSelect (2 ^ 13) false, .passComponentTable (2 ^ 16), .updateComponent (2 ^ 16) 0, .updateComponent 0 (2 ^ 32),
      .requestFirmwareData [256], .setRegatta (2 ^ 64), .meterPeriodicReading [], .meterPeriodicReading (List.replicate 24 (2 ^ 32)),
      .meterPowerUp true (some (2 ^ 32)), .stampRequest .host 4 true,
      .stampSigned [], .stampSigned (List.replicate 24 (2 ^ 32)), .sealCommand 0 0 (0, 0, 0) [],
      .sealCommand 0 0 (0, 0, 0) (List.replicate 24 (2 ^ 32)), .trainFlit 0 256 0 0 0 0, .trainFlit 0 0 256 0 0 0,
      .trainFlit 0 0 0 16 0 0, .trainFlit 0 0 0 0 16 0, .trainFlit 0 0 0 0 0 16, .minVerWrite 256, .fenceRequest 256,
      .fenceLift 256, .tripComparatorClear 136 0, .entdaa 128 0, .entdaa 0 128, .setEndpointId true 256].all (fun i => !i.wf) := by
  decide +kernel

/-! Witnesses of the statements about the block as a whole. -/

/-- The block released, with a write of REC_CTL waiting. -/
def waiting : State := { run with pending := [.registerWrite [(.plp, 1)] 0x6000 true] }

theorem witness_StepRunsFrontCommand :
    (let s := waiting; s.pending = .registerWrite [(.plp, 1)] 0x6000 true :: []) ∧ State.reset.pending = [] := by decide +kernel

theorem witness_StepKeepsWindowCanonical :
    waiting.canonical = true ∧ ∃ t, step waiting = .next t := by
  refine ⟨by decide +kernel, _, rfl⟩

theorem witness_StepKeepsLimitsUnderCeilings :
    (∀ p ∈ State.ceilings, waiting.rd p.1 ≤ waiting.rd p.2) ∧ ∃ t, step waiting = .next t := by
  refine ⟨by decide +kernel, _, rfl⟩

/-- The same in a package whose meter is sealed, with a fuse blown. -/
def waitingSealed : State := { waiting with fuses := 1, mtr := { sealed := true } }

theorem witness_StepKeepsFusesAndSeal :
    (∃ t, step waitingSealed = .next t) ∧ bit waitingSealed.fuses 0 = true ∧ waitingSealed.mtr.sealed = true ∧
    waitingSealed.pending.head? = some (.registerWrite [(.plp, 1)] 0x6000 true) := by
  refine ⟨⟨_, rfl⟩, by decide +kernel, by decide +kernel, by decide +kernel⟩

theorem witness_TimeNeverGoesBack :
    (∃ t, exec (.strokeBoundary [] []) linked = .next t) ∧ linked.phase ≠ .held ∧
    Instr.strokeBoundary [] [] ≠ .standbyPowerLoss := by
  refine ⟨⟨_, rfl⟩, by decide +kernel, by decide +kernel⟩

theorem witness_ScanRules :
    let l : List Asked := [⟨5, 3, 3⟩, ⟨6, 4, 4⟩, ⟨7, 0, 0⟩, ⟨8, 9, 9⟩]; let c : List Grant := [⟨5, 3⟩, ⟨6, 4⟩]
    (scanSites 7 8 [] l).d ≤ 7 ∧ (∀ r ∈ l, r.site ∉ ([] : List Site)) ∧ (scanSites 7 8 [] l).chosen = c ∧
    (l.filter fun r => decide (0 < r.cost) && decide (r.cost ≤ 8)).map (fun r => (⟨r.site, r.cost⟩ : Grant)) = c := by
  decide +kernel

theorem witness_HeldSetRules :
    (∀ g ∈ [(⟨5, 3⟩ : Grant), ⟨9, 4⟩], 0 < g.cost) ∧ State.keepUpTo 3 [⟨5, 3⟩, ⟨9, 4⟩] = [⟨5, 3⟩] ∧
    State.keepUpTo 7 [⟨5, 3⟩, ⟨9, 4⟩] = [⟨5, 3⟩, ⟨9, 4⟩] ∧ State.keepUpTo 2 [⟨5, 3⟩, ⟨9, 4⟩] = [] := by decide +kernel

theorem witness_SharesWithinSlope :
    linked.reserves 7 = false ∧
    ((linked.wr (R.ADM_SEAM_STS_FEAT 7) 1).modGovDie 7 fun g => { g with announced := [1] }).reserves 7 = true := by decide +kernel

theorem witness_LinkWordsReadBack :
    (∀ x ∈ [15, 2 ^ 16 - 1], x < 2 ^ 16) ∧ (List.replicate 7 (2 ^ 32 - 1)).length = 7 ∧
    (∀ x ∈ List.replicate 7 (2 ^ 32 - 1), x < 2 ^ 32) ∧ VclFrame.known 1 = true ∧ VclFrame.known 15 = false ∧
    CasFrame.known 0x40 = true ∧ CasFrame.known 0xFF = false := by decide +kernel

/-- The staging RAM with a number of records of a kind in it. -/
def stagedWith (l : List FlashRec) (lost : Nat) : State := run.modRcd fun q => { q with staged := l, dropped := lost }

theorem witness_FullStagingRam :
    (let s := stagedWith (List.replicate 256 (recOf 1)) 0; let r := recOf 0;
    s.rcd.staged.length = 256 ∧ s.frozen = false ∧ r.nmi = false) ∧
    (let b := List.replicate 255 (recOf 1); let s := stagedWith ([] ++ recOf 0 :: b) 0; let r := recOf 1;
    s.rcd.staged = [] ++ recOf 0 :: b ∧ s.rcd.staged.length = 256 ∧ s.frozen = false ∧ r.nmi = true ∧ (recOf 0).nmi = false ∧
    ∀ y ∈ b, y.nmi = true) ∧
    (let s := stagedWith (List.replicate 255 (recOf 1)) 3;
    s.rcd.staged.length < 256 ∧ s.live = true ∧ s.rcd.dropped ≠ 0) := by
  refine ⟨?_, ?_, ?_⟩ <;> decide +kernel

theorem witness_EffectiveCost :
    (let r : Asked := ⟨571, 7, 2⟩;
    r ∈ run.sampleSites 7 [⟨7, 571, 0, 0, 0⟩] ∧ (∀ k ∈ run.costRatios 7, k = run.ratio 7) ∧ run.costRatios 7 ≠ [] ∧ r.base ≠ 0) ∧
    (let r : Asked := ⟨0, 0, 0⟩; r ∈ run.sampleSites 7 [⟨7, 0, 15, 7, 3⟩] ∧ r.base = 0) := by decide +kernel

theorem witness_StartIndexVisitsEverySite :
    linked.live = true ∧ linked.frozen = false ∧ linked.stuck (Die.sat 7) = false ∧ Nat.gcd 37 576 = 1 ∧ (575 : Nat) < 576 ∧
    (0 + 467 * 37) % 576 = 575 := by decide +kernel

theorem witness_UnassignedOffset :
    run.hit 0x1FFFC = none ∧ run.live = true ∧ (awake .svp).hit 0x1FFFC = none ∧ (awake .svp).live = true ∧
    (awake .svp).runs .svp = true ∧ ((awake .svp).proc .svp).latch = none ∧ ((awake .svp).proc .svp).buf = [] ∧
    ((awake .svp).proc .svp).fail = none ∧ (awake .svp).deadTarget (0x10000000 + 0x1FFFC) = false := by decide +kernel

theorem witness_CountersStandInFreeze :
    ({ run with frozen := true } : State).frozen = true ∧ run.frozen = false := by decide +kernel

/-! Witnesses of the statements about the commands. -/

/-- No queue works on a WRITE_SET when none works on anything. -/
theorem no_writes (s : State) (h : ∀ q : Queue, s.queue[q].work = none) :
    ∀ (q : Queue) l, s.queue[q].work ≠ some (.writes l) := by
  intro q l; rw [h q]; exact nofun
/-- What holds of each of the 136 sites holds of every number below 136. -/
theorem near_clear (u : State) (h : ∀ g : Fin 136, u.masked g = true → ∀ h ∈ thmNearG g, u.masked h = false) :
    ∀ g h, g < 136 → u.masked g = true → h ∈ thmNearG g → u.masked h = false :=
  fun g k hg hm hk => h ⟨g, hg⟩ hm k hk
/-- The register at an offset has 32 bits. -/
theorem narrow (s : State) (off : Nat) (h : (s.hit off).all (fun r => !r.wide) = true) :
    ∀ h, s.hit off = some h → h.wide = false := by
  intro r hr; rw [hr] at h; simpa using h
/-- The eight bytes of a number of 64 bits read back as the number. -/
theorem bytes_back (u : Nat) (b : u < 2 ^ 64) : (bytesOf 8 u).foldr (fun x v => x % 256 + 256 * v) 0 = u := by
  have e : ∀ n m, m = n + 8 → u / 2 ^ n % 2 ^ 8 % 256 + 256 * (u / 2 ^ m) = u / 2 ^ n := by
    intro n m h; rw [h, Nat.pow_add, ← Nat.div_div_eq_div_mul]; omega
  have z : u / 2 ^ 64 = 0 := Nat.div_eq_of_lt b
  have t := e 56 64 rfl
  rw [z] at t
  change u / 2 ^ 0 % 2 ^ 8 % 256 + 256 * (u / 2 ^ 8 % 2 ^ 8 % 256 + 256 * (u / 2 ^ 16 % 2 ^ 8 % 256 + 256 *
    (u / 2 ^ 24 % 2 ^ 8 % 256 + 256 * (u / 2 ^ 32 % 2 ^ 8 % 256 + 256 * (u / 2 ^ 40 % 2 ^ 8 % 256 + 256 *
    (u / 2 ^ 48 % 2 ^ 8 % 256 + 256 * (u / 2 ^ 56 % 2 ^ 8 % 256 + 256 * 0))))))) = u
  rw [t, e 48 56 rfl, e 40 48 rfl, e 32 40 rfl, e 24 32 rfl, e 16 24 rfl, e 8 16 rfl, e 0 8 rfl]; simp
/-- Eight bytes of the UID read back as the UID. -/
theorem uid_back (l : List Nat) (h : (l.drop 8).take 8 = bytesOf 8 Config.uid) : numAt l 8 8 = Config.uid := by
  have b : Config.uid < 2 ^ 64 := by unfold Config.uid; omega
  rw [numAt, h, bytes_back _ b]
/-- The provisioning record of the witnesses is valid while its transition count is the package's. -/
theorem prov_valid (s : State) (h : s.lcN = 0) (k : s.keyFor 0 3 = true) : s.provValid (provOf provBytes true) = true := by
  have u : (provOf provBytes true).uid = Config.uid := uid_back _ rfl
  have f : (provOf provBytes true).fits = true := by decide +kernel
  have v : (provOf provBytes true).ver = 1 := by decide +kernel
  have n : (provOf provBytes true).lcN = 0 := by decide +kernel
  have g : (provOf provBytes true).signed = true := rfl
  simp [State.provValid, u, f, v, n, g, h, k]

theorem witness_BudgetRequests :
    (let s : State := run;
    s.live = true) ∧
    (let s : State := run;
    s.live = true ∧ s.on R.BUD_JOB_CTL_RUNNING = false) ∧
    (let s : State := run.flag R.BUD_JOB_CTL_RUNNING true;
    s.live = true ∧ s.on R.BUD_JOB_CTL_RUNNING = true) := by
  refine ⟨?_, ?_, ?_⟩ <;> decide +kernel

theorem witness_CalibrationCommands :
    (let s : State := (regulating 7 id).wr (R.RGC_L_CAL_MASK 7) 2048; let l : Loop := 7; let p : Phase := 11;
    let left : List Phase := [];
    s.rgcOn = true ∧ s.on (R.RGC_L_CAL_BUSY l) = false ∧
    ((s.inRot l).filter fun (p : Phase) => bit (s.rd (R.RGC_L_CAL_MASK l)) p.val) = p :: left) ∧
    (let s : State := (regulating 7 id).flag (R.RGC_L_CAL_BUSY 7) true; let l : Loop := 7;
    s.rgcOn = true ∧ s.on (R.RGC_L_CAL_BUSY l) = true) ∧
    (let s : State := regulating 7 fun L => { L with cal := some (.waiting 5), calLeft := [11] }; let l : Loop := 7;
    let p : Phase := 11; let x : Nat := 5;
    s.rgcOn = true ∧ s.loop[l].cal = some (.waiting x) ∧ s.loop[l].calLeft.head? = some p ∧ s.calReason l = 0 ∧
    s.calPaused l = false) ∧
    (let s : State := regulating 7 fun L => { L with cal := some (.derated true), calLeft := [11] }; let l : Loop := 7;
    let p : Phase := 11;
    s.rgcOn = true ∧ s.loop[l].cal = some (.derated true) ∧ s.loop[l].calLeft.head? = some p ∧ s.calPaused l = false) ∧
    (let s : State := regulating 7 fun L => { L with cal := some (.derated false), calLeft := [11] }; let l : Loop := 7;
    let p : Phase := 11; let b : Bool := false;
    s.rgcOn = true ∧ s.loop[l].cal = some (.derated b) ∧ s.loop[l].calLeft.head? = some p) ∧
    (let s : State := regulating 7 fun L => { L with cal := some (.offset 5), calLeft := [11] }; let l : Loop := 7;
    let p : Phase := 11; let x : Nat := 5;
    s.rgcOn = true ∧ s.loop[l].cal = some (.offset x) ∧ s.loop[l].calLeft.head? = some p ∧ s.calPaused l = false) ∧
    (let s : State := regulating 7 fun L => { L with cal := some (.gain 256 9 0), calLeft := [11] }; let l : Loop := 7;
    let p : Phase := 11; let left : List Phase := []; let k : Nat := 256; let a : Int := 9; let b : Int := 0;
    s.rgcOn = true ∧ s.loop[l].cal = some (.gain k a b) ∧ s.loop[l].calLeft = p :: left ∧ 256 ≤ k ∧ s.calPaused l = false) ∧
    (let s : State := run.modLoop 7 fun L => { L with cal := some (.waiting 5), calLeft := [11] }; let l : Loop := 7;
    let p : Phase := 11; let left : List Phase := []; let x : Nat := 5;
    s.rgcOn = true ∧ s.loop[l].cal = some (.waiting x) ∧ s.loop[l].calLeft = p :: left ∧ s.regulates l = false) := by
  refine ⟨?_, ?_, ?_, ?_, ?_, ?_, ?_, ?_⟩ <;> decide +kernel

theorem witness_CascadeFreezeCommands :
    (let s : State := run;
    s.live = true ∧ s.isRoot = true ∧ s.mayAct = true ∧ s.cas.sched = [] ∧ s.cas.opSeen = [] ∧ s.casFrozen = false) ∧
    (let s : State := run; let scope : Nat := 1;
    s.live = true ∧ s.isRoot = true ∧ s.mayAct = true ∧ s.cas.sched = [] ∧ s.cas.opSeen = [] ∧ scope < 2) ∧
    (let s : State := run.flag R.CAS_SCHED_FROZEN true;
    s.live = true ∧ s.isRoot = true ∧ s.casFrozen = true) ∧
    (let s : State := run; let scope : Nat := 3;
    s.live = true ∧ s.isRoot = true ∧ 2 ≤ scope ∧ scope < 4) ∧
    (let s : State := net 1 id; let k : Lane := 8;
    s.live = true ∧ s.isRoot = false ∧ s.upLane = some k ∧ Free s k) ∧
    (let s : State := net 1 id; let k : Lane := 8; let scope : Nat := 3;
    s.live = true ∧ s.isRoot = false ∧ s.upLane = some k ∧ Free s k ∧ scope < 4) ∧
    (let s : State := (net 1 id).modCas fun c => { c with sched := [⟨0, 0, 7, 5000⟩], freezeAt := some 5000 };
    let o := (⟨0, 0, 7, 5000⟩ : SchedOp); let x : Nat := 5000;
    s.live = true ∧ s.pendingOp 0 = some o ∧ s.cas.freezeAt = some x ∧ s.isCox = false) ∧
    (let s : State := run;
    s.live = true ∧ s.pendingOp 0 = none) ∧
    (let s : State := (net 1 id).modCas fun c => { c with sched := [⟨1, 0, 7, 5000⟩] }; let o := (⟨1, 0, 7, 5000⟩ : SchedOp);
    s.live = true ∧ s.pendingOp 1 = some o ∧ s.casFrozen = false ∧ s.isCox = false) ∧
    (let s : State := ((net 1 id).flag R.CAS_SCHED_FROZEN true).modCas fun c => { c with sched := [⟨1, 0, 7, 5000⟩] };
    let o := (⟨1, 0, 7, 5000⟩ : SchedOp);
    s.live = true ∧ s.pendingOp 1 = some o ∧ s.casFrozen = true ∧ s.cas.later = [] ∧ s.cas.resetHeld = none ∧ s.cas.obj = [] ∧
    (∀ j : Lane, s.cas.lane[j].held = []) ∧ s.cas.bwait = [] ∧ s.cas.swait = [] ∧ s.isCox = false) ∧
    (let s : State := ((net 1 id).flag R.CAS_SCHED_FROZEN true).modCas fun c => { c with sched := [⟨2, 3, 7, 5000⟩] };
    let o := (⟨2, 3, 7, 5000⟩ : SchedOp);
    s.live = true ∧ s.pendingOp 2 = some o ∧ s.casFrozen = true ∧ s.isCox = false) ∧
    (let s : State := (net 1 id).modCas fun c => { c with sched := [⟨2, 1, 7, 5000⟩] }; let o := (⟨2, 1, 7, 5000⟩ : SchedOp);
    s.live = true ∧ s.pendingOp 2 = some o ∧ s.casFrozen = false) ∧
    (let s : State := (((net 2 fun s => s.wr R.CAS_STATUS_ROLE 1).flag R.CAS_PACE_CFG_EN true).wr R.CAS_VER_CFEAT 1);
    s.live = true ∧ s.isCox = true ∧ s.on R.CAS_PACE_CFG_EN = true ∧ bit (s.rd R.CAS_VER_CFEAT) 0 = true ∧ s.mayAct = true ∧
    s.casFrozen = false ∧ s.cas.pace = none) ∧
    (let s : State := ((((net 2 fun s => s.wr R.CAS_STATUS_ROLE 1).flag R.CAS_PACE_CFG_EN true).wr R.CAS_VER_CFEAT 1).wr R.CAS_PACE_CFG_RATIO 3).modCas fun c => { c with pace := some ⟨7, 2, 20000, 90000⟩ };
    let p := (⟨7, 2, 20000, 90000⟩ : Pace);
    s.live = true ∧ s.isCox = true ∧ s.on R.CAS_PACE_CFG_EN = true ∧ bit (s.rd R.CAS_VER_CFEAT) 0 = true ∧ s.mayAct = true ∧
    s.casFrozen = false ∧ s.cas.pace = some p ∧ p.ratio ≤ s.rd R.CAS_PACE_CFG_RATIO) ∧
    (let s : State := run;
    s.live = true ∧ (s.isCox = false ∨ s.on R.CAS_PACE_CFG_EN = false)) ∧
    (let s : State := { run with gov := { pace := some (3, 900, 1000, 9000) } }; let a : Nat := 3; let b : Nat := 900;
    let c : Nat := 1000; let stop : Nat := 9000;
    s.live = true ∧ s.gov.pace = some (a, b, c, stop) ∧ s.gov.paceNext = []) ∧
    (let s : State := { run with gov := { pace := some (3, 900, 1000, 9000), paceNext := [(3, 900, 9000, 12000)] } };
    let x := (3, 900, 1000, 9000);
    s.live = true ∧ s.gov.pace = some x ∧ s.gov.paceNext ≠ []) := by
  refine ⟨?_, ?_, ?_, ?_, ?_, ?_, ?_, ?_, ?_, ?_, ?_, ?_, ?_, ?_, ?_, ?_, ?_⟩ <;> decide +kernel

theorem witness_CascadeLinkCommands :
    (let s : State := net 1 id; let k : Lane := 8; let f : CasFrame := { fr 0x20 [] with w15 := 0 };
    s.live = true ∧ bit (s.rd R.CAS_CTL_LANE_EN) k.val = true ∧ f.crcGood = false ∧ s.laneUp k = true) ∧
    (let s : State := net 1 id; let k : Lane := 8; let f : CasFrame := badVer;
    s.live = true ∧ bit (s.rd R.CAS_CTL_LANE_EN) k.val = true ∧ f.crcGood = true ∧ f.ver ≠ 1) ∧
    (let s : State := net 1 fun s => s.flag R.CAS_SCHED_FROZEN true; let k : Lane := 8;
    let a : CasRx := { frame := fr 0x20 [5] }; let u : State := accepted s a.frame; let v : State := passedOn s a;
    s.live = true ∧ s.casFrozen = true ∧ s.accept k a.frame = (u, true) ∧ u.transit k a = (v, true) ∧ v.casFrozen = true ∧
    State.holds a.frame.type = true ∧ v.cas.lane[k].held.length < 255) ∧
    (let s : State := net 1 fun s => s.modCas fun c => { c with nextSync := 4 }; let k : Lane := 8;
    s.live = true ∧ s.upLane = some k ∧ Free s k) ∧
    (let s : State := run;
    s.live = true ∧ s.upLane = none) ∧
    (let s : State := (net 2 fun s => ((s.wr R.CAS_STATUS_ROLE 1).wr R.CAS_STATUS_STATE 1).wr R.CAS_CFG_EXPECT 8).modCas fun c => { c with firstTopo := some 5 };
    let x : Nat := 5;
    s.live = true ∧ s.cas.firstTopo = some x ∧ s.isCox = true ∧ s.casState = 1 ∧ 2 * s.rd R.CAS_STATUS_N ≤ s.rd R.CAS_CFG_EXPECT) ∧
    (let s : State := (net 2 fun s => ((s.wr R.CAS_STATUS_ROLE 1).wr R.CAS_STATUS_STATE 1).wr R.CAS_CFG_EXPECT 7).modCas fun c => { c with firstTopo := some 5 };
    let x : Nat := 5;
    s.live = true ∧ s.cas.firstTopo = some x ∧ s.isCox = true ∧ s.casState = 1 ∧ s.rd R.CAS_CFG_EXPECT < 2 * s.rd R.CAS_STATUS_N) ∧
    (let s : State := net 1 fun s => s.modCas fun c => { c with probe := some (6, 90) }; let n : Nat := 6; let x : Nat := 90;
    s.live = true ∧ s.cas.probe = some (n, x)) ∧
    (let s : State := net 2 fun s => s.wr R.CAS_STATUS_ROLE 1; let k : Lane := 8;
    s.live = true ∧ s.isCox = true ∧ s.downs = [k] ∧ Free s k ∧ s.casFrozen = false ∧ s.on R.CAS_BC_CTL_BUSY = false ∧
    s.isRoot = true ∧ s.mayAct = true) ∧
    (let s : State := net 1 id; let k : Lane := 8;
    s.live = true ∧ s.on R.CAS_BC_CTL_BUSY = false ∧ s.isRoot = false ∧ s.laneUp k = true) ∧
    (let s : State := (net 1 id).flag R.CAS_BC_CTL_BUSY true;
    s.live = true ∧ s.on R.CAS_BC_CTL_BUSY = true) ∧
    (let s : State := net 1 fun s => s.modCas fun c => { c with mine := [(⟨1, 5, 0, [1, 2, 3, 4]⟩, 90)] }; let k : Lane := 8;
    let b : Bcast := ⟨1, 5, 0, [1, 2, 3, 4]⟩; let x : Nat := 90;
    s.live = true ∧ s.cas.mine.find? (fun m => m.1.req == b.req) = some (b, x) ∧ s.isRoot = false ∧ s.casFrozen = false ∧
    s.upLane = some k ∧ Free s k) ∧
    (let s : State := net 3 id; let k : Lane := 8;
    s.live = true ∧ s.laneUp k = true ∧ s.upLane ≠ some k ∧ s.cas.lane[k].sub = none ∧ s.isCox = false) ∧
    (let s : State := net 1 id; let k : Lane := 8;
    s.live = true ∧ s.laneUp k = true ∧ s.upLane = some k ∧ s.casState = 2 ∧ s.isStandby = false ∧ s.cas.lane[k].fails = []) ∧
    (let s : State := (net 1 id).flag (R.CAS_LANE_STS_UP 8) false; let k : Lane := 8;
    s.live = true ∧ s.laneUp k = false ∧ bit (s.rd R.CAS_CTL_LANE_EN) k.val = true) ∧
    (let s : State := net 1 id; let k : Lane := 8;
    s.live = true ∧ s.laneUp k = true) := by
  refine ⟨?_, ?_, ?_, ?_, ?_, ?_, ?_, ?_, ?_, ?_, ?_, ?_, ?_, ?_, ?_, ?_⟩ <;> decide +kernel

theorem witness_CascadeObjectCommands :
    (let s : State := run.wr R.CAS_OBJ_SEL_INDEX 16383; let ty : Nat := 8; let o : Nat := 16383;
    s.live = true ∧ o = s.rd R.CAS_OBJ_SEL_INDEX ∧ s.barrierBusy o = false ∧ ty % 8 = (s.obj o).type) ∧
    (let s : State := run.wr R.CAS_OBJ_SEL_INDEX 16383; let o : Nat := 16383;
    s.live = true ∧ o = s.rd R.CAS_OBJ_SEL_INDEX ∧ s.barrierBusy o = false) ∧
    (let s : State := (net 1 fun s => s.wr R.CAS_OBJ_SEL_INDEX 16383); let o : Nat := 16383;
    s.live = true ∧ o = s.rd R.CAS_OBJ_SEL_INDEX ∧ s.barrierBusy o = false) ∧
    (let s : State := (run.wr R.CAS_OBJ_SEL_INDEX 16383).modObj 16383 fun o => { o with type := 1, arrived := true, member := true };
    let o : Nat := 16383;
    s.live = true ∧ o = s.rd R.CAS_OBJ_SEL_INDEX ∧ s.barrierBusy o = true) ∧
    (let s : State := run.modObj 16383 fun o => { o with type := 1, member := true }; let o : Nat := 16383;
    s.live = true ∧ o < 2 ^ 14 ∧ (s.obj o).type = 1 ∧ (s.obj o).member = true ∧ (s.obj o).arrived = false ∧
    (s.obj o).kids = [] ∧ s.isRoot = true ∧ s.mayAct = true ∧ s.casFrozen = false ∧ s.frozen = false) ∧
    (let s : State := net 1 fun s => s.modObj 16383 fun o => { o with type := 1, member := true }; let o : Nat := 16383;
    s.live = true ∧ o < 2 ^ 14 ∧ (s.obj o).type = 1 ∧ (s.obj o).member = true ∧ (s.obj o).arrived = false ∧
    (s.obj o).kids = [] ∧ s.isRoot = false) ∧
    (let s : State := run.modObj 16383 fun o => { o with arrived := true }; let o : Nat := 16383;
    s.live = true ∧ o < 2 ^ 14 ∧ ((s.obj o).type ≠ 1 ∨ (s.obj o).member = false ∨ (s.obj o).arrived = true)) ∧
    (let s : State := run.wr R.CAS_OBJ_SEL_INDEX 16383; let o : Nat := 16383;
    s.live = true ∧ o = s.rd R.CAS_OBJ_SEL_INDEX ∧ (s.obj o).member = false) ∧
    (let s : State := (run.wr R.CAS_OBJ_SEL_INDEX 16383).modObj 16383 fun o => { o with type := 3, member := true };
    let v : Nat := 2 ^ 32 + 5; let o : Nat := 16383;
    s.live = true ∧ o = s.rd R.CAS_OBJ_SEL_INDEX ∧ (s.obj o).member = true ∧ 2 ≤ (s.obj o).type ∧ (s.obj o).type ≤ 5 ∧
    (s.obj o).kids = [] ∧ (s.obj o).sent = none ∧ v % 2 ^ 32 ≠ 0) ∧
    (let s : State := (net 1 fun s => s.wr R.CAS_OBJ_SEL_INDEX 16383).modObj 16383 fun o => { o with type := 3, member := true };
    let v : Nat := 2 ^ 32 + 5; let o : Nat := 16383;
    s.live = true ∧ o = s.rd R.CAS_OBJ_SEL_INDEX ∧ (s.obj o).member = true ∧ 2 ≤ (s.obj o).type ∧ (s.obj o).type ≤ 5 ∧
    (s.obj o).kids = [] ∧ (s.obj o).sent = none ∧ v % 2 ^ 32 ≠ 0) ∧
    (let s : State := { ((run.wr R.CAS_OBJ_SEL_INDEX 16383).modObj 16383 fun o => { o with type := 7, member := true }) with now := 50 };
    let o : Nat := 16383;
    s.live = true ∧ o = s.rd R.CAS_OBJ_SEL_INDEX ∧ (s.obj o).member = true ∧ (s.obj o).type = 7 ∧ s.isRoot = true ∧
    (s.obj o).stamp.1 < s.lkHalfAt s.now) ∧
    (let s : State := net 1 fun s => s.modObj 16383 fun o => { o with due := true, type := 4, member := true, val := 7 };
    let o : Nat := 16383;
    s.live = true ∧ (s.obj o).due = true ∧ 2 ≤ (s.obj o).type ∧ (s.obj o).type ≤ 5 ∧ s.isRoot = false ∧
    (s.aggregate o, s.members o) ≠ (s.obj o).sent.getD (0, 0)) ∧
    (let s : State := run; let o : Nat := 16383;
    s.live = true ∧ (s.obj o).due = false) := by
  refine ⟨?_, ?_, ?_, ?_, ?_, ?_, ?_, ?_, ?_, ?_, ?_, ?_, ?_⟩ <;> decide +kernel

theorem witness_CascadeObjectFrames :
    (let s : State := net 1 id; let k : Lane := 8; let f : CasFrame := fr 0x15 [6]; let u : State := accepted s f;
    s.live = true ∧ s.accept k f = (u, true) ∧ f.type = 0x15 ∧ u.ownProbe f.p0 = false ∧
    u.cas.probed.find? (fun p => p.1 % 2 ^ 32 == f.p0) = none) ∧
    (let s : State := net 1 fun s => s.modCas fun c => { c with probe := some (6, 90) }; let k : Lane := 8;
    let f : CasFrame := fr 0x15 [6]; let a : CasRx := { frame := f }; let u : State := accepted s f;
    let v : State := passedOn s a;
    s.live = true ∧ s.accept k f = (u, true) ∧ a.frame = f ∧ u.transit k a = (v, true) ∧ v.casFrozen = false ∧ f.type = 0x15) ∧
    (let s : State := net 1 id; let k : Lane := 8; let f : CasFrame := fr 0x16 [];
    let a : CasRx := { frame := f, item := some (.count 5 3) }; let n : Nat := 5; let tm : Nat := 3;
    let u : State := accepted s f; let v : State := passedOn s a;
    s.live = true ∧ s.accept k f = (u, true) ∧ a.frame = f ∧ u.transit k a = (v, true) ∧ v.casFrozen = false ∧ f.type = 0x16 ∧
    a.item = some (.count n tm)) ∧
    (let s : State := net 1 id; let k : Lane := 8; let f : CasFrame := fr 0x16 [];
    let a : CasRx := { frame := f, item := some (.sched ⟨1, 0, 7, 5000⟩) }; let o := (⟨1, 0, 7, 5000⟩ : SchedOp);
    let u : State := accepted s f; let v : State := passedOn s a;
    s.live = true ∧ s.accept k f = (u, true) ∧ a.frame = f ∧ u.transit k a = (v, true) ∧ v.casFrozen = false ∧ f.type = 0x16 ∧
    a.item = some (.sched o)) ∧
    (let s : State := net 1 id; let k : Lane := 8; let f : CasFrame := fr 0x17 [6]; let a : CasRx := { frame := f };
    let u : State := accepted s f; let v : State := passedOn s a;
    s.live = true ∧ s.accept k f = (u, true) ∧ a.frame = f ∧ u.transit k a = (v, true) ∧ v.casFrozen = false ∧ f.type = 0x17) ∧
    (let s : State := net 2 fun s => s.modObj 5 fun o => { o with type := 2 }; let k : Lane := 8;
    let f : CasFrame := fr 0x20 [5, 6]; let a : CasRx := { frame := f, objType := 3 }; let u : State := accepted s f;
    let v : State := passedOn s a;
    s.live = true ∧ s.accept k f = (u, true) ∧ a.frame = f ∧ u.transit k a = (v, true) ∧ v.casFrozen = false ∧ f.type = 0x20 ∧
    (v.obj (bits f.p0 0 14)).type ≠ a.objType) ∧
    (let s : State := net 2 fun s => (s.wr R.CAS_STATUS_ROLE 1).modObj 5 fun o => { o with type := 2 }; let k : Lane := 8;
    let f : CasFrame := fr 0x20 [5, 6, 3]; let a : CasRx := { frame := f, objType := 2 }; let u : State := accepted s f;
    let v : State := passedOn s a;
    s.live = true ∧ s.accept k f = (u, true) ∧ a.frame = f ∧ u.transit k a = (v, true) ∧ v.casFrozen = false ∧ f.type = 0x20 ∧
    (v.obj (bits f.p0 0 14)).type = a.objType ∧ 2 ≤ a.objType ∧ a.objType ≤ 5) ∧
    (let s : State := net 2 fun s => ((s.wr R.CAS_STATUS_ROLE 1).wr (R.CAS_LANE_STS_PEER 8) 9).modObj 5 fun o => { o with type := 7 };
    let k : Lane := 8; let f : CasFrame := fr 0x20 [5, 6, 3]; let a : CasRx := { frame := f, objType := 7 };
    let u : State := accepted s f; let v : State := passedOn s a;
    s.live = true ∧ s.accept k f = (u, true) ∧ a.frame = f ∧ u.transit k a = (v, true) ∧ v.casFrozen = false ∧ f.type = 0x20 ∧
    (v.obj (bits f.p0 0 14)).type = 7 ∧ a.objType = 7 ∧ v.isRoot = true ∧ v.setCounts k f = false ∧
    (v.obj (bits f.p0 0 14)).stamp.1 < f.stamp) ∧
    (let s : State := net 1 fun s => s.modObj 5 fun o => { o with type := 1, gen := 3 }; let k : Lane := 8;
    let f : CasFrame := fr 0x21 [5 + 3 * 2 ^ 16]; let a : CasRx := { frame := f, objType := 1, members := 4 };
    let u : State := accepted s f; let v : State := passedOn s a;
    s.live = true ∧ s.accept k f = (u, true) ∧ a.frame = f ∧ u.transit k a = (v, true) ∧ v.casFrozen = false ∧ f.type = 0x21 ∧
    (v.obj (bits f.p0 0 14)).type = 1 ∧ a.objType = 1 ∧ bits f.p0 16 8 = (v.obj (bits f.p0 0 14)).gen) ∧
    (let s : State := net 1 fun s => s.modObj 5 fun o => { o with type := 2, res := 9 }; let k : Lane := 8;
    let f : CasFrame := fr 0x21 [5, 9]; let a : CasRx := { frame := f, objType := 2, members := 4 };
    let u : State := accepted s f; let v : State := passedOn s a;
    s.live = true ∧ s.accept k f = (u, true) ∧ a.frame = f ∧ u.transit k a = (v, true) ∧ v.casFrozen = false ∧ f.type = 0x21 ∧
    (v.obj (bits f.p0 0 14)).type = a.objType ∧ 2 ≤ a.objType ∧ a.objType ≤ 5) ∧
    (let s : State := net 2 fun s => s.modObj 5 fun o => { o with type := 2 }; let k : Lane := 8;
    let f : CasFrame := fr 0x22 (State.bulkWords [(5, 3, 900)]); let a : CasRx := { frame := f }; let o : Nat := 5;
    let g : Nat := 3; let x : Nat := 900; let u : State := accepted s f; let v : State := passedOn s a;
    s.live = true ∧ s.accept k f = (u, true) ∧ a.frame = f ∧ u.transit k a = (v, true) ∧ v.casFrozen = false ∧ f.type = 0x22 ∧
    f.payload = State.bulkWords [(o, g, x)] ∧ o < 2 ^ 14 ∧ g < 2 ^ 8 ∧ x < 2 ^ 32 ∧ 2 ≤ (v.obj o).type ∧ (v.obj o).type ≤ 5) ∧
    (let s : State := net 2 id; let k : Lane := 8; let f : CasFrame := fr 0x22 (State.bulkWords [(5, 3, 900)]);
    let a : CasRx := { frame := f }; let o : Nat := 5; let g : Nat := 3; let x : Nat := 900; let u : State := accepted s f;
    let v : State := passedOn s a;
    s.live = true ∧ s.accept k f = (u, true) ∧ a.frame = f ∧ u.transit k a = (v, true) ∧ v.casFrozen = false ∧ f.type = 0x22 ∧
    f.payload = State.bulkWords [(o, g, x)] ∧ o < 2 ^ 14 ∧ g < 2 ^ 8 ∧ x < 2 ^ 32 ∧ (v.obj o).type = 0) ∧
    (let s : State := net 2 fun s => s.wr R.CAS_STATUS_ROLE 1; let k : Lane := 8;
    let f : CasFrame := fr 0x30 [1 + 5 * 2 ^ 16, 1, 2, 3, 4]; let a : CasRx := { frame := f }; let u : State := accepted s f;
    let v : State := passedOn s a;
    s.live = true ∧ s.accept k f = (u, true) ∧ a.frame = f ∧ u.transit k a = (v, true) ∧ v.casFrozen = false ∧ f.type = 0x30 ∧
    v.mayAct = true) ∧
    (let s : State := (net 2 fun s => s.wr R.CAS_STATUS_ROLE 1).wr R.CAS_CFG_EXPECT 8; let k : Lane := 8;
    let f : CasFrame := fr 0x30 [1 + 5 * 2 ^ 16, 1, 2, 3, 4]; let a : CasRx := { frame := f }; let u : State := accepted s f;
    let v : State := passedOn s a;
    s.live = true ∧ s.accept k f = (u, true) ∧ a.frame = f ∧ u.transit k a = (v, true) ∧ v.casFrozen = false ∧ f.type = 0x30 ∧
    v.mayAct = false) ∧
    (let s : State := net 1 id; let k : Lane := 8; let f : CasFrame := fr 0x31 [0, 4, 0, 0, 0, 1, 77];
    let a : CasRx := { frame := f }; let u : State := accepted s f; let v : State := passedOn s a;
    s.live = true ∧ s.accept k f = (u, true) ∧ a.frame = f ∧ u.transit k a = (v, true) ∧ v.casFrozen = false ∧ f.type = 0x31 ∧
    v.cas.bseen.contains f.p5 = false ∧ bits f.p0 0 8 = 0 ∧ bits f.p6 0 14 ≠ v.index) ∧
    (let s : State := net 1 id; let k : Lane := 8; let f : CasFrame := fr 0x31 [1, 4, 0, 0, 0, 1, 77];
    let a : CasRx := { frame := f }; let u : State := accepted s f; let v : State := passedOn s a;
    s.live = true ∧ s.accept k f = (u, true) ∧ a.frame = f ∧ u.transit k a = (v, true) ∧ v.casFrozen = false ∧ f.type = 0x31 ∧
    v.cas.bseen.contains f.p5 = false ∧ bits f.p0 0 8 = 1) ∧
    (let s : State := net 1 id; let k : Lane := 8; let f : CasFrame := fr 0x31 [2, 4, 0, 0, 0, 1, 77];
    let a : CasRx := { frame := f }; let u : State := accepted s f; let v : State := passedOn s a;
    s.live = true ∧ s.accept k f = (u, true) ∧ a.frame = f ∧ u.transit k a = (v, true) ∧ v.casFrozen = false ∧ f.type = 0x31 ∧
    v.cas.bseen.contains f.p5 = false ∧ bits f.p0 0 8 = 2) ∧
    (let s : State := ((((net 1 id).flag R.SEN_CTL_DIGEST_EN true).wr (R.SEN_DIE_GROUP_GROUP 7) 6).wr (R.SEN_DIE_GROUP_SIZE 7) 2).modSenDie 7 fun q => { q with closed := [(4, 9)] };
    let k : Lane := 8; let f : CasFrame := fr 0x31 [3, 6 + 2 ^ 16, 4, 8, 0, 1, 77]; let a : CasRx := { frame := f };
    let d : Die := 7; let x : Nat := 9; let u : State := accepted s f; let v : State := passedOn s a;
    s.live = true ∧ s.accept k f = (u, true) ∧ a.frame = f ∧ u.transit k a = (v, true) ∧ v.casFrozen = false ∧ f.type = 0x31 ∧
    v.cas.bseen.contains f.p5 = false ∧ bits f.p0 0 8 = 3 ∧ v.rd (R.SEN_DIE_GROUP_GROUP d) = bits f.p1 0 16 ∧
    bits f.p1 16 2 ≠ 2 ∧ v.grouped d f.p2 = true ∧ Tab.find v.sen.die[d].closed f.p2 = some x ∧ x ≠ f.p3 + f.p4 * 2 ^ 32 ∧
    v.retracted f.p2 = false ∧ v.sen.verdicts = []) ∧
    (let s : State := net 2 fun s => s.wr R.CAS_STATUS_ROLE 1; let k : Lane := 8; let f : CasFrame := fr 0x32 [16];
    let a : CasRx := { frame := f }; let u : State := accepted s f; let v : State := passedOn s a;
    s.live = true ∧ s.accept k f = (u, true) ∧ a.frame = f ∧ u.transit k a = (v, true) ∧ v.casFrozen = false ∧ f.type = 0x32 ∧
    v.mayAct = true ∧ bits f.p0 0 2 = 0 ∧ v.cas.sched = [] ∧ v.cas.opSeen = []) ∧
    (let s : State := (net 2 fun s => s.wr R.CAS_STATUS_ROLE 1).modCas fun c => { c with sched := [⟨1, 0, 7, 5000⟩] };
    let k : Lane := 8; let f : CasFrame := fr 0x32 [1]; let a : CasRx := { frame := f }; let u : State := accepted s f;
    let v : State := passedOn s a;
    s.live = true ∧ s.accept k f = (u, true) ∧ a.frame = f ∧ u.transit k a = (v, true) ∧ v.casFrozen = false ∧ f.type = 0x32 ∧
    bits f.p0 0 2 < 2 ∧ v.cas.sched.any (fun o => o.kind == bits f.p0 0 2) = true) ∧
    (let s : State := net 1 id; let k : Lane := 8; let f : CasFrame := fr 0x33 [1 + 7 * 2 ^ 16, 5000];
    let a : CasRx := { frame := f }; let u : State := accepted s f; let v : State := passedOn s a;
    s.live = true ∧ s.accept k f = (u, true) ∧ a.frame = f ∧ u.transit k a = (v, true) ∧ v.casFrozen = false ∧ f.type = 0x33 ∧
    v.cas.opSeen.contains (bits f.p0 16 16) = false) ∧
    (let s : State := net 2 id; let k : Lane := 8; let f : CasFrame := fr 0x34 [900]; let a : CasRx := { frame := f };
    let u : State := accepted s f; let v : State := passedOn s a;
    s.live = true ∧ s.accept k f = (u, true) ∧ a.frame = f ∧ u.transit k a = (v, true) ∧ v.casFrozen = false ∧ f.type = 0x34) ∧
    (let s : State := net 1 id; let k : Lane := 8; let f : CasFrame := fr 0x35 [900 + 3 * 2 ^ 16, 5000, 0, 9000];
    let a : CasRx := { frame := f }; let u : State := accepted s f; let v : State := passedOn s a;
    s.live = true ∧ s.accept k f = (u, true) ∧ a.frame = f ∧ u.transit k a = (v, true) ∧ v.casFrozen = false ∧ f.type = 0x35) ∧
    (let s : State := (net 1 id).wr (R.SEN_DIE_GROUP_SIZE 1) 2; let k : Lane := 8;
    let f : CasFrame := fr 0x40 [1 + 7 * 2 ^ 16 + 2 ^ 20, 3, 4, 5]; let a : CasRx := { frame := f };
    let u : State := accepted s f; let v : State := passedOn s a;
    s.live = true ∧ s.accept k f = (u, true) ∧ a.frame = f ∧ u.transit k a = (v, true) ∧ v.casFrozen = false ∧ f.type = 0x40 ∧
    v.retracted f.p1 = false ∧ v.sen.verdicts = [] ∧ v.sen.cmps = [] ∧ 1 < v.rd (R.SEN_DIE_GROUP_SIZE (bits f.p0 20 3))) := by
  refine ⟨?_, ?_, ?_, ?_, ?_, ?_, ?_, ?_, ?_, ?_, ?_, ?_, ?_, ?_, ?_, ?_, ?_, ?_, ?_, ?_, ?_, ?_, ?_, ?_⟩ <;> decide +kernel

theorem witness_CascadeTreeFrames :
    (let s : State := net 1 id; let k : Lane := 8; let f : CasFrame := fr 0x01 [5, 0, 2 * 2 ^ 16]; let u : State := accepted s f;
    let v : State := passed s f;
    s.live = true ∧ s.accept k f = (u, true) ∧ u.transit k { frame := f } = (v, true) ∧ v.casFrozen = false ∧ f.type = 0x01 ∧
    (State.readHello f).major ≠ v.rd R.CAS_VER_MAJ ∧ v.cas.lane[k].refused = false) ∧
    (let s : State := net 1 id; let k : Lane := 8; let f : CasFrame := fr 0x01 [5, 0, 2 ^ 16]; let u : State := accepted s f;
    let v : State := passed s f;
    s.live = true ∧ s.accept k f = (u, true) ∧ u.transit k { frame := f } = (v, true) ∧ v.casFrozen = false ∧ f.type = 0x01 ∧
    (State.readHello f).major = v.rd R.CAS_VER_MAJ) ∧
    (let s : State := net 1 id; let k : Lane := 8; let f : CasFrame := fr 0x02 [4, 0]; let u : State := accepted s f;
    let v : State := passed s f;
    s.live = true ∧ s.accept k f = (u, true) ∧ u.transit k { frame := f } = (v, true) ∧ v.casFrozen = false ∧ f.type = 0x02 ∧
    bit f.p1 0 = false ∧ v.cas.lane[k].queue = []) ∧
    (let s : State := net 1 fun s => s.modLane 8 fun l => { l with queue := [{ type := 0x20, dir := 1, src := 0 }] };
    let k : Lane := 8; let f : CasFrame := fr 0x02 [4, 0]; let q := ({ type := 0x20, dir := 1, src := 0 } : CasSend);
    let more := ([] : List CasSend); let u : State := accepted s f; let v : State := passed s f;
    s.live = true ∧ s.accept k f = (u, true) ∧ u.transit k { frame := f } = (v, true) ∧ v.casFrozen = false ∧ f.type = 0x02 ∧
    bit f.p1 0 = false ∧ v.cas.lane[k].queue = q :: more ∧ (v.cas.lane[k].replay.filter fun g => g.lseq != f.p0).length < 64) ∧
    (let s : State := net 1 fun s => s.modLane 8 fun l => { l with replay := [fr 0x20 []] }; let k : Lane := 8;
    let f : CasFrame := fr 0x02 [9, 1]; let g := fr 0x20 []; let u : State := accepted s f; let v : State := passed s f;
    s.live = true ∧ s.accept k f = (u, true) ∧ u.transit k { frame := f } = (v, true) ∧ v.casFrozen = false ∧ f.type = 0x02 ∧
    bit f.p1 0 = true ∧ v.cas.lane[k].replay.find? (fun g => g.lseq == f.p0) = some g) ∧
    (let s : State := net 1 id; let k : Lane := 8; let f : CasFrame := fr 0x03 []; let u : State := accepted s f;
    let v : State := passed s f;
    s.live = true ∧ s.accept k f = (u, true) ∧ u.transit k { frame := f } = (v, true) ∧ v.casFrozen = false ∧ f.type = 0x03 ∧
    Free v k) ∧
    (let s : State := net 1 id; let k : Lane := 8; let f : CasFrame := fr 0x04 [1000, 0, 2000, 0]; let u : State := accepted s f;
    let v : State := passed s f;
    s.live = true ∧ s.accept k f = (u, true) ∧ u.transit k { frame := f } = (v, true) ∧ v.casFrozen = false ∧ f.type = 0x04) ∧
    (let s : State := net 2 fun s => s.wr R.CAS_STATUS_STATE 0; let k : Lane := 8; let f : CasFrame := fr 0x10 [2];
    let u : State := accepted s f; let v : State := passed s f;
    s.live = true ∧ s.accept k f = (u, true) ∧ u.transit k { frame := f } = (v, true) ∧ v.casFrozen = false ∧ f.type = 0x10 ∧
    v.casState = 0) ∧
    (let s : State := net 2 id; let k : Lane := 8; let f : CasFrame := fr 0x10 [2]; let u : State := accepted s f;
    let v : State := passed s f;
    s.live = true ∧ s.accept k f = (u, true) ∧ u.transit k { frame := f } = (v, true) ∧ v.casFrozen = false ∧ f.type = 0x10 ∧
    v.isCox = false ∧ (v.casState = 1 ∨ v.casState = 2) ∧ v.upLane ≠ some k ∧
    (v.cas.lane[k].sub.isSome = true ∨ v.downs.length < 8)) ∧
    (let s : State := (net 3 fun s => s.wr R.CAS_STATUS_ROLE 1).wr R.CAS_VER_CMIN 2; let k : Lane := 8;
    let f : CasFrame := fr 0x10 [2]; let u : State := accepted s f; let v : State := passed s f;
    s.live = true ∧ s.accept k f = (u, true) ∧ u.transit k { frame := f } = (v, true) ∧ v.casFrozen = false ∧ f.type = 0x10 ∧
    v.isCox = true ∧ v.casState = 2 ∧ v.upLane ≠ some k ∧ v.cas.lane[k].sub = none ∧ v.downs.length < 8 ∧
    bits f.p1 8 4 < v.rd R.CAS_VER_CMIN ∧ 0 < bits f.p0 0 15) ∧
    (let s : State := net 1 id; let k : Lane := 8; let f : CasFrame := fr 0x11 [7, 0x30102, 3 + 5 * 2 ^ 16];
    let u : State := accepted s f; let v : State := passed s f;
    s.live = true ∧ s.accept k f = (u, true) ∧ u.transit k { frame := f } = (v, true) ∧ v.casFrozen = false ∧ f.type = 0x11) ∧
    (let s : State := net 1 id; let k : Lane := 8; let f : CasFrame := fr 0x12 []; let u : State := accepted s f;
    let v : State := passed s f;
    s.live = true ∧ s.accept k f = (u, true) ∧ u.transit k { frame := f } = (v, true) ∧ v.casFrozen = false ∧ f.type = 0x12 ∧
    v.casState ≠ 0 ∧ v.casState ≠ 3) ∧
    (let s : State := net 1 fun s => s.modCas fun c => { c with takeovers := [(77, 3)] }; let k : Lane := 8;
    let f : CasFrame := fr 0x13 [5]; let u : State := accepted s f;
    s.live = true ∧ s.accept k f = (u, true) ∧ f.type = 0x13 ∧ u.cas.takeovers.contains (f.src, f.term) = true) ∧
    (let s : State := net 1 id; let k : Lane := 8; let f : CasFrame := fr 0x13 [5]; let u : State := accepted s f;
    let v : State := passed s f;
    s.live = true ∧ s.accept k f = (u, true) ∧ u.transit k { frame := f } = (v, true) ∧ v.casFrozen = false ∧ f.type = 0x13 ∧
    v.casState ≠ 3) ∧
    (let s : State := net 3 (fun s => s.wr R.CAS_STATUS_STATE 3); let k : Lane := 8; let f : CasFrame := fr 0x13 [5];
    let u : State := accepted s f; let v : State := passed s f;
    s.live = true ∧ s.accept k f = (u, true) ∧ u.transit k { frame := f } = (v, true) ∧ v.casFrozen = false ∧ f.type = 0x13 ∧
    v.casState = 3 ∧ f.hops ≤ 4) ∧
    (let s : State := net 1 fun s => s.modCas fun c => { c with probed := [(State.probeKey 77 6, 1)] }; let k : Lane := 8;
    let f : CasFrame := fr 0x14 [6]; let u : State := accepted s f;
    s.live = true ∧ s.accept k f = (u, true) ∧ f.type = 0x14 ∧
    u.cas.probed.any (fun p => p.1 == State.probeKey f.src f.p0) = true) ∧
    (let s : State := net 1 fun s => s.modCas fun c => { c with beat := some (0, 3) }; let k : Lane := 8;
    let f : CasFrame := frFar 0x14 [6]; let u : State := accepted s f; let v : State := passed s f;
    s.live = true ∧ s.accept k f = (u, true) ∧ u.transit k { frame := f } = (v, true) ∧ v.casFrozen = false ∧ f.type = 0x14 ∧
    v.hearsCox = true ∧ Free v k) ∧
    (let s : State := net 1 id; let k : Lane := 8; let f : CasFrame := frFar 0x14 [6]; let u : State := accepted s f;
    let v : State := passed s f;
    s.live = true ∧ s.accept k f = (u, true) ∧ u.transit k { frame := f } = (v, true) ∧ v.casFrozen = false ∧ f.type = 0x14 ∧
    v.hearsCox = false) := by
  refine ⟨?_, ?_, ?_, ?_, ?_, ?_, ?_, ?_, ?_, ?_, ?_, ?_, ?_, ?_, ?_, ?_, ?_, ?_⟩ <;> decide +kernel

theorem witness_ClockSourceCommands :
    (let s : State := State.reset.modClkGen fun c => { c with started := true };
    s.clk.started = true ∧ s.phase = .held ∧ s.clk.proof = none ∧ s.clk.taking = none) ∧
    (let s : State := State.reset.modClkGen fun c => { c with proof := some ⟨false, 3, some 8274⟩ }; let n : Nat := 8272;
    let last : Nat := 8274;
    s.clk.proof = some ⟨false, 3, some last⟩ ∧ 8110 ≤ n ∧ n ≤ 8274 ∧ n ≤ last + 2 ∧ last ≤ n + 2) ∧
    (let s : State := run.modClkGen fun c => { c with proof := some ⟨true, 3, some 8110⟩ }; let n : Nat := 8112;
    let last : Nat := 8110;
    s.clk.proof = some ⟨true, 3, some last⟩ ∧ 8110 ≤ n ∧ n ≤ 8274 ∧ n ≤ last + 2 ∧ last ≤ n + 2) ∧
    (let s : State := run.modClkGen fun c => { c with proof := some ⟨true, 3, some 8110⟩ }; let n : Nat := 8275;
    let p := (⟨true, 3, some 8110⟩ : Proof);
    s.clk.proof = some p ∧ p.ret = true ∧ (n < 8110 ∨ 8274 < n)) ∧
    (let s : State := run.wr R.CLK_SRC_ACTIVE 1;
    let u : State := (s.modClkGen fun c => { c with taking := c.taking.map fun _ => 2 }).raiseIf (!s.on R.CAS_TSYNC_DEGRADED) Ev.CAS_TIME_DEGRADED;
    let n : Nat := 8109;
    s.clk.proof = none ∧ (s.rd R.CLK_SRC_ACTIVE = 1 ∨ s.clk.taking = some 1) ∧
    u = (s.modClkGen fun c => { c with taking := c.taking.map fun _ => 2 }).raiseIf (!s.on R.CAS_TSYNC_DEGRADED) Ev.CAS_TIME_DEGRADED ∧
    (n < 8110 ∨ 8274 < n)) ∧
    (let s : State := State.reset.modClkGen fun c => { c with taking := some 1 };
    let u : State := (s.modClkGen fun c => { c with taking := c.taking.map fun _ => 2 }).raiseIf (!s.on R.CAS_TSYNC_DEGRADED) Ev.CAS_TIME_DEGRADED;
    s.clk.proof = none ∧ (s.rd R.CLK_SRC_ACTIVE = 1 ∨ s.clk.taking = some 1) ∧
    u = (s.modClkGen fun c => { c with taking := c.taking.map fun _ => 2 }).raiseIf (!s.on R.CAS_TSYNC_DEGRADED) Ev.CAS_TIME_DEGRADED) ∧
    (let s : State := State.reset.modClkGen fun c => { c with taking := some 1 }; let r : Nat := 1;
    s.phase = .held ∧ s.clk.taking = some r ∧ r < 4) ∧
    (let s : State := run.flag R.CLK_SRC_HOLDOVER true;
    s.phase ≠ .held ∧ s.on R.CLK_SRC_HOLDOVER = true) ∧
    (let s : State := run.flag R.CLK_SRC_PLL_LOCK true;
    s.on R.CLK_SRC_PLL_LOCK = true) ∧
    (let s : State := run.modClkGen fun c => { c with relockBy := some 50000 }; let by_ : Nat := 50000;
    s.clk.relockBy = some by_) ∧
    (let s : State := run.wr R.CLK_SRC_ACTIVE 2;
    s.rd R.CLK_SRC_ACTIVE ≠ 1 ∧ s.on R.CLK_SRC_CTL_RETURN = false) := by
  refine ⟨?_, ?_, ?_, ?_, ?_, ?_, ?_, ?_, ?_, ?_, ?_⟩ <;> decide +kernel

theorem witness_DieClockCommands :
    (let s : State := run.modTx (Die.loop 7) fun x => { x with due := some 20000 }; let d := (7 : Die); let x : Nat := 20000;
    s.live = true ∧ s.vsetTx[Die.loop d].due = some x) ∧
    (let s : State := run.flag (R.CLK_DIE_DIV_HELD 7) true; let d := (7 : Die);
    s.live = true ∧ s.on (R.CLK_DIE_DIV_HELD (Fin.val (n := 8) d)) = true) ∧
    (let s : State := run; let d := (7 : Die); let code : Nat := 2;
    s.live = true ∧ s.fenced d = false ∧ code ≤ 2) ∧
    (let s : State := run; let d := (7 : Die); let code : Nat := 3;
    s.live = true ∧ (s.fenced d = true ∨ 2 < code)) ∧
    (let s : State := run.setGate 7 15 .stopping; let d : Die := 7; let c : Cluster := 15;
    s.live = true ∧ s.clkDie[d].gate[c] = .stopping) ∧
    (let s : State := run.setGate 7 15 (.waking 100); let d : Die := 7; let c : Cluster := 15; let a : Nat := 100;
    let u : State := (s.advance 100).toEdge;
    s.live = true ∧ s.clkDie[d].gate[c] = .waking a ∧
    (u = (s.advance a).toEdge ∧ s.clkDie[d].wokeAt ≠ some u.edge ∨ ∃ v, v = (s.advance a).toEdge ∧ s.clkDie[d].wokeAt = some v.edge ∧ u = ({ v with now := v.now + 1 }).toAlign) ∧
    (∀ k : Cluster, k < c → s.wakes d k u.now = false)) ∧
    (let s : State := run;
    s.on R.CLK_FMC_CTL_BUSY = false) ∧
    (let s : State := run.flag R.CLK_FMC_CTL_BUSY true; let n : Nat := 2 ^ 64;
    let k := (if State.fmcSource s.clk.fmcSrc s.clk.fmcRef then n else 0);
    s.on R.CLK_FMC_CTL_BUSY = true ∧ k = (if State.fmcSource s.clk.fmcSrc s.clk.fmcRef then n else 0)) := by
  refine ⟨?_, ?_, ?_, ?_, ?_, ⟨by decide +kernel, by decide +kernel, .inl (by decide +kernel), by decide +kernel⟩, ?_, ?_⟩ <;> decide +kernel

theorem witness_DividerStepRules :
    (let s : State := run; let d : Die := (7 : Die); let e : Nat := s.toEdge.edge;
    s.rgcOn = true ∧ s.ratio d ≤ 6 ∧ e = s.toEdge.edge) ∧
    (let s : State := ((run.modClk 7 fun c => { c with cmdRatio := 6 }).wr (R.CLK_DIE_DIV_NOW 7) 3); let d : Die := (7 : Die);
    let e : Nat := s.toEdge.edge;
    s.rgcOn = true ∧ s.ratio d ≤ 6 ∧ e = s.toEdge.edge ∧ s.clkDie[d].holdUntil ≤ e ∧ s.droopDue d e = false ∧
    s.ratio d < s.target d) ∧
    (let s : State := ((linked.modClk 7 fun c => { c with cmdRatio := 0, vAck := 990 }).wr (R.CLK_DIE_DIV_NOW 7) 6);
    let d : Die := (7 : Die); let e : Nat := s.toEdge.edge;
    s.rgcOn = true ∧ s.ratio d ≤ 6 ∧ e = s.toEdge.edge ∧ s.clkDie[d].holdUntil ≤ e ∧ s.droopDue d e = false ∧
    s.target d < s.ratio d ∧ s.clkDie[d].clearAt = none ∧ s.need d (s.ratio d - 1) ≤ s.clkDie[d].vAck ∧
    s.vcl[d.sat].sat.up = true) ∧
    (let s : State := ((linked.modClk 7 fun c => { c with cmdRatio := 0, vAck := 490 }).wr (R.CLK_DIE_DIV_NOW 7) 1);
    let d : Die := (7 : Die); let e : Nat := s.toEdge.edge;
    s.rgcOn = true ∧ s.ratio d ≤ 6 ∧ e = s.toEdge.edge ∧ s.droopDue d e = false ∧ s.target d < s.ratio d ∧
    (s.clkDie[d].vAck < s.need d (s.ratio d - 1) ∨ s.vcl[d.sat].sat.up = false)) ∧
    (let s : State := ((run.flag (R.CLK_DIE_DIV_DROOP_ACTIVE 7) true).wr (R.CLK_DIE_DIV_NOW 7) 2); let d : Die := (7 : Die);
    let e : Nat := s.toEdge.edge;
    s.rgcOn = true ∧ s.ratio d ≤ 6 ∧ e = s.toEdge.edge ∧ s.clkDie[d].holdUntil ≤ e ∧ s.droopDue d e = true ∧
    s.ratio d < s.rd R.CLK_DROOP_CFG_FLOOR) ∧
    (let s : State := ((run.modClk 7 fun c => { c with cmdRatio := 6, holdUntil := 3 }).wr (R.CLK_DIE_DIV_NOW 7) 3);
    let d : Die := (7 : Die); let e : Nat := s.toEdge.edge;
    s.rgcOn = true ∧ s.ratio d ≤ 6 ∧ e = s.toEdge.edge ∧ e < s.clkDie[d].holdUntil) ∧
    (let s : State := (((run.modClk 7 fun c => { c with cmdRatio := 3 }).wr (R.CLK_DIE_DIV_NOW 7) 3).wr (R.CLK_DIE_CMARGIN_CLUSTER 7) (2 ^ 15)).modClk 7 fun x => { x with cluster := x.cluster.set 15 ⟨3, 0⟩ };
    let d : Die := (7 : Die); let e : Nat := s.toEdge.edge; let c : Cluster := (15 : Cluster);
    s.rgcOn = true ∧ s.ratio d ≤ 6 ∧ e = s.toEdge.edge ∧ s.droopDue d e = false ∧ s.ratio d = s.target d ∧
    s.on (R.CLK_DIE_GATE_STS_CL d c) = false ∧ s.clkDie[d].cluster[c].hold ≤ e ∧
    s.clkDie[d].cluster[c].ratio < s.clusterGoal d c) := by
  refine ⟨?_, ?_, ?_, ?_, ?_, ?_, ?_⟩ <;> decide +kernel

theorem witness_DroopCommands :
    (let s : State := run.modClk 7 fun c => { c with vAck := 850 }; let d : Die := 7; let det : Fin 32 := 31;
    let uv : Nat := 700000;
    s.live = true ∧ bit (s.rd (R.CLK_DIE_DROOP_NOW_DET d)) det = false ∧ s.sags d R.CLK_DROOP_CFG_THR1 uv = true ∧
    bit (s.droopSet d) det = true) ∧
    (let s : State := (run.modClk 7 fun c => { c with vAck := 850 }).wr (R.CLK_DIE_DROOP_STUCK_DET 7) (2 ^ 31); let d : Die := 7;
    let det : Fin 32 := 31; let uv : Nat := 700000;
    s.live = true ∧ bit (s.rd (R.CLK_DIE_DROOP_NOW_DET d)) det = false ∧ s.sags d R.CLK_DROOP_CFG_THR1 uv = true ∧
    bit (s.droopSet d) det = false) ∧
    (let s : State := run.modClk 7 fun c => { c with vAck := 850 }; let d : Die := 7; let det : Fin 32 := 31;
    let uv : Nat := 850000;
    s.live = true ∧ (bit (s.rd (R.CLK_DIE_DROOP_NOW_DET d)) det = true ∨ s.sags d R.CLK_DROOP_CFG_THR1 uv = false)) ∧
    (let s : State := run.modClk 7 fun c => { c with vAck := 850 }; let d : Die := 7; let det : Fin 32 := 31;
    let uv : Nat := 700000;
    s.live = true ∧ bit (s.droopSet d) det = true ∧ s.sags d R.CLK_DROOP_CFG_THR2 uv = true) ∧
    (let s : State := run.modClk 7 fun c => { c with vAck := 850 }; let d : Die := 7; let det : Fin 32 := 31;
    let uv : Nat := 850000;
    s.live = true ∧ (bit (s.droopSet d) det = false ∨ s.sags d R.CLK_DROOP_CFG_THR2 uv = false)) ∧
    (let s : State := run.modClk 7 fun c => { c with apRun := Tab.put c.apRun 31 9 }; let d : Die := 7; let det : Fin 32 := 31;
    let n : Nat := 9;
    s.live = true ∧ bit (s.droopSet d) det = true ∧ Tab.find s.clkDie[d].apRun det = some n ∧
    max 1 (s.rd R.CLK_DROOP_CFG_CUFF_AP) ≤ n) ∧
    (let s : State := run.modClk 7 fun c => { c with apRun := Tab.put c.apRun 31 0 }; let d : Die := 7; let det : Fin 32 := 31;
    s.live = true ∧
    (bit (s.droopSet d) det = false ∨ (∀ n, Tab.find s.clkDie[d].apRun det = some n → n < max 1 (s.rd R.CLK_DROOP_CFG_CUFF_AP)))) ∧
    (let s : State := ((run.modClk 7 fun c => { c with vAck := 850 }).wr (R.CLK_DIE_DROOP_NOW_DET 7) (2 ^ 31)).flag (R.CLK_DIE_DIV_DROOP_ACTIVE 7) true;
    let d : Die := 7; let det : Fin 32 := 31; let uv : Nat := 850000;
    s.live = true ∧ bit (s.rd (R.CLK_DIE_DROOP_NOW_DET d)) det = true ∧
    1000 * s.clkDie[d].vAck + 4000 < uv + 1000 * s.rd R.CLK_DROOP_CFG_THR1) ∧
    (let s : State := (run.modClk 7 fun c => { c with vAck := 850 }).wr (R.CLK_DIE_DROOP_NOW_DET 7) (2 ^ 31); let d : Die := 7;
    let det : Fin 32 := 31; let uv : Nat := 700000;
    s.live = true ∧
    (bit (s.rd (R.CLK_DIE_DROOP_NOW_DET d)) det = false ∨ uv + 1000 * s.rd R.CLK_DROOP_CFG_THR1 ≤ 1000 * s.clkDie[d].vAck + 4000)) ∧
    (let s : State := ((linked.modClk 7 fun c => { c with clearAt := some 40, vAck := 990, cmdRatio := 0 })).wr (R.CLK_DIE_DIV_NOW 7) 6;
    let d : Die := 7; let x : Nat := 40; let u : State := (s.advance (x + 20 * s.rd R.CLK_DROOP_CFG_RECOVER_AP)).toEdge;
    s.live = true ∧ s.clkDie[d].clearAt = some x ∧ u = (s.advance (x + 20 * s.rd R.CLK_DROOP_CFG_RECOVER_AP)).toEdge ∧
    s.droopDue d u.edge = false ∧ s.ratio d ≤ 6 ∧ s.target d < s.ratio d ∧ s.clkDie[d].holdUntil ≤ u.edge ∧
    s.need d (s.ratio d - 1) ≤ s.clkDie[d].vAck ∧ s.vcl[d.sat].sat.up = true) ∧
    (let s : State := linked.modClk 7 fun c => { c with clearAt := some 40, cmdRatio := 6 }; let d : Die := 7; let x : Nat := 40;
    let u : State := (s.advance (x + 20 * s.rd R.CLK_DROOP_CFG_RECOVER_AP)).toEdge;
    s.live = true ∧ s.clkDie[d].clearAt = some x ∧ u = (s.advance (x + 20 * s.rd R.CLK_DROOP_CFG_RECOVER_AP)).toEdge ∧
    s.droopDue d u.edge = false ∧ s.ratio d ≤ 6 ∧ s.ratio d ≤ s.target d) ∧
    (let s : State := run.modClk 7 fun c => { c with since := Tab.put c.since 31 5 }; let d : Die := 7; let det : Fin 32 := 31;
    let x : Nat := 5;
    s.live = true ∧ Tab.find s.clkDie[d].since det = some x) := by
  refine ⟨?_, ?_, ?_, ?_, ?_, ?_, ?_, ?_, ?_, ?_, ?_, ?_⟩ <;> decide +kernel

theorem witness_FenceCommands :
    (let s : State := run; let d : Die := 7;
    s.live = true ∧ s.fenced d = false) ∧
    (let s : State := run.flag (R.ADM_SEAM_STS_FENCED (7 : Die)) true; let d : Die := 7; let c : Nat := 2;
    s.live = true ∧ s.fenced d = true ∧ s.fenceCause d = some c) ∧
    (let s : State := ((linked.flag (R.ADM_SEAM_STS_FENCED (7 : Die)) true).setMode 7 2).wr R.RGC_VCL_STATUS_UP 511;
    let d : Die := 7;
    s.live = true ∧ s.fenced d = true ∧ s.fenceCause d = none) := by
  refine ⟨?_, ?_, ?_⟩ <;> decide +kernel

theorem witness_FreezeAndTrace :
    (let s : State := (run.flag R.REC_TRIG_ARMED true).wr R.REC_TRIG_POST 2;
    s.live = true ∧ s.on R.REC_TRIG_ARMED = true ∧ s.rd R.REC_TRIG_POST ≠ 0 ∧ s.freezeHeld = false) ∧
    (let s : State := (run.flag R.REC_TRIG_ARMED true).wr R.REC_TRIG_SCOPE 1;
    s.live = true ∧ s.on R.REC_TRIG_ARMED = true ∧ s.rd R.REC_TRIG_POST = 0 ∧ s.rd R.REC_TRIG_SCOPE = 1 ∧ s.frozen = false ∧
    s.rcd.freezeAt = none ∧ s.casFreezePending = false) ∧
    (let s : State := (({ run with frozen := true }.flag R.REC_TRIG_ARMED true).wr R.REC_TRIG_SCOPE 2).wr R.REC_TRIG_POST 5;
    s.live = true ∧ s.on R.REC_TRIG_ARMED = true ∧ s.freezeHeld = true ∧ (s.rd R.REC_TRIG_SCOPE = 1 ∨ s.rd R.REC_TRIG_SCOPE = 2)) ∧
    (let s : State := run;
    s.live = true ∧ s.on R.REC_TRIG_ARMED = false) ∧
    (let s : State := (run.wr R.REC_TRIG_SCOPE 1).modRcd fun q => { q with post := some 90 }; let x : Nat := 90;
    s.live = true ∧ s.rcd.post = some x ∧ s.rd R.REC_TRIG_SCOPE = 1 ∧ s.frozen = false ∧ s.rcd.freezeAt = none ∧
    s.casFreezePending = false) ∧
    (let s : State := run;
    s.live = true ∧ (s.rcd.post = none ∨ s.frozen = true)) ∧
    (let s : State := linked.flag R.REC_TRIG_FROZEN true;
    s.live = true ∧ s.on R.REC_TRIG_FROZEN = true ∧ s.rcd.thawAt = none) ∧
    (let s : State := run;
    s.live = true ∧ s.on R.REC_TRIG_FROZEN = false) ∧
    (let s : State := run;
    s.live = true) ∧
    (let s : State := run.wr R.TRC_STATUS_LANE_UP 15; let k : Fin 4 := 3;
    s.live = true ∧ bit (s.rd R.TRC_STATUS_LANE_UP) k = true) ∧
    (let s : State := run; let k : Fin 4 := 3;
    s.live = true ∧ bit (s.rd R.TRC_STATUS_LANE_UP) k = false) ∧
    (let s : State := ((run.flag R.TRC_CTL_EN true).wr R.TRC_STATUS_LANE_UP 15).modRcd fun q => { q with alignTill := some 9 };
    let x : Nat := 9;
    s.live = true ∧ s.on R.TRC_CTL_EN = true ∧ s.rd R.TRC_STATUS_LANE_UP = 15 ∧ s.rcd.alignTill = some x ∧ s.now < x) ∧
    (let s : State := { ((run.flag R.TRC_CTL_EN true).wr R.TRC_STATUS_LANE_UP 15).modRcd fun q => { q with alignTill := some 9 } with now := 9 };
    let x : Nat := 9;
    s.live = true ∧ s.on R.TRC_CTL_EN = true ∧ s.rd R.TRC_STATUS_LANE_UP = 15 ∧ s.rcd.alignTill = some x ∧ x ≤ s.now) ∧
    (let s : State := run;
    s.live = true ∧ s.on R.TRC_CTL_EN = false) ∧
    (let s : State := { run.flag R.TRC_CTL_EN true with trcDrop := (Vector.replicate 5 0).set 4 3 };
    s.live = true ∧ s.on R.TRC_CTL_EN = true ∧ s.frozen = false ∧ State.trcWords s.trcFifo + 64 ≤ 8192 ∧
    s.trcDrop.toList.all (· == 0) = false) ∧
    (let s : State := run;
    s.live = true ∧ s.trcDrop.toList.all (· == 0) = true) ∧
    (let s : State := linked;
    s.live = true ∧ s.frozen = false ∧ s.rcd.freezeAt = none ∧ s.casFreezePending = false) ∧
    (let s : State := { run with frozen := true };
    s.live = true ∧ s.freezeHeld = true) ∧
    (let s : State := run.modRcd fun q => { q with freezeAt := some (60, true) }; let x : Nat := 60; let trig := true;
    s.live = true ∧ s.rcd.freezeAt = some (x, trig) ∧ s.frozen = false) ∧
    (let s : State := run;
    s.live = true ∧ s.rcd.freezeAt = none) ∧
    (let s : State := { linked.modSeam 7 fun q => { q with copy := some 5, copyAt := 3 } with frozen := true }; let x : Sat := 7;
    s.live = true ∧ s.late x = true ∧ s.seamUp x = true ∧ s.frozen = true) ∧
    (let s : State := run; let x : Sat := 7;
    s.live = true ∧ s.late x = false) ∧
    (let s : State := { run with frozen := true }.modRcd fun q => { q with thawAt := some 60 }; let x : Nat := 60;
    s.live = true ∧ s.rcd.thawAt = some x ∧ s.casFrozen = false ∧ s.upd.held = none) ∧
    (let s : State := ({ run with frozen := true }.modRcd fun q => { q with thawAt := some 60 }).flag R.CAS_SCHED_FROZEN true;
    let x : Nat := 60;
    s.live = true ∧ s.rcd.thawAt = some x ∧ s.casFrozen = true ∧ s.upd.held = none) := by
  refine ⟨?_, ?_, ?_, ?_, ?_, ?_, ?_, ?_, ?_, ?_, ?_, ?_, ?_, ?_, ?_, ?_, ?_, ?_, ?_, ?_, ?_, ?_, ?_, ?_⟩ <;> decide +kernel

theorem witness_HintCommands :
    (let s : State := linked; let d : Die := 7; let w : Nat := 2 ^ 60 + 2 ^ 58 + 4095 * 2 ^ 46 + 4095 * 2 ^ 32 + 65535 * 2 ^ 16;
    let old : List (Nat × Sat × Report) := s.adm[d].pend.toList.map (fun p => (s.now + 40, d.sat, .hintEnded p.id false));
    let ev : List Event := s.adm[d].pend.toList.map (fun _ => { code := Ev.ADM_HINT_REPLACED, unit := d.val, detail := 0, body := [] }) ++ (if hintLead w < s.rd R.ADM_HINT_MIN_LEAD then [{ code := Ev.ADM_HINT_LATE, unit := d.val, detail := hintLead w, body := [] }] else []);
    s.live = true ∧ hintVer w = 1 ∧ hintType w = 1 ∧ s.on R.ADM_CTL_HINT_EN = true ∧ s.hintless d = false ∧
    old = s.adm[d].pend.toList.map (fun p => (s.now + 40, d.sat, .hintEnded p.id false)) ∧
    ev = s.adm[d].pend.toList.map (fun _ => { code := Ev.ADM_HINT_REPLACED, unit := d, detail := 0, body := [] }) ++ (if hintLead w < s.rd R.ADM_HINT_MIN_LEAD then [{ code := Ev.ADM_HINT_LATE, unit := d, detail := hintLead w, body := [] }] else [])) ∧
    (let s : State := run; let d : Die := 7; let w : Nat := 2 ^ 60 + 2 ^ 58 + 4095 * 2 ^ 46 + 4095 * 2 ^ 32 + 65535 * 2 ^ 16;
    s.live = true ∧ hintVer w = 1 ∧ hintType w = 1 ∧ (s.on R.ADM_CTL_HINT_EN = false ∨ s.hintless d = true)) ∧
    (let s : State := linked; let w : Nat := 2 ^ 60 + 3 * 2 ^ 58;
    s.live = true ∧ (hintVer w ≠ 1 ∨ hintType w = 3)) ∧
    (let s : State := linked; let d : Die := 7; let w : Nat := 2 ^ 60 + 4095 * 2 ^ 32 + 65535 * 2 ^ 16;
    s.live = true ∧ hintVer w = 1 ∧ hintType w = 0 ∧ s.adm[d].pend = none ∧ s.adm[d].act = none ∧ s.on R.TRC_CTL_EN = false) ∧
    (let s : State := linked.modAdm 7 fun a => { a with pend := some ⟨0, 65535, 4095, 3, true, some 40⟩ }; let d : Die := 7;
    let w : Nat := 2 ^ 60 + 4095 * 2 ^ 32 + 65535 * 2 ^ 16; let p : Hint := (⟨0, 65535, 4095, 3, true, some 40⟩ : Hint);
    s.live = true ∧ hintVer w = 1 ∧ hintType w = 0 ∧ s.adm[d].pend = some p ∧ p.layer = hintLayer w ∧ p.op = hintOp w) ∧
    (let s : State := linked.modAdm 7 fun a => { a with act := some ⟨0, 65535, 4094, 3, true, some 40⟩ }; let d : Die := 7;
    let w : Nat := 2 ^ 60 + 4095 * 2 ^ 32 + 65535 * 2 ^ 16; let h : Hint := (⟨0, 65535, 4094, 3, true, some 40⟩ : Hint);
    s.live = true ∧ hintVer w = 1 ∧ hintType w = 0 ∧ s.adm[d].pend = none ∧ s.adm[d].act = some h ∧
    (h.layer ≠ hintLayer w ∨ h.op ≠ hintOp w)) ∧
    (let s : State := linked; let d : Die := 7; let w : Nat := 2 ^ 60 + 2 ^ 59;
    s.live = true ∧ hintVer w = 1 ∧ hintType w = 2 ∧ s.adm[d].act = none ∧ s.on R.TRC_CTL_EN = false) ∧
    (let s : State := linked.modAdm 7 fun a => { a with act := some ⟨0, 65535, 4095, 3, true, some 40⟩ }; let d : Die := 7;
    let w : Nat := 2 ^ 60 + 2 ^ 59 + 4095 * 2 ^ 32 + 65535 * 2 ^ 16;
    let h : Hint := (⟨0, 65535, 4095, 3, true, some 40⟩ : Hint);
    s.live = true ∧ hintVer w = 1 ∧ hintType w = 2 ∧ s.adm[d].act = some h ∧ h.layer = hintLayer w ∧ h.op = hintOp w) ∧
    (let s : State := linked.modAdm 7 fun a => { a with pend := some ⟨0, 1, 2, 3, true, some 40⟩ }; let d : Die := 7;
    let h := (⟨0, 1, 2, 3, true, some 40⟩ : Hint); let x : Nat := 40;
    s.live = true ∧ s.seam[d.sat].stopped = false ∧ s.adm[d].pend = some h ∧ h.deadline = some x) := by
  refine ⟨?_, ?_, ?_, ?_, ?_, ?_, ?_, ?_, ?_⟩ <;> decide +kernel

theorem witness_HostControlCommands :
    (let s : State := run;
    s.live = true ∧ s.on R.GLB_GOV_CTL_ENABLE = false ∧ s.on R.GLB_STATUS_ENABLED = false ∧ s.gov.check ≠ some none) ∧
    (let s : State := linked.modGov fun g => { g with check := some none, decided := some 0 };
    s.live = true ∧ s.on R.GLB_STATUS_ENABLED = false ∧ s.gov.check = some none ∧ s.gov.decided = some s.window) ∧
    (let s : State := (run.flag R.GLB_GOV_CTL_ENABLE true).flag R.GLB_STATUS_ENABLED true;
    s.live = true ∧ s.on R.GLB_GOV_CTL_ENABLE = true ∧ s.on R.GLB_STATUS_ENABLED = true) ∧
    (let s : State := (run.wr (R.HIF_Q_CFG_SQ_LOG 31) 4).wr (R.HIF_Q_CFG_CQ_LOG 31) 4; let q : Queue := (31 : Queue);
    let l : List Nat := bell 15 15;
    s.live = true ∧ s.on (R.HIF_Q_CFG_EN q) = false ∧ s.qState q = 0 ∧ lineTail l < s.sqSize q ∧ lineHead l < s.cqSize q) ∧
    (let s : State := run.setQState 31 2; let q : Queue := 31;
    s.live = true ∧ s.qState q ≠ 0) ∧
    (let s : State := run; let q : Queue := 31;
    s.live = true ∧ s.qState q = 0) ∧
    (let s : State := run.setQState 31 4; let q : Queue := 31;
    s.live = true ∧ s.qState q = 4 ∧ s.queue[q].cmd = none ∧ (s.queue[q].fin = none ∨ s.unwritable q = true)) ∧
    (let s : State := ((run.setQState 31 3).flag (R.HIF_Q_CFG_EN 31) true).wr (R.HIF_Q_CFG_SQ_LOG 31) 4;
    let q : Queue := (31 : Queue); let l : List Nat := bell 15 0;
    s.live = true ∧ bit (s.rd (R.ID_CAP_CAP 0)) 13 = true ∧ s.watched q = true ∧
    (lineTail l, lineHead l) ≠ (s.queue[q].tail, s.queue[q].head) ∧ lineTail l < s.sqSize q ∧ lineHead l < s.cqSize q) ∧
    (let s : State := ((run.setQState 31 1).flag (R.HIF_Q_CFG_EN 31) true).wr (R.HIF_Q_CFG_SQ_LOG 31) 4;
    let q : Queue := (31 : Queue); let l : List Nat := bell 16 0;
    s.live = true ∧ bit (s.rd (R.ID_CAP_CAP 0)) 13 = true ∧ s.watched q = true ∧
    (lineTail l, lineHead l) ≠ (s.queue[q].tail, s.queue[q].head) ∧ s.sqSize q ≤ lineTail l) ∧
    (let s : State := (run.wr (R.HIF_Q_CFG_COAL_US 31) 1).modQueue 31 fun q => { q with unsig := 1 }; let q : Queue := 31;
    let u : Nat := 0;
    s.live = true ∧ s.queue[q].unsig = u + 1 ∧ s.rd (R.HIF_Q_CFG_COAL_US q) ≠ 0) ∧
    (let s : State := (run.flag (R.INT_V_CTL_PEND 41) true).wr (R.INT_V_ADDR_ADDR 41) 4; let v : Fin 42 := 41;
    s.live = true ∧ s.on (R.INT_V_CTL_PEND v) = true ∧ s.rd (R.INT_V_ADDR_ADDR v) ≠ 0) ∧
    (let s : State := run; let v : Fin 42 := 41;
    s.live = true ∧ s.on (R.INT_V_CTL_PEND v) = false) ∧
    (let s : State := run; let off : Nat := 2 ^ 20 - 1; let size : Nat := 4;
    s.live = true ∧ off < 2 ^ 20 ∧ (size < 4 ∨ (size ≠ 4 ∧ size ≠ 8) ∨ off % size ≠ 0)) ∧
    (let s : State := run.wr R.GLB_RESET_KEY 0xC0DE;
    s.live = true ∧ s.rd R.GLB_RESET_KEY = 0xC0DE) ∧
    (let s : State := run;
    s.live = true ∧ s.rd R.GLB_RESET_KEY ≠ 0xC0DE) := by
  refine ⟨?_, ?_, ?_, ?_, ?_, ?_, ?_, ?_, ?_, ?_, ?_, ?_, ?_, ?_, ?_⟩ <;> decide +kernel

theorem witness_MailboxCommands :
    (let s : State := run.wr (R.MBX_DATA_DATA 7 0) 0x30; let u : State := s.turn .trp; let k : Mbx := 7; let who : Init := .trp;
    s.live = true ∧ u = s.turn who ∧ u.go k = false ∧ u.mgt.mbx[k].held = none ∧ who.code = R.mbxReq k ∧
    (bits (u.mbxWord k 0) 4 4 = 3 ∨ k.val < 3 ∧ u.on R.MBX_GLB_V2_EN = true ∧ bits (u.mbxWord k 0) 24 4 = 2)) ∧
    (let s : State := run.wr (R.MBX_DATA_DATA 2 0) 0x40; let u : State := s; let k : Mbx := 2; let who : Init := .host;
    let w : Nat := 2;
    s.live = true ∧ u = s.turn who ∧ u.go k = false ∧ u.mgt.mbx[k].held = none ∧ who.code = R.mbxReq k ∧
    bits (u.mbxWord k 0) 4 4 ≠ 3 ∧ (3 ≤ k.val ∨ u.on R.MBX_GLB_V2_EN = false ∨ bits (u.mbxWord k 0) 24 4 ≠ 2) ∧
    w = (if bits (u.mbxWord k 0) 24 4 = 2 then 1 else 2)) ∧
    (let s : State := run; let u : State := s; let k : Mbx := 7; let who : Init := .host;
    s.live = true ∧ u = s.turn who ∧ (u.go k = true ∨ u.mgt.mbx[k].held.isSome = true ∨ who.code ≠ R.mbxReq k)) ∧
    (let s : State := run.flag (R.MBX_CTL_GO 2) true; let u : State := s.turn .svp; let k : Mbx := 2; let who : Init := .svp;
    s.live = true ∧ u = s.turn who ∧ u.go k = true ∧ who.code = R.mbxRsp k ∧ (∀ q, u.waitsFor k q = false)) ∧
    (let s : State := run.flag (R.MBX_CTL_GO 2) true; let u : State := s; let k : Mbx := 2; let who : Init := .host;
    s.live = true ∧ u = s.turn who ∧ (u.go k = false ∨ who.code ≠ R.mbxRsp k)) ∧
    (let s : State := (run.flag (R.MBX_CTL_GO 7) true); let u : State := s.turn .trp; let k : Mbx := 7; let who : Init := .trp;
    s.live = true ∧ u = s.turn who ∧ u.go k = true ∧ u.mgt.mbx[k].held = none ∧ who.code = R.mbxReq k ∧
    (∀ q, u.waitsFor k q = false)) ∧
    (let s : State := (run.flag (R.MBX_CTL_GO 7) true); let u : State := s; let k : Mbx := 7; let who : Init := .host;
    s.live = true ∧ u = s.turn who ∧ (u.go k = false ∨ u.mgt.mbx[k].held.isSome = true ∨ who.code ≠ R.mbxReq k)) ∧
    (let s : State := run; let u : State := s.turn .svp; let k : Mbx := 2; let who : Init := .svp;
    s.live = true ∧ u = s.turn who ∧ who.code = R.mbxRsp k ∧ k.val < 3) ∧
    (let s : State := run; let u : State := s.turn .svp; let k : Mbx := 7; let who : Init := .svp;
    s.live = true ∧ u = s.turn who ∧ (who.code ≠ R.mbxRsp k ∨ 3 ≤ k.val)) ∧
    (let s : State := (run.flag (R.MBX_CTL_GO 7) true); let u : State := s; let k : Mbx := 7; let who : Init := .host;
    s.live = true ∧ u = s.turn who ∧ s.go k = true ∧ s.mgt.mbx[k].held = none ∧ (∀ q, s.waitsFor k q = false)) ∧
    (let s : State := run; let u : State := s; let k : Mbx := 7; let who : Init := .host;
    s.live = true ∧ u = s.turn who ∧ (s.go k = false ∨ s.mgt.mbx[k].held.isSome = true)) ∧
    (let s : State := heard (mail 0 1 0); let u : State := s; let k : Mbx := 0; let who : Init := .host; let p : Proc := .trp;
    let h : ImgHdr := { headerOf [1] with accept := 8, maj := 3 };
    s.live = true ∧ u = s.turn who ∧ (s.proc p).image = some h ∧ (∀ q, s.waitsFor k q = false) ∧ bits (s.mbxWord k 0) 4 4 = 3 ∧
    bit h.accept 3 = true ∧ s.asked k 1 = some p ∧ s.mbxLen k = 0) ∧
    (let s : State := heard (mail 0 1 4); let u : State := s; let k : Mbx := 0; let who : Init := .host; let p : Proc := .trp;
    let h : ImgHdr := { headerOf [1] with accept := 8, maj := 3 };
    s.live = true ∧ u = s.turn who ∧ (s.proc p).image = some h ∧ (∀ q, s.waitsFor k q = false) ∧ bits (s.mbxWord k 0) 4 4 = 3 ∧
    bit h.accept 3 = true ∧ s.asked k 1 = some p ∧ s.mbxLen k ≠ 0) ∧
    (let s : State := heard (mail 0 2 44); let u : State := s; let k : Mbx := 0; let who : Init := .host; let p : Proc := .trp;
    let h : ImgHdr := { headerOf [1] with accept := 8, maj := 3 };
    s.live = true ∧ u = s.turn who ∧ (s.proc p).image = some h ∧ (∀ q, s.waitsFor k q = false) ∧ bits (s.mbxWord k 0) 4 4 = 3 ∧
    bit h.accept 3 = true ∧ s.asked k 2 = some p ∧ s.mbxLen k ≤ 44 ∧ s.mbxLong k = false) ∧
    (let s : State := { heard ((mail 0 2 8).wr (R.MBX_DATA_DATA 0 0) 0x80230) with mgt := { (heard booted).mgt with mbx := (heard booted).mgt.mbx.set 0 { req := [5, 6] } } };
    let u : State := s; let k : Mbx := 0; let who : Init := .host; let p : Proc := .trp;
    let h : ImgHdr := { headerOf [1] with accept := 8, maj := 3 };
    s.live = true ∧ u = s.turn who ∧ (s.proc p).image = some h ∧ (∀ q, s.waitsFor k q = false) ∧ bits (s.mbxWord k 0) 4 4 = 3 ∧
    bit h.accept 3 = true ∧ s.asked k 2 = some p ∧ s.mbxLen k ≤ 44 ∧ s.mbxLong k = true) ∧
    (let s : State := heard (mail 0 2 45); let u : State := s; let k : Mbx := 0; let who : Init := .host; let p : Proc := .trp;
    let h : ImgHdr := { headerOf [1] with accept := 8, maj := 3 };
    s.live = true ∧ u = s.turn who ∧ (s.proc p).image = some h ∧ (∀ q, s.waitsFor k q = false) ∧ bits (s.mbxWord k 0) 4 4 = 3 ∧
    bit h.accept 3 = true ∧ s.asked k 2 = some p ∧ 44 < s.mbxLen k) ∧
    (let s : State := heard (mail 0 3 0); let u : State := s; let k : Mbx := 0; let who : Init := .host; let p : Proc := .trp;
    let h : ImgHdr := { headerOf [1] with accept := 8, maj := 3 };
    s.live = true ∧ u = s.turn who ∧ (s.proc p).image = some h ∧ (∀ q, s.waitsFor k q = false) ∧ bits (s.mbxWord k 0) 4 4 = 3 ∧
    bit h.accept 3 = true ∧ s.asked k 3 = some p ∧ s.mbxLen k = 0) ∧
    (let s : State := heard (mail 0 0x501 0); let u : State := s; let k : Mbx := 0; let who : Init := .host;
    let p : Proc := .trp; let h : ImgHdr := { headerOf [1] with accept := 8, maj := 3 };
    s.live = true ∧ u = s.turn who ∧ (s.proc p).image = some h ∧ (∀ q, s.waitsFor k q = false) ∧ bits (s.mbxWord k 0) 4 4 = 3 ∧
    bit h.accept 3 = true ∧ s.asked k 0x501 = some .trp ∧ p = .trp ∧ s.serves .trp = true ∧ s.mbxLen k = 0) ∧
    (let s : State := deaf (mail 0 1 0); let u : State := s; let k : Mbx := 0; let who : Init := .host; let p : Proc := .trp;
    let h : ImgHdr := headerOf [1];
    s.live = true ∧ u = s.turn who ∧ (s.proc p).image = some h ∧ (∀ q, s.waitsFor k q = false) ∧ bits (s.mbxWord k 0) 4 4 = 3 ∧
    bit h.accept 3 = false ∧ s.asked k 1 = some p) ∧
    (let s : State := deaf (mail 0 2 0); let u : State := s; let k : Mbx := 0; let who : Init := .host; let p : Proc := .trp;
    let h : ImgHdr := headerOf [1];
    s.live = true ∧ u = s.turn who ∧ (s.proc p).image = some h ∧ (∀ q, s.waitsFor k q = false) ∧ bits (s.mbxWord k 0) 4 4 = 3 ∧
    bit h.accept 3 = false ∧ s.asked k 2 = some p) ∧
    (let s : State := deaf (mail 0 3 0); let u : State := s; let k : Mbx := 0; let who : Init := .host; let p : Proc := .trp;
    let h : ImgHdr := headerOf [1];
    s.live = true ∧ u = s.turn who ∧ (s.proc p).image = some h ∧ (∀ q, s.waitsFor k q = false) ∧ bits (s.mbxWord k 0) 4 4 = 3 ∧
    bit h.accept 3 = false ∧ s.asked k 3 = some p) ∧
    (let s : State := heard (oldMail 1 0); let u : State := s; let k : Mbx := 0; let who : Init := .host; let p : Proc := .trp;
    let h : ImgHdr := { headerOf [1] with accept := 8, maj := 3 };
    s.live = true ∧ u = s.turn who ∧ (s.proc p).image = some h ∧ (∀ q, s.waitsFor k q = false) ∧ s.asV2 k = true ∧
    s.asked k 1 = some p ∧ s.mbxLen k = 0) ∧
    (let s : State := heard (oldMail 2 3); let u : State := s; let k : Mbx := 0; let who : Init := .host; let p : Proc := .trp;
    let h : ImgHdr := { headerOf [1] with accept := 8, maj := 3 };
    s.live = true ∧ u = s.turn who ∧ (s.proc p).image = some h ∧ (∀ q, s.waitsFor k q = false) ∧ s.asV2 k = true ∧
    s.asked k 2 = some p ∧ s.mbxLen k ≤ 44) ∧
    (let s : State := heard (oldMail 3 0); let u : State := s; let k : Mbx := 0; let who : Init := .host; let p : Proc := .trp;
    let h : ImgHdr := { headerOf [1] with accept := 8, maj := 3 };
    s.live = true ∧ u = s.turn who ∧ (s.proc p).image = some h ∧ (∀ q, s.waitsFor k q = false) ∧ s.asV2 k = true ∧
    s.asked k 3 = some p ∧ s.mbxLen k = 0) ∧
    (let s : State := run; let u : State := s; let k : Mbx := 0; let who : Init := .host;
    s.live = true ∧ u = s.turn who ∧ s.asked k 1 = none ∧ s.asked k 2 = none ∧ s.asked k 3 = none) ∧
    (let s : State := booted; let u : State := s; let who : Init := .host;
    s.live = true ∧ u = s.turn who ∧ s.serves .trp = true) ∧
    (let s : State := booted.flag R.GLB_STATUS_ENABLED true; let u : State := s; let who : Init := .host;
    let bytes := List.replicate 160 1;
    s.live = true ∧ u = s.turn who ∧ s.serves .trp = true ∧ bytes.length = 160 ∧ s.on R.GLB_STATUS_ENABLED = true) ∧
    (let s : State := booted; let u : State := s; let who : Init := .host; let bytes := [1];
    s.live = true ∧ u = s.turn who ∧ s.serves .trp = true ∧ bytes.length ≠ 160) ∧
    (let s : State := booted; let u : State := s; let k : Mbx := 0; let who : Init := .host;
    let via : Option Mbx := (none : Option Mbx); let bytes : List Nat := tokBytes; let held : List Nat := tokBytes;
    let tok : LcToken := tokenOf tokBytes true; let sigOk : Bool := true;
    s.live = true ∧ u = s.turn who ∧ s.serves .trp = true ∧ s.on R.GLB_STATUS_ENABLED = false ∧ tok = tokenOf held sigOk ∧
    (via = none ∧ held = bytes ∧ bytes.length = 160 ∨ via = some k ∧ k.val = 0 ∧ s.asked k 0x502 = some .trp ∧ s.accepts .trp k = true ∧ s.mbxLong k = true ∧ s.mbxLen k = 160 ∧ held = (bytesOfWords s.mgt.mbx[k].req).take 160) ∧
    (s.lcSlots tok.target).contains tok.slot = true ∧ s.keyFor tok.slot 2 = true ∧ tok.ver = 1 ∧ tok.uid = Config.uid ∧
    tok.n = s.lcN ∧
    tok.nonce = [s.rd (R.MGT_LC_NONCE_NONCE 0), s.rd (R.MGT_LC_NONCE_NONCE 1), s.rd (R.MGT_LC_NONCE_NONCE 2), s.rd (R.MGT_LC_NONCE_NONCE 3)] ∧
    sigOk = true) ∧
    (let s : State := booted; let u : State := s; let k : Mbx := 0; let who : Init := .host;
    let via : Option Mbx := (none : Option Mbx); let bytes : List Nat := tokBytes; let held : List Nat := tokBytes;
    let tok : LcToken := tokenOf tokBytes false; let sigOk : Bool := false;
    s.live = true ∧ u = s.turn who ∧ s.serves .trp = true ∧ s.on R.GLB_STATUS_ENABLED = false ∧ tok = tokenOf held sigOk ∧
    (via = none ∧ held = bytes ∧ bytes.length = 160 ∨ via = some k ∧ k.val = 0 ∧ s.asked k 0x502 = some .trp ∧ s.accepts .trp k = true ∧ s.mbxLong k = true ∧ s.mbxLen k = 160 ∧ held = (bytesOfWords s.mgt.mbx[k].req).take 160) ∧
    sigOk = false) := by
  refine ⟨?_, ?_, ?_, ?_, ?_, ?_, ?_, ?_, ?_, ?_, ?_, ?_, ?_, ?_, ?_, ?_, ?_, ?_, ?_, ?_, ?_, ?_, ?_, ?_, ?_, ?_, ?_, ?_,
    ⟨by decide +kernel, by decide +kernel, by decide +kernel, by decide +kernel, rfl, .inl ⟨rfl, rfl, by decide +kernel⟩, by decide +kernel, by decide +kernel, by decide +kernel, uid_back _ rfl, by decide +kernel, by decide +kernel, by decide +kernel⟩,
    ⟨by decide +kernel, by decide +kernel, by decide +kernel, by decide +kernel, rfl, .inl ⟨rfl, rfl, by decide +kernel⟩, by decide +kernel⟩⟩ <;> decide +kernel

theorem witness_MeterCountingCommands :
    (let s : State := metering id;
    s.mtr.powered = true ∧ s.mtr.running = true) ∧
    (let s : State := metering fun m => { m with running := false };
    s.mtr.powered = true ∧ s.mtr.running = false) ∧
    (let s : State := metering id; let c : MtrCond := .tamper; let b : Bool := true; let o : Bool := true;
    s.mtr.powered = true ∧ b = (if c = .tamper then o else bit s.mtr.lastNow (condFlag c)) ∧ bit s.mtr.now (condFlag c) ≠ b) ∧
    (let s : State := metering fun m => { m with lastNow := 1, peak := 9 }; let c : MtrCond := .overrange; let b : Bool := true;
    let o : Bool := false;
    s.mtr.powered = true ∧ b = (if c = .tamper then o else bit s.mtr.lastNow (condFlag c)) ∧ bit s.mtr.now (condFlag c) ≠ b) ∧
    (let s : State := metering id; let c : MtrCond := .tamper; let b : Bool := false; let o : Bool := false;
    s.mtr.powered = true ∧ b = (if c = .tamper then o else bit s.mtr.lastNow (condFlag c)) ∧ bit s.mtr.now (condFlag c) = b) ∧
    (let s : State := metering id;
    s.mtr.powered = true) ∧
    (let s : State := metering id;
    s.mtr.powered = true) ∧
    (let s : State := { run with mtr := { saves := [⟨5, 6, 7, 8, 9, true, 10⟩] } }; let m : MtrSave := ⟨5, 6, 7, 8, 9, true, 10⟩;
    let l : List MtrSave := [];
    s.mtr.saves = m :: l ∧ m.atFail = true) ∧
    (let s : State := run;
    s.mtr.powered = false) ∧
    (let s : State := run;
    s.mtr.powered = false) ∧
    (let s : State := run;
    s.mtr.powered = false) ∧
    (let s : State := run;
    s.mtr.powered = false) ∧
    (let s : State := run;
    s.mtr.powered = false) ∧
    (let s : State := run;
    s.mtr.powered = false) := by
  refine ⟨?_, ?_, ?_, ?_, ?_, ?_, ?_, ?_, ?_, ?_, ?_, ?_, ?_, ?_⟩ <;> decide +kernel

theorem witness_MeterStampCommands :
    (let s : State := { metering id with chain := (run.chain.set 9 .meterCal) }; let u : State := s; let who : Init := .host;
    let d : Nat := s.draw.1; let x : Nat := s.draw.2.draw.1; let y : Nat := s.draw.2.draw.2.draw.1;
    u = s.turn who ∧ s.mtr.powered = true ∧ s.mtr.sealed = false ∧ s.chain[9] = .meterCal ∧ d = s.draw.1 ∧ x = s.draw.2.draw.1 ∧
    y = s.draw.2.draw.2.draw.1) ∧
    (let s : State := metering fun m => { m with sealed := true }; let u : State := s; let who : Init := .host;
    u = s.turn who ∧ s.mtr.powered = true ∧ (s.mtr.sealed = true ∨ s.chain[9] ≠ .meterCal)) ∧
    (let s : State := metering fun m => { m with sealed := true, queue := [stampReq, stampReq, stampReq] };
    let u : State := s.turn .plp; let who : Init := .plp; let kind : Nat := 3;
    u = s.turn who ∧ s.live = true ∧ who = .plp ∧ u.stampPend = false ∧ u.mtr.powered = true ∧ 0 < kind ∧ kind < 4 ∧
    u.mtr.sealed = true ∧ u.mtr.fault = false ∧ u.mtr.queue.length < 4) ∧
    (let s : State := metering fun m => { m with sealed := true, queue := List.replicate 4 stampReq };
    let u : State := s.turn .plp; let who : Init := .plp; let kind : Nat := 3;
    u = s.turn who ∧ s.live = true ∧ who = .plp ∧ u.stampPend = false ∧ u.mtr.powered = true ∧ 0 < kind ∧ kind < 4 ∧
    u.mtr.sealed = true ∧ u.mtr.fault = false ∧ 4 ≤ u.mtr.queue.length) ∧
    (let s : State := metering id; let u : State := s.turn .plp; let who : Init := .plp; let kind : Nat := 3;
    u = s.turn who ∧ s.live = true ∧ who = .plp ∧ u.stampPend = false ∧ u.mtr.powered = true ∧ 0 < kind ∧ kind < 4 ∧
    (u.mtr.sealed = false ∨ u.mtr.fault = true)) ∧
    (let s : State := metering id; let u : State := s.turn .plp; let who : Init := .plp;
    u = s.turn who ∧ s.live = true ∧ who = .plp ∧ u.stampPend = false) ∧
    (let s : State := run; let u : State := s; let who : Init := .host;
    u = s.turn who ∧ s.live = true ∧ (who ≠ .plp ∨ u.stampPend = true)) ∧
    (let s : State := metering fun m => { m with sealed := true, queue := [stampReq] }; let u : State := s;
    let who : Init := .host; let q : StampReq := stampReq; let l : List StampReq := []; let k : Nat := 0;
    u = s.turn who ∧ s.mtr.queue = q :: l ∧ k = s.mtr.stamps % 16) ∧
    (let s : State := metering id; let u : State := s; let who : Init := .host;
    u = s.turn who ∧ s.mtr.queue = []) := by
  refine ⟨⟨by decide +kernel, by decide +kernel, by decide +kernel, by decide +kernel, rfl, rfl, rfl⟩, ?_, ?_, ?_, ?_, ?_, ?_, ?_, ?_⟩ <;> decide +kernel

theorem witness_PhaseAndSense :
    (let s : State := (regulating 7 id).modPhase 7 11 fun p => { p with run := 4 }; let l : Loop := 7; let p : Phase := 11;
    s.rgcOn = true ∧ (s.inRot l).contains p = true ∧ s.on (R.RGC_PH_LOSS_TRIAL l p) = false ∧ 4 ≤ s.loop[l].phases[p].run ∧
    s.mode l ≠ 1) ∧
    (let s : State := (regulating 7 id).modPhase 7 11 fun p => { p with run := 3 }; let l : Loop := 7; let p : Phase := 11;
    s.rgcOn = true ∧ (s.loop[l].phases[p].run < 4 ∨ s.on (R.RGC_PH_LOSS_TRIAL l p) = true)) ∧
    (let s : State := ((regulating 7 id).wr (R.RGC_L_PHLOSS_LOST 7) 1).flag (R.RGC_PH_LOSS_OUT 7 11) true; let l : Loop := 7;
    let d : Die := 7; let p : Phase := 11;
    s.rgcOn = true ∧ s.live = true ∧ l.die? = some d ∧ s.on (R.RGC_PH_LOSS_OUT l p) = true) ∧
    (let s : State := regulating 15 id; let l : Loop := 15;
    s.rgcOn = true ∧ l.die? = none) ∧
    (let s : State := regulating 7 id; let l : Loop := 7; let p : Phase := 11;
    s.rgcOn = true ∧ s.on (R.RGC_PH_LOSS_OUT l p) = false) ∧
    (let s : State := ((regulating 7 id).flag (R.RGC_PH_LOSS_TRIAL 7 11) true).wr (R.RGC_L_PHLOSS_LOST 7) 1; let l : Loop := 7;
    let p : Phase := 11;
    s.rgcOn = true ∧ s.on (R.RGC_PH_LOSS_TRIAL l p) = true ∧ s.loop[l].phases[p].trial = 0) ∧
    (let s : State := regulating 7 fun L => { L with remoteBad := 16, badCause := 2, resp := some (false, 5) };
    let l : Loop := 7;
    s.rgcOn = true ∧ s.on (R.RGC_L_SENSE_LOCAL l) = false ∧ 16 ≤ s.loop[l].remoteBad ∧ s.switches l = true) ∧
    (let s : State := (regulating 7 fun L => { L with localBad := 16 }).flag (R.RGC_L_SENSE_LOCAL 7) true; let l : Loop := 7;
    s.rgcOn = true ∧ s.on (R.RGC_L_SENSE_LOCAL l) = true ∧ s.on (R.RGC_L_SENSE_RETRY l) = false ∧ 16 ≤ s.loop[l].localBad ∧
    s.drives l = true) ∧
    (let s : State := (regulating 7 fun L => { L with retryOk := 1024 }).flag (R.RGC_L_SENSE_RETRY 7) true; let l : Loop := 7;
    s.rgcOn = true ∧ s.on (R.RGC_L_SENSE_RETRY l) = true ∧ s.loop[l].retryBad = false ∧ 1024 ≤ s.loop[l].retryOk) ∧
    (let s : State := (regulating 7 fun L => { L with retryBad := true }).flag (R.RGC_L_SENSE_RETRY 7) true; let l : Loop := 7;
    s.rgcOn = true ∧ s.on (R.RGC_L_SENSE_RETRY l) = true ∧ s.loop[l].retryBad = true) ∧
    (let s : State := (regulating 7 fun L => { L with retryOk := 1023 }).flag (R.RGC_L_SENSE_RETRY 7) true; let l : Loop := 7;
    s.rgcOn = true ∧ s.loop[l].retryBad = false ∧ s.loop[l].retryOk < 1024) := by
  refine ⟨?_, ?_, ?_, ?_, ?_, ?_, ?_, ?_, ?_, ?_, ?_⟩ <;> decide +kernel

theorem witness_PowerCommands :
    (let s : State := State.reset;
    s.phase = .held ∧ s.trip.armed = none) ∧
    (let s : State := run;
    s.phase ≠ .held) ∧
    (let s : State := run.modRgc fun r => { r with leftReset := some 40 }; let x : Nat := 40;
    s.rgcOn = true ∧ s.rgc.leftReset = some x ∧ s.rgc.startupDone = false ∧ s.rgc.p12vLost = false ∧ s.goingDown = false) ∧
    (let s : State := run.modRgc fun r => { r with startupDone := true };
    s.rgcOn = true ∧ s.rgc.startupDone = true) ∧
    (let s : State := regulating 15 id;
    s.rgcOn = true ∧ s.rgc.p12vLost = false ∧ (∃ l : Loop, s.regulates l = true)) ∧
    (let s : State := run;
    s.rgcOn = true ∧ s.rgc.p12vLost = false ∧ (∀ l : Loop, s.mode l = 0 ∨ s.mode l = 5)) ∧
    (let s : State := run.modRgc fun r => { r with p12vLost := true };
    s.rgcOn = true ∧ s.rgc.p12vLost = true) ∧
    (let s : State := State.reset;
    s.phase ≠ .running ∧ s.lcState ≠ 2) ∧
    (let s : State := run;
    s.phase = .running) ∧
    (let s : State := { run with resetReq := some 3 }; let c : Fin 6 := 3;
    s.live = true ∧ (c = 5 ∨ s.resetReq = some c.val) ∧ s.frozen = false) ∧
    (let s : State := State.reset;
    s.live = false) ∧
    (let s : State := { run with phase := .blockReset };
    s.phase = .blockReset) ∧
    (let s : State := { ((regulating 10 id).setMode 15 2).flag R.CLK_SRC_PLL_LOCK true with phase := .blockReset };
    s.phase = .blockReset ∧ s.regulates 10 = true ∧ s.regulates 15 = true ∧ s.on R.CLK_SRC_PLL_LOCK = true ∧
    s.rd R.GLB_RST_INFO_CAUSE = 0) ∧
    (let s : State := { run with phase := .blockReset };
    s.phase = .blockReset ∧ (s.regulates 10 = false ∨ s.regulates 15 = false ∨ s.on R.CLK_SRC_PLL_LOCK = false)) := by
  refine ⟨?_, ?_, ?_, ?_, ?_, ?_, ?_, ?_, ?_, ?_, ?_, ?_, ?_, ?_⟩ <;> decide +kernel

theorem witness_PreArmCommands :
    (let s : State := { run with bus := [(7, .loadStep 7 (-1) 5 0)] }; let l : Loop := 7; let di : Int := -1;
    let rate : Nat := 5; let win : Nat := 0; let e : Nat × BusMsg := ((7, .loadStep 7 (-1) 5 0) : Nat × BusMsg);
    s.rgcOn = true ∧ l.val < 8 ∧ (s.bus.find? fun x => x.2 == .loadStep l di rate win) = some e ∧ di < 0) ∧
    (let s : State := { run with bus := [(7, .loadStep 7 1 5 0)] }; let l : Loop := 7; let di : Int := 1; let rate : Nat := 5;
    let win : Nat := 0; let e : Nat × BusMsg := ((7, .loadStep 7 1 5 0) : Nat × BusMsg);
    s.rgcOn = true ∧ l.val < 8 ∧ (s.bus.find? fun x => x.2 == .loadStep l di rate win) = some e ∧ 0 ≤ di ∧
    di < (16 * s.rd R.RGC_PREARM_MIN_A : Nat)) ∧
    (let s : State := { regulating 7 id with bus := [(7, .loadStep 7 4096 5 0)] }; let l : Loop := 7; let di : Int := 4096;
    let rate : Nat := 5; let win : Nat := 0; let e : Nat × BusMsg := ((7, .loadStep 7 4096 5 0) : Nat × BusMsg);
    s.rgcOn = true ∧ l.val < 8 ∧ (s.bus.find? fun x => x.2 == .loadStep l di rate win) = some e ∧ 0 ≤ di ∧
    (16 * s.rd R.RGC_PREARM_MIN_A : Nat) ≤ di ∧ s.vcl[State.satOf l].rgc.up = true ∧ s.regulates l = true ∧
    s.loop[l].down = false ∧ s.loop[l].pre = none) ∧
    (let s : State := { regulating 7 (fun L => { L with pre := some ⟨30000, some 90⟩ }) with bus := [(7, .loadStep 7 4096 5 0)] };
    let l : Loop := 7; let di : Int := 4096; let rate : Nat := 5; let win : Nat := 0;
    let e : Nat × BusMsg := ((7, .loadStep 7 4096 5 0) : Nat × BusMsg); let p : PreArm := ⟨30000, some 90⟩; let x : Nat := 90;
    s.rgcOn = true ∧ l.val < 8 ∧ (s.bus.find? fun x => x.2 == .loadStep l di rate win) = some e ∧ 0 ≤ di ∧
    (16 * s.rd R.RGC_PREARM_MIN_A : Nat) ≤ di ∧ s.vcl[State.satOf l].rgc.up = true ∧ s.regulates l = true ∧
    s.loop[l].down = false ∧ s.loop[l].pre = some p ∧ p.sent = some x) ∧
    (let s : State := (regulating 7 fun L => { L with pre := some ⟨30000, none⟩, okRun := 1000, vref := 830000 }).wr (R.RGC_L_TGT_TARGET 7) 800;
    let l : Loop := 7; let p : PreArm := ⟨30000, none⟩;
    s.rgcOn = true ∧ s.loop[l].pre = some p ∧ p.sent = none ∧ s.rd R.RGC_VCL_CFG_ACK_N ≤ s.loop[l].okRun ∧ s.atTarget l = true) ∧
    (let s : State := regulating 7 fun L => { L with pre := some ⟨30000, some 90⟩ }; let l : Loop := 7;
    let p : PreArm := ⟨30000, some 90⟩; let x : Nat := 90;
    s.rgcOn = true ∧ s.loop[l].pre = some p ∧ p.sent = some x) ∧
    (let s : State := { regulating 7 (fun L => { L with pre := some ⟨30000, some 90⟩ }) with bus := [(7, .release 7)] };
    let l : Loop := 7; let e : Nat × BusMsg := ((7, .release 7) : Nat × BusMsg);
    s.rgcOn = true ∧ (s.bus.find? fun x => x.2 == .release l) = some e ∧ s.loop[l].pre ≠ none) ∧
    (let s : State := run; let l : Loop := 7;
    s.rgcOn = true ∧ (∀ x ∈ s.bus, x.2 ≠ .release l)) := by
  refine ⟨?_, ?_, ?_, ?_, ?_, ?_, ?_, ?_⟩ <;> decide +kernel

theorem witness_ProcessorBootCommands :
    (let s : State := run; let u : State := s.turn .trp; let p : Proc := .trp; let b : BootIn := ⟨[], true, true, true, true⟩;
    s.live = true ∧ u = s.turn p.init ∧ s.pState .trp = 0 ∧ keyBlock b = none) ∧
    (let s : State := booted; let u : State := s.turn .trp; let p : Proc := .trp;
    s.live = true ∧ u = s.turn p.init ∧ s.pState .trp ≠ 0) ∧
    (let s : State := run; let u : State := s.turn .trp; let p : Proc := .trp; let b : BootIn := keysIn;
    let root : KeySlot := keyAt keysIn.block 8; let img : KeySlot := keyAt keysIn.block 0x88;
    let life : KeySlot := keyAt keysIn.block 0x108;
    s.live = true ∧ u = s.turn p.init ∧ keyBlock b = some (root, img, life) ∧ b.okA = true ∧ b.okB = true ∧ img.ver = 1 ∧
    bit img.use 0 = true ∧ (∀ e ∈ s.flash.image, (headerOf e.2).ver = 1) ∧ s.pState .trp = 0) ∧
    (let s : State := { run with mgt := { keyRetry := some 90 } }; let u : State := s.turn .trp; let p : Proc := .trp;
    let b : BootIn := keysIn; let root : KeySlot := keyAt keysIn.block 8; let img : KeySlot := keyAt keysIn.block 0x88;
    let life : KeySlot := keyAt keysIn.block 0x108; let x : Nat := 90;
    s.live = true ∧ u = s.turn p.init ∧ keyBlock b = some (root, img, life) ∧ b.okA = true ∧ b.okB = true ∧ img.ver = 1 ∧
    bit img.use 0 = true ∧ (∀ e ∈ s.flash.image, (headerOf e.2).ver = 1) ∧ s.mgt.keyRetry = some x) ∧
    (let s : State := { run with mgt := { keyRetry := some 90 } }; let u : State := s.turn .trp; let p : Proc := .trp;
    let b : BootIn := ⟨[], true, true, true, true⟩; let x : Nat := 90;
    s.live = true ∧ u = s.turn p.init ∧ s.mgt.keyRetry = some x ∧ keyBlock b = none) ∧
    (let s : State := run; let u : State := s.turn .trp; let p : Proc := .trp;
    s.live = true ∧ u = s.turn p.init ∧ s.mgt.keyRetry = none) ∧
    (let s : State := awake .trp; let u : State := s.turn .trp; let p : Proc := .trp; let prov := [2]; let sigOk := true;
    s.live = true ∧ u = s.turn p.init ∧ s.runs .trp = true ∧ s.mgt.ceilDone = false ∧ s.provValid (provOf prov sigOk) = false ∧
    s.libStored = none) ∧
    (let s : State := { awake .trp with mgt := { keys := (Vector.replicate 16 none).set 0 (some ⟨1, 8, 0, 0⟩) } };
    let u : State := s.turn .trp; let p : Proc := .trp; let prov := provBytes; let sigOk := true;
    s.live = true ∧ u = s.turn p.init ∧ s.runs .trp = true ∧ s.mgt.ceilDone = false ∧ s.provValid (provOf prov sigOk) = true ∧
    s.libStored = none) ∧
    (let s : State := booted; let u : State := s.turn .trp; let p : Proc := .trp;
    s.live = true ∧ u = s.turn p.init ∧ s.mgt.ceilDone = true) ∧
    (let s : State := { booted with regs := (booted.wr (R.MGT_P_STATE_STATE 2) 0).regs }; let u : State := s.turn .svp;
    let p : Proc := .svp;
    s.live = true ∧ u = s.turn p.init ∧ p ≠ .trp ∧ (p = .svp → s.pState .plp ≠ 0) ∧ s.runs .trp = true ∧ s.mgt.ceilDone = true ∧
    s.pState p = 0 ∧ s.keyFor 1 0 = true ∧ (∀ e ∈ s.flash.image, (headerOf e.2).ver = 1)) ∧
    (let s : State := { booted with regs := (booted.wr (R.MGT_P_STATE_STATE 2) 0).regs, flash := { boot := [] } };
    let u : State := s.turn .svp; let p : Proc := .svp;
    s.live = true ∧ u = s.turn p.init ∧ p ≠ .trp ∧ (p = .svp → s.pState .plp ≠ 0) ∧ s.runs .trp = true ∧ s.mgt.ceilDone = true ∧
    s.pState p = 0 ∧ s.keyFor 1 0 = true ∧ (∀ e ∈ s.flash.image, (headerOf e.2).ver = 1) ∧ s.flash.boot = []) ∧
    (let s : State := booted; let u : State := s.turn .svp; let p : Proc := .svp; let c0 : Nat := 0x84; let c1 : Nat := 0x84;
    let c2 : Nat := 0x80; let c3 : Nat := 0x80;
    s.live = true ∧ u = s.turn p.init ∧ u.runs p = true ∧ p ≠ .trp ∧
    (∀ k : Fin 4, bit ((u.proc p).pmp.toList.getD k 0) 7 = false) ∧ State.pmpOk c0 (some false) true = true ∧
    State.pmpOk c1 (some false) true = true ∧ State.pmpOk c2 none false = true ∧ State.pmpOk c3 none false = true) ∧
    (let s : State := booted; let u : State := s.turn .svp; let p : Proc := .svp; let c0 : Nat := 0x04; let c1 : Nat := 0x84;
    let c2 : Nat := 0x80; let c3 : Nat := 0x80;
    s.live = true ∧ u = s.turn p.init ∧ u.runs p = true ∧ p ≠ .trp ∧
    (∀ k : Fin 4, bit ((u.proc p).pmp.toList.getD k 0) 7 = false) ∧
    (State.pmpOk c0 (some false) true = false ∨ State.pmpOk c1 (some false) true = false ∨ State.pmpOk c2 none false = false ∨ State.pmpOk c3 none false = false) ∧
    (p = .svp ∨ s.serves p = true ∨ u.serves p = false)) ∧
    (let s : State := booted; let u : State := s.turn .trp; let p : Proc := .trp;
    s.live = true ∧ u = s.turn p.init ∧ p = .trp ∧ u.runs .trp = true) ∧
    (let s : State := booted.flag R.GLB_GOV_CTL_ENABLE true; let u : State := s.turn .plp; let p : Proc := .plp;
    s.live = true ∧ u = s.turn p.init ∧ p = .plp ∧ u.runs .plp = true ∧ (u.proc .plp).trial = none ∧
    u.on R.GLB_GOV_CTL_ENABLE = true) ∧
    (let s : State := booted; let u : State := s.turn .plp; let p : Proc := .plp; let l : Loop := 10; let k : Fin 16 := 3;
    s.live = true ∧ u = s.turn p.init ∧ p = .plp ∧ u.runs .plp = true ∧ u.on R.GLB_GOV_CTL_ENABLE = false ∧
    (l.val < 8 → k.val ≠ 0) ∧ (8 ≤ l.val → k.val < 4) ∧ l.val < 11) := by
  refine ⟨?_, ?_, ?_, ?_, ?_, ?_, ?_,
    ⟨by decide +kernel, by decide +kernel, by decide +kernel, by decide +kernel, prov_valid _ (by decide +kernel) (by decide +kernel), by decide +kernel⟩,
    ?_, ?_, ?_, ?_, ?_, ?_, ?_, ?_⟩ <;> decide +kernel

theorem witness_ProcessorRunCommands :
    (let s : State := booted.modProc .svp fun q => { q with buf := [⟨0x10000, 5, 2⟩, ⟨0x210000, 5, 2⟩] }; let p : Proc := .svp;
    let addr : Nat := 0x10000; let kind : Nat := 1; let i : Nat := 0; let flash : Option Nat := (none : Option Nat);
    let u : State := s; let e : BufStore := ⟨0x10000, 5, 2⟩; let rest : List BufStore := [⟨0x210000, 5, 2⟩]; let k : Nat := 2;
    s.live = true ∧ s.runs p = true ∧ (s.proc p).buf.findIdx? (fun x => x.addr == addr) = some i ∧
    u = s.each (List.range i) (fun _ s => s.drainFirst p) ∧ (u.proc p).buf = e :: rest ∧ u.storeKind p e kind flash = some k ∧
    (u.proc p).fail = none) ∧
    (let s : State := booted.modProc .svp fun q => { q with buf := [⟨0x210000, 5, 2⟩, ⟨0x10000, 5, 2⟩], fail := some ⟨64, 1, 255⟩ };
    let p : Proc := .svp; let addr : Nat := 0x10000; let kind : Nat := 1; let i : Nat := 1;
    let flash : Option Nat := (none : Option Nat); let u : State := s.drainFirst .svp; let e : BufStore := ⟨0x10000, 5, 2⟩;
    let rest : List BufStore := ([] : List BufStore); let k : Nat := 2; let f : StoreFail := ⟨64, 1, 255⟩;
    s.live = true ∧ s.runs p = true ∧ (s.proc p).buf.findIdx? (fun x => x.addr == addr) = some i ∧
    u = s.each (List.range i) (fun _ s => s.drainFirst p) ∧ (u.proc p).buf = e :: rest ∧ u.storeKind p e kind flash = some k ∧
    (u.proc p).fail = some f) ∧
    (let s : State := booted.modProc .svp fun q => { q with buf := [⟨0x210000, 5, 2⟩] }; let p : Proc := .svp;
    let addr : Nat := 0x210000; let kind : Nat := 1; let i : Nat := 0; let flash : Option Nat := (none : Option Nat);
    let u : State := s; let e : BufStore := ⟨0x210000, 5, 2⟩; let rest : List BufStore := ([] : List BufStore);
    s.live = true ∧ s.runs p = true ∧ (s.proc p).buf.findIdx? (fun x => x.addr == addr) = some i ∧
    u = s.each (List.range i) (fun _ s => s.drainFirst p) ∧ (u.proc p).buf = e :: rest ∧ u.storeKind p e kind flash = none) ∧
    (let s : State := booted; let p : Proc := .svp; let addr : Nat := 0x180000;
    s.live = true ∧ (s.runs p = false ∨ (∀ x ∈ (s.proc p).buf, x.addr ≠ addr))) ∧
    (let s : State := booted.modProc .svp fun q => { q with fail := some ⟨64, 1, 3⟩, buf := [⟨0x210000, 5, 2⟩] };
    let p : Proc := .svp; let op : OrdOp := .load 0x10000000 2 false; let f : StoreFail := ⟨64, 1, 3⟩;
    let u : State := s.drainAll .svp;
    s.live = true ∧ s.runs p = true ∧ u = s.drainAll p ∧ (u.proc p).fail = some f ∧ (u.proc p).buf = [] ∧ orders op = true) ∧
    (let s : State := booted.modProc .svp fun q => { q with buf := [⟨0x210000, 5, 2⟩] }; let p : Proc := .svp;
    let u : State := s.drainAll .svp;
    s.live = true ∧ s.runs p = true ∧ u = s.drainAll p ∧ (u.proc p).fail = none) ∧
    (let s : State := booted.modProc .svp fun q => { q with pmp := Vector.replicate 16 0x98, pmpAddr := Vector.replicate 16 0x40 };
    let p : Proc := .svp; let a : Nat := 0x100; let u : State := s;
    s.live = true ∧ s.runs p = true ∧ u = (if ordersLoad a then s.drainAll p else s) ∧
    ((u.proc p).fail = none ∨ ordersLoad a = false) ∧ u.pmpLets p .read a = false ∧ (u.proc p).buf = []) ∧
    (let s : State := booted; let p : Proc := .svp; let a : Nat := 0x10000; let z : Nat := 2; let e : Bool := false;
    let u : State := s; let k : Nat := 2;
    s.live = true ∧ s.runs p = true ∧ u = (if ordersLoad a then s.drainAll p else s) ∧
    ((u.proc p).fail = none ∨ ordersLoad a = false) ∧ u.pmpLets p .read a = true ∧ u.loadKind p a z e = some k ∧
    (u.proc p).buf = []) ∧
    (let s : State := booted; let p : Proc := .svp; let a : Nat := 0x10000000; let z : Nat := 2; let e : Bool := false;
    let u : State := s.drainAll .svp;
    s.live = true ∧ s.runs p = true ∧ u = (if ordersLoad a then s.drainAll p else s) ∧
    ((u.proc p).fail = none ∨ ordersLoad a = false) ∧ u.pmpLets p .read a = true ∧ u.loadKind p a z e = none ∧
    inWindow a = true ∧ z = 2) ∧
    (let s : State := booted; let p : Proc := .svp; let a : Nat := 0x10000001; let z : Nat := 0; let e : Bool := false;
    let u : State := s.drainAll .svp;
    s.live = true ∧ s.runs p = true ∧ u = (if ordersLoad a then s.drainAll p else s) ∧
    ((u.proc p).fail = none ∨ ordersLoad a = false) ∧ u.pmpLets p .read a = true ∧ u.loadKind p a z e = none ∧
    inWindow a = true ∧ z < 2) ∧
    (let s : State := booted.setRam 0x210000 0x12345678; let p : Proc := .svp; let a : Nat := 0x210002; let z : Nat := 1;
    let e : Bool := false; let u : State := if ordersLoad 0x210002 then s.drainAll .svp else s;
    s.live = true ∧ s.runs p = true ∧ u = (if ordersLoad a then s.drainAll p else s) ∧
    ((u.proc p).fail = none ∨ ordersLoad a = false) ∧ u.pmpLets p .read a = true ∧ u.loadKind p a z e = none ∧ inSram a = true) ∧
    (let s : State := booted; let p : Proc := .svp; let a : Nat := 0x80000; let z : Nat := 2; let e : Bool := false;
    let u : State := s;
    s.live = true ∧ s.runs p = true ∧ u = (if ordersLoad a then s.drainAll p else s) ∧
    ((u.proc p).fail = none ∨ ordersLoad a = false) ∧ u.pmpLets p .read a = true ∧ u.loadKind p a z e = none ∧ inKeys a = true ∧
    p ≠ .trp) ∧
    (let s : State := booted; let p : Proc := .svp; let a : Nat := 0x204000; let z : Nat := 2; let e : Bool := false;
    let u : State := s;
    s.live = true ∧ s.runs p = true ∧ u = (if ordersLoad a then s.drainAll p else s) ∧
    ((u.proc p).fail = none ∨ ordersLoad a = false) ∧ u.pmpLets p .read a = true ∧ u.loadKind p a z e = none ∧ inLong a = true) ∧
    (let s : State := booted; let p : Proc := .svp; let a : Nat := 0x210000; let u : State := s.drainAll .svp;
    s.live = true ∧ s.runs p = true ∧ u = s.drainAll p ∧ (u.proc p).fail = none ∧ sharedSram a = true ∧
    u.pmpLets p .write a = true) ∧
    (let s : State := booted; let p : Proc := .svp; let a : Nat := 0x180000;
    s.live = true ∧ s.runs p = true ∧ (s.proc p).buf = [] ∧ sharedSram a = false) ∧
    (let s : State := booted.modProc .svp fun q => { q with pmp := Vector.replicate 16 0x98, pmpAddr := Vector.replicate 16 0x40 };
    let p : Proc := .svp; let a : Nat := 0x100;
    s.live = true ∧ s.runs p = true ∧ s.pmpLets p .write a = false ∧ (s.proc p).buf = []) ∧
    (let s : State := booted; let p : Proc := .svp; let a : Nat := 0x180000;
    s.live = true ∧ s.runs p = true ∧ s.pmpLets p .write a = true ∧ ownSram p a = true) ∧
    (let s : State := booted; let p : Proc := .svp; let a : Nat := 0x210000;
    s.live = true ∧ s.runs p = true ∧ s.pmpLets p .write a = true ∧ ownSram p a = false ∧ (s.proc p).buf.length < 8) ∧
    (let s : State := booted.modProc .svp fun q => { q with buf := List.replicate 8 ⟨0x210000, 5, 2⟩ }; let p : Proc := .svp;
    let a : Nat := 0x210004;
    s.live = true ∧ s.runs p = true ∧ s.pmpLets p .write a = true ∧ ownSram p a = false ∧ 8 ≤ (s.proc p).buf.length) ∧
    (let s : State := booted; let p : Proc := .svp; let a : Nat := 0x180000;
    s.live = true ∧ s.runs p = true ∧ (s.pmpLets p .execute a = true ∧ mayAccess p.init .execute a = true)) ∧
    (let s : State := booted; let p : Proc := .svp; let a : Nat := 0x10000000;
    s.live = true ∧ s.runs p = true ∧ (s.pmpLets p .execute a = false ∨ mayAccess p.init .execute a = false) ∧
    (s.proc p).buf = []) ∧
    (let s : State := booted.modProc .svp fun q => { q with buf := [⟨0x210000, 5, 2⟩] }; let p : Proc := .svp;
    let e : BufStore := ⟨0x210000, 5, 2⟩;
    s.live = true ∧ s.runs p = true ∧ (s.proc p).buf = [e] ∧ s.storeKind p e 0 none = none) ∧
    (let s : State := booted.modProc .svp fun q => { q with buf := [⟨0x10000, 5, 2⟩] }; let p : Proc := .svp;
    let e : BufStore := ⟨0x10000, 5, 2⟩; let k : Nat := 2;
    s.live = true ∧ s.runs p = true ∧ (s.proc p).buf = [e] ∧ s.storeKind p e 0 none = some k ∧ (s.proc p).fail = none) ∧
    (let s : State := booted; let p : Proc := .svp; let k : Fin 16 := 15;
    s.live = true ∧ s.runs p = true ∧ bit (s.proc p).pmp[k] 7 = false) ∧
    (let s : State := booted.modProc .svp fun q => { q with pmp := Vector.replicate 16 0x98 }; let p : Proc := .svp;
    let k : Fin 16 := 15;
    s.live = true ∧ s.runs p = true ∧ bit (s.proc p).pmp[k] 7 = true) ∧
    (let s : State := run; let p : Proc := .svp;
    s.live = true ∧ s.runs p = false) ∧
    (let s : State := booted; let p : Proc := .svp;
    s.live = true ∧ s.runs p = true ∧ s.frozen = false) ∧
    (let s : State := run; let p : Proc := .svp;
    s.live = true ∧ (s.runs p = false ∨ s.frozen = true)) ∧
    (let s : State := booted; let p : Proc := .svp; let u : State := s.turn .svp;
    s.live = true ∧ u = s.turn p.init) ∧
    (let s : State := booted; let p : Proc := .plp; let u : State := s.turn .plp;
    s.live = true ∧ u = s.turn p.init ∧ u.runs p = true) ∧
    (let s : State := booted.wr (R.MGT_P_RESTART_KEY 2) 0xC0DE; let p : Proc := .svp; let w : Init := .trp;
    let u : State := s.turn .trp;
    s.live = true ∧ u = s.turn w ∧ p ≠ .trp ∧ u.runs p = true ∧ (w = .trp ∨ w = .host) ∧
    u.rd (R.MGT_P_RESTART_KEY p.idx) = 0xC0DE) ∧
    (let s : State := booted; let p : Proc := .svp; let w : Init := .host; let u : State := s;
    s.live = true ∧ u = s.turn w ∧ w ≠ p.init ∧ (u.rd (R.MGT_P_RESTART_KEY p.idx) ≠ 0xC0DE ∨ p = .trp ∨ w = .plp ∨ w = .svp)) ∧
    (let s : State := booted; let p : Proc := .svp;
    s.live = true ∧ p ≠ .trp ∧ s.runs .trp = true ∧ s.runs p = true) ∧
    (let s : State := run; let p : Proc := .svp;
    s.live = true ∧ (p = .trp ∨ s.runs .trp = false)) ∧
    (let s : State := booted.modProc .svp fun q => { q with restart := some (.draining, 3) }; let p : Proc := .svp;
    let cause : Nat := 3; let a : Nat := 0x60000;
    s.live = true ∧ (s.proc p).restart = some (.draining, cause) ∧ (s.proc p).buf = [] ∧ ownSram p (4 * a) = true) ∧
    (let s : State := booted.modProc .svp fun q => { q with restart := some (.draining, 3), buf := [⟨0x210000, 5, 2⟩] };
    let p : Proc := .svp; let e : BufStore := ⟨0x210000, 5, 2⟩; let cause : Nat := 3;
    s.live = true ∧ (s.proc p).restart = some (.draining, cause) ∧ (s.proc p).buf = [e] ∧
    (s.accessFails p .write e.addr e.size = none ∨ s.accessFails p .write e.addr e.size = some 1) ∧ (s.proc p).fail = none) ∧
    (let s : State := booted.modProc .svp fun q => { q with restart := some (.draining, 3), buf := [⟨0x210000, 5, 2⟩] };
    let p : Proc := .svp; let e : BufStore := ⟨0x210000, 5, 2⟩; let cause : Nat := 3;
    s.live = true ∧ (s.proc p).restart = some (.draining, cause) ∧ (s.proc p).buf = [e] ∧
    s.accessFails p .write e.addr e.size = none ∧ sharedSram e.addr = true ∧ e.size = 2) ∧
    (let s : State := booted; let p : Proc := .svp;
    s.live = true ∧ (s.proc p).restart.map (·.1) ≠ some .draining) ∧
    (let s : State := (booted.wr (R.MGT_P_STATE_STATE 2) 1).modProc .svp fun q => { q with restart := some (.loading, 3) };
    let p : Proc := .svp; let b : BootIn := ⟨[], true, true, true, true⟩; let cause : Nat := 3;
    s.live = true ∧ (s.proc p).restart = some (.loading, cause) ∧ s.turnOf p = true ∧ p ≠ .trp ∧ s.keyFor 1 0 = true ∧
    b.okA = true ∧ b.okB = true ∧ (∀ e ∈ s.flash.image, (headerOf e.2).ver = 1)) ∧
    (let s : State := booted; let p : Proc := .svp;
    s.live = true ∧ ((s.proc p).restart = none ∨ s.turnOf p = false)) := by
  refine ⟨?_, ?_, ?_, ?_, ?_, ?_, ?_, ?_, ?_, ?_, ?_, ?_, ?_, ?_, ?_, ?_, ?_, ?_, ?_, ?_, ?_, ?_, ?_, ?_, ?_, ?_, ?_, ?_, ?_, ?_, ?_, ?_, ?_, ?_, ?_, ?_, ?_, ?_, ?_, ?_⟩ <;> decide +kernel

theorem witness_QueueFlowCommands :
    (let s : State := queued none fun q => { q with tail := 1 }; let q : Queue := 31; let l : List Nat := descLine 0x60;
    let c : Desc := desc 0x60; let n : Nat := 1;
    s.live = true ∧ c = descOf l ∧ s.qState q = 1 ∧ s.queue[q].cmd = none ∧ s.queue[q].fin = none ∧
    s.queue[q].tail ≠ s.rd (R.HIF_Q_STS_SQ_HEAD q) ∧ n = (s.rd (R.HIF_Q_STS_SQ_HEAD q) + 1) % s.sqSize q ∧ s.descStatus c ≠ 0) ∧
    (let s : State := queued none fun q => { q with tail := 1 }; let q : Queue := 31; let l : List Nat := descLine 0x00;
    let c : Desc := desc 0x00; let n : Nat := 1;
    s.live = true ∧ c = descOf l ∧ s.qState q = 1 ∧ s.queue[q].cmd = none ∧ s.queue[q].fin = none ∧
    s.queue[q].tail ≠ s.rd (R.HIF_Q_STS_SQ_HEAD q) ∧ n = (s.rd (R.HIF_Q_STS_SQ_HEAD q) + 1) % s.sqSize q ∧ s.descStatus c = 0) ∧
    (let s : State := queued (some (desc 0x30 1)) fun q => { q with work := some (.msgWait 1 [0] 90 true) }; let q : Queue := 31;
    let c : Desc := desc 0x30 1; let h : Nat := 1; let k := (1 : Mbx); let ws := [0]; let till : Nat := 90; let b := true;
    s.live = true ∧ s.queue[q].work = some (.msgWait k ws till b) ∧ s.queue[q].cmd = some (c, h)) ∧
    (let s : State := ((queued (some (desc 0x30 1)) fun q => { q with work := some (.msgSent 1 90 true) }).flag (R.MBX_CTL_GO 1) true).modMbx 1 fun m => { m with held := some 31 };
    let q : Queue := 31; let c : Desc := desc 0x30 1; let h : Nat := 1; let k := (1 : Mbx); let till : Nat := 90; let b := true;
    s.live = true ∧ s.queue[q].work = some (.msgSent k till b) ∧ s.queue[q].cmd = some (c, h) ∧ s.go k = true) ∧
    (let s : State := queued none fun q => { q with fin := some ⟨7, 1, 0, 0, 0⟩, head := 2 }; let q : Queue := 31;
    let f := (⟨7, 1, 0, 0, 0⟩ : Cpl);
    s.live = true ∧ s.queue[q].fin = some f ∧ s.cqFull q = false ∧ s.qState q ≠ 3) ∧
    (let s : State := queued none fun q => { q with fin := some ⟨7, 1, 0, 0, 0⟩, head := 1 }; let q : Queue := 31;
    let f := (⟨7, 1, 0, 0, 0⟩ : Cpl);
    s.live = true ∧ s.queue[q].fin = some f ∧ s.cqFull q = true ∧ s.qState q = 1) ∧
    (let s : State := run;
    s.live = true ∧ (∀ p : Queue, s.watched p = false)) ∧
    (let s : State := (queued none id).flag (R.HIF_Q_CFG_EN 31) true; let q : Queue := 31;
    let l : List Doorbell := List.replicate 31 (some (bell 0 0)) ++ [some (bell 15 15)]; let w : List Nat := bell 15 15;
    s.live = true ∧ l[q.val]? = some (some w) ∧ s.watched q = true ∧
    (lineTail w, lineHead w) ≠ (s.queue[q].tail, s.queue[q].head) ∧ lineTail w < s.sqSize q ∧ lineHead w < s.cqSize q) := by
  refine ⟨?_, ?_, ?_, ?_, ?_, ?_, ?_, ?_⟩ <;> decide +kernel

theorem witness_QueueWorkCommands :
    (let s : State := queued (some (desc 0x00)) id; let q : Queue := 31; let c : Desc := desc 0x00; let h : Nat := 1;
    s.live = true ∧ s.queue[q].cmd = some (c, h) ∧ s.queue[q].started = true ∧ s.queue[q].work = none ∧ c.opc = 0x00) ∧
    (let s : State := queued (some (desc 0x01 1)) id; let q : Queue := 31; let c : Desc := desc 0x01 1; let h : Nat := 1;
    s.live = true ∧ s.queue[q].cmd = some (c, h) ∧ s.queue[q].started = true ∧ s.queue[q].work = none ∧ c.opc = 0x01) ∧
    (let s : State := queued (some (desc 0x02 (2 ^ 31 + 1))) id; let q : Queue := 31; let c : Desc := desc 0x02 (2 ^ 31 + 1);
    let h : Nat := 1;
    s.live = true ∧ s.queue[q].cmd = some (c, h) ∧ s.queue[q].started = true ∧ s.queue[q].work = none ∧ c.opc = 0x02 ∧
    bit c.arg0 31 = true) ∧
    (let s : State := queued (some (desc 0x02 1)) id; let q : Queue := 31; let c : Desc := desc 0x02 1; let h : Nat := 1;
    s.live = true ∧ s.queue[q].cmd = some (c, h) ∧ s.queue[q].started = true ∧ s.queue[q].work = none ∧ c.opc = 0x02 ∧
    bit c.arg0 31 = false ∧ c.arg0 = 1) ∧
    (let s : State := queued (some (desc 0x10)) id; let q : Queue := 31; let c : Desc := desc 0x10; let h : Nat := 1;
    s.live = true ∧ s.queue[q].cmd = some (c, h) ∧ s.queue[q].started = true ∧ s.queue[q].work = none ∧ c.opc = 0x10) ∧
    (let s : State := queued (some (desc 0x11)) id; let q : Queue := 31; let c : Desc := desc 0x11; let h : Nat := 1;
    s.live = true ∧ s.queue[q].cmd = some (c, h) ∧ s.queue[q].started = true ∧ s.queue[q].work = none ∧ c.opc = 0x11) ∧
    (let s : State := queued (some (desc 0x12 128)) id; let q : Queue := 31; let c : Desc := desc 0x12 128; let h : Nat := 1;
    s.live = true ∧ s.queue[q].cmd = some (c, h) ∧ s.queue[q].started = true ∧ s.queue[q].work = none ∧ c.opc = 0x12 ∧
    (bit c.arg0 8 = false ∨ c.arg0 % 256 = 0)) ∧
    (let s : State := queued (some (desc 0x12 384)) id; let q : Queue := 31; let c : Desc := desc 0x12 384; let h : Nat := 1;
    s.live = true ∧ s.queue[q].cmd = some (c, h) ∧ s.queue[q].started = true ∧ s.queue[q].work = none ∧ c.opc = 0x12 ∧
    bit c.arg0 8 = true ∧ c.arg0 % 256 ≠ 0) ∧
    (let s : State := queued (some (desc 0x20 1)) id; let q : Queue := 31; let c : Desc := desc 0x20 1; let h : Nat := 1;
    s.live = true ∧ s.queue[q].cmd = some (c, h) ∧ s.queue[q].started = true ∧ s.queue[q].work = none ∧ c.opc = 0x20 ∧
    c.arg0 = 1 ∧ s.on R.BUD_JOB_CTL_RUNNING = false) ∧
    (let s : State := (queued (some (desc 0x20 1)) id).flag R.BUD_JOB_CTL_RUNNING true; let q : Queue := 31;
    let c : Desc := desc 0x20 1; let h : Nat := 1;
    s.live = true ∧ s.queue[q].cmd = some (c, h) ∧ s.queue[q].started = true ∧ s.queue[q].work = none ∧ c.opc = 0x20 ∧
    c.arg0 = 1 ∧ s.on R.BUD_JOB_CTL_RUNNING = true) ∧
    (let s : State := (queued (some (desc 0x20 2)) id).flag R.BUD_JOB_CTL_RUNNING true; let q : Queue := 31;
    let c : Desc := desc 0x20 2; let h : Nat := 1;
    s.live = true ∧ s.queue[q].cmd = some (c, h) ∧ s.queue[q].started = true ∧ s.queue[q].work = none ∧ c.opc = 0x20 ∧
    c.arg0 = 2 ∧ s.on R.BUD_JOB_CTL_RUNNING = true) ∧
    (let s : State := queued (some (desc 0x20 2)) id; let q : Queue := 31; let c : Desc := desc 0x20 2; let h : Nat := 1;
    s.live = true ∧ s.queue[q].cmd = some (c, h) ∧ s.queue[q].started = true ∧ s.queue[q].work = none ∧ c.opc = 0x20 ∧
    c.arg0 = 2 ∧ s.on R.BUD_JOB_CTL_RUNNING = false) ∧
    (let s : State := (queued (some (desc 0x30 2)) id).flag (R.MBX_CTL_GO 2) true; let q : Queue := 31;
    let c : Desc := desc 0x30 2; let h : Nat := 1; let k : Mbx := (2 : Mbx);
    s.live = true ∧ s.queue[q].cmd = some (c, h) ∧ s.queue[q].started = true ∧ s.queue[q].work = none ∧ c.opc = 0x30 ∧
    k = (if c.arg0 = 1 then 1 else 2) ∧ (s.go k = true ∨ s.mgt.mbx[k].held.isSome = true)) ∧
    (let s : State := queued (some (desc 0x30 1)) id; let q : Queue := 31; let c : Desc := desc 0x30 1; let h : Nat := 1;
    let ws : List Nat := [0x30, 2 ^ 32 + 5]; let k : Mbx := (1 : Mbx);
    s.live = true ∧ s.queue[q].cmd = some (c, h) ∧ s.queue[q].started = true ∧ s.queue[q].work = none ∧ c.opc = 0x30 ∧
    k = (if c.arg0 = 1 then 1 else 2) ∧ s.go k = false ∧ s.mgt.mbx[k].held = none ∧ bits (nth ws 0) 4 4 = 3 ∧ 2 ≤ ws.length) ∧
    (let s : State := queued (some (desc 0x40)) id; let q : Queue := 31; let c : Desc := desc 0x40; let h : Nat := 1;
    let l := s.recordsFrom c.arg0 c.arg1;
    s.live = true ∧ s.queue[q].cmd = some (c, h) ∧ s.queue[q].started = true ∧ s.queue[q].work = none ∧ c.opc = 0x40 ∧
    l = s.recordsFrom c.arg0 c.arg1) ∧
    (let s : State := { queued (some (desc 0x50)) id with mtr := { powered := true } }; let q : Queue := 31;
    let c : Desc := desc 0x50; let h : Nat := 1;
    s.live = true ∧ s.queue[q].cmd = some (c, h) ∧ s.queue[q].started = true ∧ s.queue[q].work = none ∧ c.opc = 0x50) := by
  refine ⟨?_, ?_, ?_, ?_, ?_, ?_, ?_, ?_, ?_, ?_, ?_, ?_, ?_, ?_, ?_, ?_⟩ <;> decide +kernel

theorem witness_RailProtection :
    (let s : State := regulating 7 fun L => { L with phases := L.phases.set 11 { L.phases[11] with level := 2, at_ := 0 } };
    let l : Loop := 7; let p : Phase := 11;
    s.rgcOn = true ∧ (s.inRot l).contains p = true) ∧
    (let s : State := regulating 7 fun L => { L with shortRun := 8, ovlNs := 100000000 }; let l : Loop := 7;
    s.rgcOn = true ∧ s.regulates l = true ∧ 8 ≤ s.loop[l].shortRun ∧ s.avgI l ≤ s.iRef l ∧ s.drives l = true ∧
    100000 * s.rd (R.RGC_L_PROT_OVL_OFF l) ≤ s.loop[l].ovlNs) ∧
    (let s : State := regulating 7 fun L => { L with shortRun := 8, ovlNs := 10000000 }; let l : Loop := 7; let d : Die := 7;
    s.rgcOn = true ∧ l.die? = some d ∧ s.live = true ∧ s.on (R.RGC_L_OVL_FEATHER l) = false ∧
    10000 * s.rd (R.RGC_L_PROT_OVL_FEATHER l) ≤ s.loop[l].ovlNs) ∧
    (let s : State := regulating 15 fun L => { L with ovlNs := 10000000 }; let l : Loop := 15;
    s.rgcOn = true ∧ 8 ≤ l.val ∧ s.on (R.RGC_L_OVL_FEATHER l) = false ∧
    10000 * s.rd (R.RGC_L_PROT_OVL_FEATHER l) ≤ s.loop[l].ovlNs) ∧
    (let s : State := regulating 7 fun L => { L with means := List.replicate 64 100000 }; let l : Loop := 7;
    s.rgcOn = true ∧ s.iRef l < s.avgI l) ∧
    (let s : State := (regulating 15 id).flag (R.RGC_L_ALERT_EN 15) true; let l : Loop := 15;
    s.rgcOn = true ∧ l.die? = none ∧ s.alerted l = false ∧ s.on (R.RGC_L_ALERT_EN l) = true ∧ s.mode l ≠ 1) ∧
    (let s : State := ((regulating 7 fun L => { L with cuff := 8 }).flag (R.RGC_L_ALERT_EN 7) true).flag (R.RGC_L_ALERT_NOW 7) true;
    let l : Loop := 7;
    s.rgcOn = true ∧ s.on (R.RGC_L_ALERT_EN l) = true ∧ s.on (R.RGC_L_ALERT_NOW l) = true ∧ s.rgc.p12vLost = false ∧
    (Ev.RGC_ALERT_CLEAR, l.val) ∉ s.once ∧ bit s.loop[l].cuff CuffCause.alert.bit = true) ∧
    (let s : State := (regulating 15 id).flag (R.RGC_L_ALERT_EN 15) false; let l : Loop := 15;
    s.rgcOn = true ∧ s.on (R.RGC_L_ALERT_EN l) = false ∧ s.rgc.p12vLost = false ∧ (Ev.RGC_ALERT, l.val) ∉ s.once) ∧
    (let s : State := (regulating 7 id).flag (R.RGC_L_ALERT_EN 7) true; let l : Loop := 7; let d : Die := 7;
    s.rgcOn = true ∧ l.die? = some d ∧ s.alerted l = false ∧ s.on (R.RGC_L_ALERT_EN l) = true ∧ s.mode l ≠ 1 ∧
    bit s.loop[l].cuff CuffCause.alert.bit = false) := by
  refine ⟨?_, ?_, ?_, ?_, ?_, ?_, ?_, ?_, ?_⟩ <;> decide +kernel

theorem witness_RecorderCommands :
    (let s : State := { run with raised := [⟨Ev.BUD_JOB_ERR, 7, 9, []⟩] }; let e : Event := ⟨Ev.BUD_JOB_ERR, 7, 9, []⟩;
    let l : List Event := [];
    s.raised = e :: l ∧ e.body = [] ∧ (isNmi e.code = true ∨ bit (s.rd R.REC_CTL_FILTER) (e.code / 0x1000 - 1) = true) ∧
    s.rcd.staged.length < 256 ∧ s.rcd.staged.any (s.recurs e) = false ∧ s.rcd.slots.any (fun p => s.recurs e p.2) = false) ∧
    (let s : State := { (run.wr R.REC_HEAD_SEQ 6).modRcd fun q => { q with staged := [{ recOf 0 with unit := 7, detail := 9 }] } with raised := [⟨Ev.BUD_JOB_ERR, 7, 9, []⟩] };
    let e : Event := ⟨Ev.BUD_JOB_ERR, 7, 9, []⟩; let l : List Event := [];
    s.raised = e :: l ∧ e.body = [] ∧ (isNmi e.code = true ∨ bit (s.rd R.REC_CTL_FILTER) (e.code / 0x1000 - 1) = true) ∧
    s.rcd.staged.any (s.recurs e) = true) ∧
    (let s : State := { (run.wr R.REC_CTL_FILTER 0) with raised := [⟨Ev.BUD_JOB_ERR, 7, 9, []⟩] };
    let e : Event := ⟨Ev.BUD_JOB_ERR, 7, 9, []⟩; let l : List Event := [];
    s.raised = e :: l ∧ e.body = [] ∧ isNmi e.code = false ∧ bit (s.rd R.REC_CTL_FILTER) (e.code / 0x1000 - 1) = false) ∧
    (let s : State := run;
    s.raised = []) ∧
    (let s : State := (booted.flag R.REC_STATUS_MOUNTED true).modRcd fun q => { q with staged := [recOf 1], scanned := true };
    let r := recOf 1;
    s.live = true ∧ s.recReady = true ∧ s.rcd.staged.find? (·.nmi) = some r ∧ s.runs .trp = true ∧ s.rd R.REC_WP_SLOT < 65471) ∧
    (let s : State := (booted.flag R.REC_STATUS_MOUNTED true).modRcd fun q => { q with staged := [recOf 0], scanned := true };
    let r := recOf 0;
    s.live = true ∧ s.recReady = true ∧ s.rcd.staged.find? (·.nmi) = none ∧ s.rcd.staged.find? (fun r => !r.nmi) = some r ∧
    s.serves .plp = true ∧ s.on R.REC_STATUS_MOUNTED = true ∧ s.on R.REC_STATUS_FULL = false ∧ s.rd R.REC_WP_SLOT < 65471) ∧
    (let s : State := run;
    s.live = true ∧ s.recReady = false) ∧
    (let s : State := run.modRcd fun q => { q with dropped := 3 };
    s.live = true ∧ s.rcd.dropped ≠ 0 ∧ s.rcd.staged.length < 256) ∧
    (let s : State := run;
    s.live = true ∧ s.rcd.dropped = 0) ∧
    (let s : State := booted;
    s.live = true ∧ s.runs .plp = true) ∧
    (let s : State := booted.modRcd fun q => { q with slots := [(0, recOf 0)] }; let r := recOf 0;
    s.live = true ∧ s.runs .plp = true ∧ Tab.find s.rcd.slots 0 = some r ∧ (r.valid && r.code == Ev.REC_FORMAT) = false) ∧
    (let s : State := booted.modRcd fun q => { q with slots := [(0, formatRec)] }; let r := formatRec;
    s.live = true ∧ s.runs .plp = true ∧ Tab.find s.rcd.slots 0 = some r ∧ r.valid = true ∧ r.code = Ev.REC_FORMAT) ∧
    (let s : State := run;
    s.live = true ∧ s.runs .plp = false) ∧
    (let s : State := { run.wr R.REC_ERASE_KEY 0xC0DE with fuses := 3 }; let who : Init := Init.trp; let u : State := s.turn who;
    s.live = true ∧ u = s.turn who ∧ (who = .svp ∨ who = .trp) ∧ (u.lcState = 1 ∨ u.lcState = 2) ∧
    u.rd R.REC_ERASE_KEY = 0xC0DE ∧ u.on R.REC_STATUS_ERASING = false) ∧
    (let s : State := run; let who := Init.host;
    s.live = true ∧ who ≠ .svp ∧ who ≠ .trp) ∧
    (let s : State := booted.flag R.REC_STATUS_ERASING true;
    s.live = true ∧ s.on R.REC_STATUS_ERASING = true ∧ s.serves .plp = true) ∧
    (let s : State := run.flag R.REC_STATUS_ERASING true;
    s.live = true ∧ s.on R.REC_STATUS_ERASING = true ∧ s.serves .plp = false) ∧
    (let s : State := run;
    s.live = true) ∧
    (let s : State := run;
    s.live = true) ∧
    (let s : State := run.modRcd fun q => { q with copy := some (70, [1, 2, 3]) }; let n : Nat := 70; let l := [1, 2, 3];
    s.live = true ∧ s.rcd.copy = some (n, l)) ∧
    (let s : State := run;
    s.rgcOn = true) := by
  refine ⟨?_, ?_, ?_, ?_, ?_, ?_, ?_, ?_, ?_, ?_, ?_, ?_, ?_, ?_, ?_, ?_, ?_, ?_, ?_, ?_, ?_⟩ <;> decide +kernel

theorem witness_RegulatorTiming :
    (let s : State := regulating 15 fun L => { L with cyclePs := [0] };
    let ms : List LoopSample := List.replicate 16 ⟨700000, 0, [5000]⟩;
    s.rgcOn = true ∧ ms.length = 16) ∧
    (let s : State := (regulating 15 fun L => { L with cyclePs := [0] }); let l : Loop := 15;
    let obs : List PhaseObs := [⟨5000, 9, 400, false, false⟩]; let u : State := (s.cycleEdge l).cycleEnd l obs;
    let p : Phase := (0 : Phase);
    s.rgcOn = true ∧ s.switches l = true ∧ u = (s.cycleEdge l).cycleEnd l obs ∧ u.switches l = true ∧ s.loop[l].cyclePs = [p] ∧
    (s.inRot l).contains p = true) ∧
    (let s : State := (regulating 7 fun L => { L with cycles := 64 }).flag (R.RGC_L_CFG_ROT_EN 7) true; let l : Loop := 7;
    s.rgcOn = true ∧ s.drives l = true ∧ s.on (R.RGC_L_CFG_ROT_EN l) = true ∧ 2 ≤ s.nRot l ∧ 64 ≤ s.loop[l].cycles ∧
    s.loop[l].resp = none) ∧
    (let s : State := run.flag R.RGC_SW_CTL_SRC true; let q : SyncRun := ⟨16, 1000000, 1000000, 1000000, -240⟩;
    s.rgcOn = true ∧ s.on R.RGC_SW_CTL_SRC = true ∧ s.on R.RGC_SW_STATUS_SYNC_HOLD = false ∧ 16 ≤ q.n ∧ 250000 ≤ q.lo ∧
    q.hi ≤ 1000000 ∧ 100 * q.hi ≤ 101 * q.lo) ∧
    (let s : State := run.flag R.RGC_SW_CTL_SRC true; let q : SyncRun := ⟨16, 249999, 250000, 250000, -240⟩;
    s.rgcOn = true ∧ (s.on R.RGC_SW_CTL_SRC = false ∨ q.n < 16 ∨ q.lo < 250000 ∨ 1000000 < q.hi ∨ 101 * q.lo < 100 * q.hi)) ∧
    (let s : State := run.flag R.RGC_SW_STATUS_REF_NOW true;
    s.rgcOn = true ∧ s.on R.RGC_SW_STATUS_REF_NOW = true) ∧
    (let s : State := (run.flag R.RGC_SW_STATUS_SYNC_HOLD true).modRgc fun r => { r with syncPs := 1000000 };
    let q : SyncRun := ⟨1024, 990000, 1010000, 1000000, 241⟩;
    s.rgcOn = true ∧ s.on R.RGC_SW_STATUS_SYNC_HOLD = true ∧ 1024 ≤ q.n ∧ 99 * s.rgc.syncPs ≤ 100 * q.lo ∧
    100 * q.hi ≤ 101 * s.rgc.syncPs) ∧
    (let s : State := run;
    s.rgcOn = true) := by
  refine ⟨?_, ?_, ?_, ?_, ?_, ?_, ?_, ?_⟩ <;> decide +kernel

theorem witness_SeamCommands :
    (let s : State := training id; let x : Sat := 7; let gBad : Nat := 1; let sBad : Nat := 2; let start : Nat := 5;
    let gm : Nat := 14; let sm : Nat := 13; let w : Nat := 12;
    s.live = true ∧ s.seam[x].training = some start ∧ gm = s.seam[x].gMarks - (s.seam[x].gMarks &&& gBad &&& s.seam[x].only) ∧
    sm = s.seam[x].sMarks - (s.seam[x].sMarks &&& sBad &&& s.seam[x].only) ∧ State.widest (gm &&& s.seam[x].only) = w ∧
    State.widest (sm &&& s.seam[x].only) = w ∧ w ≠ 0) ∧
    (let s : State := training id; let x : Sat := 7; let gBad : Nat := 14; let sBad : Nat := 13; let start : Nat := 5;
    let gm : Nat := 1; let sm : Nat := 2;
    s.live = true ∧ s.seam[x].training = some start ∧ gm = s.seam[x].gMarks - (s.seam[x].gMarks &&& gBad &&& s.seam[x].only) ∧
    sm = s.seam[x].sMarks - (s.seam[x].sMarks &&& sBad &&& s.seam[x].only) ∧
    State.widest (gm &&& s.seam[x].only) ≠ State.widest (sm &&& s.seam[x].only) ∧ State.widest (gm &&& sm) = 0) ∧
    (let s : State := training id; let x : Sat := 7; let gBad : Nat := 0; let sBad : Nat := 2; let start : Nat := 5;
    let gm : Nat := 15; let sm : Nat := 13;
    s.live = true ∧ s.seam[x].training = some start ∧ gm = s.seam[x].gMarks - (s.seam[x].gMarks &&& gBad &&& s.seam[x].only) ∧
    sm = s.seam[x].sMarks - (s.seam[x].sMarks &&& sBad &&& s.seam[x].only) ∧
    State.widest (gm &&& s.seam[x].only) ≠ State.widest (sm &&& s.seam[x].only) ∧ State.widest (gm &&& sm) ≠ 0 ∧
    s.rd (R.ADM_SEAM_CTL_DISAGREE x) < 2 ∧ s.on (R.ADM_SEAM_STS_ONE_LANE x) = false) ∧
    (let s : State := (training id).wr (R.ADM_SEAM_CTL_DISAGREE (7 : Sat)) 2; let x : Sat := 7; let gBad : Nat := 0;
    let sBad : Nat := 2; let start : Nat := 5; let gm : Nat := 15; let sm : Nat := 13;
    s.live = true ∧ s.seam[x].training = some start ∧ gm = s.seam[x].gMarks - (s.seam[x].gMarks &&& gBad &&& s.seam[x].only) ∧
    sm = s.seam[x].sMarks - (s.seam[x].sMarks &&& sBad &&& s.seam[x].only) ∧
    State.widest (gm &&& s.seam[x].only) ≠ State.widest (sm &&& s.seam[x].only) ∧ State.widest (gm &&& sm) ≠ 0 ∧
    2 ≤ s.rd (R.ADM_SEAM_CTL_DISAGREE x) ∧ s.on (R.ADM_SEAM_STS_ONE_LANE x) = false) ∧
    (let s : State := ((training id).wr (R.ADM_SEAM_CTL_DISAGREE (7 : Sat)) 3).flag (R.ADM_SEAM_STS_ONE_LANE (7 : Sat)) true;
    let x : Sat := 7; let gBad : Nat := 0; let sBad : Nat := 2; let start : Nat := 5; let gm : Nat := 15; let sm : Nat := 13;
    s.live = true ∧ s.seam[x].training = some start ∧ gm = s.seam[x].gMarks - (s.seam[x].gMarks &&& gBad &&& s.seam[x].only) ∧
    sm = s.seam[x].sMarks - (s.seam[x].sMarks &&& sBad &&& s.seam[x].only) ∧
    State.widest (gm &&& s.seam[x].only) ≠ State.widest (sm &&& s.seam[x].only) ∧ State.widest (gm &&& sm) ≠ 0 ∧
    s.on (R.ADM_SEAM_STS_ONE_LANE x) = true) ∧
    (let s : State := training fun q => { q with agreed := some ⟨15, 33, 3, 1⟩ }; let x : Sat := 7;
    let a : Trained := ⟨15, 33, 3, 1⟩; let raw : Nat := 40; let start : Nat := 5;
    s.live = true ∧ s.seam[x].training = some start ∧ s.seam[x].agreed = some a ∧ raw ≤ 40) ∧
    (let s : State := training fun q => { q with failed := 1 }; let x : Sat := 7; let raw : Nat := 41; let start : Nat := 5;
    s.live = true ∧ s.seam[x].training = some start ∧ (40 < raw ∨ s.seam[x].agreed = none) ∧ s.seam[x].failed < 2) ∧
    (let s : State := training fun q => { q with failed := 2 }; let x : Sat := 7; let raw : Nat := 41; let start : Nat := 5;
    s.live = true ∧ s.seam[x].training = some start ∧ (40 < raw ∨ s.seam[x].agreed = none) ∧ s.seam[x].failed = 2 ∧
    s.on (R.ADM_SEAM_STS_DEAD x) = false) ∧
    (let s : State := linked.modSeam 7 fun q => { q with fails := List.replicate 8 (true, 0) }; let x : Sat := 7;
    let silent := false;
    s.live = true ∧ s.seamUp x = true ∧ (silent = true ∨ s.failing x = true)) ∧
    (let s : State := linked; let x : Sat := 7;
    s.live = true ∧ s.failing x = false) ∧
    (let s : State := run; let x : Sat := 8;
    s.live = true ∧ s.seamUp x = false ∧ s.seam[x].training = none ∧ s.powered x = true ∧ s.on (R.ADM_SEAM_STS_DEAD x) = false) ∧
    (let s : State := linked; let x : Sat := 8; let n : Nak := ⟨true, 3⟩; let f : Flit := ⟨false, 3, 0, 0, 5⟩;
    s.live = true ∧ s.seamUp x = true ∧ ((State.bufOf s.seam[x] n.governor).find? fun y => y.num == n.num) = none ∧
    f.crc ≠ State.flitCrc f.header f.payload) ∧
    (let s : State := linked; let x : Sat := 8; let f : Flit := ⟨false, 3, 0, 0, State.flitCrc 0 0⟩;
    s.live = true ∧ s.seamUp x = true ∧ f.crc = State.flitCrc f.header f.payload) ∧
    (let s : State := linked.modSeam 8 fun q => { q with gBuf := [⟨3, .cmd ⟨5, 1, ⟨none, .demand⟩⟩, true⟩] }; let x : Sat := 8;
    let n : Nak := ⟨true, 3⟩; let e : KeptFlit := ⟨3, .cmd ⟨5, 1, ⟨none, .demand⟩⟩, true⟩;
    let g : SeamFlit := ⟨5, 1, ⟨none, .demand⟩⟩;
    s.live = true ∧ s.seamUp x = true ∧ ((State.bufOf s.seam[x] n.governor).find? fun y => y.num == n.num) = some e ∧
    n.governor = true ∧ (s.seam[x].gBuf.find? fun y => y.num == n.num) = some e ∧ e.lost = true ∧ e.load = .cmd g) ∧
    (let s : State := linked.modSeam 8 fun q => { q with gBuf := [⟨3, .cmd ⟨5, 1, ⟨none, .demand⟩⟩, false⟩], flits := [⟨5, 1, ⟨none, .demand⟩⟩] };
    let x : Sat := 8; let f : Flit := ⟨false, 3, 0, 0, 5⟩; let e : KeptFlit := ⟨3, .cmd ⟨5, 1, ⟨none, .demand⟩⟩, false⟩;
    let g : SeamFlit := ⟨5, 1, ⟨none, .demand⟩⟩;
    s.live = true ∧ s.seamUp x = true ∧ f.crc ≠ State.flitCrc f.header f.payload ∧ f.governor = false ∧
    (s.seam[x].gBuf.find? fun y => y.num == f.num) = some e ∧ e.load = .cmd g ∧ g ∈ s.seam[x].flits) ∧
    (let s : State := run;
    s.live = true ∧ s.on R.GLB_GOV_CTL_ENABLE = false) ∧
    (let s : State := run.flag R.GLB_GOV_CTL_ENABLE true;
    s.live = true ∧ s.on R.GLB_GOV_CTL_ENABLE = true) := by
  refine ⟨?_, ?_, ?_, ?_, ?_, ?_, ?_, ?_, ?_, ?_, ?_, ?_, ?_, ?_, ?_, ?_, ?_⟩ <;> decide +kernel

theorem witness_SentinelMapCommands :
    (let s : State := run.modSen fun q => { q with changes := [change false] }; let d : Die := 7; let c : Cluster := 15;
    let k : Nat := 35; let m : MapChange := change false;
    s.live = true ∧ s.changeTo d c k = some m ∧ m.planned = false ∧ k < 36 ∧ m.logical < 32 ∧ s.on R.SEN_TEST_REQ_BUSY = false) ∧
    (let s : State := run.modSen fun q => { q with changes := [change true] }; let d : Die := 7; let c : Cluster := 15;
    let k : Nat := 35; let m : MapChange := change true;
    s.live = true ∧ s.changeTo d c k = some m ∧ m.planned = true ∧ k < 36 ∧ m.logical < 32 ∧ m.old < 36 ∧ m.old ≠ k ∧
    s.on R.SEN_TEST_REQ_BUSY = false) ∧
    (let s : State := run.modSen fun q => { q with changes := [change true] };
    s.live = true) ∧
    (let s : State := run.modSen fun q => { q with changes := [change false] }; let d : Die := 7; let c : Cluster := 15;
    let k : Nat := 35; let m : MapChange := change false;
    s.live = true ∧ s.changeTo d c k = some m ∧ m.due ≠ 0 ∧ k < 36 ∧ s.on R.SEN_TEST_REQ_BUSY = false) ∧
    (let s : State := (run.wr R.SEN_TEST_PERIOD_MS 1).modSen fun q => { q with nextTest := 7 };
    s.live = true ∧ s.on R.SEN_CTL_TEST_EN = true ∧ s.rd R.SEN_TEST_PERIOD_MS ≠ 0 ∧ s.sen.nextTest ≠ 0) ∧
    (let s : State := run.wr R.SEN_TEST_PERIOD_MS 0;
    s.live = true ∧ (s.on R.SEN_CTL_TEST_EN = false ∨ s.rd R.SEN_TEST_PERIOD_MS = 0)) ∧
    (let s : State := run; let d : Die := 7; let site : Nat := 575;
    s.live = true ∧ s.on R.SEN_TEST_REQ_START = false ∧ site < 576 ∧ s.rd (R.SEN_STATE_SLOT d (site / 36) (site % 36)) ≠ 3 ∧
    s.sen.tests = [] ∧ s.sen.changes = [] ∧ s.testReason d (site / 36) (site % 36) ≠ 0) ∧
    (let s : State := ((linked.modSen fun q => { q with lib := some lib }).wr (R.SEN_STATE_SLOT 7 15 35) 0).wr (R.ADM_DIE_STATUS_POOL 7) 900;
    let d : Die := 7; let site : Nat := 575; let p : Pattern := ⟨3, 0, 0, 0, 0, 1, 0, 9⟩; let l : List Pattern := [];
    s.live = true ∧ s.on R.SEN_TEST_REQ_START = false ∧ site < 576 ∧ s.rd (R.SEN_STATE_SLOT d (site / 36) (site % 36)) = 0 ∧
    s.sen.tests = [] ∧ s.sen.changes = [] ∧ s.testReason d (site / 36) (site % 36) = 0 ∧ s.patterns d = p :: l) ∧
    (let s : State := run.flag R.SEN_TEST_REQ_START true;
    s.live = true ∧ s.on R.SEN_TEST_REQ_START = true) ∧
    (let s : State := { ((awake .trp).wr R.SEN_FLEET_PUSH 1) with mgt := { keys := (Vector.replicate 16 none).set 2 (some ⟨1, 2, 0, 0⟩) } };
    let b : List Nat := libBytes;
    s.live = true ∧ s.rd R.SEN_FLEET_PUSH = 1 ∧ s.rd (R.MGT_P_STATE_STATE 0) = 2 ∧ s.keyFor (numAt b 0xA 2) 1 = true ∧
    ((s.libStored.map (·.libVer)).getD 0) < numAt b 4 4 ∧ State.libraryOk (State.libraryOf b true) = true) ∧
    (let s : State := (awake .trp).wr R.SEN_FLEET_PUSH 1; let b : List Nat := libBytes; let ok : Bool := false;
    s.live = true ∧ s.rd R.SEN_FLEET_PUSH = 1 ∧ s.rd (R.MGT_P_STATE_STATE 0) = 2 ∧
    (ok = false ∨ numAt b 0 2 ≠ 1 ∨ numAt b 4 4 ≤ ((s.libStored.map (·.libVer)).getD 0))) ∧
    (let s : State := run.modSen fun q => { q with libNext := some lib }; let l : Library := lib;
    s.live = true ∧ s.sen.libNext = some l ∧ s.sen.tests.any (fun t => t.left.isSome) = false) ∧
    (let s : State := run.modSen fun q => { q with libNext := some lib, tests := [{ die := 7, cluster := 15, slot := 35, asked := true, left := some [] }] };
    s.live = true ∧ s.sen.tests.any (fun t => t.left.isSome) = true) ∧
    (let s : State := run.wr (R.SEN_STATE_SLOT 7 15 35) 0; let d : Die := 7; let c : Cluster := 15; let k : Nat := 35;
    s.live = true ∧ s.on R.GLB_GOV_CTL_ENABLE = false ∧ s.on R.GLB_STATUS_ENABLED = false ∧ k < 36 ∧
    s.rd (R.SEN_STATE_SLOT d c k) = 0 ∧ s.testOn d c k = none ∧ s.changeTo d c k = none ∧ s.on R.SEN_TEST_REQ_BUSY = false) ∧
    (let s : State := run.flag R.GLB_GOV_CTL_ENABLE true;
    s.live = true ∧ s.on R.GLB_GOV_CTL_ENABLE = true) := by
  refine ⟨?_, ?_, ?_, ?_, ?_, ?_, ?_, ?_, ?_, ?_, ?_, ?_, ?_, ?_, ?_⟩ <;> decide +kernel

theorem witness_SentinelRecordCommands :
    (let s : State := run.modSen fun q => { q with unqueued := 3 };
    s.live = true ∧ 0 < s.sen.unqueued ∧ s.sen.txq.length < 256) ∧
    (let s : State := (awake .svp).modSen fun q => { q with txq := [⟨2, [5]⟩] }; let x := (⟨2, [5]⟩ : SenTx);
    let l := ([] : List SenTx);
    s.live = true ∧ s.sen.txq = x :: l ∧ s.rd (R.MGT_P_STATE_STATE 2) = 2) ∧
    (let s : State := run;
    s.live = true ∧ s.rd (R.MGT_P_STATE_STATE 2) ≠ 2) ∧
    (let s : State := run;
    s.live = true) ∧
    (let s : State := run.flag (R.CLK_DIE_DIV_DROOP_ACTIVE 7) true; let d : Die := 7;
    s.live = true ∧ s.on (R.CLK_DIE_DIV_DROOP_ACTIVE d) = true) ∧
    (let s : State := run;
    s.live = true) ∧
    (let s : State := run.modSen fun q => { q with cmps := [⟨1, 2, 7, 3, [], 90⟩] }; let g : Nat := 1; let e : Nat := 2;
    let c : DigestCmp := ⟨1, 2, 7, 3, [], 90⟩;
    s.live = true ∧ s.sen.cmps.find? (fun c => c.group == g && c.epoch == e) = some c ∧ c.held.length < 2) ∧
    (let s : State := run.modSen fun q => { q with cmps := [⟨1, 2, 7, 3, [(0, 1, 5), (0, 2, 6)], 90⟩] }; let g : Nat := 1;
    let e : Nat := 2; let x : Nat := 5; let y : Nat := 6; let c : DigestCmp := ⟨1, 2, 7, 3, [(0, 1, 5), (0, 2, 6)], 90⟩;
    s.live = true ∧ s.sen.cmps.find? (fun c => c.group == g && c.epoch == e) = some c ∧ c.held.map (·.2.2) = [x, y] ∧ x ≠ y) ∧
    (let s : State := run; let g : Nat := 1; let e : Nat := 2;
    s.live = true ∧ s.sen.cmps.find? (fun c => c.group == g && c.epoch == e) = none) ∧
    (let s : State := run.flag (R.SEN_DIE_STATUS_EXPELLED 7) true; let d : Die := 7;
    s.live = true ∧ s.on (R.SEN_DIE_STATUS_EXPELLED d) = true) ∧
    (let s : State := (run.flag R.SEN_STATUS_RETRACT_PEND true).modSenDie 7 fun q => { q with fold := [(0, 1, 1), (5, 2, 2)] };
    s.live = true ∧ s.on R.SEN_STATUS_RETRACT_PEND = true) ∧
    (let s : State := run.flag R.SEN_STATUS_RETRACT_PEND false;
    s.live = true ∧ s.on R.SEN_STATUS_RETRACT_PEND = false) ∧
    (let s : State := run.flag R.SEN_STATUS_ABORT true;
    s.live = true ∧ s.on R.SEN_STATUS_ABORT = true) ∧
    (let s : State := run.flag R.SEN_STATUS_ABORT false;
    s.live = true ∧ s.on R.SEN_STATUS_ABORT = false) := by
  refine ⟨?_, ?_, ?_, ?_, ?_, ?_, ?_, ?_, ?_, ?_, ?_, ?_, ?_, ?_⟩ <;> decide +kernel

theorem witness_SentinelReports :
    (let s : State := run; let w : Nat := rep 1 0 8 0 0 0 0;
    s.live = true ∧ repGood w = false) ∧
    (let s : State := (run.flag R.SEN_CTL_VERDICT_EN false).wr R.SEN_MARGIN_CFG_CL_N 3; let w : Nat := rep 1 0 7 575 0 0 1;
    let d : Die := 7;
    s.live = true ∧ repGood w = true ∧ repDie w = d.val ∧ repKind w = 1 ∧ s.epochOf (repArg0 w) = repArg1 w ∧
    s.on R.SEN_CTL_VERDICT_EN = false ∧ bit (repArg2 w) 0 = true ∧
    s.rd (R.SEN_STATE_SLOT d (repUnit w / 36) (repUnit w % 36)) ≠ 2 ∧ s.frozen = false ∧
    (s.failsOf d (repUnit w / 36)).length + 1 < s.rd R.SEN_MARGIN_CFG_CL_N) ∧
    (let s : State := (run.flag R.SEN_CTL_VERDICT_EN true).wr (R.SEN_STATE_SLOT 7 15 3) 1; let w : Nat := rep 1 0 7 543 0 0 1;
    let d : Die := 7;
    s.live = true ∧ repGood w = true ∧ repDie w = d.val ∧ repKind w = 1 ∧ s.epochOf (repArg0 w) = repArg1 w ∧
    s.on R.SEN_CTL_VERDICT_EN = true ∧ bit (repArg2 w) 0 = true ∧
    s.rd (R.SEN_STATE_SLOT d (repUnit w / 36) (repUnit w % 36)) = 1 ∧ s.fenced d = false) ∧
    (let s : State := run; let w : Nat := rep 2 0 7 575 0 5 0; let d : Die := 7;
    s.live = true ∧ repGood w = true ∧ repDie w = d.val ∧ repKind w = 2) ∧
    (let s : State := run.flag R.SEN_CTL_POISON_RETRACT false; let w : Nat := rep 3 0 7 575 0 0 0; let d : Die := 7;
    s.live = true ∧ repGood w = true ∧ repDie w = d.val ∧ repKind w = 3 ∧ s.epochOf (repArg0 w) = repArg1 w ∧
    s.on R.SEN_CTL_POISON_RETRACT = false) ∧
    (let s : State := run; let w : Nat := rep 4 1 7 0 5 0 6; let d : Die := 7; let a : Nat := 0; let n : Nat := 0;
    let x : Nat := crc32c (bytesOf 4 5 ++ bytesOf 4 6);
    s.live = true ∧ repGood w = true ∧ repDie w = d.val ∧ repKind w = 4 ∧ s.on R.SEN_CTL_DIGEST_EN = true ∧
    (Tab.find s.sen.die[d].fold (repArg1 w)).getD (0, 0) = (a, n) ∧ x = crc32c (bytesOf 4 (repArg0 w) ++ bytesOf 4 (repArg2 w))) ∧
    (let s : State := run.flag R.SEN_CTL_DIGEST_EN false; let w : Nat := rep 4 1 7 0 5 0 6; let d : Die := 7;
    s.live = true ∧ repGood w = true ∧ repDie w = d.val ∧ repKind w = 4 ∧ s.on R.SEN_CTL_DIGEST_EN = false) ∧
    (let s : State := run.wr R.SEN_CTL_DIGEST_STEPS 4; let w : Nat := rep 5 2 7 0 0 0 0; let d : Die := 7;
    s.live = true ∧ repGood w = true ∧ repDie w = d.val ∧ repKind w = 5 ∧ s.epochOf (repArg0 w) = repArg1 w ∧
    s.sen.fromStep ≤ repArg0 w ∧ s.retracted (repArg1 w) = false ∧ (repArg0 w + 1) % max 1 (s.rd R.SEN_CTL_DIGEST_STEPS) ≠ 0) ∧
    (let s : State := run.wr R.SEN_CTL_DIGEST_STEPS 4; let w : Nat := rep 5 2 7 0 3 0 0; let d : Die := 7;
    s.live = true ∧ repGood w = true ∧ repDie w = d.val ∧ repKind w = 5 ∧ s.epochOf (repArg0 w) = repArg1 w ∧
    s.sen.fromStep ≤ repArg0 w ∧ s.retracted (repArg1 w) = false ∧ (repArg0 w + 1) % max 1 (s.rd R.SEN_CTL_DIGEST_STEPS) = 0) ∧
    (let s : State := (dies.filter (· ≠ 7)).foldl (fun s (k : Die) => s.flag (R.ADM_SEAM_STS_FENCED k) true) ((run.wr R.SEN_CTL_DIGEST_STEPS 4).flag R.SEN_CTL_DIGEST_EN false);
    let w : Nat := rep 5 2 7 0 3 0 0; let d : Die := 7;
    s.live = true ∧ repGood w = true ∧ repDie w = d.val ∧ repKind w = 5 ∧ s.epochOf (repArg0 w) = repArg1 w ∧
    s.sen.fromStep ≤ repArg0 w ∧ s.retracted (repArg1 w) = false ∧ (repArg0 w + 1) % max 1 (s.rd R.SEN_CTL_DIGEST_STEPS) = 0 ∧
    (repArg1 w = 0 ∨ s.rd R.SEN_VERIFIED_EPOCH + 1 = repArg1 w) ∧ repArg1 w < 0xFFFFFFFF ∧ s.on R.SEN_CTL_DIGEST_EN = false ∧
    (∀ k : Die, (k ≠ d → s.fenced k = true) ∧ s.sen.die[k].bad = [] ∧ Tab.find s.sen.die[k].closed (repArg1 w + 1) = none)) ∧
    (let s : State := run.modSen fun q => { q with tests := [{ die := 7, cluster := 15, slot := 35, asked := true, left := some [⟨3, 0, 0, 0, 0, 1, 0, 9⟩] }] };
    let w : Nat := rep 6 0 7 575 3 9 0; let d : Die := 7;
    let x : SenTest := { die := 7, cluster := 15, slot := 35, asked := true, left := some [⟨3, 0, 0, 0, 0, 1, 0, 9⟩] };
    let p : Pattern := ⟨3, 0, 0, 0, 0, 1, 0, 9⟩;
    s.live = true ∧ repGood w = true ∧ repDie w = d.val ∧ repKind w = 6 ∧
    s.testOn d (repUnit w / 36) (repUnit w % 36) = some x ∧ x.left = some [p] ∧ bits (repArg0 w) 0 16 = p.pid ∧
    bits (repArg0 w) 16 16 = x.run % 2 ^ 16 ∧ repArg1 w = p.expect) ∧
    (let s : State := run.modSen fun q => { q with tests := [{ die := 7, cluster := 15, slot := 35, asked := true, left := some [⟨3, 0, 0, 0, 0, 1, 0, 9⟩] }] };
    let w : Nat := rep 6 0 7 575 3 8 0; let d : Die := 7;
    let x : SenTest := { die := 7, cluster := 15, slot := 35, asked := true, left := some [⟨3, 0, 0, 0, 0, 1, 0, 9⟩] };
    let p : Pattern := ⟨3, 0, 0, 0, 0, 1, 0, 9⟩; let more : List Pattern := [];
    s.live = true ∧ repGood w = true ∧ repDie w = d.val ∧ repKind w = 6 ∧
    s.testOn d (repUnit w / 36) (repUnit w % 36) = some x ∧ x.left = some (p :: more) ∧ bits (repArg0 w) 0 16 = p.pid ∧
    bits (repArg0 w) 16 16 = x.run % 2 ^ 16 ∧ repArg1 w ≠ p.expect) := by
  refine ⟨?_, ?_, ?_, ?_, ?_, ?_, ?_, ?_, ?_, ?_, ?_, ?_⟩ <;> decide +kernel

theorem witness_SequenceCommands :
    (let s : State := run; let j : Nat := 0;
    s.rgcOn = true ∧ j < 4 ∧ s.goingDown = false ∧ (∃ l : Loop, s.stageOf l = j ∧ s.toStart l = true) ∧
    (∀ l : Loop, s.toStart l = true → j ≤ s.stageOf l)) ∧
    (let s : State := run.each loops fun l s => s.setMode l 2;
    s.rgcOn = true ∧ s.goingDown = false ∧ (∀ l : Loop, s.toStart l = false)) ∧
    (let s : State := run; let l : Loop := 7;
    s.rgcOn = true ∧ s.on R.GLB_GOV_CTL_ENABLE = false ∧ l.val < 8) ∧
    (let s : State := run.modLoop 9 fun L => { L with startAt := some 40 }; let l : Loop := 9; let at_ : Nat := 40;
    s.rgcOn = true ∧ s.loop[l].startAt = some at_ ∧ s.depsUp l = true ∧ s.on R.THM_TRIP_STS_LATCHED = false) ∧
    (let s : State := (regulating 9 fun L => { L with pgRun := 1000000, held := some ⟨3, 800⟩ }).setMode 9 1; let l : Loop := 9;
    s.rgcOn = true ∧ s.mode l = 1 ∧ s.loop[l].down = false ∧ 1000 * s.rd R.RGC_SEQ_CTL_PG_US ≤ 20 * s.loop[l].pgRun) ∧
    (let s : State := (((run.each loops fun l s => s.setMode l 2).setMode 15 1).modRgc (fun r => { r with seq := .up 3 5 })).modLoop 15 fun L => { L with pgRun := 1000000 };
    let l : Loop := 15; let k : Nat := 3; let x : Nat := 5;
    s.rgcOn = true ∧ s.mode l = 1 ∧ s.loop[l].down = false ∧ 1000 * s.rd R.RGC_SEQ_CTL_PG_US ≤ 20 * s.loop[l].pgRun ∧
    s.rgc.seq = .up k x ∧ s.alerted l = false ∧ s.loop[l].held = none ∧ (∀ m : Loop, m ≠ l → s.toStart m = false)) ∧
    (let s : State := run;
    s.rgcOn = true ∧ s.goingDown = false) ∧
    (let s : State := regulating 7 id; let j : Nat := 3;
    s.rgcOn = true ∧ s.goingDown = false ∧ (∃ l : Loop, s.stageOf l = j ∧ s.toStop l = true) ∧
    (∀ l : Loop, (s.toStop l = true → s.stageOf l ≤ j) ∧ s.loop[l].retryAt = none)) ∧
    (let s : State := (regulating 7 id).modRgc fun r => { r with seq := .down 3 50 }; let l : Loop := 7; let k : Nat := 3;
    let x : Nat := 50;
    s.rgcOn = true ∧ s.rgc.seq = .down k x ∧ s.stageOf l = k ∧ s.toStop l = true ∧ s.loop[l].down = false) ∧
    (let s : State := (regulating 8 fun L => { L with midAt := some 60, vSense := 99999 }).modRgc fun r => { r with seq := .down 1 50 };
    let l : Loop := 8; let k : Nat := 1; let b : Nat := 50; let x : Nat := 60;
    s.rgcOn = true ∧ s.rgc.seq = .down k b ∧ s.loop[l].midAt = some x) ∧
    (let s : State := (regulating 9 fun L => { L with ssLow := 10000, held := some ⟨3, 800⟩ }).setMode 9 1; let l : Loop := 9;
    s.rgcOn = true ∧ s.mode l = 1 ∧ s.loop[l].retryAt = none ∧ (10000 ≤ s.loop[l].ssLow ∨ 8 ≤ s.loop[l].shortRun) ∧
    s.rd (R.RGC_L_FAULT_TRIES l) < s.rd R.RGC_SEQ_CTL_RETRY_MAX) ∧
    (let s : State := ((regulating 9 fun L => { L with shortRun := 8 }).setMode 9 1).wr (R.RGC_L_FAULT_TRIES 9) 7;
    let l : Loop := 9;
    s.rgcOn = true ∧ s.mode l = 1 ∧ s.loop[l].retryAt = none ∧ (10000 ≤ s.loop[l].ssLow ∨ 8 ≤ s.loop[l].shortRun) ∧
    s.rd R.RGC_SEQ_CTL_RETRY_MAX ≤ s.rd (R.RGC_L_FAULT_TRIES l)) ∧
    (let s : State := run.modLoop 9 fun L => { L with retryAt := some 40 }; let l : Loop := 9; let at_ : Nat := 40;
    s.rgcOn = true ∧ s.loop[l].retryAt = some at_ ∧ s.depsUp l = true ∧ s.parked l = false ∧ s.on R.THM_TRIP_STS_LATCHED = false) ∧
    (let s : State := run.flag R.GLB_GOV_CTL_ENABLE true;
    s.rgcOn = true ∧ s.on R.GLB_GOV_CTL_ENABLE = true) := by
  refine ⟨?_, ?_, ?_, ?_, ?_, ?_, ?_, ?_, ?_, ?_, ?_, ?_, ?_, ?_⟩ <;> decide +kernel

theorem witness_StrokeCommands :
    (let s : State := (regulating 7 id).wr (R.ADM_DIE_STATUS_POOL 7) 900;
    s.live = true ∧ s.frozen = false) ∧
    (let s : State := { run with frozen := true }.each sats (fun x s => s.stopSat x);
    s.rgcOn = true ∧ s.frozen = true ∧ (∀ x : Sat, s.late x = false)) ∧
    (let s : State := State.reset;
    s.phase = .held) ∧
    (let s : State := run; let x : Sat := 8;
    s.live = true ∧ s.seam[x].flits = []) ∧
    (let s : State := onWay ⟨some 2048, .window winCmd⟩; let x : Sat := 7; let d : Die := 7;
    let f : SeamFlit := ⟨5, 1, ⟨some 2048, .window winCmd⟩⟩; let u : State := { s with now := max s.now (f.sent + 40) };
    let w : WinCmd := winCmd; let e : Nat := 2048;
    s.live = true ∧ x.die? = some d ∧ s.seam[x].flits = [f] ∧ s.seam[x].acted = [] ∧
    u = { s with now := max s.now (f.sent + 40) } ∧ f.cmd = ⟨some e, .window w⟩ ∧ w.capNav = none ∧ u.seamLate x e true = false) ∧
    (let s : State := { onWay ⟨some 2048, .window winCmd⟩ with now := 2049, windowIdx := 2 }; let x : Sat := 7; let d : Die := 7;
    let f : SeamFlit := ⟨5, 1, ⟨some 2048, .window winCmd⟩⟩; let u : State := { s with now := max s.now (f.sent + 40) };
    let w : WinCmd := winCmd; let e : Nat := 2048;
    s.live = true ∧ x.die? = some d ∧ s.seam[x].flits = [f] ∧ s.seam[x].acted = [] ∧
    u = { s with now := max s.now (f.sent + 40) } ∧ f.cmd = ⟨some e, .window w⟩ ∧ w.capNav = none ∧ u.seamLate x e true = true) ∧
    (let s : State := onWay ⟨some 64, .reduce 5 (some 6) none⟩; let x : Sat := 7; let d : Die := 7;
    let f : SeamFlit := ⟨5, 1, ⟨some 64, .reduce 5 (some 6) none⟩⟩; let u : State := { s with now := max s.now (f.sent + 40) };
    let p : Nat := 5; let e : Nat := 64; let k : Option Nat := some 6;
    s.live = true ∧ x.die? = some d ∧ s.seam[x].flits = [f] ∧ s.seam[x].acted = [] ∧
    u = { s with now := max s.now (f.sent + 40) } ∧ f.cmd = ⟨some e, .reduce p k none⟩ ∧ u.seamLate x e false = false) ∧
    (let s : State := onWay ⟨none, .remove 575⟩; let x : Sat := 7; let d : Die := 7;
    let f : SeamFlit := ⟨5, 1, ⟨none, .remove 575⟩⟩; let u : State := { s with now := max s.now (f.sent + 40) };
    let k : Nat := 575;
    s.live = true ∧ x.die? = some d ∧ s.seam[x].flits = [f] ∧ s.seam[x].acted = [] ∧
    u = { s with now := max s.now (f.sent + 40) } ∧ f.cmd = ⟨none, .remove k⟩) ∧
    (let s : State := onWay ⟨none, .insert 575 true⟩; let x : Sat := 7; let d : Die := 7;
    let f : SeamFlit := ⟨5, 1, ⟨none, .insert 575 true⟩⟩; let u : State := { s with now := max s.now (f.sent + 40) };
    let k : Nat := 575; let b : Bool := true;
    s.live = true ∧ x.die? = some d ∧ s.seam[x].flits = [f] ∧ s.seam[x].acted = [] ∧
    u = { s with now := max s.now (f.sent + 40) } ∧ f.cmd = ⟨none, .insert k b⟩) ∧
    (let s : State := onWay ⟨some 100, .freeze⟩; let x : Sat := 7; let d : Die := 7;
    let f : SeamFlit := ⟨5, 1, ⟨some 100, .freeze⟩⟩; let u : State := { s with now := max s.now (f.sent + 40) };
    let e : Nat := 100;
    s.live = true ∧ x.die? = some d ∧ s.seam[x].flits = [f] ∧ s.seam[x].acted = [] ∧
    u = { s with now := max s.now (f.sent + 40) } ∧ f.cmd = ⟨some e, .freeze⟩ ∧ u.now ≤ e) ∧
    (let s : State := onWay ⟨some 40, .freeze⟩; let x : Sat := 7; let d : Die := 7;
    let f : SeamFlit := ⟨5, 1, ⟨some 40, .freeze⟩⟩; let u : State := { s with now := max s.now (f.sent + 40) };
    let e : Nat := 40;
    s.live = true ∧ x.die? = some d ∧ s.seam[x].flits = [f] ∧ s.seam[x].acted = [] ∧
    u = { s with now := max s.now (f.sent + 40) } ∧ f.cmd = ⟨some e, .freeze⟩ ∧ e < u.now) ∧
    (let s : State := (onWay ⟨none, .demand⟩).modSeam 7 fun q => { q with acted := [1] }; let x : Sat := 7;
    let f : SeamFlit := ⟨5, 1, ⟨none, .demand⟩⟩;
    s.live = true ∧ s.seam[x].flits = [f] ∧ s.seam[x].acted = [f.id] ∧ f.cmd.edge = none) ∧
    (let s : State := { run with gov := { paceNext := [(3, 900, 0, 9000), (4, 800, 9000, 9999)] } }; let k : Nat := 3;
    let v : Nat := 900; let x : Nat := 0; let y : Nat := 9000; let l := [(4, 800, 9000, 9999)];
    s.live = true ∧ s.frozen = false ∧ s.gov.paceNext = (k, v, x, y) :: l) ∧
    (let s : State := run;
    s.live = true ∧ s.gov.paceNext = []) := by
  refine ⟨?_, ?_, ?_, ?_, ?_, ?_, ?_, ?_, ?_, ?_, ?_, ?_, ?_, ?_⟩ <;> decide +kernel

theorem witness_ThermalDemands :
    (let s : State := run;
    s.live = true ∧ s.frozen = false ∧ s.rd R.THM_CTL_INTERVAL ≠ 0) ∧
    (let s : State := linked.modThm fun t => { t with due := true };
    s.live = true ∧ (s.thm.due = true ∨ s.on R.THM_CTL_DEMAND_NOW = true) ∧ s.frozen = false) ∧
    (let s : State := run;
    s.live = true ∧ s.thm.due = false ∧ s.on R.THM_CTL_DEMAND_NOW = false) ∧
    (let s : State := (linked.modSeam 8 fun q => { q with flits := [⟨3, 9, ⟨none, .demand⟩⟩] }).modTd 8 (fun t => { t with held := true });
    let x : Sat := 8; let f : SeamFlit := ⟨3, 9, ⟨none, .demand⟩⟩;
    s.live = true ∧ (s.seam[x].flits.find? fun f => f.cmd == ⟨none, .demand⟩) = some f ∧
    (s.seam[x].acted.take 7).contains f.id = false) ∧
    (let s : State := linked.modSeam 8 fun q => { q with flits := [⟨3, 9, ⟨none, .demand⟩⟩], acted := [9] }; let x : Sat := 8;
    let f : SeamFlit := ⟨3, 9, ⟨none, .demand⟩⟩;
    s.live = true ∧ (s.seam[x].flits.find? fun f => f.cmd == ⟨none, .demand⟩) = some f ∧
    (s.seam[x].acted.take 7).contains f.id = true) ∧
    (let s : State := { linked.modTd 8 (fun t => { t with conv := some 90, trims := [(2, (5, 65000))], held := true }) with siteFuse := [(130, (66000, 9))] };
    let x : Sat := 8; let e : Nat := 90;
    s.live = true ∧ s.thmDie[x].conv = some e) ∧
    (let s : State := linked.modTd 8 fun t => { t with conv := some 90 }; let x : Sat := 8;
    let read : List Int := List.replicate 16 (560 : Int); let e : Nat := 90; let v : Int := 560;
    s.live = true ∧ s.thmDie[x].conv = some e ∧ s.thmDie[x].trims = [] ∧ s.siteFuse = [] ∧ s.rd (R.THM_DIE_BROKEN_SITE x) = 0 ∧
    -880 ≤ v ∧ v ≤ 3200 ∧ read = List.replicate 16 v) ∧
    (let s : State := run;
    s.live = true ∧ s.on R.THM_CAL_BUSY = false) ∧
    (let s : State := run.flag R.THM_CAL_BUSY true;
    s.live = true ∧ s.on R.THM_CAL_BUSY = true) ∧
    (let s : State := run;
    s.live = true ∧ s.rd R.THM_CAL_PERIOD ≠ 0) ∧
    (let s : State := (linked.flag R.THM_CTL_CAL_START true).modThm fun t => { t with taken := true };
    s.live = true ∧ s.thm.step = 0 ∧ s.on R.THM_CTL_CAL_START = true ∧ s.thm.stepEnd = none ∧ s.thm.taken = true ∧
    s.thm.due = false ∧ (∀ x : Sat, s.thmDie[x].conv = none) ∧ s.now + 20000 ≤ s.thm.nextDemand ∧ s.frozen = false ∧
    (∀ x : Sat, s.seamUp x = true)) ∧
    (let s : State := (run.modThm fun t => { t with step := 2, stepEnd := some 90 }).modTd 8 (fun t => { t with cal := some 80, trims := [(3, (4, 65000))] });
    let e : Nat := 90;
    s.live = true ∧ s.thm.stepEnd = some e ∧ s.thm.step = 2) ∧
    (let s : State := (run.modThm fun t => { t with step := 1, stepEnd := some 90 }).modTd 8 (fun t => { t with cal := some 80, trims := [(3, (4, 65000))] });
    let e : Nat := 90;
    s.live = true ∧ s.thm.stepEnd = some e ∧ s.thm.step = 1) ∧
    (let s : State := run;
    s.live = true) ∧
    (let s : State := { run with trip := { junction := [(3, 3000), (9, 3000)], asserted := [(3, 5)] } }; let k : Fin 5 := 0;
    let v : Nat := 8; let u : State := s.wr (R.THM_TRIP_MASK_SITE 0) 8;
    s.live = true ∧ u = s.wr (R.THM_TRIP_MASK_SITE k) (if k.val = 4 then v % 2 ^ 8 else v) ∧
    ((List.range 136).filter u.masked).length ≤ 8 ∧ (∀ g h, g < 136 → u.masked g = true → h ∈ thmNearG g → u.masked h = false)) ∧
    (let s : State := run; let k : Fin 5 := 3; let v : Nat := 0x3FF; let u : State := s.wr (R.THM_TRIP_MASK_SITE 3) 0x3FF;
    s.live = true ∧ u = s.wr (R.THM_TRIP_MASK_SITE k) (if k.val = 4 then v % 2 ^ 8 else v) ∧
    8 < ((List.range 136).filter u.masked).length) ∧
    (let s : State := run; let k : Fin 5 := 0; let v : Nat := 3; let u : State := s.wr (R.THM_TRIP_MASK_SITE 0) 3;
    let g : Nat := 0; let h : Nat := 1;
    s.live = true ∧ u = s.wr (R.THM_TRIP_MASK_SITE k) (if k.val = 4 then v % 2 ^ 8 else v) ∧ g < 136 ∧ u.masked g = true ∧
    h ∈ thmNearG g ∧ u.masked h = true) ∧
    (let s : State := ((run.wr R.THM_TRIP_TEST_SITE 135).wr (R.THM_DIE_T_STAT 8 7) 0).wr (R.THM_DIE_RAW_RAW 8 7) 560;
    s.live = true ∧ s.on R.THM_TRIP_TEST_BUSY = false ∧ s.rd R.THM_TRIP_TEST_SITE < 136 ∧
    s.masked (s.rd R.THM_TRIP_TEST_SITE) = false ∧
    s.rd (R.THM_DIE_T_STAT (thmDieOf (s.rd R.THM_TRIP_TEST_SITE)) (thmSiteOf (s.rd R.THM_TRIP_TEST_SITE))) < 2) ∧
    (let s : State := (run.wr R.THM_TRIP_TEST_SITE 9).wr (R.THM_TRIP_MASK_SITE 0) 512;
    s.live = true ∧ s.on R.THM_TRIP_TEST_BUSY = false ∧ s.rd R.THM_TRIP_TEST_SITE < 136 ∧
    s.masked (s.rd R.THM_TRIP_TEST_SITE) = true) ∧
    (let s : State := run.modThm fun t => { t with test := some (135, 560) }; let g : Nat := 135; let v : Int := 560;
    s.live = true ∧ s.thm.test = some (g, v)) := by
  refine ⟨?_, ?_, ?_, ?_, ?_, ?_, ?_, ?_, ?_, ?_, ?_, ?_, ?_, ?_,
    ⟨by decide +kernel, by decide +kernel, by decide +kernel, near_clear _ (by decide +kernel)⟩, ?_, ?_, ?_, ?_, ?_⟩ <;> decide +kernel

theorem witness_TransientCommands :
    (let s : State := (regulating 15 id).flag (R.RGC_L_CFG_NL_EN 15) true; let l : Loop := 15; let v : Nat := 700000;
    s.rgcOn = true ∧ s.switches l = true ∧ s.on (R.RGC_L_CFG_NL_EN l) = true ∧ v + s.underTh l < s.loop[l].vref ∧
    s.loop[l].blockU = false ∧ (s.loop[l].resp.map (·.1)) ≠ some true) ∧
    (let s : State := (regulating 15 id).flag (R.RGC_L_CFG_NL_EN 15) true; let l : Loop := 15; let v : Nat := 900000;
    s.rgcOn = true ∧ s.switches l = true ∧ s.on (R.RGC_L_CFG_NL_EN l) = true ∧ s.loop[l].vref + s.overTh l < v ∧
    s.loop[l].blockO = false ∧ (s.loop[l].resp.map (·.1)) ≠ some false) ∧
    (let s : State := regulating 15 fun L => { L with resp := some (true, 5) }; let l : Loop := 15; let at_ : Nat := 5;
    s.rgcOn = true ∧ s.loop[l].resp = some (true, at_)) ∧
    (let s : State := regulating 15 fun L => { L with resp := some (false, 5) }; let l : Loop := 15; let at_ : Nat := 5;
    s.rgcOn = true ∧ s.loop[l].resp = some (false, at_)) ∧
    (let s : State := regulating 7 fun L => { L with means := List.replicate 64 100000 }; let l : Loop := 7;
    let c : CuffCause := .peak; let b : Bool := true;
    s.rgcOn = true ∧ l.val < 8 ∧ c ≠ .droop ∧ s.cuffHolds l c b = true ∧ bit s.loop[l].cuff c.bit ≠ b) ∧
    (let s : State := regulating 7 fun L => { L with means := List.replicate 64 1 }; let l : Loop := 7;
    let c : CuffCause := .peak; let b : Bool := true;
    s.rgcOn = true ∧ s.cuffHolds l c b = false) ∧
    (let s : State := (regulating 15 id).flag (R.RGC_L_CFG_NL_EN 15) true; let l : Loop := 15; let v : Nat := 800000;
    s.rgcOn = true ∧ s.switches l = true ∧ s.on (R.RGC_L_CFG_NL_EN l) = true ∧ s.loop[l].vref ≤ v + s.underTh l ∧
    v ≤ s.loop[l].vref + s.overTh l) := by
  refine ⟨?_, ?_, ?_, ?_, ?_, ?_, ?_⟩ <;> decide +kernel

theorem witness_TripCommands :
    (let s : State := State.reset; let g : Nat := 135; let c : Int := 3200;
    s.tripCounts g = true ∧ 16 * min (s.rd R.THM_TRIP_TRIP) (s.rd R.THM_TRIP_TRIP_CEIL) + (Tab.find s.tripTrim g).getD 0 ≤ c ∧
    c ≤ 3200 ∧ s.trip.asserted.any (fun e => e.1 == g) = false) ∧
    (let s : State := { State.reset with trip := { asserted := [(135, 9), (3, 4)] } }; let g : Nat := 135; let c : Int := 3201;
    s.tripCounts g = true ∧
    (c < 16 * min (s.rd R.THM_TRIP_TRIP) (s.rd R.THM_TRIP_TRIP_CEIL) + (Tab.find s.tripTrim g).getD 0 ∨ 3200 < c)) ∧
    (let s : State := State.reset.wr (R.THM_TRIP_MASK_SITE 0) 8; let g : Nat := 3;
    s.tripCounts g = false) ∧
    (let s : State := { State.reset with trip := { asserted := [(135, 9)], armed := some 3 } }; let g : Nat := 135;
    let x : Nat := 9; let a : Nat := 3; let more := ([] : List (Nat × Nat));
    s.trip.asserted = (g, x) :: more ∧ s.trip.armed = some a ∧ s.on R.THM_TRIP_STS_LATCHED = false) ∧
    (let s : State := State.reset;
    (s.trip.armed = none ∨ s.trip.asserted = [] ∨ s.on R.THM_TRIP_STS_LATCHED = true)) ∧
    (let s : State := { booted with trip := { record := true, ioOff := some 90 } };
    s.trip.record = true ∧ s.rd (R.MGT_P_STATE_STATE 0) = 2) ∧
    (let s : State := { State.reset with trip := { record := true, ioOff := some 90 } };
    s.rd (R.MGT_P_STATE_STATE 0) ≠ 2) ∧
    (let s : State := { State.reset with trip := { record := true, ioOff := some 90 } }; let x : Nat := 90;
    s.trip.ioOff = some x) := by
  refine ⟨?_, ?_, ?_, ?_, ?_, ?_, ?_, ?_⟩ <;> decide +kernel

theorem witness_UpdateActivationCommands :
    (let s : State := booted;
    s.live = true ∧ s.runs .svp = true ∧ (s.upd.active = false ∨ s.upd.cur.isSome = true) ∧ s.curComp = none) ∧
    (let s : State := updating compOf; let c : UpdComp := compOf;
    s.live = true ∧ s.runs .svp = true ∧ s.curComp = some c ∧ c.result = none) ∧
    (let s : State := updating compOf;
    s.live = true ∧ s.runs .svp = true ∧ s.rd R.UPD_STATUS_STATE ≠ 4 ∧ (s.upd.active = true ∨ s.upd.staged ≠ [])) ∧
    (let s : State := booted.wr R.UPD_STATUS_STATE 4;
    s.live = true ∧ s.runs .svp = true ∧ s.rd R.UPD_STATUS_STATE = 4) ∧
    (let s : State := booted;
    s.live = true ∧ s.runs .svp = true ∧ s.upd.taken = false) ∧
    (let s : State := { booted with upd := { taken := true } };
    s.live = true ∧ s.runs .svp = true ∧ s.upd.taken = true) ∧
    (let s : State := { booted with upd := { steps := [.svp, .plp] } }; let p : Proc := .svp; let rest : List Proc := [.plp];
    s.live = true ∧ s.upd.steps = p :: rest ∧ s.upd.taken = false ∧ s.upd.last = none ∧ s.rd R.UPD_REGATTA_TIME = 0 ∧
    s.frozen = false ∧ s.runs .trp = true ∧ s.runs p = true ∧ (s.proc p).trial = none ∧ s.upd.active = false) ∧
    (let s : State := { booted with upd := { steps := [.plp], taken := true, last := some .svp } }; let p : Proc := .plp;
    let rest : List Proc := [];
    s.live = true ∧ s.upd.steps = p :: rest ∧ s.upd.last.isSome = true ∧ s.frozen = false ∧ s.runs .trp = true) ∧
    (let s : State := { booted with frozen := true };
    s.live = true ∧ s.frozen = true) ∧
    (let s : State := ((booted.flag (R.MGT_P_STATE_STARTED 2) true).flag (R.UPD_P_SLOT_TRIAL 2) true).modProc .svp fun q => { q with trial := some 40 };
    let p : Proc := .svp;
    s.live = true ∧ s.runs p = true ∧ s.on (R.MGT_P_STATE_STARTED p.idx) = true ∧
    (p = .plp → s.on (R.MGT_P_STATE_READY 1) = true) ∧ (s.proc p).trial.isSome = true ∧ (s.proc p).restart = none) ∧
    (let s : State := booted; let p : Proc := .svp;
    s.live = true ∧ (s.proc p).trial = none) ∧
    (let s : State := booted.modProc .svp fun q => { q with trial := some 40 }; let p : Proc := .svp; let x : Nat := 40;
    s.live = true ∧ (s.proc p).trial = some x ∧ s.runs p = true) ∧
    (let s : State := booted; let p : Proc := .svp;
    s.live = true ∧ (s.proc p).trial = none) := by
  refine ⟨?_, ?_, ?_, ?_, ?_, ?_, ?_, ?_, ?_, ?_, ?_, ?_, ?_⟩ <;> decide +kernel

theorem witness_UpdateTransferCommands :
    (let s : State := run;
    s.live = true) ∧
    (let s : State := run;
    s.live = true) ∧
    (let s : State := booted;
    s.live = true ∧ s.runs .svp = true ∧ s.upd.staged = [] ∧ s.upd.steps = []) ∧
    (let s : State := { booted with fuses := 3 };
    s.live = true ∧ s.runs .svp = true ∧ s.lcState ≠ 0 ∧ s.lcState ≠ 4 ∧ s.upd.active = false ∧ s.upd.staged = [] ∧
    s.rd R.UPD_STATUS_STATE ≠ 4) ∧
    (let s : State := booted;
    s.live = true ∧ s.runs .svp = true ∧ (s.lcState = 0 ∨ s.lcState = 4)) ∧
    (let s : State := updating compOf;
    s.live = true ∧ s.runs .svp = true ∧ s.lcState ≠ 0 ∧ s.lcState ≠ 4 ∧ s.upd.active = true) ∧
    (let s : State := updating compOf;
    s.live = true ∧ s.runs .svp = true) ∧
    (let s : State := { booted with fuses := 3, upd := { active := true } }; let id : Nat := 3; let size : Nat := 4194304;
    s.live = true ∧ s.runs .svp = true ∧ s.upd.active = true ∧ knownComp id = true ∧ s.upd.cur = none ∧
    (s.upd.comps.map (·.size)).foldl (· + ·) 0 + size ≤ 4194304) ∧
    (let s : State := booted; let id : Nat := 3; let size : Nat := 5;
    s.live = true ∧ s.runs .svp = true ∧
    (s.upd.active = false ∨ knownComp id = false ∨ s.upd.cur.isSome = true ∨ 4194304 < (s.upd.comps.map (·.size)).foldl (· + ·) 0 + size)) ∧
    (let s : State := updating { compOf with bytes := [], whole := false };
    let c : UpdComp := { compOf with bytes := [], whole := false }; let b : List Nat := [1, 2];
    s.live = true ∧ s.runs .svp = true ∧ s.curComp = some c ∧ c.whole = false ∧ b.length ≤ 512 ∧
    c.bytes.length + b.length ≤ c.size) ∧
    (let s : State := booted; let b : List Nat := [1];
    s.live = true ∧ s.runs .svp = true ∧ (s.curComp = none ∨ 512 < b.length)) ∧
    (let s : State := updating { compOf with whole := false }; let c : UpdComp := { compOf with whole := false };
    s.live = true ∧ s.runs .svp = true ∧ s.curComp = some c ∧ c.whole = false ∧ c.bytes.length = c.size) ∧
    (let s : State := updating { compOf with bytes := [], whole := false };
    let c : UpdComp := { compOf with bytes := [], whole := false };
    s.live = true ∧ s.runs .svp = true ∧ s.curComp = some c ∧ c.bytes.length ≠ c.size) ∧
    (let s : State := updating compOf; let c : UpdComp := compOf; let p : Proc := .svp; let h := true; let g := true;
    let b := deltaBuild (match procOfCode (numAt c.bytes 2 1) with | some q => s.imageOf q ((s.inUse q).getD 0) | none => []) c.bytes;
    s.live = true ∧ s.runs .svp = true ∧ s.curComp = some c ∧ c.whole = true ∧ c.result = none ∧ s.runs .trp = true ∧
    compProc c.id = some p ∧ s.checkImage p c.bytes b h g = 0) ∧
    (let s : State := updating compOf; let c : UpdComp := compOf; let p : Proc := .svp; let h := true; let g := false;
    let b := deltaBuild (match procOfCode (numAt c.bytes 2 1) with | some q => s.imageOf q ((s.inUse q).getD 0) | none => []) c.bytes;
    s.live = true ∧ s.runs .svp = true ∧ s.curComp = some c ∧ c.whole = true ∧ c.result = none ∧ s.runs .trp = true ∧
    compProc c.id = some p ∧ s.checkImage p c.bytes b h g ≠ 0) ∧
    (let s : State := updating { compOf with id := 16 }; let c : UpdComp := { compOf with id := 16 };
    s.live = true ∧ s.runs .svp = true ∧ s.curComp = some c ∧ c.whole = true ∧ c.result = none ∧ s.runs .trp = true ∧
    c.id = 0x10 ∧ s.rd R.SEN_FLEET_PUSH ≠ 1) ∧
    (let s : State := (updating { compOf with id := 16 }).wr R.SEN_FLEET_PUSH 1; let c : UpdComp := { compOf with id := 16 };
    let g : Bool := true;
    s.live = true ∧ s.runs .svp = true ∧ s.curComp = some c ∧ c.whole = true ∧ c.result = none ∧ s.runs .trp = true ∧
    c.id = 0x10 ∧ s.rd R.SEN_FLEET_PUSH = 1 ∧ s.takesLibrary (State.libraryOf c.bytes g) = false) ∧
    (let s : State := (({ updating { compOf with id := 16, bytes := libBytes } with mgt := { booted.mgt with keys := booted.mgt.keys.set 2 (some ⟨1, 3, 0, 0⟩) } } : State)).wr R.SEN_FLEET_PUSH 1;
    let c : UpdComp := { compOf with id := 16, bytes := libBytes };
    s.live = true ∧ s.runs .svp = true ∧ s.curComp = some c ∧ c.whole = true ∧ c.result = none ∧ s.runs .trp = true ∧
    c.id = 0x10 ∧ s.rd R.SEN_FLEET_PUSH = 1 ∧ State.libraryOk (State.libraryOf c.bytes true) = true ∧
    s.keyFor (State.libraryOf c.bytes true).keySlot 1 = true ∧ s.libStored = none ∧ 0 < (State.libraryOf c.bytes true).libVer) ∧
    (let s : State := booted;
    s.live = true ∧ s.runs .svp = true ∧ s.curComp = none) ∧
    (let s : State := updating { compOf with result := some 0 }; let c : UpdComp := { compOf with result := some 0 };
    s.live = true ∧ s.runs .svp = true ∧ s.curComp = some c ∧ c.result = some 0) ∧
    (let s : State := updating compOf; let c : UpdComp := compOf;
    s.live = true ∧ s.runs .svp = true ∧ s.curComp = some c ∧ c.result ≠ some 0) ∧
    (let s : State := { booted with upd := { active := true, staged := [.svp] } };
    s.live = true ∧ s.runs .svp = true ∧ s.upd.active = true ∧ s.upd.cur = none) := by
  refine ⟨?_, ?_, ?_, ?_, ?_, ?_, ?_, ?_, ?_, ?_, ?_, ?_, ?_, ?_, ?_, ?_, ?_, ?_, ?_, ?_, ?_, ?_⟩ <;> decide +kernel

theorem witness_VclFrameCommands :
    (let s : State := (regulating 10 id).modSide 8 .satellite (fun v => { v with flight := [⟨3, VclFrame.make 1 5 10 800 0⟩] });
    let x : Sat := 8; let f : VclFrame := VclFrame.make 1 5 10 800 0; let q : VclSent := ⟨3, VclFrame.make 1 5 10 800 0⟩;
    let l : Loop := 10;
    s.live = true ∧ (s.side x .rgc).up = true ∧ f.good = true ∧
    ((s.side x .satellite).flight.find? fun q => q.frame == f) = some q ∧ State.satOf l = x ∧ l.val ≤ 10 ∧ f.loop = l.val ∧
    f.type = 1 ∧ bit f.w2 15 = false ∧ s.regulates l = true ∧ s.loop[l].vset = none ∧
    (s.loop[l].lastAck.map (·.seq)) ≠ some f.seq) ∧
    (let s : State := ((regulating 10 id).setMode 10 1).modSide 8 .satellite (fun v => { v with flight := [⟨3, VclFrame.make 1 5 10 800 0⟩] });
    let x : Sat := 8; let f : VclFrame := VclFrame.make 1 5 10 800 0; let q : VclSent := ⟨3, VclFrame.make 1 5 10 800 0⟩;
    let l : Loop := 10;
    s.live = true ∧ (s.side x .rgc).up = true ∧ f.good = true ∧
    ((s.side x .satellite).flight.find? fun q => q.frame == f) = some q ∧ State.satOf l = x ∧ l.val ≤ 10 ∧ f.loop = l.val ∧
    f.type = 1 ∧ bit f.w2 15 = false ∧ s.mode l = 1) ∧
    (let s : State := ((regulating 10 id).setMode 10 5).modSide 8 .satellite (fun v => { v with flight := [⟨3, VclFrame.make 1 5 10 800 0⟩] });
    let x : Sat := 8; let f : VclFrame := VclFrame.make 1 5 10 800 0; let q : VclSent := ⟨3, VclFrame.make 1 5 10 800 0⟩;
    let l : Loop := 10;
    s.live = true ∧ (s.side x .rgc).up = true ∧ f.good = true ∧
    ((s.side x .satellite).flight.find? fun q => q.frame == f) = some q ∧ State.satOf l = x ∧ l.val ≤ 10 ∧ f.loop = l.val ∧
    f.type = 1 ∧ bit f.w2 15 = false ∧ (s.mode l = 0 ∨ s.mode l = 5)) ∧
    (let s : State := ((regulating 7 fun L => { L with pre := some ⟨5, none⟩ }).wr (R.RGC_L_TGT_TARGET 7) 800).modSide 7 .satellite (fun v => { v with flight := [⟨3, VclFrame.make 1 5 7 800 0x8000⟩] });
    let x : Sat := 7; let f : VclFrame := VclFrame.make 1 5 7 800 0x8000;
    let q : VclSent := ⟨3, VclFrame.make 1 5 7 800 0x8000⟩; let l : Loop := 7;
    s.live = true ∧ (s.side x .rgc).up = true ∧ f.good = true ∧
    ((s.side x .satellite).flight.find? fun q => q.frame == f) = some q ∧ State.satOf l = x ∧ l.val ≤ 10 ∧ f.loop = l.val ∧
    f.type = 1 ∧ bit f.w2 15 = true ∧ s.clampTarget l (bits f.w1 0 11 + 15 * bits f.w2 0 2) = s.rd (R.RGC_L_TGT_TARGET l)) ∧
    (let s : State := linked.modSide 8 .satellite (fun v => { v with flight := [⟨3, VclFrame.make 2 0 8 0 0⟩] });
    let x : Sat := 8; let f : VclFrame := VclFrame.make 2 0 8 0 0; let q : VclSent := ⟨3, VclFrame.make 2 0 8 0 0⟩;
    s.live = true ∧ (s.side x .rgc).up = true ∧ f.good = true ∧
    ((s.side x .satellite).flight.find? fun q => q.frame == f) = some q) ∧
    (let s : State := linked; let x : Sat := 8; let f : VclFrame := ⟨1, 2, 3, 4, 5, 6⟩;
    s.live = true ∧ (s.side x .rgc).up = true ∧ f.good = false) ∧
    (let s : State := ((linked.modTx (Die.loop 7) fun t => { t with seq := 5, due := some 90 }).flag (R.CLK_DIE_DIV_DROOP_ACTIVE 7) true).modSide 7 .rgc (fun v => { v with flight := [⟨3, VclFrame.make 8 5 7 700 0⟩] });
    let x : Sat := 7; let f : VclFrame := VclFrame.make 8 5 7 700 0; let q : VclSent := ⟨3, VclFrame.make 8 5 7 700 0⟩;
    let d : Die := 7;
    s.live = true ∧ (s.side x .satellite).up = true ∧ f.good = true ∧
    ((s.side x .rgc).flight.find? fun q => q.frame == f) = some q ∧ x.die? = some d ∧ f.type = 8 ∧ f.loop = d.val ∧
    f.seq = s.vsetTx[d.loop].seq ∧ s.vsetTx[d.loop].due.isSome = true ∧ s.on (R.CLK_DIE_DIV_DROOP_ACTIVE d) = true) ∧
    (let s : State := linked.modSide 7 .rgc (fun v => { v with flight := [⟨3, VclFrame.make 9 0 7 7 0⟩] }); let x : Sat := 7;
    let f : VclFrame := VclFrame.make 9 0 7 7 0; let q : VclSent := ⟨3, VclFrame.make 9 0 7 7 0⟩; let d : Die := 7;
    s.live = true ∧ (s.side x .satellite).up = true ∧ f.good = true ∧
    ((s.side x .rgc).flight.find? fun q => q.frame == f) = some q ∧ x.die? = some d ∧ f.type = 9 ∧ bits f.w1 0 4 ≠ 0 ∧
    s.adm[d].causes = 0 ∧ s.on (R.ADM_DIE_STATUS_CUFF d) = false ∧ s.adm[d].both = false) ∧
    (let s : State := (linked.modAdm 7 (fun a => { a with causes := 1 })).modSide 7 .rgc (fun v => { v with flight := [⟨3, VclFrame.make 9 0 7 0 0⟩] });
    let x : Sat := 7; let f : VclFrame := VclFrame.make 9 0 7 0 0; let q : VclSent := ⟨3, VclFrame.make 9 0 7 0 0⟩;
    let d : Die := 7;
    s.live = true ∧ (s.side x .satellite).up = true ∧ f.good = true ∧
    ((s.side x .rgc).flight.find? fun q => q.frame == f) = some q ∧ x.die? = some d ∧ f.type = 9 ∧ bits f.w1 0 4 = 0 ∧
    bits s.adm[d].causes 2 1 = 0 ∧ bits s.adm[d].causes 4 1 = 0) ∧
    (let s : State := ((linked.modAdm 7 (fun a => { a with pend := some ⟨9, 1, 2, 6300, false, none⟩ })).modGovDie 7 (fun g => { g with announced := [9] })).modSide 7 .rgc (fun v => { v with flight := [⟨3, VclFrame.make 0xA 0 7 1 0⟩] });
    let x : Sat := 7; let f : VclFrame := VclFrame.make 0xA 0 7 1 0; let q : VclSent := ⟨3, VclFrame.make 0xA 0 7 1 0⟩;
    let d : Die := 7; let h : Hint := ⟨9, 1, 2, 6300, false, none⟩;
    s.live = true ∧ (s.side x .satellite).up = true ∧ f.good = true ∧
    ((s.side x .rgc).flight.find? fun q => q.frame == f) = some q ∧ x.die? = some d ∧ f.type = 0xA ∧ bit f.w1 0 = true ∧
    s.adm[d].pend = some h ∧ s.rd R.ADM_HINT_MIN_LEAD ≤ h.lead ∧ h.armed = false ∧ s.govDie[d].announced.contains h.id = true) ∧
    (let s : State := linked.modSide 7 .rgc (fun v => { v with flight := [⟨3, VclFrame.make 0xA 0 7 0 0⟩] }); let x : Sat := 7;
    let f : VclFrame := VclFrame.make 0xA 0 7 0 0; let q : VclSent := ⟨3, VclFrame.make 0xA 0 7 0 0⟩; let d : Die := 7;
    s.live = true ∧ (s.side x .satellite).up = true ∧ f.good = true ∧
    ((s.side x .rgc).flight.find? fun q => q.frame == f) = some q ∧ x.die? = some d ∧ f.type = 0xA ∧ bit f.w1 0 = false) ∧
    (let s : State := (linked.modTx (Die.loop 7) fun t => { t with seq := 5, due := some 90 }).modSide 7 .rgc (fun v => { v with flight := [⟨3, VclFrame.make 0xB 5 7 0 0⟩] });
    let x : Sat := 7; let f : VclFrame := VclFrame.make 0xB 5 7 0 0; let q : VclSent := ⟨3, VclFrame.make 0xB 5 7 0 0⟩;
    let d : Die := 7;
    s.live = true ∧ (s.side x .satellite).up = true ∧ f.good = true ∧
    ((s.side x .rgc).flight.find? fun q => q.frame == f) = some q ∧ x.die? = some d ∧ f.type = 0xB ∧
    s.vsetTx[d.loop].due.isSome = true ∧ f.seq = s.vsetTx[d.loop].seq) ∧
    (let s : State := (regulating 7 fun L => { L with vset := some ⟨5, 800⟩, okRun := 1000 }).wr (R.RGC_L_TGT_TARGET 7) 800;
    let l : Loop := 7; let v : Vset := ⟨5, 800⟩;
    s.live = true ∧ s.loop[l].vset = some v ∧ s.regulates l = true ∧ s.rd R.RGC_VCL_CFG_ACK_N ≤ s.loop[l].okRun ∧
    s.atTarget l = true ∧ s.vcl[State.satOf l].rgc.up = true) := by
  refine ⟨?_, ?_, ?_, ?_, ?_, ?_, ?_, ?_, ?_, ?_, ?_, ?_, ?_⟩ <;> decide +kernel

theorem witness_VclLinkCommands :
    (let s : State := linked.modTx 7 fun t => { t with again := some 90 }; let l : Loop := 7; let a : Nat := 90;
    s.live = true ∧ s.vsetTx[l].again = some a ∧ (s.side (State.satOf l) .satellite).up = true) ∧
    (let s : State := linked; let l : Loop := 7;
    s.live = true ∧ s.vsetTx[l].again = none) ∧
    (let s : State := linked; let x : Sat := 8; let l : Loop := 8;
    s.live = true ∧ (s.side x .satellite).up = true ∧ (s.side x .rgc).up = true ∧ (State.servedBy x).head? = some l) ∧
    (let s : State := linked; let x : Sat := 7;
    s.live = true ∧ s.vcl[x].sat.up = true ∧ s.vcl[x].sat.discards.length ≠ 8 ∧ s.vcl[x].rgc.up = true ∧
    s.vcl[x].rgc.discards.length ≠ 8) ∧
    (let s : State := run; let x : Sat := 8; let e : VclEnd := .rgc;
    s.live = true ∧ (s.side x e).up = false) ∧
    (let s : State := run; let x : Sat := 8;
    s.live = true ∧ s.vcl[x].training = none ∧ s.vcl[x].sat.up = false ∧ s.vcl[x].rgc.up = false ∧
    bit (s.rd R.RGC_VCL_STATUS_DEAD) x = false) ∧
    (let s : State := run.wr R.RGC_VCL_STATUS_DEAD 256; let x : Sat := 8;
    s.live = true ∧ bit (s.rd R.RGC_VCL_STATUS_DEAD) x = true) ∧
    (let s : State := run.modVcl 7 fun v => { v with training := some 5, failed := 1, fresh := false }; let x : Sat := 7;
    let start : Nat := 5;
    s.live = true ∧ s.vcl[x].training = some start ∧ s.vcl[x].failed < 2) ∧
    (let s : State := run.modVcl 7 fun v => { v with training := some 5, failed := 2 }; let x : Sat := 7; let start : Nat := 5;
    s.live = true ∧ s.vcl[x].training = some start ∧ s.vcl[x].failed = 2) ∧
    (let s : State := run.wr R.RGC_VCL_STATUS_DEAD 384;
    s.live = true) := by
  refine ⟨?_, ?_, ?_, ?_, ?_, ?_, ?_, ?_, ?_, ?_⟩ <;> decide +kernel

theorem witness_WindowAccessCommands :
    (let s : State := booted; let who : Init := .svp; let u : State := s.turn .svp; let off : Nat := 0x1FFFC;
    s.live = true ∧ u = s.turn who ∧ (procOfCode who.code).all u.runs = true ∧ u.hit off = none ∧
    u.deadTarget (0x10000000 + off) = false) ∧
    (let s : State := booted; let who : Init := .svp; let u : State := s.turn .svp;
    s.live = true ∧ u = s.turn who ∧ (procOfCode who.code).all u.runs = true ∧ u.locked = false) ∧
    (let s : State := run.flag R.GLB_GOV_CTL_ENABLE true; let who : Init := .host; let u : State := s;
    s.live = true ∧ u = s.turn who ∧ (procOfCode who.code).all u.runs = true ∧ u.locked = true) ∧
    (let s : State := booted; let who : Init := .trp; let u : State := s.turn .trp;
    s.live = true ∧ u = s.turn who ∧ (procOfCode who.code).all u.runs = true ∧ who = .trp) ∧
    (let s : State := booted; let who : Init := .svp; let u : State := s.turn .svp;
    s.live = true ∧ u = s.turn who ∧ (procOfCode who.code).all u.runs = true ∧ who ≠ .trp) ∧
    (let s : State := run; let p : Proc := .svp; let u : State := s.turn .svp;
    s.live = true ∧ u = s.turn p.init ∧ u.runs p = false) ∧
    (let s : State := booted; let p : Proc := .svp; let off : Nat := 0x10100; let u : State := s.turn .svp;
    s.live = true ∧ u = s.turn p.init ∧ u.runs p = true ∧ u.deadTarget (0x10000000 + off) = true ∧ (u.proc p).fail = none) ∧
    (let s : State := booted;
    s.live = true ∧ (∀ p : Proc, s.runs p = true ∧ (s.proc p).buf = [])) ∧
    (let s : State := booted; let p : Proc := .svp; let u : State := s.drainAll .svp;
    let h : RegHit := ((booted.hit 0x2000).getD ⟨"", 0, false, 0, 0, []⟩); let off : Nat := 0x2000;
    s.live = true ∧ s.runs p = true ∧ u = s.drainAll p ∧ (u.proc p).fail = none ∧ (u.proc p).latch = none ∧ u.hit off = some h ∧
    h.wide = true ∧ h.base = off) ∧
    (let s : State := booted.modProc .svp fun q => { q with latch := some (0x80024, 5) }; let p : Proc := .svp;
    let u : State := s.drainAll .svp; let off : Nat := 0x80024; let w : Nat := 5;
    s.live = true ∧ s.runs p = true ∧ u = s.drainAll p ∧ (u.proc p).fail = none ∧ (u.proc p).latch = some (off, w)) ∧
    (let s : State := booted; let p : Proc := .svp; let u : State := s.drainAll .svp; let off : Nat := 0x10004;
    s.live = true ∧ s.runs p = true ∧ u = s.drainAll p ∧ (u.proc p).fail = none ∧ (u.proc p).latch = none ∧
    (∀ h, u.hit off = some h → h.wide = false)) ∧
    (let s : State := booted.modProc .svp fun q => { q with fail := some ⟨64, 2, 0⟩ }; let p : Proc := .svp;
    let u : State := s.drainAll .svp; let f : StoreFail := ⟨64, 2, 0⟩;
    s.live = true ∧ s.runs p = true ∧ u = s.drainAll p ∧ (u.proc p).fail = some f ∧ (u.proc p).buf = []) ∧
    (let s : State := run; let p : Proc := .svp;
    s.live = true ∧ s.runs p = false) := by
  refine ⟨?_, ?_, ?_, ?_, ?_, ?_, ?_, ⟨by decide +kernel, fun p => by cases p <;> decide +kernel⟩, ?_, ?_, ?_, ?_, ?_⟩ <;> decide +kernel

theorem witness_WindowCommands :
    (let s : State := (regulating 7 fun L => { L with means := [16, 32], pk64 := 32 }).wr R.ADM_COST_SWAP_DIE 128;
    s.rgcOn = true ∧ s.frozen = false ∧ s.live = true ∧ (∀ (q : Queue) l, s.queue[q].work ≠ some (.writes l))) ∧
    (let s : State := { (run.flag R.TRC_CTL_EN true).wr R.TRC_STATUS_LANE_UP 15 with frozen := true };
    s.live = true ∧ s.frozen = true) ∧
    (let s : State := { run.flag R.GLB_STATUS_CHECKING true with gov := { check := some (some (0x23, 7)) } };
    let code : Nat := 0x23; let arg : Nat := 7;
    s.live = true ∧ s.frozen = false ∧ (∀ (q : Queue) l, s.queue[q].work ≠ some (.writes l)) ∧
    s.on R.GLB_STATUS_CHECKING = true ∧ s.gov.check = some (some (code, arg))) ∧
    (let s : State := { run.flag R.GLB_STATUS_CHECKING true with gov := { check := some none } };
    s.live = true ∧ s.frozen = false ∧ (∀ (q : Queue) l, s.queue[q].work ≠ some (.writes l)) ∧
    s.on R.GLB_STATUS_CHECKING = true ∧ s.gov.check = some none ∧ s.gov.offAsked = false) ∧
    (let s : State := { run.flag R.GLB_STATUS_ENABLED true with gov := { offAsked := true } };
    s.live = true ∧ s.frozen = false ∧ (∀ (q : Queue) l, s.queue[q].work ≠ some (.writes l)) ∧ s.gov.offAsked = true) ∧
    (let s : State := run.flag R.BUD_JOB_CTL_START true;
    s.live = true ∧ s.frozen = false ∧ (∀ (q : Queue) l, s.queue[q].work ≠ some (.writes l)) ∧ s.on R.BUD_JOB_CTL_START = true ∧
    s.on R.BUD_JOB_CTL_RUNNING = false) := by
  refine ⟨⟨by decide +kernel, by decide +kernel, by decide +kernel, no_writes _ (by decide +kernel)⟩, ?_,
    ⟨by decide +kernel, by decide +kernel, no_writes _ (by decide +kernel), by decide +kernel, by decide +kernel⟩,
    ⟨by decide +kernel, by decide +kernel, no_writes _ (by decide +kernel), by decide +kernel, by decide +kernel, by decide +kernel⟩,
    ⟨by decide +kernel, by decide +kernel, no_writes _ (by decide +kernel), by decide +kernel⟩,
    ⟨by decide +kernel, by decide +kernel, no_writes _ (by decide +kernel), by decide +kernel, by decide +kernel⟩⟩
  decide +kernel

theorem witness_WindowDecisionCommand :
    (let s : State := { linked with windowIdx := 1, strokeIdx := 1 };
    s.live = true ∧ s.frozen = false ∧ s.windowIdx ≠ 0 ∧ s.gov.decided ≠ some s.window) ∧
    (let s : State := run;
    s.live = true ∧ (s.frozen = true ∨ s.windowIdx = 0 ∨ s.gov.decided = some s.window)) := by
  refine ⟨?_, ?_⟩ <;> decide +kernel

end Sys2Proof.Tests
end

section
/-!
PROOF. The canonical form of the register window (log 11): every write inserts its entry in the order of the keys, so each
operation of the machine keeps the form (`Canonical.<operation>`), and so does each command (`exec_canonical`).
-/
namespace Sys2Proof.Machine
set_option Elab.async false

/-- The window of a state is in its canonical form. -/
def Canonical (s : State) : Prop := s.canonical = true

/-- A write that an area's registers may take leaves the window in its canonical form where they take it. -/
def OptCanonical (o : Option State) : Prop := ∀ t, o = some t → Canonical t

variable {s : State}

namespace OptCanonical

theorem of_none : OptCanonical none := fun _ e => (Option.some_ne_none _ e.symm).elim

theorem of_some (h : Canonical s) : OptCanonical (some s) := fun _ e => Option.some.inj e ▸ h

theorem ite {c : Prop} [Decidable c] {a b : Option State} (ha : OptCanonical a) (hb : OptCanonical b) :
    OptCanonical (if c then a else b) := by
  split
  · exact ha
  · exact hb

theorem if_some {c : Prop} [Decidable c] {o : Option State} (h : Canonical s) (ho : OptCanonical o) :
    OptCanonical (if c then some s else o) := .ite (.of_some h) ho

theorem orElse {a : Option State} {b : Unit → Option State} (ha : OptCanonical a) (hb : OptCanonical (b ())) :
    OptCanonical (a.orElse b) := by
  cases a with
  | none => exact hb
  | some t => exact ha

theorem getD {o : Option State} (ho : OptCanonical o) (h : Canonical s) : Canonical (o.getD s) := by
  cases o with
  | none => exact h
  | some t => exact ho t rfl

end OptCanonical

namespace Canonical

/-- What is not of the window may change freely. -/
theorem mk (h : Canonical s) {pending now strokeIdx windowIdx alignIdx phase frozen resetReq raised out freeCtr adm inbox bus
    gov govDie rail rptIo lastIo clk clkDie hold rgc loop vsetTx satSeq vcl once thm thmDie trip sen libStored lk cas frozenNs
    frozeAt queue lastStart nextPoll mgt fuses siteFuse tripTrim rings trcFifo trcDrop rcd upd flash mtr chain seam} :
    Canonical ⟨pending, now, strokeIdx, windowIdx, alignIdx, phase, frozen, s.regs, resetReq, raised, out, freeCtr, adm, inbox,
      bus, gov, govDie, rail, rptIo, lastIo, clk, clkDie, hold, rgc, loop, vsetTx, satSeq, vcl, once, thm, thmDie, trip, sen,
      libStored, lk, cas, frozenNs, frozeAt, queue, lastStart, nextPoll, mgt, fuses, siteFuse, tripTrim, rings, trcFifo,
      trcDrop, rcd, upd, flash, mtr, chain, seam⟩ := h

theorem ite {c : Prop} [Decidable c] {a b : State} (ha : Canonical a) (hb : Canonical b) :
    Canonical (if c then a else b) := by
  split
  · exact ha
  · exact hb

/-- A state taken further on some condition. -/
theorem opt {t : State} {c : Prop} [Decidable c] (h : Canonical s) (ht : Canonical s → Canonical t) :
    Canonical (if c then t else s) := .ite (ht h) h

/-- A state taken further but on some condition. -/
theorem optNot {t : State} {c : Prop} [Decidable c] (h : Canonical s) (ht : Canonical s → Canonical t) :
    Canonical (if c then s else t) := .ite h (ht h)

/-- A state taken further by one of two ways. -/
theorem both {a b : State} {c : Prop} [Decidable c] (h : Canonical s) (ha : Canonical s → Canonical a)
    (hb : Canonical s → Canonical b) : Canonical (if c then a else b) := .ite (ha h) (hb h)

theorem ite_fst {α : Type} {c : Prop} [Decidable c] {a b : State × α} (ha : Canonical a.1) (hb : Canonical b.1) :
    Canonical (if c then a else b).1 := by
  split
  · exact ha
  · exact hb

theorem ite_snd {α : Type} {c : Prop} [Decidable c] {a b : α × State} (ha : Canonical a.2) (hb : Canonical b.2) :
    Canonical (if c then a else b).2 := by
  split
  · exact ha
  · exact hb

theorem fst {α : Type} {p : State × α} (h : Canonical p.1) {a : α} (e : p = (s, a)) : Canonical s := by
  rw [e] at h; exact h

theorem snd {α : Type} {p : α × State} (h : Canonical p.2) {a : α} (e : p = (a, s)) : Canonical s := by
  rw [e] at h; exact h

theorem each {α : Type} (h : Canonical s) {l : List α} {g : α → State → State}
    (hg : ∀ a u, Canonical u → Canonical (g a u)) : Canonical (s.each l g) := State.each_induct Canonical l g hg s h

theorem when (h : Canonical s) {b} {g : State → State} (hg : ∀ u, Canonical u → Canonical (g u)) :
    Canonical (s.when b g) := State.when_induct h fun _ => hg s h

theorem foldl_fst {α β : Type} (h : Canonical s) {l : List α} {b : β} {g : State × β → α → State × β}
    (hg : ∀ p a, Canonical p.1 → Canonical (g p a).1) : Canonical (l.foldl g (s, b)).1 :=
  List.foldlRecOn (motive := fun p => Canonical p.1) l g h fun p hp a _ => hg p a hp

theorem foldl_snd {α β : Type} (h : Canonical s) {l : List α} {b : β} {g : β × State → α → β × State}
    (hg : ∀ p a, Canonical p.2 → Canonical (g p a).2) : Canonical (l.foldl g (b, s)).2 :=
  List.foldlRecOn (motive := fun p => Canonical p.2) l g h fun p hp a _ => hg p a hp

theorem wr (h : Canonical s) {f v} : Canonical (s.wr f v) := Regs.wf_set f v h

/-! The operations of Machine/Ops.lean. -/

theorem flag (h : Canonical s) {f b} : Canonical (s.flag f b) := h.wr

theorem setMask (h : Canonical s) {f m} : Canonical (s.setMask f m) := h.wr

theorem clrMask (h : Canonical s) {f m} : Canonical (s.clrMask f m) := h.wr

theorem modGov (h : Canonical s) {g} : Canonical (s.modGov g) := h.mk

theorem count (h : Canonical s) {f n} : Canonical (s.count f n) := .ite h h.wr

theorem raise (h : Canonical s) {code unit detail body} : Canonical (s.raise code unit detail body) := h.mk

theorem raiseOnce (h : Canonical s) {code unit detail} : Canonical (s.raiseOnce code unit detail) := .ite h h.mk.raise

theorem emit (h : Canonical s) {o} : Canonical (s.emit o) := h.mk

theorem raiseIf (h : Canonical s) {b code unit detail} : Canonical (s.raiseIf b code unit detail) := .ite h.raise h

theorem draw (h : Canonical s) : Canonical s.draw.2 := h.mk

theorem advance (h : Canonical s) {t} : Canonical (s.advance t) := h.mk

theorem toAlign (h : Canonical s) : Canonical s.toAlign := h.mk

theorem toEdge (h : Canonical s) : Canonical s.toEdge := .ite h h.toAlign

theorem modAdm (h : Canonical s) {d g} : Canonical (s.modAdm d g) := h.mk

theorem modClk (h : Canonical s) {d g} : Canonical (s.modClk d g) := h.mk

theorem modHold (h : Canonical s) {d g} : Canonical (s.modHold d g) := h.mk

theorem modLoop (h : Canonical s) {l g} : Canonical (s.modLoop l g) := h.mk

theorem modVcl (h : Canonical s) {x g} : Canonical (s.modVcl x g) := h.mk

theorem modTx (h : Canonical s) {l g} : Canonical (s.modTx l g) := h.mk

theorem modSeam (h : Canonical s) {x g} : Canonical (s.modSeam x g) := h.mk

theorem stopSat (h : Canonical s) {x} : Canonical (s.stopSat x) := h.modSeam

theorem goSat (h : Canonical s) {x} : Canonical (s.goSat x) := h.modSeam

theorem countDie (h : Canonical s) {x f n} : Canonical (s.countDie x f n) := .ite h h.wr

theorem modRgc (h : Canonical s) {g} : Canonical (s.modRgc g) := h.mk

theorem modClkGen (h : Canonical s) {g} : Canonical (s.modClkGen g) := h.mk

theorem modPhase (h : Canonical s) {l p g} : Canonical (s.modPhase l p g) := h.modLoop

theorem keepFlit (h : Canonical s) {x gov l} : Canonical (s.keepFlit x gov l) := h.modSeam

theorem report (h : Canonical s) {x rr} : Canonical (s.report x rr) := h.mk

/-! The operations of Machine/Link.lean. -/

theorem modSide (h : Canonical s) {x e g} : Canonical (s.modSide x e g) := h.modVcl

theorem sendVcl (h : Canonical s) {x e f} : Canonical (s.sendVcl x e f) := h.modSide.emit

theorem sendVclCuff (h : Canonical s) {x f} : Canonical (s.sendVclCuff x f) := h.modSide.emit.emit.each fun _ _ h' => h'.emit

theorem setVack (h : Canonical s) {d mv} : Canonical (s.setVack d mv) := h.modClk.wr

theorem newVset (h : Canonical s) {l a m due again} : Canonical (s.newVset l a m due again) := h.mk.modTx.sendVcl

theorem sendPaRel (h : Canonical s) {l} : Canonical (s.sendPaRel l) := h.sendVcl

theorem askVoltage (h : Canonical s) {d k} : Canonical (s.askVoltage d k) :=
  .ite h.modClk.newVset.setVack.flag h.modClk.newVset.flag

theorem sendSeam (h : Canonical s) {x edge b} : Canonical (s.sendSeam x edge b) :=
  .ite h ((h.modSeam.each (fun _ _ h' => h'.keepFlit)).emit)

theorem sendRgc (h : Canonical s) {m} : Canonical (s.sendRgc m) := h.mk.emit

theorem onBus (h : Canonical s) {m} {g : State → State} (hg : ∀ u, Canonical u → Canonical (g u)) :
    Canonical (s.onBus m g) := by
  unfold State.onBus
  split
  · exact hg _ h.advance.mk
  · exact h

theorem toSat (h : Canonical s) {d b} : Canonical (s.toSat d b) := .ite h.sendSeam h.modSeam

/-! The operations of Machine/Trace.lean. -/

theorem setFifo (h : Canonical s) {l} : Canonical (s.setFifo l) := h.mk.wr

theorem trcLose (h : Canonical s) {src} : Canonical (s.trcLose src) := h.mk.count

theorem traceAlways (h : Canonical s) {type unit words} : Canonical (s.traceAlways type unit words) := .ite h.setFifo h

theorem trace (h : Canonical s) {type unit src words} : Canonical (s.trace type unit src words) :=
  .ite h (.ite h.trcLose h.setFifo)

theorem ringPut (h : Canonical s) {key word} : Canonical (s.ringPut key word) := h.mk

theorem ringSite (h : Canonical s) {d site kind arg} : Canonical (s.ringSite d site kind arg) :=
  .ite h (.ite h.ringPut (.ite h.ringPut.trcLose (.ite h.ringPut.draw.trcLose h.ringPut.draw.trace)))

theorem ringChan (h : Canonical s) {ch kind arg} : Canonical (s.ringChan ch kind arg) := .ite h h.ringPut.trace

/-! The operations of Machine/Admit.lean. -/

theorem applyPool (h : Canonical s) {d atWindow} : Canonical (s.applyPool d atWindow) := .ite h.wr h

theorem chooseHeld (h : Canonical s) {d lvl causes} : Canonical (s.chooseHeld d lvl causes) :=
  .each (.optNot h.modAdm.wr (fun h1 => h1.emit)) fun _ _ h' => h'.ringSite

theorem cuffCount (h : Canonical s) {d started lvl} : Canonical (s.cuffCount d started lvl) :=
  .opt h.countDie.count.setMask.setMask.setMask.setMask.setMask.raise.modAdm.modAdm fun h1 => h1.modAdm.flag.raise

theorem cuffCauses (h : Canonical s) {d causes} : Canonical (s.cuffCauses d causes) :=
  .ite h.modAdm (.both h.modAdm.modAdm (fun h1 => h1.flag.modAdm.chooseHeld.cuffCount) (fun h1 => .ite
    h1.modAdm.chooseHeld.cuffCount (.ite h1.modAdm (.ite h1.modAdm.chooseHeld h1))))

theorem cuffOne (h : Canonical s) {d c active} : Canonical (s.cuffOne d c active) := h.cuffCauses

theorem showArm (h : Canonical s) {d} : Canonical (s.showArm d) := h.flag

theorem setHints (h : Canonical s) {d p a} : Canonical (s.setHints d p a) := h.modAdm.flag.wr.wr.showArm

theorem hintEnded (h : Canonical s) {d hit disarmed} : Canonical (s.hintEnded d hit disarmed) :=
  .ite h.report h.report.sendPaRel

theorem endActive (h : Canonical s) {d disarmed} : Canonical (s.endActive d disarmed) := by
  unfold State.endActive
  split
  · exact h
  · exact h.setHints.hintEnded

theorem endPending (h : Canonical s) {d} : Canonical (s.endPending d) := by
  unfold State.endPending
  split
  · exact h
  · exact h.setHints.hintEnded

theorem dropHints (h : Canonical s) {d} : Canonical (s.dropHints d) := by
  unfold State.dropHints
  extract_lets a s1 s2
  have h2 : Canonical s2 := by
    unfold s2
    split
    · exact h.setHints.report
    · exact h.setHints
  split
  · exact h2.report
  · exact h2

theorem armHints (h : Canonical s) {d} : Canonical (s.armHints d) := h.setHints

theorem unarm (h : Canonical s) {d} : Canonical (s.unarm d) := .opt (.ite h.endActive h) fun h1 => h1.endPending

/-! The operations of Machine/Signals.lean. -/

theorem sendMessage (h : Canonical s) {v} : Canonical (s.sendMessage v) := .ite h h.emit

theorem owe (h : Canonical s) {v} : Canonical (s.owe v) := .ite h.flag h.sendMessage

theorem signal (h : Canonical s) {k code} : Canonical (s.signal k code) :=
  .optNot (by
    split
    · exact h.flag.wr.wr
    · exact h.flag.wr) fun h1 => h1.owe

theorem signalNmi (h : Canonical s) {k code} : Canonical (s.signalNmi k code) := h.flag.wr.wr.flag.sendMessage

/-! The operations of Machine/CasLinks.lean. -/

theorem modCas (h : Canonical s) {g} : Canonical (s.modCas g) := h.mk

theorem modLane (h : Canonical s) {k g} : Canonical (s.modLane k g) := h.modCas

theorem syncSteer (h : Canonical s) : Canonical s.syncSteer := .ite h h.mk

theorem casTrace (h : Canonical s) {k f rx} : Canonical (s.casTrace k f rx) := .ite h.trace h

theorem putFrame (h : Canonical s) {k q} : Canonical (s.putFrame k q) := h.modLane.casTrace.emit

theorem sendFrame (h : Canonical s) {k q} : Canonical (s.sendFrame k q) := .ite h (.ite h.modLane h.putFrame)

theorem originate (h : Canonical s) {k q} : Canonical (s.originate k q) := .ite h.modCas h.sendFrame

theorem sendUp (h : Canonical s) {type p} : Canonical (s.sendUp type p) := by
  unfold State.sendUp
  split
  · exact h.originate
  · exact h

theorem sendDown (h : Canonical s) {type p} : Canonical (s.sendDown type p) := h.each fun _ _ h' => h'.originate

theorem syncSource (h : Canonical s) : Canonical s.syncSource := h.flag.raiseIf

theorem sendAck (h : Canonical s) {k lseq neg} : Canonical (s.sendAck k lseq neg) := h.sendFrame

theorem pass (h : Canonical s) {k f keepStamp} : Canonical (s.pass k f keepStamp) := h.sendFrame

theorem passDown (h : Canonical s) {f} : Canonical (s.passDown f) := h.each fun _ _ h' => h'.pass

theorem passUp (h : Canonical s) {f keepStamp} : Canonical (s.passUp f keepStamp) := by
  unfold State.passUp
  split
  · exact h.pass
  · exact h

theorem sendMirror (h : Canonical s) {item} : Canonical (s.sendMirror item) := by
  unfold State.sendMirror
  extract_lets
  split
  · exact .ite h.originate h
  · exact h

theorem mirrorCount (h : Canonical s) : Canonical s.mirrorCount := .ite h h.modCas.sendMirror

theorem sendHello (h : Canonical s) {k} : Canonical (s.sendHello k) := h.sendFrame

theorem setRoles (h : Canonical s) {up} : Canonical (s.setRoles up) := h.each fun _ _ h' => h'.wr

theorem sendTopo (h : Canonical s) : Canonical s.sendTopo := h.sendUp

theorem mirrorAll (h : Canonical s) : Canonical s.mirrorAll :=
  .each (by
    split
    · exact (h.each (fun _ _ h' => h'.sendMirror)).sendMirror
    · exact h.each (fun _ _ h' => h'.sendMirror)) fun _ _ h' => h'.sendMirror

theorem announceForm (h : Canonical s) : Canonical s.announceForm :=
  .both h.wr.wr.wr.wr.wr.wr.sendDown (fun h1 => h1.mirrorCount) fun h1 => h1.modCas.mirrorCount.mirrorAll

theorem sendFormed (h : Canonical s) : Canonical s.sendFormed := h.wr.modCas.announceForm.raise

/-! The operations of Machine/CasObjs.lean. -/

theorem modObj (h : Canonical s) {k g} : Canonical (s.modObj k g) := h.modCas

theorem sendObjUp (h : Canonical s) {k value} : Canonical (s.sendObjUp k value) := h.sendUp.modObj

theorem sendResult (h : Canonical s) {k v} : Canonical (s.sendResult k v) := h.sendDown.modObj

theorem objChanged (h : Canonical s) {k} : Canonical (s.objChanged k) := .ite h (.ite h.modObj (.ite h.sendResult h.sendObjUp))

theorem addWait (h : Canonical s) {w} : Canonical (s.addWait w) := h.wr.wr.count.count

theorem barrierWait (h : Canonical s) {o} : Canonical (s.barrierWait o) := .ite h (.ite h.modGov h.addWait)

theorem release (h : Canonical s) {k aborted} : Canonical (s.release k aborted) :=
  .opt h.barrierWait.modObj.wr.wr.wr.flag.wr fun h1 => h1.signal

theorem barrierCheck (h : Canonical s) {k} : Canonical (s.barrierCheck k) :=
  .ite h (.ite (.ite h.sendDown.release h) (.ite h h.sendObjUp))

theorem abortBarriers (h : Canonical s) : Canonical s.abortBarriers := h.each fun _ _ h' => .ite h'.release h'

theorem noteWrite (h : Canonical s) {k stamp idx v} : Canonical (s.noteWrite k stamp idx v) := .ite h.modObj h

theorem setWrite (h : Canonical s) {k stamp idx v} : Canonical (s.setWrite k stamp idx v) :=
  .ite h (.optNot h.noteWrite (fun h1 => h1.sendResult))

theorem objWrite (h : Canonical s) {k v} : Canonical (s.objWrite k v) :=
  .ite h.modObj (.ite (.ite h.modObj.setWrite h.modObj.noteWrite.sendObjUp) h.modObj.objChanged)

theorem sendCount (h : Canonical s) {k} : Canonical (s.sendCount k) := h.sendObjUp

theorem objRefresh (h : Canonical s) {k} : Canonical (s.objRefresh k) :=
  .ite (.ite h.modObj.barrierCheck (.ite h h.sendCount)) h.objChanged

theorem recombine (h : Canonical s) : Canonical s.recombine := h.each fun _ _ h' => h'.objRefresh

theorem memberChange (h : Canonical s) {k} : Canonical (s.memberChange k) :=
  .ite h.modObj.objRefresh (.ite h.sendCount h.modObj.objChanged)

theorem forgetLane (h : Canonical s) {k} : Canonical (s.forgetLane k) := h.modLane.modCas

/-! The operations of Machine/SenOps.lean. -/

theorem modSen (h : Canonical s) {g} : Canonical (s.modSen g) := h.mk

theorem modSenDie (h : Canonical s) {d g} : Canonical (s.modSenDie d g) := h.modSen

theorem setTxq (h : Canonical s) {l} : Canonical (s.setTxq l) := h.modSen.wr

theorem queueTx (h : Canonical s) {t} : Canonical (s.queueTx t) := .ite h.modSen.flag h.setTxq

theorem logRecord (h : Canonical s) {ws} : Canonical (s.logRecord ws) := ((h.each (fun _ _ h' => h'.wr)).wr).modSen

theorem senRecord (h : Canonical s) {code rr} : Canonical (s.senRecord code rr) := h.raise.count.logRecord.queueTx

theorem deferTest (h : Canonical s) {d site reason asked} : Canonical (s.deferTest d site reason asked) :=
  (h.wr.when (fun _ h' => h'.wr)).senRecord

theorem setVerified (h : Canonical s) {e} : Canonical (s.setVerified e) := .ite h (.ite h.wr.objWrite h.wr)

theorem dropEpochs (h : Canonical s) {keep} : Canonical (s.dropEpochs keep) := (h.each (fun _ _ h' => h'.modSenDie)).modSen

theorem verifyFrom (h : Canonical s) {n e} : Canonical (State.verifyFrom n e s) := by
  induction n generalizing s e with
  | zero => exact h
  | succ n ih => exact .ite (ih h.setVerified.dropEpochs) h

theorem verify (h : Canonical s) {e} : Canonical (s.verify e) := h.verifyFrom

theorem verifyNext (h : Canonical s) : Canonical s.verifyNext := h.verify

theorem applyRetract (h : Canonical s) {e} : Canonical (s.applyRetract e) := h.setVerified.wr.flag.count.dropEpochs.senRecord

theorem expel (h : Canonical s) {d e} : Canonical (s.expel d e) := h.modSenDie.flag.senRecord

theorem takeVerdict (h : Canonical s) {d group epoch outcome majority} : Canonical (s.takeVerdict d group epoch outcome
    majority) :=
  .ite h (by
    split
    · exact .ite h.modSenDie h.expel
    · exact h)

theorem verdict (h : Canonical s) {group outcome epoch majority} : Canonical (s.verdict group outcome epoch majority) :=
  .ite h ((h.modSen.each (fun _ _ h' => h'.takeVerdict)).verify)

/-! The operations of Machine/Divide.lean. -/

theorem lowerVoltage (h : Canonical s) {d} : Canonical (s.lowerVoltage d) := .ite h.askVoltage h

theorem retarget (h : Canonical s) {d} : Canonical (s.retarget d) :=
  .ite (.ite h.wr (.ite h.wr h.wr.askVoltage)) h.wr.lowerVoltage

theorem askMargin (h : Canonical s) {d} : Canonical (s.askMargin d) := .ite h.askVoltage h.lowerVoltage

theorem rgcCauses (h : Canonical s) {d causes} : Canonical (s.rgcCauses d causes) :=
  .optNot h.cuffCauses fun h1 => h1.modClk.retarget

theorem takeRatio (h : Canonical s) {d k edge} : Canonical (s.takeRatio d k edge) := h.wr.modClk

theorem fasterStep (h : Canonical s) {d edge} : Canonical (s.fasterStep d edge) := .ite h.takeRatio.modClk.lowerVoltage h

theorem dieStep (h : Canonical s) {d edge} : Canonical (s.dieStep d edge) :=
  .ite h (.both (.ite h.modClk h) (fun h1 => h1.takeRatio.modClk) (fun h1 => .ite h1.takeRatio.lowerVoltage (.ite h1
    h1.fasterStep)))

theorem clusterStep (h : Canonical s) {d c edge} : Canonical (s.clusterStep d c edge) := .ite h h.modClk

theorem divStep (h : Canonical s) {d edge} : Canonical (s.divStep d edge) := h.dieStep.each fun _ _ h' => h'.clusterStep

theorem setGate (h : Canonical s) {d c g} : Canonical (s.setGate d c g) := h.modClk

theorem gateRequest (h : Canonical s) {d c} : Canonical (s.gateRequest d c) := .ite h.setGate (.ite h.setGate h.setGate)

theorem gateTake (h : Canonical s) {d c code} : Canonical (s.gateTake d c code) :=
  .each (.ite h.wr.modClk h.wr) fun _ _ h' => h'.ringSite

theorem clampLoop (h : Canonical s) {l} : Canonical (s.clampLoop l) := h.wr.modLoop

theorem holdSites (h : Canonical s) {d sites kind} : Canonical (s.holdSites d sites kind) :=
  .ite h (h.emit.each (fun _ _ h' => h'.ringSite))

/-! The operations of Machine/Clocks.lean. -/

theorem switchRef (h : Canonical s) {active cause} : Canonical (s.switchRef active cause) := h.flag.flag.wr.wr.syncSource

theorem crystalFail (h : Canonical s) {cause} : Canonical (s.crystalFail cause) := h.switchRef.modClkGen.raise

theorem returnFail (h : Canonical s) : Canonical s.returnFail := h.modClkGen.flag.flag.wr

theorem proven (h : Canonical s) {ret} : Canonical (s.proven ret) :=
  .both h.flag.modClkGen (fun h1 => h1.switchRef.flag.raise) fun h1 => h1.modClkGen

theorem sourceGate (h : Canonical s) {count} : Canonical (s.sourceGate count) := by
  unfold State.sourceGate
  split
  · exact .ite (.ite h.proven h.modClkGen) (.ite h.returnFail h.modClkGen)
  · exact .ite h.crystalFail h

theorem edgeLoss (h : Canonical s) : Canonical s.edgeLoss := by
  unfold State.edgeLoss
  split
  · exact .ite h.returnFail h.modClkGen
  · exact .ite h.crystalFail h

theorem pllLock (h : Canonical s) : Canonical s.pllLock := by
  unfold State.pllLock
  split
  · exact h.wr.flag.flag.syncSource.mk.modClkGen.modRgc.flag
  · exact h
  · exact .ite h.flag.flag.modClkGen h

theorem proofTimeout (h : Canonical s) : Canonical s.proofTimeout := .ite h.modClkGen.wr.raise h

theorem lockLoss (h : Canonical s) : Canonical s.lockLoss := .ite h.flag.flag.wr.modClkGen.raise h

theorem relockTimeout (h : Canonical s) : Canonical s.relockTimeout := by
  unfold State.relockTimeout
  split
  · exact h.advance.modClkGen.mk
  · exact h

theorem clkReturn (h : Canonical s) : Canonical s.clkReturn := .ite h h.flag.modClkGen

theorem raiseFails (h : Canonical s) {d} : Canonical (s.raiseFails d) := h.raise.countDie.modClk.newVset.flag

theorem ackTimeout (h : Canonical s) {d} : Canonical (s.ackTimeout d) := by
  unfold State.ackTimeout
  split
  · exact h.advance.raiseFails
  · exact h

theorem gateWrite (h : Canonical s) {d c code} : Canonical (s.gateWrite d c code) := .ite h h.wr.gateRequest

theorem clockStop (h : Canonical s) {d c} : Canonical (s.clockStop d c) := .ite h.toEdge.gateTake.setGate h

theorem clusterRestart (h : Canonical s) {d c} : Canonical (s.clusterRestart d c) := by
  unfold State.clusterRestart
  split
  · exact .ite h (.modClk (.setGate (.gateTake (.opt h.advance.toEdge (fun h1 => h1.mk.toAlign)))))
  · exact h

theorem droopBegin (h : Canonical s) {d} : Canonical (s.droopBegin d) := .ite h h.flag.countDie.count.modClk

theorem droopCheck (h : Canonical s) {d} : Canonical (s.droopCheck d) := .ite h.flag.modClk.cuffOne.lowerVoltage h

theorem droopAssert (h : Canonical s) {d det uv} : Canonical (s.droopAssert d det uv) :=
  .ite h (.ite h.setMask h.setMask.setMask.modClk.droopBegin)

theorem droopThr2 (h : Canonical s) {d det uv} : Canonical (s.droopThr2 d det uv) := .ite h.cuffOne h

theorem droopCount (h : Canonical s) {d det} : Canonical (s.droopCount d det) := .ite h.cuffOne h

theorem droopClear (h : Canonical s) {d det uv} : Canonical (s.droopClear d det uv) := .ite h h.clrMask.modClk.droopCheck

theorem droopRecover (h : Canonical s) {d} : Canonical (s.droopRecover d) := by
  unfold State.droopRecover
  split
  · exact .opt h.advance.toEdge.divStep (fun h1 => h1.modClk)
  · exact h

theorem droopStuck (h : Canonical s) {d det} : Canonical (s.droopStuck d det) := by
  unfold State.droopStuck
  split
  · exact h.advance.setMask.modClk.raise.droopCheck
  · exact h

theorem droopSync (h : Canonical s) {d} : Canonical (s.droopSync d) :=
  h.each (fun _ _ h' => .ite h'.modClk (.ite h'.setMask.modClk h'))

theorem droopReadmit (h : Canonical s) {d mask} : Canonical (s.droopReadmit d mask) := h.clrMask.droopSync.droopBegin

theorem fmcStart (h : Canonical s) : Canonical s.fmcStart := .ite h h.flag.flag.modClkGen

theorem fmcEnd (h : Canonical s) {count} : Canonical (s.fmcEnd count) := .ite h h.flag.flag.flag.wr

/-! The operations of Machine/Loops.lean. -/

theorem modGovDie (h : Canonical s) {d g} : Canonical (s.modGovDie d g) := h.mk

theorem announceFall (h : Canonical s) {d pool ratio} : Canonical (s.announceFall d pool ratio) :=
  .ite h (h.each (fun _ _ h' => h'.sendRgc))

theorem place (h : Canonical s) {d src pool ratio nav} : Canonical (s.place d src pool ratio nav) :=
  .opt h.modGovDie (fun h1 => .sendSeam (.modGovDie (.ite h1 h1.announceFall)))

theorem withdraw (h : Canonical s) {d src} : Canonical (s.withdraw d src) := h.modGovDie

theorem showSeq (h : Canonical s) : Canonical s.showSeq := h.wr.flag.flag

theorem setMode (h : Canonical s) {l m} : Canonical (s.setMode l m) := h.wr.showSeq

theorem setRot (h : Canonical s) {l p b} : Canonical (s.setRot l p b) := .optNot h.flag.wr.wr.modLoop fun h1 => h1.modPhase

theorem setLevel (h : Canonical s) {l p level at_} : Canonical (s.setLevel l p level at_) := h.modPhase

theorem pulsesTo (h : Canonical s) {l t} : Canonical (s.pulsesTo l t) := .ite h ((h.each (fun _ _ h' => h'.setLevel)).modLoop)

theorem drive (h : Canonical s) {l ps level} : Canonical (s.drive l ps level) :=
  .optNot ((h.pulsesTo.each (fun _ _ h' => h'.modPhase)).each (fun _ _ h' => h'.setLevel)) fun h1 => h1.emit

theorem showRef (h : Canonical s) {l moving} : Canonical (s.showRef l moving) := h.wr.flag

theorem setTarget (h : Canonical s) {l mv} : Canonical (s.setTarget l mv) := h.wr.modLoop.showRef

theorem capFalls (h : Canonical s) {l} : Canonical (s.capFalls l) := h.wr

theorem sendCuff (h : Canonical s) {l} : Canonical (s.sendCuff l) := .ite h.sendVclCuff h.sendSeam

theorem stopFf (h : Canonical s) {l} : Canonical (s.stopFf l) := h.modLoop.flag

theorem rgcCuff (h : Canonical s) {l c active} : Canonical (s.rgcCuff l c active) :=
  .ite h (.opt h.modLoop.sendCuff (fun h1 => h1.stopFf))

theorem cuffCause (h : Canonical s) {l c active} : Canonical (s.cuffCause l c active) := .ite h.rgcCuff h

theorem sendPreArm (h : Canonical s) {l armed} : Canonical (s.sendPreArm l armed) := .ite h.sendVcl h

theorem endPreArm (h : Canonical s) {l} : Canonical (s.endPreArm l) := .ite h h.modLoop.flag.stopFf.showRef.sendPreArm

theorem relArm (h : Canonical s) {l} : Canonical (s.relArm l) := by
  unfold State.relArm
  split
  · exact h
  · exact .ite h.flag.modLoop h.flag

theorem respRings (h : Canonical s) {l} : Canonical (s.respRings l) := by
  unfold State.respRings
  split
  · exact h.each (fun _ _ h' => h'.ringChan)
  · exact h.each (fun _ _ h' => h'.ringChan)
  · exact h

theorem calEnd (h : Canonical s) {l} : Canonical (s.calEnd l) := .ite h h.modLoop.flag.raise

theorem ovlEnd (h : Canonical s) {l} : Canonical (s.ovlEnd l) := by
  unfold State.ovlEnd
  extract_lets
  split
  · exact h.modLoop.wr.flag.withdraw
  · exact h.modLoop.wr.flag

theorem allMid (h : Canonical s) {l} : Canonical (s.allMid l) := by
  unfold State.allMid
  exact (h.respRings.endPreArm.drive.calEnd.ovlEnd.each fun _ _ h' => .ite h'.flag.flag.setRot h'.flag.flag).flag.modLoop

theorem calStop (h : Canonical s) {l} : Canonical (s.calStop l) := by
  unfold State.calStop
  split
  · exact .ite h.calEnd h.calEnd.setRot
  · exact h

theorem dropTests (h : Canonical s) {d} : Canonical (s.dropTests d) :=
  h.modSen.each (fun _ _ h' => (h'.when (fun _ h'' => h''.toSat)).deferTest)

theorem fence (h : Canonical s) {d cause} : Canonical (s.fence d cause) :=
  .ite h.wr (((((((h.wr.flag.flag.modAdm.holdSites.wr.dropHints.emit.each (fun _ _ h' =>
    h'.gateRequest)).clampLoop).retarget).raise).calStop).dropTests).verifyNext)

theorem fenceOff (h : Canonical s) {l} : Canonical (s.fenceOff l) := by
  unfold State.fenceOff
  split
  · exact .ite h.fence h
  · exact h

theorem shut (h : Canonical s) {l} : Canonical (s.shut l) := h.allMid.setMode.fenceOff

theorem shutDeps (h : Canonical s) {n l} : Canonical (State.shutDeps n s l) := by
  induction n generalizing s l with
  | zero => exact h
  | succ n ih => exact h.each fun _ _ h' => .ite (ih h'.shut.flag.raise) h'

theorem shutAll (h : Canonical s) {l} : Canonical (s.shutAll l) := h.shut.shutDeps

theorem alertOn (h : Canonical s) {l} : Canonical (s.alertOn l) := by
  unfold State.alertOn
  split
  · exact h.rgcCuff
  · exact h.each (fun _ _ h' => h'.place)

theorem alertOff (h : Canonical s) {l} : Canonical (s.alertOff l) := by
  unfold State.alertOff
  split
  · exact h.rgcCuff
  · exact h

theorem alertFollows (h : Canonical s) {l was} : Canonical (s.alertFollows l was) := .ite h.alertOn (.ite h.alertOff h)

theorem ringLoop (h : Canonical s) {l kind arg} : Canonical (s.ringLoop l kind arg) := h.each fun _ _ h' => h'.ringChan

/-! The operations of Machine/Regulator.lean. -/

theorem tel (h : Canonical s) {f v} : Canonical (s.tel f v) := .ite h h.wr

theorem senseTest (h : Canonical s) {l m} : Canonical (s.senseTest l m) := h.modLoop

theorem moveRef (h : Canonical s) {l m} : Canonical (s.moveRef l m) :=
  .optNot (.modLoop (.ite h.raiseOnce h)) fun h1 => h1.modLoop.showRef

theorem regulate (h : Canonical s) {l m} : Canonical (s.regulate l m) := h.modLoop.flag

theorem countRuns (h : Canonical s) {l m} : Canonical (s.countRuns l m) := h.modLoop

theorem telemetry (h : Canonical s) {l m} : Canonical (s.telemetry l m) :=
  .ite h (((h.modLoop.when (fun _ h' => h'.wr.wr.wr.wr.flag)).wr).wr)

theorem downMid (h : Canonical s) {l} : Canonical (s.downMid l) := .ite h.allMid.modLoop h

theorem sampleLoop (h : Canonical s) {l x} : Canonical (s.sampleLoop l x) :=
  .both h.telemetry.senseTest (fun h1 => h1.moveRef.regulate.countRuns.downMid) fun h1 => h1.modLoop

theorem dieEdge (h : Canonical s) {d} : Canonical (s.dieEdge d) := by
  unfold State.dieEdge
  extract_lets _ s1
  have h1 : Canonical s1 := h.modClk
  exact h1.when fun _ h' => h'.divStep

theorem alignmentEdge (h : Canonical s) {ms} : Canonical (s.alignmentEdge ms) := by
  unfold State.alignmentEdge
  exact (h.toAlign.each fun _ _ h' => h'.sampleLoop).when fun _ h' => h'.each fun _ _ h'' => h''.dieEdge

theorem refTo (h : Canonical s) {k} : Canonical (s.refTo k) :=
  .ite h (((h.foldl_fst fun _ _ h' => h'.when fun _ h'' => h''.emit).modRgc).when fun _ h' => h'.flag)

theorem refNow (h : Canonical s) : Canonical s.refNow := h.refTo

theorem cycleEdge (h : Canonical s) {l} : Canonical (s.cycleEdge l) := h.refTo.advance.modLoop

theorem balance (h : Canonical s) {l ps} : Canonical (s.balance l ps) := h.each fun _ _ h' => h'.modPhase.tel

theorem trialFail (h : Canonical s) {l p} : Canonical (s.trialFail l p) := by
  unfold State.trialFail
  extract_lets s1 s2 s3
  have h3 : Canonical s3 := h.flag.flag.setRot.modPhase.drive.count.ringChan.raise
  exact .ite h3.shutAll h3

theorem endPulses (h : Canonical s) {l po} : Canonical (s.endPulses l po) :=
  .optNot h.pulsesTo (fun h1 => h1.each (fun _ _ h' => by
    split
    · exact .ite h'.setLevel h'))

theorem cycleEnd (h : Canonical s) {l obs} : Canonical (s.cycleEnd l obs) :=
  ((((h.endPulses.each (fun _ _ h' => by
    split
    · exact h'.modPhase.tel)).balance).modLoop).each (fun _ _ h' => h'.modPhase)).each fun _ _ h' => .ite h'.trialFail h'

theorem applyShadows (h : Canonical s) {l} : Canonical (s.applyShadows l) := h.modLoop.flag.each fun _ _ h' => h'.modPhase

theorem applyCal (h : Canonical s) {l} : Canonical (s.applyCal l) :=
  h.each fun _ _ h' => by
    split
    · exact h'.modPhase
    · exact h'

theorem calPause (h : Canonical s) {l} : Canonical (s.calPause l) := by
  unfold State.calPause
  split
  · exact .ite h.setRot.modLoop h
  · exact h

theorem startTrials (h : Canonical s) {l} : Canonical (s.startTrials l) := h.each fun _ _ h' => .ite h'.flag.setRot.modPhase h'

theorem layOut (h : Canonical s) {l} : Canonical (s.layOut l) :=
  .optNot ((h.each (fun _ _ h' => by
    split
    · exact h'.wr)).modLoop) fun h1 => h1.emit

theorem cycleStart (h : Canonical s) {l} : Canonical (s.cycleStart l) := by
  unfold State.cycleStart
  exact .layOut (.modLoop (.calPause (.startTrials (.applyCal (.ite h.applyShadows h)))))

theorem resume (h : Canonical s) {l} : Canonical (s.resume l) := .ite h.modLoop h.modLoop.emit

theorem rotate (h : Canonical s) {l} : Canonical (s.rotate l) := .ite h h.wr.modLoop

theorem syncSeen (h : Canonical s) {q} : Canonical (s.syncSeen q) := h.wr

theorem syncAlign (h : Canonical s) {q} : Canonical (s.syncAlign q) := h.refNow.modRgc.flag.flag

theorem syncLock (h : Canonical s) {q} : Canonical (s.syncLock q) := .optNot h.syncSeen fun h1 => h1.syncAlign

theorem syncLoss (h : Canonical s) : Canonical s.syncLoss := .ite h.wr h.wr.refNow.modRgc.flag.flag.flag.raise

theorem syncReturn (h : Canonical s) {q} : Canonical (s.syncReturn q) := .optNot h.syncSeen fun h1 => h1.syncAlign.flag.raise

theorem syncOff (h : Canonical s) : Canonical s.syncOff := h.modRgc.flag.flag.flag

theorem showResp (h : Canonical s) {l m} : Canonical (s.showResp l m) := .ite h h.setMode

theorem standing (h : Canonical s) {l low} : Canonical (s.standing l low) :=
  h.pulsesTo.each fun _ _ h' => by
    split
    · exact .ite h'.setLevel h'

theorem undershoot (h : Canonical s) {l v low} : Canonical (s.undershoot l v low) :=
  .ite h (.opt h.standing.respRings.showResp.count.raiseOnce.modLoop.drive (fun h1 => h1.modLoop.flag))

theorem respEnd (h : Canonical s) {l under} : Canonical (s.respEnd l under) := h.showResp.modLoop.resume

theorem respTill (h : Canonical s) {t most back} : Canonical (s.respTill t most back) := h.advance

theorem undershootEnd (h : Canonical s) {l v cs} : Canonical (s.undershootEnd l v cs) := by
  unfold State.undershootEnd
  extract_lets
  split
  · exact h.respTill.respRings.modLoop.drive.respEnd
  · exact h

theorem overshoot (h : Canonical s) {l v low} : Canonical (s.overshoot l v low) :=
  .ite h h.standing.respRings.showResp.count.raiseOnce.modLoop.drive

theorem brakeEnd (h : Canonical s) {l v} : Canonical (s.brakeEnd l v) := by
  unfold State.brakeEnd
  extract_lets
  split
  · exact h.respTill.respRings.respEnd
  · exact h

theorem announce (h : Canonical s) {l di rate win} : Canonical (s.announce l di rate win) :=
  .ite h (.ite h.wr.wr.wr.modLoop.relArm (.ite h.wr.wr.wr (by
    split
    · exact .ite h.wr.wr.wr.modLoop.count.sendPreArm h.wr.wr.wr
    · exact h.wr.wr.wr.modLoop.flag.showRef)))

theorem preArmReached (h : Canonical s) {l} : Canonical (s.preArmReached l) := by
  unfold State.preArmReached
  split
  · exact .ite h.modLoop.count.sendPreArm h
  · exact h

theorem preArmExpiry (h : Canonical s) {l} : Canonical (s.preArmExpiry l) := by
  unfold State.preArmExpiry
  split
  · exact h.advance.endPreArm.raise
  · exact h

/-! The operations of Machine/Rails.lean. -/

theorem beginStage (h : Canonical s) {k} : Canonical (s.beginStage k) := by
  unfold State.beginStage
  split
  · exact h.modRgc.wr.each (fun _ _ h' => .ite h'.modLoop h')
  · exact h.modRgc.flag

theorem seqOn (h : Canonical s) {alsoOff} : Canonical (s.seqOn alsoOff) := .ite h h.flag.beginStage

theorem showHalt (h : Canonical s) : Canonical s.showHalt := h.flag

theorem haltSeq (h : Canonical s) {l} : Canonical (s.haltSeq l) :=
  h.modLoop.showHalt.flag.raise.modRgc.each fun _ _ h' => h'.modLoop

theorem latchOff (h : Canonical s) {l cause ev} : Canonical (s.latchOff l cause ev) :=
  h.flag.wr.raise.shutAll.when fun _ h' => h'.haltSeq

theorem softStart (h : Canonical s) {l v} : Canonical (s.softStart l v) :=
  .each (.setTarget (.modLoop (.flag (.setMode (.ite h.flag.wr.raise.ringLoop h))))) fun _ _ h' => .ite h' h'.setRot.modPhase

theorem softStartBegin (h : Canonical s) {l v} : Canonical (s.softStartBegin l v) := by
  unfold State.softStartBegin
  split
  · exact .ite h.advance.wr.softStart h
  · exact h

theorem stageDone (h : Canonical s) : Canonical s.stageDone := by
  unfold State.stageDone
  split
  · exact .ite h h.beginStage.raiseIf
  · exact h

theorem satPower (h : Canonical s) {l} : Canonical (s.satPower l) := by
  unfold State.satPower
  split
  · exact h.modSeam
  · exact h

theorem powerGood (h : Canonical s) {l} : Canonical (s.powerGood l) :=
  .ite h (.stageDone (.satPower (.opt (by
    split
    · exact h.setMode.modLoop.showHalt.setTarget.modLoop.flag
    · exact h.setMode.modLoop.showHalt) (fun h1 => h1.alertOn))))

theorem ssShort (h : Canonical s) {l} : Canonical (s.ssShort l) :=
  .ite h (.both h.allMid.wr.raise (fun h1 => h1.wr.modLoop) (fun h1 => h1.wr.flag.raise.shutAll.haltSeq))

theorem ssRetry (h : Canonical s) {l v} : Canonical (s.ssRetry l v) := by
  unfold State.ssRetry
  split
  · exact .ite h.advance.softStart h
  · exact h

theorem latchClear (h : Canonical s) {l} : Canonical (s.latchClear l) := h.flag.wr

theorem park (h : Canonical s) {l} : Canonical (s.park l) := by
  unfold State.park
  extract_lets s1 s2 s3 s4
  have h3 : Canonical s3 := .showHalt (.modLoop (.ite h.flag.allMid.setMode h.flag.setMode))
  refine .ite h (.ite h.flag (.stageDone ?_))
  unfold s4
  split
  · exact .ite h3.fence h3
  · exact h3

theorem stopProcs (h : Canonical s) : Canonical s.stopProcs := h.each fun _ _ h' => h'.wr.flag.flag.mk

theorem downStart (h : Canonical s) {j} : Canonical (s.downStart j).2 := .ite_snd h.draw.stopProcs h

theorem beginDown (h : Canonical s) {k} : Canonical (s.beginDown k) := by
  unfold State.beginDown
  split
  · exact h.downStart.modRgc.wr
  · exact h.modRgc.flag

theorem seqOff (h : Canonical s) {alsoOn} : Canonical (s.seqOff alsoOn) :=
  .ite h ((h.flag.flag.each (fun _ _ h' => .modLoop (.ite h'.setMode h'))).beginDown)

theorem rampDownBegin (h : Canonical s) {l} : Canonical (s.rampDownBegin l) := by
  unfold State.rampDownBegin
  split
  · exact .ite h (.both h.advance.endPreArm (fun h1 => h1.modLoop) (fun h1 => h1.modLoop))
  · exact h

theorem loopOff (h : Canonical s) {l} : Canonical (s.loopOff l) := by
  unfold State.loopOff
  split
  · exact .optNot (.shutDeps (.fenceOff (.setMode (.modLoop (.ite h h.advance))))) (fun h1 => h1.beginDown)
  · exact h

theorem shortTrip (h : Canonical s) {l p} : Canonical (s.shortTrip l p) := .ite h h.count.count.modPhase.drive.ringChan

theorem regulationShort (h : Canonical s) {l} : Canonical (s.regulationShort l) := .ite h h.latchOff

theorem ovlFeather (h : Canonical s) {l} : Canonical (s.ovlFeather l) :=
  .ite h (by
    extract_lets
    split
    · exact .ite h.flag.raise.count.place h.flag.raise.count
    · exact h.flag.raise.count)

theorem ovlReset (h : Canonical s) {l} : Canonical (s.ovlReset l) := .ite h h.ovlEnd

theorem ovlShutdown (h : Canonical s) {l} : Canonical (s.ovlShutdown l) := .ite h h.flag.raise.shutAll

theorem removePhase (h : Canonical s) {l p} : Canonical (s.removePhase l p) := by
  unfold State.removePhase
  extract_lets _ s1 s2 s3 s4 s5 s6 s7 s8 s9
  have h6 : Canonical s6 := h.calStop.flag.wr.setRot.wr.count.drive.count.ringChan.raise.endPreArm.capFalls
  have h7 : Canonical s7 := .ite (.ite h6.sendCuff h6.rgcCuff) h6
  have h8 : Canonical s8 := h7.flag.raise.clampLoop
  have h9 : Canonical s9 := by
    unfold s9
    split
    · exact h6
    · exact .ite (.ite h8.fence h8) h7
  exact .ite h9.shutAll h9

theorem phaseRemoval (h : Canonical s) {l p} : Canonical (s.phaseRemoval l p) :=
  .ite h (h.removePhase.when (fun _ h' => h'.layOut))

theorem capChange (h : Canonical s) {l} : Canonical (s.capChange l) := by
  unfold State.capChange
  split
  · exact h
  · exact .when (.ite h.place.withdraw h.place) (fun _ h' => h'.rgcCuff)

theorem readmit (h : Canonical s) {l p} : Canonical (s.readmit l p) := .ite h.flag h

theorem trialEnd (h : Canonical s) {l p} : Canonical (s.trialEnd l p) := .ite h h.flag.flag.flag.wr.ringChan

theorem senseLoss (h : Canonical s) {l} : Canonical (s.senseLoss l) :=
  .ite h (.ringLoop (by
    split
    · exact h.flag.wr.raise.respRings.respEnd
    · exact h.flag.wr.raise))

theorem senseRetry (h : Canonical s) {l} : Canonical (s.senseRetry l) := .ite h h.modLoop.flag

theorem senseRetryEnd (h : Canonical s) {l} : Canonical (s.senseRetryEnd l) :=
  .ite h (.ite h.flag (.ite h h.flag.flag.wr.raise.ringLoop))

theorem senseBoth (h : Canonical s) {l} : Canonical (s.senseBoth l) := .ite h h.latchOff

theorem alertAssert (h : Canonical s) {l} : Canonical (s.alertAssert l) := h.flag.flag.raiseOnce.alertFollows

theorem alertDeassert (h : Canonical s) {l} : Canonical (s.alertDeassert l) := h.flag.raiseOnce.alertFollows

theorem tmonLoop (h : Canonical s) {l mv} : Canonical (s.tmonLoop l mv) := h.each fun _ _ h' => h'.modPhase.tel.tel

theorem calNextPhase (h : Canonical s) {l left at_} : Canonical (s.calNextPhase l left at_) := by
  unfold State.calNextPhase
  split
  · exact h.modLoop.calEnd
  · exact h.modLoop.wr.ringChan

theorem calStart (h : Canonical s) {l} : Canonical (s.calStart l) := .ite h h.flag.modLoop.calNextPhase

theorem calToMid (h : Canonical s) {l p} : Canonical (s.calToMid l p) := h.setRot.drive.modLoop.ringChan

theorem calReady (h : Canonical s) {l} : Canonical (s.calReady l) := by
  unfold State.calReady
  split
  · exact .ite h (.optNot h.advance.modLoop.capFalls.ringChan (fun h1 => h1.calToMid))
  · exact .ite h h.calToMid
  · exact h

theorem calConfirmed (h : Canonical s) {l} : Canonical (s.calConfirmed l) := by
  unfold State.calConfirmed
  split
  · exact .ite h.modLoop h.calToMid
  · exact h

theorem calOffset (h : Canonical s) {l cs} : Canonical (s.calOffset l cs) := by
  unfold State.calOffset
  split
  · exact .ite h h.advance.wr.modPhase.setRot.modLoop.ringChan.ringChan
  · exact h

theorem calGain (h : Canonical s) {l} : Canonical (s.calGain l) := by
  unfold State.calGain
  split
  · exact .ite h (.calNextPhase (.ringChan (.modPhase (.wr (.wr (.ite h h.modLoop))))))
  · exact h

theorem calDefer (h : Canonical s) {l} : Canonical (s.calDefer l) := by
  unfold State.calDefer
  split
  · exact .ite h.advance h.advance.wr.raise.calNextPhase
  · exact h

/-! The operations of Machine/Seams.lean. -/

theorem startTraining (h : Canonical s) {x} : Canonical (s.startTraining x) := .modSeam (.ite h h.raiseOnce.count)

theorem trainFlit (h : Canonical s) {x ver feat type gBad sBad} : Canonical (s.trainFlit x ver feat type gBad sBad) :=
  .ite h (.ite h.modSeam.modSeam (.ite h.modSeam.modSeam (.both h.modSeam.raise.wr (fun h1 => h1.modSeam) (fun h1 => .ite
    h1.modSeam h1.flag.raise.modSeam))))

theorem evalSafe (h : Canonical s) {x} : Canonical (s.evalSafe x) := by
  unfold State.evalSafe
  split
  · exact h
  · exact .optNot h.flag.flag (fun h1 => .ite h1.dropHints.raise.retarget h1.retarget)

theorem seamFlush (h : Canonical s) {x} : Canonical (s.seamFlush x) := (h.modSeam.each (fun _ _ h' => h'.sendSeam)).mk

theorem trainingEnd (h : Canonical s) {x raw} : Canonical (s.trainingEnd x raw) := by
  unfold State.trainingEnd
  extract_lets _ s1 s2 s3
  have h1 : Canonical s1 := h.count.wr.flag
  refine .ite h ?_
  split
  · extract_lets _ _ _ _ _ _ _ s9
    have h9 : Canonical s9 := h1.modSeam.flag.wr.wr.wr.wr.wr.wr.seamFlush.mk.each fun _ _ h' => h'.keepFlit
    split
    · exact .ite h9.flag.evalSafe.fence h9.flag.evalSafe
    · exact h9.flag
  · have h3 : Canonical s3 := h1.modSeam.flag.raise
    refine .ite h1.modSeam ?_
    split
    · exact h3.fence
    · exact h3

theorem dropGovHints (h : Canonical s) {d} : Canonical (s.dropGovHints d) := .modGovDie (.ite h h.sendRgc)

theorem seamDrop (h : Canonical s) {x} : Canonical (s.seamDrop x) :=
  .ite h (by
    extract_lets
    split
    · exact h.flag.wr.modSeam.mk.mk.mk.flag.dropHints.dropGovHints
    · exact h.flag.wr.modSeam.mk.mk.mk)

theorem seamGoDown (h : Canonical s) {x} : Canonical (s.seamGoDown x) := .ite h.seamDrop.startTraining h

theorem seamDownOn (h : Canonical s) {x silent} : Canonical (s.seamDownOn x silent) := .ite h.seamGoDown h

theorem retrainTimer (h : Canonical s) {x} : Canonical (s.retrainTimer x) := .ite h h.advance.startTraining

theorem retrainWrite (h : Canonical s) {x} : Canonical (s.retrainWrite x) := h.seamDrop.flag.flag.wr.flag.modSeam.startTraining

theorem seamIdle (h : Canonical s) {x gov} : Canonical (s.seamIdle x gov) := .ite h h.advance.keepFlit.emit

theorem setKept (h : Canonical s) {x gov e} : Canonical (s.setKept x gov e) := h.modSeam

theorem flitLost (h : Canonical s) {x gov e} : Canonical (s.flitLost x gov e) := by
  unfold State.flitLost
  split
  · exact h
  · exact .ite h.modSeam.setKept h
  · exact .ite h.mk.setKept h

theorem putBack (h : Canonical s) {x gov e} : Canonical (s.putBack x gov e) := by
  unfold State.putBack
  split
  rename_i s' heq
  have h' : Canonical s' := h.draw.snd heq
  extract_lets
  split
  · exact h'.modSeam.setKept
  · exact h'.mk.setKept
  · exact h

theorem flitFail (h : Canonical s) {x f} : Canonical (s.flitFail x f) :=
  .ite h (by
    extract_lets
    split
    · exact h.modSeam.emit.flitLost
    · exact h.modSeam.emit)

theorem seamNak (h : Canonical s) {x k} : Canonical (s.seamNak x k) := by
  unfold State.seamNak
  split
  · exact h.putBack.count.emit
  · exact h

theorem minVer (h : Canonical s) {v} : Canonical (s.minVer v) := .ite h (h.wr.each (fun _ _ h' => .ite h'.evalSafe h'))

theorem fenceReq (h : Canonical s) {mask} : Canonical (s.fenceReq mask) := h.wr.each fun _ _ h' => .ite h'.fence h'

theorem satReset (h : Canonical s) {d} : Canonical (s.satReset d) :=
  h.modAdm.wr.wr.wr.wr.modClk.wr.wr.flag.flag.modTx.cuffOne.droopSync.droopBegin.mk.modSeam

theorem liftDie (h : Canonical s) {d} : Canonical (s.liftDie d) := by
  unfold State.liftDie
  refine .ite h ?_
  split
  · exact h.wr
  · extract_lets s1 s2 _ _ s3 s4 s5
    have h2 : Canonical s2 := h.satReset.flag.flag.flag.emit
    have h4 : Canonical s4 := .modAdm (.ite h2 h2.holdSites)
    exact (h4.each fun _ _ h' => h'.gateRequest).retarget.raise

theorem lift (h : Canonical s) {mask} : Canonical (s.lift mask) := h.each fun _ _ h' => .ite h'.liftDie h'

/-! The operations of Machine/Thermal.lean. -/

theorem modThm (h : Canonical s) {g} : Canonical (s.modThm g) := h.mk

theorem modTd (h : Canonical s) {x g} : Canonical (s.modTd x g) := h.mk

theorem demandTimer (h : Canonical s) : Canonical s.demandTimer := h.advance.modThm

theorem toStroke (h : Canonical s) : Canonical s.toStroke := .ite h h.advance

theorem missDemand (h : Canonical s) {x} : Canonical (s.missDemand x) :=
  .ite h.modTd (.ite h (.ite h.modTd h.modTd.flag.flag.raise))

theorem demandIssue (h : Canonical s) : Canonical s.demandIssue :=
  .ite h ((((h.toStroke.each (fun _ _ h' => h'.missDemand.sendSeam)).modThm).flag).count)

theorem startConv (h : Canonical s) {x} : Canonical (s.startConv x) := h.modTd

theorem demandArrive (h : Canonical s) {x} : Canonical (s.demandArrive x) := .ite (.modTd (.ite h.raiseOnce h)) h.startConv

theorem calStepArrive (h : Canonical s) {x} : Canonical (s.calStepArrive x) := h.modTd

theorem convDone (h : Canonical s) {x read} : Canonical (s.convDone x read) := by
  unfold State.convDone
  split
  · exact h
  · extract_lets _ s1 _ _ _ _
    split
    extract_lets s2 s3 s4 s5 _ _ s6 s7 s8
    have h4 : Canonical s4 := (h.advance.modTd.each fun _ _ h' => h'.wr.wr.wr).wr.setMask.count
    have h5 : Canonical s5 := by
      unfold s5
      split
      · exact h4.raiseOnce
      · exact h4
    have h7 : Canonical s7 := h5.modTd.each fun _ _ h' => .opt h' fun h'' => h''.setMask.raise
    exact .opt (.opt h7 fun h' => h'.report) fun h' => h'.startConv

theorem diodeReadmit (h : Canonical s) {x mask} : Canonical (s.diodeReadmit x mask) := h.clrMask.modTd

theorem calAsk (h : Canonical s) : Canonical s.calAsk := .ite h h.flag

theorem calPeriod (h : Canonical s) : Canonical s.calPeriod := .ite h h.advance.modThm

theorem calStepSend (h : Canonical s) : Canonical s.calStepSend :=
  .ite h (((((h.each (fun _ _ h' => h'.sendSeam)).count).modThm).flag).flag)

theorem calTrim (h : Canonical s) {x k read} : Canonical (s.calTrim x k read) := h.modTd

theorem calStepEnd (h : Canonical s) {read} : Canonical (s.calStepEnd read) := by
  unfold State.calStepEnd
  split
  · exact h
  · exact .each (.opt (h.advance.modThm.each (fun _ _ h' => h'.calTrim)) (fun h1 => h1.flag.raise)) (fun _ _ h' => .ite
      h'.startConv h')

theorem setFrac (h : Canonical s) {x f} : Canonical (s.setFrac x f) := .ite h.wr.flag.raise (.ite h.wr.flag.raise h.wr.flag)

theorem takeTemp (h : Canonical s) {x t} : Canonical (s.takeTemp x t) :=
  .flag (.flag (.flag (.wr (.opt (.opt (.both h.modTd.modThm.wr.flag (fun h1 => .ite h1.flag.raise.setFrac h1) (fun h1 => .ite
    h1.flag.raise (.ite h1.setFrac h1.setFrac))) (fun h1 => h1.count)) (fun h1 => h1.count)))))

theorem tripEval (h : Canonical s) {g} : Canonical (s.tripEval g) := .ite h.mk (.ite h h.mk)

theorem tripEvalAll (h : Canonical s) : Canonical s.tripEvalAll := h.each fun _ _ h' => h'.tripEval

theorem junction (h : Canonical s) {g t} : Canonical (s.junction g t) := h.mk.tripEval

theorem tripLatch (h : Canonical s) : Canonical s.tripLatch := by
  unfold State.tripLatch
  split
  · exact .ite h (h.advance.flag.wr.flag.flag.emit.raise.mk.each (fun _ _ h' => .ite h' h'.shut))
  · exact h

theorem tripRecord (h : Canonical s) : Canonical s.tripRecord := .ite h.mk.emit h

theorem tripIoOff (h : Canonical s) : Canonical s.tripIoOff := by
  unfold State.tripIoOff
  split
  · exact h.advance.mk.each (fun _ _ h' => .ite h'.shutAll h')
  · exact h

theorem tripMask (h : Canonical s) {k v} : Canonical (s.tripMask k v) := .ite h h.wr.tripEvalAll

theorem tripTestStart (h : Canonical s) : Canonical s.tripTestStart :=
  .ite h (.ite h.flag.flag.raise h.flag.flag.modThm.flag.flag.tripEval)

theorem tripTestEnd (h : Canonical s) {at_} : Canonical (s.tripTestEnd at_) := by
  unfold State.tripTestEnd
  split
  · exact h
  · exact h.flag.flag.modThm.flag.flag.raiseIf.tripEval

/-! The operations of Machine/CasCast.lean. -/

theorem deliverCast (h : Canonical s) {b words} : Canonical (s.deliverCast b words) := by
  unfold State.deliverCast
  split
  · exact .ite h h.applyRetract
  · exact (h.wr.each (fun _ _ h' => h'.wr)).signal
  · exact h.abortBarriers.raise
  · exact h.verdict
  · exact h

theorem castSeen (h : Canonical s) {b} : Canonical (s.castSeen b) := .ite h (.ite h.modCas.modCas.flag h.modCas)

theorem rootCast (h : Canonical s) {b} : Canonical (s.rootCast b) := h.sendDown.modCas.sendMirror.castSeen.deliverCast

theorem castAtRoot (h : Canonical s) {b} : Canonical (s.castAtRoot b) := .ite h.rootCast h.modCas

theorem castUp (h : Canonical s) {b} : Canonical (s.castUp b) := .ite h.castAtRoot h.sendUp

theorem broadcast (h : Canonical s) {cls data} : Canonical (s.broadcast cls data) := h.modCas.castUp

theorem sendRetract (h : Canonical s) {e} : Canonical (s.sendRetract e) := h.applyRetract.broadcast

theorem retractFor (h : Canonical s) {poison e} : Canonical (s.retractFor poison e) := .ite h.modSen.sendRetract h

theorem sendEdge (h : Canonical s) {kind t} : Canonical (s.sendEdge kind t) :=
  .ite (h.modCas.each (fun _ _ h' => h'.sendSeam)) (.ite (h.modCas.each (fun _ _ h' => h'.sendSeam)) h)

theorem schedTake (h : Canonical s) {o} : Canonical (s.schedTake o) := .ite h h.modCas.sendEdge.flag.wr

theorem schedAtRoot (h : Canonical s) {kind scope} : Canonical (s.schedAtRoot kind scope) :=
  .ite (.ite h h.modCas) (.ite h.modCas h.modCas.sendDown.sendMirror.schedTake)

theorem requestSched (h : Canonical s) {kind scope} : Canonical (s.requestSched kind scope) := .ite h.schedAtRoot h.sendUp

theorem runWaiting (h : Canonical s) : Canonical s.runWaiting :=
  .ite h (((h.modCas.each (fun _ _ h' => h'.castAtRoot)).each (fun _ _ h' => h'.schedAtRoot)).each (fun _ _ h' =>
    h'.barrierCheck))

theorem pkgLost (h : Canonical s) {n known} : Canonical (s.pkgLost n known) :=
  h.each fun _ _ h' => by
    split
    · exact h'.broadcast
    · exact h'.draw.broadcast

theorem resendSched (h : Canonical s) : Canonical s.resendSched := h.each fun _ _ h' => h'.sendDown

theorem form (h : Canonical s) : Canonical s.form := by
  unfold State.form
  extract_lets
  split
  · exact ((h.sendFormed.recombine.modCas.each (fun _ _ h' => h'.resendSched.sendDown)).pkgLost).runWaiting
  · exact h.sendFormed.recombine.resendSched.runWaiting

theorem tallied (h : Canonical s) {old} : Canonical (s.tallied old) :=
  .ite (.ite h.form h) (.ite h.mirrorCount.wr.raise (.ite h.form h.mirrorCount))

theorem recount (h : Canonical s) {known} : Canonical (s.recount known) :=
  .ite h (.ite h.sendTopo (.tallied (.ite h.wr.pkgLost h.wr)))

theorem formVerdict (h : Canonical s) {c} : Canonical (s.formVerdict c) := by
  unfold State.formVerdict
  extract_lets s1 _ send
  have hsend : ∀ o m, Canonical (send s1 o m) := fun o m => .ite h.modSen.verdict.broadcast h.modSen.verdict
  refine .ite (hsend _ _).senRecord ?_
  split
  · exact .ite (hsend _ _) (hsend _ _).sendRetract
  · exact (hsend _ _).senRecord.sendRetract

theorem takeDigest (h : Canonical s) {group pkg die cmp epoch digest} : Canonical (s.takeDigest group pkg die cmp epoch digest)
    :=
  .ite h (.ite h.formVerdict h.modSen)

theorem sendDigest (h : Canonical s) {d epoch digest} : Canonical (s.sendDigest d epoch digest) :=
  .ite h.takeDigest (.ite h (by
    extract_lets
    split
    · exact h.originate
    · exact h.count))

/-! The operations of Machine/Cascade.lean. -/

theorem sendBulk (h : Canonical s) : Canonical s.sendBulk := h.each fun _ _ h' => h'.sendUp

theorem retell (h : Canonical s) : Canonical s.retell := h.each fun _ _ h' => .ite h'.sendCount h'.objRefresh

theorem paceUp (h : Canonical s) : Canonical s.paceUp := .ite h h.modCas.sendUp

theorem attach (h : Canonical s) {k dist} : Canonical (s.attach k dist) :=
  .opt (.paceUp (.both (.setRoles (.forgetLane (.modCas (.optNot h.wr.wr.syncSteer (fun h1 => h1.wr))))) (fun h1 =>
    h1.sendTopo.sendBulk.retell) (fun h1 => h1.sendTopo.recombine))) fun h1 => h1.raise

theorem becomeCox (h : Canonical s) : Canonical s.becomeCox := h.wr.wr.wr.syncSteer.wr.wr.modCas.setRoles.wr

theorem choose (h : Canonical s) : Canonical s.choose :=
  .ite h (by
    split
    · exact h
    · extract_lets
      split
      · exact .ite h.modCas.setRoles h.modCas.becomeCox.recount
      · exact .ite h.modCas.raiseIf (.ite h.modCas.wr.setRoles h.modCas.attach))

theorem leaveTree (h : Canonical s) {state} : Canonical (s.leaveTree state) :=
  ((h.sendDown.wr.wr.wr.syncSteer.modCas.each (fun _ _ h' => h'.modLane)).each (fun _ _ h' => h'.forgetLane)).setRoles

theorem joinWritten (h : Canonical s) : Canonical s.joinWritten :=
  .ite (.choose (.ite h.wr h)) (.ite h h.leaveTree.wr.wr.wr.modCas)

theorem detach (h : Canonical s) : Canonical s.detach := .ite h h.leaveTree.raise

theorem followTerm (h : Canonical s) {t} : Canonical (s.followTerm t) :=
  .ite h (.optNot (.opt h.wr.modCas (fun h1 => h1.detach)) (fun h1 => h1.raise))

theorem discard (h : Canonical s) {k f} : Canonical (s.discard k f) :=
  .ite h.modLane.sendAck (.ite h (.count (.ite h.modLane.modLane.sendAck h.modLane)))

theorem learn (h : Canonical s) {k src} : Canonical (s.learn k src) := .ite (.ite h h.modLane.wr.raise.tallied) h.modCas

theorem accept (h : Canonical s) {k f} : Canonical (s.accept k f).1 := by
  unfold State.accept
  extract_lets s1 s2 s3 s4
  have h3 : Canonical s3 := (Canonical.opt h.modLane fun h' => h'.modLane.sendAck).casTrace
  exact .ite_fst h (.ite_fst h.discard (.ite_fst h.modLane (.ite_fst h.modLane.sendAck (.ite_fst h3
    (.opt h3.followTerm fun h' => h'.learn)))))

theorem holdOr (h : Canonical s) {k a} {g : State → State} (hg : ∀ u, Canonical u → Canonical (g u)) :
    Canonical (s.holdOr k a g) :=
  .ite (hg _ h) (.opt h.modLane.wr (fun h1 => h1.raise))

theorem hello (h : Canonical s) {k f} : Canonical (s.hello k f) :=
  .ite (.ite h h.modLane.raise) (.opt (.choose (.optNot (.opt h.followTerm.flag.wr.modLane (fun h1 => h1.forgetLane)) (fun h1 =>
    h1.setRoles))) (fun h1 => h1.setRoles.recount.recombine))

theorem ack (h : Canonical s) {k f} : Canonical (s.ack k f) :=
  .ite (by
    split
    · exact h.count.modLane.casTrace.emit
    · exact h) (by
    extract_lets
    split
    · exact .ite h.modLane.modLane.putFrame h.modLane
    · exact h.modLane)

theorem setLk (h : Canonical s) {step rate slew len} : Canonical (s.setLk step rate slew len) := h.mk

theorem tsyncReq (h : Canonical s) {k f half} : Canonical (s.tsyncReq k f half) := h.sendFrame

theorem tsyncRsp (h : Canonical s) {k f half} : Canonical (s.tsyncRsp k f half) :=
  .flag (.modCas (.ite h.wr.wr.setLk h.wr.wr.draw.setLk))

theorem topo (h : Canonical s) {k f} : Canonical (s.topo k f) :=
  .ite h (.ite h.raise (.recount (.modCas (.setRoles (.modLane (.ite h.modCas h))))))

theorem formTimeout (h : Canonical s) : Canonical s.formTimeout := by
  unfold State.formTimeout
  split
  · exact h
  · exact .ite h.advance (.ite h.advance.form.raise h.advance.modCas.wr.raise)

theorem formed (h : Canonical s) {f} : Canonical (s.formed f) :=
  ((((h.wr.wr.wr.wr.wr.wr.wr.when (fun _ h' => h'.modCas)).wr).syncSteer).raise).recombine

theorem flood (h : Canonical s) {k f} : Canonical (s.flood k f) := h.each fun _ _ h' => .ite h' h'.pass

theorem takeover (h : Canonical s) {k f} : Canonical (s.takeover k f) := .opt h.modCas.wr fun h1 => h1.attach

theorem probeFrame (h : Canonical s) {k f} : Canonical (s.probeFrame k f) := .ite h.originate h

theorem coxAlive (h : Canonical s) {f} : Canonical (s.coxAlive f) := .ite h.modCas.choose h

theorem floodIn (h : Canonical s) {k f} : Canonical (s.floodIn k f).1 :=
  .ite_fst (.ite_fst h h.modCas.flood) (.ite_fst h (.ite h.modCas.flood h.modCas))

theorem aliveBack (h : Canonical s) {f} : Canonical (s.aliveBack f) := by
  unfold State.aliveBack
  split
  · split
    · exact h.pass
    · exact h
  · exact h

theorem probeTimeout (h : Canonical s) : Canonical s.probeTimeout := by
  unfold State.probeTimeout
  split
  · exact h
  · exact ((h.advance.modCas.wr.becomeCox.modCas.each (fun _ _ h' => h'.originate)).raise).recount

theorem mirrorItem (h : Canonical s) {i} : Canonical (s.mirrorItem i) := h.modCas

theorem coxBeat (h : Canonical s) {f} : Canonical (s.coxBeat f) := h.modCas.wr

theorem beatTimer (h : Canonical s) : Canonical s.beatTimer := .ite h h.advance.modCas.sendDown

theorem objTyped (h : Canonical s) {k type} {g : State → State} (hg : ∀ u, Canonical u → Canonical (g u)) :
    Canonical (s.objTyped k type g) :=
  .ite (h.when hg) h.raise

theorem setKid (h : Canonical s) {lane k c} : Canonical (s.setKid lane k c) := h.modObj

theorem sendEcho (h : Canonical s) {k} : Canonical (s.sendEcho k) := h.modObj.sendDown

theorem objUp (h : Canonical s) {lane f type} : Canonical (s.objUp lane f type) :=
  h.objTyped (fun _ h' => .ite (.ite (.ite h'.setKid.sendEcho h'.setKid.sendCount) (.ite h'.setWrite h')) (.ite (.optNot
    h'.setKid.barrierCheck (fun h1 => .ite h1.sendEcho (.ite h1 h1.sendCount))) ((h'.setKid.when (fun _ h'' =>
    h''.modObj)).objChanged)))

theorem objDown (h : Canonical s) {a} : Canonical (s.objDown a) :=
  h.objTyped (fun _ h' => .ite (.ite h'.modObj.release h'.modObj.modObj) h'.modObj.modObj)

theorem setRestored (h : Canonical s) {lane k v c f} : Canonical (s.setRestored lane k v c f) :=
  .ite h.setKid (.ite h.setKid.setWrite h.setKid.noteWrite.sendObjUp)

theorem objBulk (h : Canonical s) {lane f} : Canonical (s.objBulk lane f) :=
  h.each fun _ _ h' => by
    split
    · extract_lets
      split
      · exact h'.raise
      · exact h'.setKid
      · exact h'.setRestored
      · exact h'.setKid.objChanged

theorem castDown (h : Canonical s) {f} : Canonical (s.castDown f) := .ite h h.modCas.castSeen.deliverCast

theorem castRequest (h : Canonical s) {f} : Canonical (s.castRequest f) := h.castAtRoot

theorem schedDown (h : Canonical s) {f} : Canonical (s.schedDown f) := h.schedTake

theorem paceTake (h : Canonical s) {p} : Canonical (s.paceTake p) := h.mk

theorem paceFrame (h : Canonical s) {f} : Canonical (s.paceFrame f) := h.paceTake

theorem digestFrame (h : Canonical s) {f} : Canonical (s.digestFrame f) := h.takeDigest

theorem deliver (h : Canonical s) {k a} : Canonical (s.deliver k a) := by
  unfold State.deliver
  extract_lets
  split
  · exact h.topo
  · exact h.formed
  · exact h.detach
  · exact h.takeover
  · exact h.probeFrame
  · exact h.coxAlive
  · exact h.mirrorItem
  · exact h.coxBeat
  · exact h.objUp
  · exact h.objDown
  · exact h.objBulk
  · exact h.castRequest
  · exact h.castDown
  · exact h.modLane.paceUp
  · exact h.paceFrame
  · exact h.digestFrame
  · exact h

theorem transit (h : Canonical s) {k a} : Canonical (s.transit k a).1 := by
  unfold State.transit
  extract_lets
  split
  · exact h.floodIn
  · exact h.floodIn
  · exact .ite_fst h h.aliveBack
  · exact .ite_fst h.noteWrite.passUp h
  · exact .ite_fst h.passDown h
  · exact .ite_fst h.passDown h
  · exact .ite_fst h.passDown h
  · exact .ite_fst h.passDown h
  · exact .ite_fst h.passDown h
  · exact .ite_fst h h.passDown
  · exact h
  · exact .ite_fst h h.passUp
  · exact .ite_fst h h.passUp
  · exact .ite_fst h (by
        split
        · exact h.pass
        · exact h.count)
  · exact .ite_fst h (by
        split
        · exact h.pass
        · exact h.count)
  · exact h

theorem onFrame (h : Canonical s) {k a is} {g : State → State} (hg : ∀ u, Canonical u → Canonical (g u)) :
    Canonical (s.onFrame k a is g) :=
  .ite h.accept (.ite h.accept.transit (.ite (h.accept.transit.holdOr hg) (hg _ h.accept.transit)))

theorem laneDown (h : Canonical s) {k} : Canonical (s.laneDown k) :=
  .ite h (.both (.setRoles (.modLane (.forgetLane (.raise (.flag (.ite h h.advance)))))) (fun h1 => .optNot h1.detach (fun h2 =>
    h2.modCas.each (fun _ _ h' => h'.originate))) (fun h1 => .opt (.ite h1.recount.recombine h1) (fun h2 =>
    h2.announceForm.raiseIf)))

theorem laneRetrain (h : Canonical s) {k} : Canonical (s.laneRetrain k) := .ite h h.advance.modLane.sendHello

theorem laneIdle (h : Canonical s) {k} : Canonical (s.laneIdle k) := .ite h.advance.sendHello h

theorem tsyncPeriod (h : Canonical s) : Canonical s.tsyncPeriod := by
  unfold State.tsyncPeriod
  split
  · exact h
  · exact h.advance.modCas.sendFrame

theorem objCfg (h : Canonical s) {type member notify errClear} : Canonical (s.objCfg type member notify errClear) :=
  .both (.ite h.modObj h) (fun h1 => h1.modObj) (fun h1 => .both (.optNot h1.modObj (fun h2 => h2.modObj)) (fun h2 =>
    h2.memberChange) (fun h2 => .ite h2 h2.objRefresh))

theorem barrierArrive (h : Canonical s) {k} : Canonical (s.barrierArrive k) := .ite h.wr.modObj h.wr.modObj.barrierCheck

theorem objInterval (h : Canonical s) {k} : Canonical (s.objInterval k) := .ite h.advance.modObj.objChanged h

theorem hostCast (h : Canonical s) : Canonical s.hostCast := .ite h h.flag.modCas.broadcast

theorem castResend (h : Canonical s) {req} : Canonical (s.castResend req) := by
  unfold State.castResend
  split
  · exact .optNot h.advance.modCas (fun h1 => h1.castUp)
  · exact h

theorem pacePeriod (h : Canonical s) : Canonical s.pacePeriod :=
  .ite h (.paceTake (.sendMirror (.sendDown (.modCas (by
    split
    · exact h.advance
    · exact h)))))

theorem paceEnd (h : Canonical s) : Canonical s.paceEnd := by
  unfold State.paceEnd
  split
  · exact h
  · exact .optNot h.advance.toEdge (fun h1 => h1.mk.flag.raise)

theorem opDone (h : Canonical s) {o} : Canonical (s.opDone o) := h.modCas.flag.sendMirror

theorem freezeEdge (h : Canonical s) : Canonical s.freezeEdge :=
  .each (.optNot h.traceAlways (fun h1 => h1.mk)) (fun _ _ h' => .modSeam (.ite h'.stopSat h'))

theorem thawEdge (h : Canonical s) : Canonical s.thawEdge :=
  .ite h (((h.mk.count.each (fun _ _ h' => h'.addWait)).modGov).each (fun _ _ h' => .modSeam (.ite h'.goSat h')))

theorem casFreezeEdge (h : Canonical s) : Canonical s.casFreezeEdge := by
  unfold State.casFreezeEdge
  split
  · exact h
  · exact (((h.advance.toEdge.opDone.modCas.each (fun _ _ h' => h'.wr.wr)).flag).freezeEdge).raise

theorem casReset (h : Canonical s) {scope} : Canonical (s.casReset scope) :=
  .raise (.optNot ((((h.abortBarriers.modCas.each (fun _ _ h' => h'.each (fun _ _ h'' => h''.wr))).each (fun _ _ h' =>
    h'.wr.wr.wr.wr)).wr).wr) (fun h1 => ((((((((h1.each (fun _ _ h' =>
    h'.flag.forgetLane.modLane)).modCas).setRoles).wr).wr).wr).wr).syncSteer).choose))

theorem casThawEdge (h : Canonical s) {order} : Canonical (s.casThawEdge order) := by
  unfold State.casThawEdge
  split
  · exact h
  · extract_lets s1 s2 s3 s4 s5 _ s6 s7 s8 s9 s10
    have h2 : Canonical s2 := h.advance.toEdge.opDone.modCas
    have h6 : Canonical s6 := (Canonical.optNot h2.flag fun h' => h'.thawEdge).raise.modCas
    have h7 : Canonical s7 := h6.each fun _ _ h' => h'.modLane.wr.each fun _ _ h'' => h''.deliver
    have h10 : Canonical s10 := (h7.each fun _ _ h' => h'.sendFrame).runWaiting.recombine
    refine .ite h2 ?_
    split
    · exact h10.casReset
    · exact h10

theorem casResetEdge (h : Canonical s) : Canonical s.casResetEdge := by
  unfold State.casResetEdge
  split
  · exact h
  · exact .both h.advance.toEdge.opDone (fun h1 => h1.modCas) (fun h1 => h1.casReset)

/-! The operations of Machine/Recorder.lean. -/

theorem modRcd (h : Canonical s) {g} : Canonical (s.modRcd g) := h.mk

theorem setStaged (h : Canonical s) {l} : Canonical (s.setStaged l) := h.modRcd.wr

theorem dropRec (h : Canonical s) : Canonical s.dropRec := h.modRcd.count

theorem stage (h : Canonical s) {rr} : Canonical (s.stage rr) :=
  .ite h.setStaged.wr.count (.ite h.dropRec.setStaged.wr.count h.dropRec)

theorem record (h : Canonical s) {e} : Canonical (s.record e) :=
  .ite (h.each (fun _ _ h' => h'.stage)) (.ite h.setStaged (.ite h.modRcd h.stage))

theorem ignoreFreeze (h : Canonical s) : Canonical s.ignoreFreeze := h.modCas

theorem freezeRequest (h : Canonical s) {trigger} : Canonical (s.freezeRequest trigger) :=
  .ite h.ignoreFreeze (h.modRcd.each (fun _ _ h' => h'.sendSeam))

theorem pkgFreezeEdge (h : Canonical s) : Canonical s.pkgFreezeEdge := by
  unfold State.pkgFreezeEdge
  split
  · exact h
  · exact h.advance.toEdge.modRcd.freezeEdge.flag.raiseIf

theorem thawRequest (h : Canonical s) : Canonical s.thawRequest := .ite h (h.flag.modRcd.each (fun _ _ h' => h'.sendSeam))

theorem pkgThawEdge (h : Canonical s) : Canonical s.pkgThawEdge := by
  unfold State.pkgThawEdge
  split
  · exact h
  · exact .raise (.optNot h.advance.toEdge.modRcd.flag.flag (fun h1 => h1.thawEdge))

theorem lateFreeze (h : Canonical s) {x} : Canonical (s.lateFreeze x) := .ite h h.toEdge.stopSat.raise

theorem triggerRequest (h : Canonical s) : Canonical s.triggerRequest := by
  unfold State.triggerRequest
  extract_lets
  split
  · exact h.modRcd.freezeRequest
  · exact .ite h.modRcd.ignoreFreeze h.modRcd.requestSched
  · exact h.modRcd

theorem triggerFire (h : Canonical s) : Canonical s.triggerFire :=
  .ite h (.both h.flag.flag (fun h1 => h1.triggerRequest) (fun h1 => .ite (h1.when (fun _ h' => h'.ignoreFreeze)) h1.modRcd))

theorem triggerPost (h : Canonical s) : Canonical s.triggerPost := by
  unfold State.triggerPost
  split
  · exact .ite h h.advance.triggerRequest
  · exact h

theorem nmiReport (h : Canonical s) {code detail} : Canonical (s.nmiReport code detail) := .ite h.flag.emit h.flag.mk

theorem eventEffects (h : Canonical s) {e} : Canonical (s.eventEffects e) := by
  unfold State.eventEffects
  extract_lets _ s1 s2 s3 s4 _ s5
  have h1 : Canonical s1 := h.count.when fun _ h' => h'.count
  have h2 : Canonical s2 := by
    unfold s2
    split
    · exact .ite h1.signalNmi h1.signal
    · exact h1
  have h4 : Canonical s4 := .opt (.opt h2 fun h' => h'.nmiReport) fun h' => h'.queueTx
  exact .opt (.opt h4 fun h' => h'.trace) fun h' => h'.triggerFire

theorem eventStage (h : Canonical s) : Canonical s.eventStage := by
  unfold State.eventStage
  split
  · exact h
  · exact .opt h.mk.eventEffects (fun h1 => h1.record)

theorem stageLost (h : Canonical s) : Canonical s.stageLost := .ite h h.modRcd.raise

theorem programSlot (h : Canonical s) {slot rr cut} : Canonical (s.programSlot slot rr cut) := .ite h.modRcd h.modRcd.count

theorem programNow (h : Canonical s) {slot code detail} : Canonical (s.programNow slot code detail) := by
  unfold State.programNow
  extract_lets
  exact h.programSlot.wr.eventEffects

theorem unstage (h : Canonical s) {rr} : Canonical (s.unstage rr) := h.setStaged

theorem programNmi (h : Canonical s) {rr cut} : Canonical (s.programNmi rr cut) :=
  .ite (.optNot h.programSlot (fun h1 => h1.unstage.wr)) (.ite (.optNot h.programSlot (fun h1 => .optNot h1.unstage.modRcd
    (fun h2 => h2.flag.raise))) h.unstage.count)

theorem programOrd (h : Canonical s) {rr cut} : Canonical (s.programOrd rr cut) :=
  .ite h (.ite h.flag.programNow (.optNot h.programSlot (fun h1 => h1.unstage.wr)))

theorem recordProgram (h : Canonical s) {cut} : Canonical (s.recordProgram cut) :=
  .ite h (by
    split
    · exact h.programNmi
    · split
      · exact h.programOrd
      · exact h)

theorem format (h : Canonical s) {detail} : Canonical (s.format detail) := h.programNow

theorem mountScan (h : Canonical s) : Canonical s.mountScan := by
  unfold State.mountScan
  extract_lets _ _ _ _ _ _ s1 s2 s3 s4 best s5 s6
  have h4 : Canonical s4 := (h.modRcd.wr.when fun _ h' => h'.flag).flag.each fun _ _ h' => h'.raise
  have h5 : Canonical s5 := by
    unfold s5
    clear_value best
    split
    · exact h4
    · exact h4.modRcd.wr.wr
  exact .flag (.opt h5 fun h' => h'.wr.modRcd.raise)

theorem mount (h : Canonical s) {answers} : Canonical (s.mount answers) :=
  .ite h (.ite h.flag (by
    extract_lets
    split
    · exact h.flag.format.mountScan
    · exact .ite h.flag.mountScan h.flag.flag))

theorem eraseGo (h : Canonical s) {who} : Canonical (s.eraseGo who) :=
  .ite (.raise (.flag (.flag (.modRcd (.ite_snd h.draw h))))) h

theorem eraseEnd (h : Canonical s) : Canonical s.eraseEnd :=
  .ite h (.optNot h.modRcd.flag.flag.format.flag.flag.flag.flag.wr (fun h1 => h1.mountScan))

theorem alive (h : Canonical s) : Canonical s.alive := h.advance.raise

theorem ringSelect (h : Canonical s) {unit chan} : Canonical (s.ringSelect unit chan) := h.wr.flag.flag.modRcd

theorem ringDone (h : Canonical s) : Canonical s.ringDone := by
  unfold State.ringDone
  split
  · exact h
  · exact (((h.each (fun _ _ h' => h'.wr)).wr).flag).modRcd

theorem trcLaneUp (h : Canonical s) {k} : Canonical (s.trcLaneUp k) := h.setMask

theorem trcLaneDown (h : Canonical s) {k} : Canonical (s.trcLaneDown k) := .ite h.clrMask.raise h

theorem drainTrace (h : Canonical s) {n room} : Canonical (State.drainTrace n room s) := by
  induction n generalizing s room with
  | zero => exact h
  | succ n ih =>
    unfold State.drainTrace
    split
    · exact h
    · exact .ite h (ih h.setFifo.emit.modRcd.count)

theorem traceSend (h : Canonical s) {l rest} : Canonical (s.traceSend l rest) :=
  .ite h (.opt h.setFifo.drainTrace.setFifo (fun h1 => h1.emit))

theorem traceWindow (h : Canonical s) : Canonical s.traceWindow := h.traceSend

theorem traceFrozen (h : Canonical s) : Canonical s.traceFrozen := h.mk.traceAlways.traceSend

theorem traceAlign (h : Canonical s) : Canonical s.traceAlign :=
  .ite h (.emit (by
    split
    · exact .ite h h.advance.modRcd
    · exact h))

theorem traceLost (h : Canonical s) : Canonical s.traceLost :=
  .ite h (((h.each (fun _ _ h' => .ite h' h'.traceAlways)).mk).raiseOnce)

theorem traceEnable (h : Canonical s) {b} : Canonical (s.traceEnable b) := .ite h.flag.modRcd h.flag

/-! The operations of Machine/Limits.lean. -/

theorem limitFollows (h : Canonical s) {l} : Canonical (s.limitFollows l) := .opt h.capFalls.modLoop fun h1 => h1.setTarget

theorem writeLimit (h : Canonical s) {f v} : Canonical (s.writeLimit f v) := by
  unfold State.writeLimit
  extract_lets
  split
  · exact .limitFollows (.ite (.wr (.ite h.wr.tripEvalAll h.wr)) (.ite h.wr.tripEvalAll h.wr))
  · exact .ite (.wr (.ite h.wr.tripEvalAll h.wr)) (.ite h.wr.tripEvalAll h.wr)

theorem writeCeiling (h : Canonical s) {f v} : Canonical (s.writeCeiling f v) :=
  .ite (.ite h.wr.wr h.wr) (by
    split
    · exact .ite h.wr.writeLimit h.wr
    · exact h.wr)

/-! The operations of Machine/HostOps.lean. -/

theorem modQueue (h : Canonical s) {q g} : Canonical (s.modQueue q g) := h.mk

theorem setQState (h : Canonical s) {q v} : Canonical (s.setQState q v) := h.wr.wr

theorem startNext (h : Canonical s) {n} : Canonical (State.startNext n s) := by
  induction n generalizing s with
  | zero => exact h
  | succ n ih =>
    unfold State.startNext
    refine .ite h ?_
    extract_lets
    split
    · exact ih h.modQueue.mk
    · exact h

theorem finish (h : Canonical s) {q status result detail} : Canonical (s.finish q status result detail) := by
  unfold State.finish
  split
  · exact h
  · exact h.modQueue.startNext

theorem signalQueue (h : Canonical s) {q} : Canonical (s.signalQueue q) := h.modQueue.owe

theorem queueError (h : Canonical s) {q err} : Canonical (s.queueError q err) := .ite h h.setQState.wr.signalQueue.raise

theorem fetchNext (h : Canonical s) {q} : Canonical (s.fetchNext q) := .ite h.emit h

theorem doorbell (h : Canonical s) {q d} : Canonical (s.doorbell q d) := by
  unfold State.doorbell
  split
  · exact h.queueError
  · exact .ite h.queueError (.ite h.queueError (.fetchNext (.opt h.modQueue (fun h1 => h1.setQState))))

/-! The operations of Machine/Sentinel.lean. -/

theorem onReport (h : Canonical s) {w kind} {g : Die → State → State} (hg : ∀ a0 u, Canonical u → Canonical (g a0 u)) :
    Canonical (s.onReport w kind g) :=
  .ite h.senRecord (.ite h (by
    split
    · exact hg _ _ h
    · exact h))

theorem skew (h : Canonical s) {d step epoch} : Canonical (s.skew d step epoch) := .ite h h.mk.senRecord

theorem setSlot (h : Canonical s) {d c k code} : Canonical (s.setSlot d c k code) := h.wr.wr.wr

theorem startChange (h : Canonical s) {m} : Canonical (s.startChange m) := h.toSat.modSen

theorem dropChange (h : Canonical s) {m} : Canonical (s.dropChange m) := h.modSen

theorem unmapped (h : Canonical s) {d c logical old} : Canonical (s.unmapped d c logical old) := h.wr.flag.senRecord

theorem spareFor (h : Canonical s) {d c logical old again} : Canonical (s.spareFor d c logical old again) := by
  unfold State.spareFor
  split
  · exact h.startChange
  · exact h.unmapped

theorem retireSlot (h : Canonical s) {d c k reason} : Canonical (s.retireSlot d c k reason) :=
  h.setSlot.senRecord.toSat.ringSite

theorem ladderStep (h : Canonical s) {d c} : Canonical (s.ladderStep d c) :=
  .ite h.setMask.senRecord (.ite h.wr.senRecord.askMargin (.ite h.setMask.senRecord h.modSen.senRecord))

theorem setFails (h : Canonical s) {d c l} : Canonical (s.setFails d c l) := h.modSen.wr

theorem failed (h : Canonical s) {d c} : Canonical (s.failed d c) := .ite h (.ite h.setFails.ladderStep h.setFails)

theorem modTest (h : Canonical s) {t g} : Canonical (s.modTest t g) := h.modSen

theorem runPattern (h : Canonical s) {t} : Canonical (s.runPattern t) := by
  unfold State.runPattern
  split
  · exact h.emit.ringSite
  · exact h

theorem beginRuns (h : Canonical s) {t} : Canonical (s.beginRuns t) := h.modTest.toSat.runPattern

theorem tryTest (h : Canonical s) {d c k asked} : Canonical (s.tryTest d c k asked) := by
  unfold State.tryTest
  extract_lets
  split
  · exact h.modTest
  · exact .ite h (.ite h.deferTest (.ite (by
        split
        · exact h.modSen.startChange
        · exact h.modSen.modTest) h.modSen.setSlot.beginRuns))

theorem testEnd (h : Canonical s) {t pass} : Canonical (s.testEnd t pass) := .ite h.modTest.wr.flag.flag h.modTest

theorem testDrop (h : Canonical s) {d c k} : Canonical (s.testDrop d c k).2 := by
  unfold State.testDrop
  split
  · exact h.modTest
  · exact h

theorem retryAsked (h : Canonical s) : Canonical s.retryAsked := .ite h (.ite h.draw.wr.flag.flag h.tryTest)

theorem removeSlot (h : Canonical s) {d c k} : Canonical (s.removeSlot d c k) :=
  .both (by
    split
    · exact h.toSat.ringSite.setSlot.dropChange.startChange
    · split
      · exact h.toSat.ringSite.setSlot.spareFor
      · exact h.toSat.ringSite.setSlot) (fun h1 => h1.testDrop.retireSlot.retryAsked) fun h1 => h1.testDrop.tryTest

theorem testFail (h : Canonical s) {d c k epoch step detail} : Canonical (s.testFail d c k epoch step detail) :=
  .retireSlot (.senRecord (by
    split
    · exact h.testEnd
    · exact h))

theorem rowcolWord (h : Canonical s) {w} : Canonical (s.rowcolWord w) :=
  h.onReport (fun _ _ h' => .failed (.both (.opt h'.skew.count.ringSite.senRecord (fun h1 => h1.retractFor)) (fun h1 =>
    h1.removeSlot) (fun h1 => .ite h1.testFail h1)))

theorem rowcolFail (h : Canonical s) {ws} : Canonical (s.rowcolFail ws) := h.each fun _ _ h' => h'.rowcolWord

theorem cvMismatch (h : Canonical s) {w} : Canonical (s.cvMismatch w) := h.onReport fun _ _ h' => h'.senRecord.sendRetract

theorem poison (h : Canonical s) {w} : Canonical (s.poison w) :=
  h.onReport (fun _ _ h' => .opt (.opt (.optNot h'.skew.senRecord (fun h1 => h1.flag.emit)) (fun h1 => h1.flag)) (fun h1 =>
    h1.retractFor))

theorem weightCv (h : Canonical s) {w} : Canonical (s.weightCv w) := h.onReport fun _ _ h' => .ite h' h'.modSenDie

theorem closeEpoch (h : Canonical s) {d e} : Canonical (s.closeEpoch d e) := by
  unfold State.closeEpoch
  split
  · exact .verify (.opt (by
        split
        · exact h.modSenDie.wr.wr.takeVerdict
        · exact h.modSenDie.wr.wr) (fun h1 => h1.sendDigest))

theorem stepEnd (h : Canonical s) {w} : Canonical (s.stepEnd w) :=
  h.onReport (fun _ _ h' => .ite h'.skew (.optNot h'.skew.wr (fun h1 => h1.closeEpoch)))

theorem exportRun (h : Canonical s) {t p obs pass} : Canonical (s.exportRun t p obs pass) := .ite h h.queueTx

theorem testSig (h : Canonical s) {w} : Canonical (s.testSig w) :=
  h.onReport fun _ _ h' => by
    extract_lets
    split
    · split
      · refine .ite h' ?_
        extract_lets _ s1 s2
        have h2 : Canonical s2 := h'.count.ringSite.exportRun
        exact .ite h2.testFail.failed (.ite h2.testEnd.setSlot.toSat h2.modTest.runPattern)
      · exact h'
    · exact h'

theorem queueOvf (h : Canonical s) : Canonical s.queueOvf := .ite h h.modSen.senRecord

theorem sendRecord (h : Canonical s) : Canonical s.sendRecord := by
  unfold State.sendRecord
  split
  · exact .ite h.setTxq.emit h
  · exact h

theorem scanChange (h : Canonical s) {d site code first} : Canonical (s.scanChange d site code first) := h.modAdm

theorem movedTest (h : Canonical s) {t} : Canonical (s.movedTest t) := .ite h.modTest.deferTest h.beginRuns

theorem mapDone (h : Canonical s) {d c k} : Canonical (s.mapDone d c k) := by
  unfold State.mapDone
  split
  · exact h
  · extract_lets s1 s2 s3 s4 s5
    have h4 : Canonical s4 := h.dropChange.wr.setSlot.count.scanChange.senRecord.ringSite
    have h5 : Canonical s5 := h4.scanChange.setSlot
    refine .ite h4.retryAsked ?_
    split
    · exact h5.movedTest.retryAsked
    · exact h5.retryAsked

theorem mapReady (h : Canonical s) {d c k} : Canonical (s.mapReady d c k) := h.modSen

theorem mapTimeout (h : Canonical s) {d c k} : Canonical (s.mapTimeout d c k) := by
  unfold State.mapTimeout
  split
  · exact h
  · refine .ite h ?_
    extract_lets s1 s2 s3
    have h3 : Canonical s3 := h.advance.dropChange.senRecord.retireSlot
    split
    · exact h3.startChange.retryAsked
    · refine .ite h3.unmapped.retryAsked ?_
      split
      rename_i heq
      exact (h3.testDrop.snd heq).deferTest

theorem clearVstep (h : Canonical s) {d} : Canonical (s.clearVstep d) := h.wr.modSen.lowerVoltage

theorem clearClusters (h : Canonical s) {d mask} : Canonical (s.clearClusters d mask) := h.clrMask.modSen

theorem retryFailed (h : Canonical s) : Canonical s.retryFailed :=
  h.each (fun _ _ h' => h'.each (fun _ _ h'' => .ite h''.tryTest h''))

theorem testPeriod (h : Canonical s) : Canonical s.testPeriod := by
  unfold State.testPeriod
  extract_lets _ _ _ s2
  have h2 : Canonical s2 := h.advance.modSen.retryAsked.retryFailed
  refine .ite h ?_
  split
  · exact h2
  · exact h2.tryTest.modSen

theorem testReq (h : Canonical s) {d site} : Canonical (s.testReq d site) := .ite h h.wr.wr.flag.flag.wr.wr.modSen.retryAsked

theorem libraryArrives (h : Canonical s) {l} : Canonical (s.libraryArrives l) :=
  .ite h (.ite h.mk.modSen.senRecord h.draw.senRecord)

theorem useLibrary (h : Canonical s) {l} : Canonical (s.useLibrary l) := h.modSen.flag.wr.wr.wr

theorem librarySwitch (h : Canonical s) : Canonical s.librarySwitch := by
  unfold State.librarySwitch
  split
  · exact .ite h h.useLibrary
  · exact h

theorem digestWait (h : Canonical s) {group epoch} : Canonical (s.digestWait group epoch) := by
  unfold State.digestWait
  split
  · exact h.advance.formVerdict
  · exact h

theorem expelledClear (h : Canonical s) {d} : Canonical (s.expelledClear d) := .ite h.flag.modSenDie h

theorem retractAck (h : Canonical s) : Canonical s.retractAck := .ite h (h.flag.modSen.each (fun _ _ h' => h'.modSenDie))

theorem abortClear (h : Canonical s) : Canonical s.abortClear := .ite h.flag.emit h

theorem slotRetire (h : Canonical s) {d c k} : Canonical (s.slotRetire d c k) :=
  .ite h (.ite h.wr.wr (.retryAsked (.ite (by
    split
    · exact h.wr.wr.testDrop.retireSlot.dropChange.startChange
    · exact h.wr.wr.testDrop.retireSlot.spareFor
    · exact h.wr.wr.testDrop.retireSlot) (by
    split
    · exact .ite h.wr.wr.testDrop.retireSlot.dropChange.testDrop h.wr.wr.testDrop.retireSlot.dropChange.spareFor
    · exact h.wr.wr.testDrop.retireSlot))))

/-! The operations of Machine/Budget.lean. -/

theorem modRail (h : Canonical s) {l g} : Canonical (s.modRail l g) := h.mk

theorem setEntry (h : Canonical s) {k e} : Canonical (s.setEntry k e) := h.modGov

theorem closeBin (h : Canonical s) {d b inval} : Canonical (s.closeBin d b inval) := by
  unfold State.closeBin
  split
  · exact h
  · extract_lets
    split
    · exact h
    · exact .ite h.modGovDie (.ite (.ite h.setEntry.modGovDie h.setEntry.modGovDie) (.ite h.modGovDie (.ite h.setEntry.modGovDie
        h.setEntry.modGovDie)))

theorem endRun (h : Canonical s) {d} : Canonical (s.endRun d) := by
  unfold State.endRun
  split
  · exact h
  · exact .modGovDie (by
        split
        · exact .ite h.closeBin.setEntry h.closeBin
        · exact h.closeBin)

theorem runBoundary (h : Canonical s) {d inval} : Canonical (s.runBoundary d inval) := by
  unfold State.runBoundary
  split
  · exact h
  · split
    · exact h.modGovDie
    · exact .optNot (by
          split
          · exact h.modGovDie
          · exact h) (fun h1 => h1.closeBin)

theorem compare (h : Canonical s) {l} : Canonical (s.compare l) := by
  unfold State.compare
  extract_lets
  split
  · exact h.wr
  · exact .both h.wr.modRail.wr (fun h1 => h1.wr.modRail) (fun h1 => h1.wr.modRail)

theorem modeBoundary (h : Canonical s) {l} : Canonical (s.modeBoundary l) :=
  .opt (.ite (by
    extract_lets
    split
    · exact h.modRail.flag.wr.raise.setEntry
    · exact h.modRail.flag.wr.raise) (.ite h.modRail.flag.wr.raise h.modRail)) fun h1 => h1.count

theorem shareCap (h : Canonical s) : Canonical s.shareCap := by
  unfold State.shareCap
  extract_lets
  split
  · exact (h.modGov.flag.raiseIf.each (fun _ _ h' => by
        split
        · exact h'.modRail)).each (fun _ _ h' => h'.modRail)

theorem powerIn (h : Canonical s) : Canonical s.powerIn := .ite h.wr (.ite h.wr.modGov h.wr.modGov.wr)

theorem thermalRequest (h : Canonical s) {d} : Canonical (s.thermalRequest d) :=
  .optNot h.withdraw.withdraw (fun h1 => .ite h1.modGovDie (.ite h1.modGovDie h1))

theorem applyIntOpmax (h : Canonical s) {d} : Canonical (s.applyIntOpmax d) := .ite h h.announceFall.modGovDie.sendSeam

theorem setRatio (h : Canonical s) {d} : Canonical (s.setRatio d) := .ite h h.modGovDie

theorem hintOver (h : Canonical s) {d id disarmed} : Canonical (s.hintOver d id disarmed) :=
  .opt h.modGovDie fun h1 => h1.sendRgc

theorem timeoutTaken (h : Canonical s) {d n} : Canonical (s.timeoutTaken d n) := .ite h h.modHold.raise.modGovDie

theorem takeReport (h : Canonical s) {x rr} : Canonical (s.takeReport x rr) := by
  unfold State.takeReport
  split
  · exact h.count
  · split
    · exact h.takeTemp
    · exact h
  · split
    · exact h.endRun.modGovDie
    · exact h
  · split
    · exact h.endRun
    · exact h
  · split
    · exact h.modGovDie
    · exact h
  · split
    · exact h.hintOver
    · exact h
  · split
    · extract_lets
      split
      · exact h.modGovDie.timeoutTaken
      · exact h.modGovDie
    · exact h.mk

theorem takeIn (h : Canonical s) : Canonical s.takeIn := h.mk.each fun _ _ h' => h'.takeReport

theorem hintSteps (h : Canonical s) {d} : Canonical (s.hintSteps d).1 := h.modGovDie

theorem sendWindow (h : Canonical s) {d} : Canonical (s.sendWindow d) :=
  .ite h (.opt h.modGovDie.sendSeam (fun h1 => h1.rgcCuff))

theorem sendSteps (h : Canonical s) {d l} : Canonical (s.sendSteps d l) := h.each fun _ _ h' => h'.sendRgc

theorem setPoints (h : Canonical s) : Canonical s.setPoints := h.each fun _ _ h' => .ite h'.sendRgc h'

theorem takeSetPoints (h : Canonical s) : Canonical s.takeSetPoints :=
  h.each (fun _ _ h' => by
    split
    · exact .opt h'.advance.mk (fun h1 => h1.setTarget)
    · exact h')

theorem windowDecision (h : Canonical s) : Canonical s.windowDecision := by
  unfold State.windowDecision
  refine .ite h ?_
  extract_lets s1 s2 s3 s4 s5
  have h4 : Canonical s4 :=
    (((h.advance.modGov.each fun _ _ h' => .ite h'.modHold h').takeIn).each fun _ _ h' => h'.compare).powerIn.shareCap
  have h5 : Canonical s5 := h4.each fun _ _ h' => h'.thermalRequest.setRatio
  split
  rename_i u ups heq
  have hu : Canonical u := by
    refine (h5.foldl_fst fun p d hp => ?_).fst heq
    split
    · exact hp.hintSteps
    · exact hp
  exact (((hu.each fun _ _ h' => h'.sendSteps).when fun _ h' => h'.count).each fun _ _ h' =>
    h'.sendWindow).setPoints.takeSetPoints.wr.paceUp

theorem jobRequest (h : Canonical s) {start stop} : Canonical (s.jobRequest start stop) := .ite (.ite h.flag.raise h) h.flag

theorem ltAccRead (h : Canonical s) : Canonical s.ltAccRead := h.each fun _ _ h' => h'.wr

theorem ltAccAsk (h : Canonical s) {f} : Canonical (s.ltAccAsk f) := h.flag.flag

/-! The operations of Machine/Hints.lean. -/

theorem traceTag (h : Canonical s) {d layer op stop} : Canonical (s.traceTag d layer op stop) := h.trace

theorem heavyAhead (h : Canonical s) {d layer op lead} : Canonical (s.heavyAhead d layer op lead) :=
  .ite h (.raiseIf (.report (.setHints (by
    split
    · exact h.modAdm.report.raise
    · exact h.modAdm))))

theorem opStart (h : Canonical s) {d layer op} : Canonical (s.opStart d layer op) := by
  unfold State.opStart
  extract_lets
  split
  · exact .ite h.modAdm.report.traceTag.endActive.setHints (.ite h.modAdm.report.traceTag h.modAdm.report.traceTag.endActive)
  · exact .ite h.modAdm.report.traceTag h.modAdm.report.traceTag.endActive

theorem opEnd (h : Canonical s) {d layer op} : Canonical (s.opEnd d layer op) := by
  unfold State.opEnd
  extract_lets
  split
  · exact .ite h.modAdm.report.traceTag.endActive h.modAdm.report.traceTag
  · exact h.modAdm.report.traceTag

theorem hintWord (h : Canonical s) {d w} : Canonical (s.hintWord d w) :=
  .ite h (.ite h.raise (.ite h.opStart (.ite h.heavyAhead h.opEnd)))

theorem armTimeout (h : Canonical s) {d} : Canonical (s.armTimeout d) := by
  unfold State.armTimeout
  split
  · exact .ite h h.advance.endPending.raise
  · exact h

theorem costSwap (h : Canonical s) {mask} : Canonical (s.costSwap mask) := h.setMask

/-! The operations of Machine/Fabric.lean. -/

theorem modMgt (h : Canonical s) {g} : Canonical (s.modMgt g) := h.mk

theorem modProc (h : Canonical s) {p g} : Canonical (s.modProc p g) := h.modMgt

theorem pmpWrite (h : Canonical s) {p k cfg addr} : Canonical (s.pmpWrite p k cfg addr) := .ite h h.modProc

theorem setRam (h : Canonical s) {a v} : Canonical (s.setRam a v) := h.modMgt

theorem setLong (h : Canonical s) {a v} : Canonical (s.setLong a v) := h.modMgt

theorem loadSram (h : Canonical s) {p words} : Canonical (s.loadSram p words) := h.each fun _ _ h' => h'.setRam

theorem wipeSram (h : Canonical s) {p} : Canonical (s.wipeSram p) := h.modMgt

/-! The operations of Machine/Boot.lean. -/

theorem modFlash (h : Canonical s) {g} : Canonical (s.modFlash g) := h.mk

theorem modUpd (h : Canonical s) {g} : Canonical (s.modUpd g) := h.mk

theorem bootTidy (h : Canonical s) : Canonical s.bootTidy := .ite h h.modFlash

theorem bootWrite (h : Canonical s) {p slot state ver svn} : Canonical (s.bootWrite p slot state ver svn) := by
  unfold State.bootWrite
  extract_lets
  split
  · exact .ite h.modFlash h.modFlash.bootTidy
  · exact h.modFlash.bootTidy

theorem bootMark (h : Canonical s) {p slot state} : Canonical (s.bootMark p slot state) := by
  unfold State.bootMark
  split
  · exact h.bootWrite
  · exact h

theorem setUpd (h : Canonical s) {st} : Canonical (s.setUpd st) := h.wr.wr

theorem cancelStaged (h : Canonical s) : Canonical s.cancelStaged := ((h.each (fun _ _ h' => h'.bootMark)).modUpd).setUpd

theorem migrate (h : Canonical s) {p} : Canonical (s.migrate p) := by
  unfold State.migrate
  split
  · exact .ite h (by
        extract_lets
        split
        · exact h.modFlash.modProc)
  · exact h

theorem settle (h : Canonical s) {p} : Canonical (s.settle p) := by
  unfold State.settle
  extract_lets
  split
  · exact h.modFlash.modProc

theorem unsettle (h : Canonical s) {p} : Canonical (s.unsettle p) := by
  unfold State.unsettle
  split
  · exact h.modFlash.modProc

theorem stepsOver (h : Canonical s) {p} : Canonical (s.stepsOver p) := .ite h.modUpd.setUpd h

theorem fallBack (h : Canonical s) {p slot} : Canonical (s.fallBack p slot) :=
  h.stepsOver.bootMark.modProc.unsettle.flag.count.raise

theorem chooseSlot (h : Canonical s) {p} : Canonical (s.chooseSlot p).1 := by
  unfold State.chooseSlot
  extract_lets s1
  have h1 : Canonical s1 := by
    unfold s1
    split
    · exact h.fallBack
    · exact h
  split
  · exact h1.bootMark
  · exact h1

theorem pickImage (h : Canonical s) {p okA okB} : Canonical (s.pickImage p okA okB).1 := by
  unfold State.pickImage
  extract_lets
  split
  rename_i heq
  have h1 := h.chooseSlot.fst heq
  refine .ite_fst h1 ?_
  extract_lets s2 s3
  have h3 : Canonical s3 := .ite h1.raise.fallBack h1.raise
  split
  · exact .ite_fst h3 h3.raise
  · exact h3

/-! The operations of Machine/Mgmt.lean. -/

theorem setKey (h : Canonical s) {slot k} : Canonical (s.setKey slot k) := by
  unfold State.setKey
  split
  · exact h.modMgt
  · exact h

theorem newNonce (h : Canonical s) : Canonical s.newNonce := h.each fun _ _ h' => h'.draw.wr

theorem checkPeers (h : Canonical s) {p} : Canonical (s.checkPeers p) := by
  unfold State.checkPeers
  extract_lets
  split
  · exact (h.each (fun _ _ h' => h'.flag)).raise
  · exact h.each (fun _ _ h' => h'.flag)

theorem takeHeld (h : Canonical s) : Canonical s.takeHeld := (h.each (fun _ _ h' => h'.emit)).modMgt

theorem countRestart (h : Canonical s) {p rr} : Canonical (s.countRestart p rr) := by
  unfold State.countRestart
  split
  · exact h.wr.wr.raise
  · exact h

theorem releaseProc (h : Canonical s) {p slot trial} : Canonical (s.releaseProc p slot trial) :=
  .when (.checkPeers (.optNot h.countRestart.loadSram.modProc.wr.wr.wr.wr.wr.wr.flag.flag.raiseIf (fun h1 => h1.migrate)))
    fun _ h' => h'.takeHeld

theorem trpStart (h : Canonical s) {b} : Canonical (s.trpStart b) := by
  unfold State.trpStart
  extract_lets s1
  have h1 : Canonical s1 := h.wr
  split
  · exact h1.modMgt
  · extract_lets s2 s3
    have h3 : Canonical s3 := h1.setKey.setKey.setKey.modMgt
    split
    · rename_i heq; exact (h3.pickImage.fst heq).releaseProc.newNonce
    · rename_i heq; exact h3.pickImage.fst heq

theorem trpBoot (h : Canonical s) {b} : Canonical (s.trpBoot b) := .ite h.trpStart h

theorem keyRetry (h : Canonical s) {b} : Canonical (s.keyRetry b) := by
  unfold State.keyRetry
  split
  · exact h.advance.trpStart
  · exact h

theorem writeCeilings (h : Canonical s) {rr} : Canonical (s.writeCeilings rr) :=
  (((h.each (fun _ _ h' => by
    split
    · exact h'.writeCeiling.raiseIf
    · exact h'.writeCeiling)).writeCeiling).each (fun _ _ h' => by
    split
    · exact h'.wr.raiseIf
    · exact h'.wr)).flag

theorem provision (h : Canonical s) {rr} : Canonical (s.provision rr) := by
  unfold State.provision
  refine .ite h ?_
  extract_lets _ s1 s2 s3 s4
  have h2 : Canonical s2 := (Canonical.ite h h.raise).each fun _ _ h' => h'.setKey
  have h4 : Canonical s4 := .modMgt (.writeCeilings (.ite (h2.each fun _ _ h' => h'.setKey) h2))
  split
  · exact .ite h4.useLibrary h4
  · exact h4

theorem imageRelease (h : Canonical s) {p okA okB} : Canonical (s.imageRelease p okA okB) := by
  refine .ite h ?_
  split
  · rename_i heq; exact (h.wr.pickImage.fst heq).releaseProc
  · rename_i heq; exact h.wr.pickImage.fst heq

theorem setStarted (h : Canonical s) {p} : Canonical (s.setStarted p) := h.flag.modProc

theorem startedWrite (h : Canonical s) {p c0 c1 c2 c3} : Canonical (s.startedWrite p c0 c1 c2 c3) :=
  .ite h (.ite h.setStarted (.ite h.modProc.setStarted h.modProc))

theorem plpReady (h : Canonical s) {weights leak} : Canonical (s.plpReady weights leak) :=
  .ite h (.flag (.migrate (.ite h ((h.each (fun _ _ h' => .ite h' h'.wr)).each (fun _ _ h' => h'.wr.wr.wr.wr)))))

theorem modMbx (h : Canonical s) {k g} : Canonical (s.modMbx k g) := h.modMgt

theorem setWords (h : Canonical s) {k j l} : Canonical (s.setWords k j l) := h.each fun _ _ h' => .ite h'.wr h'

theorem mbxIrq (h : Canonical s) {k b} : Canonical (s.mbxIrq k b) := by
  unfold State.mbxIrq
  split
  · exact h.wr
  · exact h

theorem mbxSignal (h : Canonical s) {k} : Canonical (s.mbxSignal k) := .ite h.signal h

theorem msgReply (h : Canonical s) {k} : Canonical (s.msgReply k) := by
  unfold State.msgReply
  split
  · exact h
  · extract_lets
    split
    · exact .ite h.modMbx.flag.emit.finish h.modMbx.flag.finish
    · exact h.modMbx.flag

theorem mbxEnd (h : Canonical s) {k} : Canonical (s.mbxEnd k) := h.flag.mbxIrq

theorem mbxReply (h : Canonical s) {k} : Canonical (s.mbxReply k) := h.mbxEnd.flag.mbxSignal.msgReply

theorem mbxPass (h : Canonical s) {k} : Canonical (s.mbxPass k) := .ite h.flag.mbxIrq.modMbx h.wr.flag.flag.raise.msgReply

theorem mailboxGo (h : Canonical s) {k who long} : Canonical (s.mailboxGo k who long) := .ite h h.modMbx.mbxPass

theorem mailboxDone (h : Canonical s) {k who long} : Canonical (s.mailboxDone k who long) := .ite h h.modMbx.mbxReply

theorem abortMbx (h : Canonical s) {k} : Canonical (s.abortMbx k) := .ite h.mbxEnd.flag h

theorem mailboxAbort (h : Canonical s) {k who} : Canonical (s.mailboxAbort k who) := .ite h h.abortMbx

theorem mailboxNote (h : Canonical s) {k who} : Canonical (s.mailboxNote k who) := .ite h h.flag.mbxSignal

theorem mailboxTimeout (h : Canonical s) {k} : Canonical (s.mailboxTimeout k) := .ite h h.advance.mbxEnd.flag.raise

theorem msgTake (h : Canonical s) {q} : Canonical (s.msgTake q) := by
  unfold State.msgTake
  split
  · exact .ite h h.setWords.modMbx.flag.modQueue.mbxPass
  · exact h

theorem msgWaiters (h : Canonical s) : Canonical s.msgWaiters := h.each fun _ _ h' => h'.msgTake

theorem msgTimeout (h : Canonical s) {q} : Canonical (s.msgTimeout q) := by
  unfold State.msgTimeout
  split
  · exact h.advance.finish
  · exact h.advance.mbxEnd.modMbx.flag.finish.msgWaiters
  · exact h

theorem answer (h : Canonical s) {k status len words} : Canonical (s.answer k status len words) :=
  .mbxReply (.ite h.setWords.setWords h.setWords.setWords)

theorem replyTo (h : Canonical s) {p k lenOk} {reply : State → State} (hreply : ∀ u, Canonical u → Canonical (reply u)) :
    Canonical (s.replyTo p k lenOk reply) :=
  .ite h.answer (.ite h.answer (hreply _ h))

theorem getVersion (h : Canonical s) {k} : Canonical (s.getVersion k) := by
  unfold State.getVersion
  split
  · exact h
  · exact h.replyTo (fun _ h' => h'.answer)

theorem echo (h : Canonical s) {k} : Canonical (s.echo k) := by
  unfold State.echo
  split
  · exact h
  · exact h.replyTo (fun _ h' => h'.answer)

theorem getState (h : Canonical s) {k} : Canonical (s.getState k) := by
  unfold State.getState
  split
  · exact h
  · exact h.replyTo (fun _ h' => h'.answer)

theorem lcAnswer (h : Canonical s) {via status words} : Canonical (s.lcAnswer via status words) := by
  unfold State.lcAnswer
  split
  · exact h.answer
  · exact h.emit

theorem lcReply (h : Canonical s) {via lenOk} {reply : State → State} (hreply : ∀ u, Canonical u → Canonical (reply u)) :
    Canonical (s.lcReply via lenOk reply) := by
  unfold State.lcReply
  split
  · exact h.replyTo (hreply)
  · exact .ite (hreply _ h) h.lcAnswer

theorem lcNonce (h : Canonical s) {via} : Canonical (s.lcNonce via) := .ite (h.lcReply (fun _ h' => h'.lcAnswer)) h

theorem takeToken (h : Canonical s) {via t} : Canonical (s.takeToken via t) :=
  .ite h.lcAnswer.raise (.ite h.lcAnswer.mk.newNonce.cancelStaged.raise.mk h.newNonce.lcAnswer.raise)

theorem lcToken (h : Canonical s) {via bytes sigOk} : Canonical (s.lcToken via bytes sigOk) :=
  .ite h (h.lcReply (fun _ h' => h'.takeToken))

theorem restart (h : Canonical s) {p cause c} : Canonical (s.restart p cause c) :=
  .ite h (.opt (.each (.when (.modProc (.flag (.flag (.wr (.opt (h.each (fun _ _ h' => h'.wr)) (fun h1 => h1.fallBack))))))
    (fun _ h' => h'.flag)) (fun _ _ h' => .ite h'.abortMbx h')) (fun h1 => h1.modUpd.setUpd))

theorem restartGo (h : Canonical s) {p who c} : Canonical (s.restartGo p who c) :=
  .ite h.restart (.ite h (by
    split
    · exact h.restart
    · exact h.restart
    · exact h))

theorem trustedRestart (h : Canonical s) {p c} : Canonical (s.trustedRestart p c) := .ite h h.restart

theorem watchdogExpiry (h : Canonical s) {p c} : Canonical (s.watchdogExpiry p c) := .ite h h.advance.restart

theorem watchdogKick (h : Canonical s) {p} : Canonical (s.watchdogKick p) := h.modProc

theorem restartRelease (h : Canonical s) {p b} : Canonical (s.restartRelease p b) := by
  unfold State.restartRelease
  split
  · refine .ite h (.ite h.trpStart ?_)
    extract_lets
    split
    · rename_i heq; exact (h.pickImage.fst heq).releaseProc
    · rename_i heq; exact h.pickImage.fst heq
  · exact h

/-! The operations of Machine/Update.lean. -/

theorem pldmReply (h : Canonical s) {cmd code data} : Canonical (s.pldmReply cmd code data) := h.emit

theorem updShow (h : Canonical s) : Canonical s.updShow := h.setUpd

theorem setComp (h : Canonical s) {c} : Canonical (s.setComp c) := h.modUpd

theorem entdaa (h : Canonical s) {svp trp} : Canonical (s.entdaa svp trp) := h.wr.wr

theorem setEndpoint (h : Canonical s) {trp eid} : Canonical (s.setEndpoint trp eid) := h.wr.pldmReply

theorem queryIds (h : Canonical s) : Canonical s.queryIds := h.draw.pldmReply

theorem fwParams (h : Canonical s) : Canonical s.fwParams := h.pldmReply

theorem requestUpdate (h : Canonical s) : Canonical s.requestUpdate :=
  .ite h.pldmReply (.ite h.pldmReply h.modUpd.updShow.pldmReply)

theorem passTable (h : Canonical s) {id} : Canonical (s.passTable id) := h.pldmReply

theorem updateComp (h : Canonical s) {id size} : Canonical (s.updateComp id size) := .ite h.modUpd.updShow.pldmReply h.pldmReply

theorem fwData (h : Canonical s) {bytes} : Canonical (s.fwData bytes) := by
  unfold State.fwData
  split
  · exact .ite h.pldmReply h.setComp.pldmReply
  · exact h.pldmReply

theorem transferEnd (h : Canonical s) : Canonical s.transferEnd := by
  unfold State.transferEnd
  split
  · exact .ite h.setComp.updShow.pldmReply h.pldmReply
  · exact h.pldmReply

theorem verifyDone (h : Canonical s) {hashOk sigOk} : Canonical (s.verifyDone hashOk sigOk) := by
  unfold State.verifyDone
  split
  · exact h.pldmReply
  · exact .ite h.pldmReply (by
        split
        · exact h.libraryArrives.setComp.updShow.pldmReply
        · exact .both (h.bootWrite.when (fun _ h' => h'.modFlash)) (fun h1 => h1.setComp.modUpd.raise.updShow.pldmReply)
            (fun h1 => h1.modUpd.wr.raise.updShow.pldmReply))

theorem applyDone (h : Canonical s) : Canonical s.applyDone := by
  unfold State.applyDone
  split
  · exact .ite h.modUpd.updShow.pldmReply h.pldmReply
  · exact h.pldmReply

theorem activate (h : Canonical s) : Canonical s.activate := .ite h.pldmReply h.modUpd.setUpd.pldmReply

theorem getStatus (h : Canonical s) : Canonical s.getStatus := h.pldmReply

theorem cancelComp (h : Canonical s) : Canonical s.cancelComp := by
  unfold State.cancelComp
  split
  · exact .pldmReply (.updShow (.modUpd (by
        split
        · exact h.bootMark.modUpd
        · exact h)))
  · exact h.pldmReply

theorem cancelUpdate (h : Canonical s) : Canonical s.cancelUpdate := .ite h.pldmReply h.modUpd.cancelStaged.pldmReply

theorem setRegatta (h : Canonical s) {t} : Canonical (s.setRegatta t) := .ite h.pldmReply h.wr.pldmReply

theorem regattaStep (h : Canonical s) {c} : Canonical (s.regattaStep c) := by
  unfold State.regattaStep
  split
  · exact h
  · exact .ite h (.ite h.modUpd (.both (.toEdge (.ite h h.advance)) (fun h1 => h1.raise.cancelStaged) (fun h1 =>
      h1.modUpd.setUpd.bootMark.restart)))

theorem regattaHeld (h : Canonical s) : Canonical s.regattaHeld := by
  unfold State.regattaHeld
  split
  · exact .ite h h.modUpd.regattaStep
  · exact h

theorem updateConfirm (h : Canonical s) {p} : Canonical (s.updateConfirm p) :=
  .ite h (.modUpd (.stepsOver (.raise (.flag (.flag (.settle (.modProc (.optNot h.bootMark (fun h1 => h1.bootMark)))))))))

theorem trialTimeout (h : Canonical s) {p c} : Canonical (s.trialTimeout p c) := by
  unfold State.trialTimeout
  split
  · exact h.advance.restart
  · exact h

/-! The operations of Machine/Meter.lean. -/

theorem modMtr (h : Canonical s) {g} : Canonical (s.modMtr g) := h.mk

theorem bumpSeq (h : Canonical s) : Canonical s.bumpSeq := h.wr

theorem copy (h : Canonical s) {g : State → State} (hg : ∀ u, Canonical u → Canonical (g u)) : Canonical (s.copy g) :=
  .modMtr (.bumpSeq (hg _ h.bumpSeq))

theorem putWords (h : Canonical s) {at_ ws} : Canonical (s.putWords at_ ws) := h.each fun _ _ h' => h'.wr

theorem mirror (h : Canonical s) {at_ ws} : Canonical (s.mirror at_ ws) := h.copy fun _ h' => h'.putWords

theorem mtrEvent (h : Canonical s) {code detail} : Canonical (s.mtrEvent code detail) := h.raiseIf

theorem mtrStatus (h : Canonical s) : Canonical s.mtrStatus := h.copy fun _ h' => h'.flag.flag.flag.flag.flag.flag.flag.wr

theorem tellLog (h : Canonical s) : Canonical s.tellLog := .ite h h.raiseOnce.modMtr

theorem auditEntry (h : Canonical s) {type arg arg2} : Canonical (s.auditEntry type arg arg2) :=
  (h.modMtr.copy (fun _ h' => h'.putWords.wr.wr)).tellLog

theorem meterProduct (h : Canonical s) {vdiv vsh deg frac} : Canonical (s.meterProduct vdiv vsh deg frac) :=
  .ite h (.ite h.modMtr h.modMtr)

theorem conditionChange (h : Canonical s) {c open_} : Canonical (s.conditionChange c open_) :=
  .ite h (.opt h.modMtr.auditEntry.mtrStatus (fun h1 => h1.mtrEvent))

theorem nextReading (h : Canonical s) : Canonical s.nextReading := h.modMtr

theorem mirrorCopy (h : Canonical s) : Canonical s.mirrorCopy :=
  .ite h (by
    split
    · exact ((h.copy (fun _ h' => h'.wr.wr.wr.wr)).modMtr).tellLog)

theorem periodicReading (h : Canonical s) {sig} : Canonical (s.periodicReading sig) := .ite h h.modMtr.nextReading.mirror.modMtr

theorem stampAnswer (h : Canonical s) {till rr} : Canonical (s.stampAnswer till rr) := h.wr.modMgt

theorem stampRequest (h : Canonical s) {who kind answers} : Canonical (s.stampRequest who kind answers) :=
  .ite h (.ite h.wr (.ite h.wr.advance.stampAnswer.mtrEvent (.both h.wr.stampAnswer (fun h1 => h1.modMtr.mtrStatus) (fun h1 =>
    h1.mtrEvent))))

theorem stampSigned (h : Canonical s) {sig} : Canonical (s.stampSigned sig) := by
  unfold State.stampSigned
  split
  · exact h
  · exact ((h.nextReading.mirror.modMtr.copy (fun _ h' => h'.wr)).mtrStatus).mtrEvent

theorem meterSave (h : Canonical s) : Canonical s.meterSave := .ite h.modMtr h

theorem mirrorOff (h : Canonical s) : Canonical s.mirrorOff := Tab.wf_filter h

theorem powerFailSave (h : Canonical s) : Canonical s.powerFailSave := .ite h h.auditEntry.modMtr.mirrorOff

theorem meterFault (h : Canonical s) : Canonical s.meterFault := h.modMtr.mtrStatus.mtrEvent

theorem meterPowerUp (h : Canonical s) {saveOk badHash} : Canonical (s.meterPowerUp saveOk badHash) := by
  unfold State.meterPowerUp
  extract_lets _ _ _ _ _ s1 s2 s3 s4 s5 s6 s7 s8
  have h3 : Canonical s3 := (h.mirrorOff.modMtr.copy fun _ h' => h'.wr.wr.wr.wr).mirror.mirror
  have h5 : Canonical s5 := (h3.copy fun _ h' => h'.each fun _ _ h'' => h''.wr).each fun _ _ h' => h'.mirror
  have h7 : Canonical s7 := .ite h5.auditEntry.auditEntry h5.auditEntry
  refine .mtrStatus ?_
  unfold s8
  split
  · exact .ite h7.auditEntry.meterFault h7
  · exact h7

theorem xtalFail (h : Canonical s) : Canonical s.xtalFail := .ite h h.auditEntry.modMtr.meterFault

theorem selftestFail (h : Canonical s) {t} : Canonical (s.selftestFail t) := .ite h h.auditEntry.meterFault

theorem sealKey (h : Canonical s) {c} : Canonical (s.sealKey c) := by
  unfold State.sealKey
  exact .copy h.draw.draw.draw.modMtr fun _ h' => h'.putWords.putWords

theorem sealMeter (h : Canonical s) {kv rsh tc sig} : Canonical (s.sealMeter kv rsh tc sig) :=
  .ite h (by
    extract_lets
    split
    · exact ((h.sealKey.modMtr.mirror.modMtr.auditEntry.copy (fun _ h' => h'.wr)).mtrStatus).mk)

theorem plpFirst (h : Canonical s) : Canonical s.plpFirst := .ite h h.wr.stampRequest

theorem releasing (h : Canonical s) {p} {g : State → State} (hg : ∀ u, Canonical u → Canonical (g u)) :
    Canonical (s.releasing p g) :=
  .when (hg _ h) fun _ h' => h'.plpFirst

/-! The operations of Machine/Package.lean. -/

theorem keepRegs (h : Canonical s) {keep} : Canonical (s.keepRegs keep) := Tab.wf_filter h

theorem wipe (h : Canonical s) : Canonical s.wipe := h.keepRegs.mk

theorem drainEvents (h : Canonical s) {n} : Canonical (State.drainEvents n s) := by
  induction n generalizing s with
  | zero => exact h
  | succ n ih => exact ih h.eventStage

theorem resetState (h : Canonical s) : Canonical s.resetState := h.mk

theorem blockReset (h : Canonical s) {cause} : Canonical (s.blockReset cause) :=
  (((((((((((h.drainEvents.advance.each (fun _ _ h' => .opt h'.emit.emit (fun h1 => h1.emit))).each (fun _ _ h' =>
    h'.modVcl)).each (fun _ _ h' => h'.endPreArm)).wr).mk).resetState).keepRegs).wipe).wr).wr).flag).tripEvalAll

theorem resetRelease (h : Canonical s) : Canonical s.resetRelease :=
  .ite h (.both h.mk.flag.syncSource (fun h1 => h1.mk) (fun h1 => ((h1.mk.each (fun _ _ h' => h'.emit.emit)).each (fun _ _ h' =>
    .ite h'.fence (.ite h'.fence (.ite h'.fence h')))).each (fun _ _ h' => .ite h'.alertOn h')))

theorem standbyRelease (h : Canonical s) : Canonical s.standbyRelease := .ite h.mk.modClkGen h

theorem startupOn (h : Canonical s) : Canonical s.startupOn := by
  unfold State.startupOn
  split
  · exact .ite h h.advance.modRgc.seqOn
  · exact h

theorem p12vLoss (h : Canonical s) : Canonical s.p12vLoss := .ite h (h.advance.modRgc.each (fun _ _ h' => .ite h'.alertOn h'))

theorem p12vReturn (h : Canonical s) : Canonical s.p12vReturn :=
  .ite h.modRgc (h.modRgc.each (fun _ _ h' => .ite h' h'.alertOff))

theorem scanExit (h : Canonical s) {ir} : Canonical (s.scanExit ir) :=
  .opt (h.mk.each (fun _ _ h' => .ite h'.emit h')) fun h1 => h1.wipe.flag

theorem standbyLoss (h : Canonical s) : Canonical s.standbyLoss := h.mk.keepRegs

/-! The operations of Machine/HostCtl.lean. -/

theorem govEnable (h : Canonical s) : Canonical s.govEnable := .ite h h.flag.flag.wr.wr.modGov

theorem recallCheck (h : Canonical s) {d} : Canonical (s.recallCheck d) :=
  .ite h (.both h.modGovDie (fun h1 => h1.sendSeam) (fun h1 => h1.sendSeam))

theorem govDisable (h : Canonical s) : Canonical s.govDisable :=
  .ite h.modGov (h.flag.flag.modGov.when (fun _ h' => h'.each (fun _ _ h'' => h''.recallCheck)))

theorem queueEnable (h : Canonical s) {q d} : Canonical (s.queueEnable q d) :=
  .ite h h.flag.wr.wr.flag.wr.modQueue.setQState.doorbell

theorem queueDisable (h : Canonical s) {q} : Canonical (s.queueDisable q) := .ite h.flag h.flag.setQState

theorem queueDrained (h : Canonical s) {q} : Canonical (s.queueDrained q) :=
  .ite (.ite h.setQState (.ite h.modQueue.setQState h)) h

theorem completionWrite (h : Canonical s) {q ok} : Canonical (s.completionWrite q ok) := by
  unfold State.completionWrite
  split
  · exact h
  · exact .ite (.ite h.setQState h) (.ite h.modQueue.queueError (.fetchNext (.opt (.modQueue (.count (.count (.ite h.emit.wr
      h.emit.wr.flag)))) (fun h1 => h1.signalQueue))))

theorem coalesce (h : Canonical s) {q} : Canonical (s.coalesce q) := .ite h h.advance.signalQueue

theorem maskWrite (h : Canonical s) {v m} : Canonical (s.maskWrite v m) := .ite h.flag.flag.sendMessage h.flag

theorem evtClear (h : Canonical s) {k} : Canonical (s.evtClear k) := h.flag.wr

theorem badAccess (h : Canonical s) {off size write} : Canonical (s.badAccess off size write) :=
  .ite (.ite h h.emit) (.ite h (.optNot h.wr.wr.flag.raise (fun h1 => h1.emit)))

theorem resetGo (h : Canonical s) {who} : Canonical (s.resetGo who) := .ite h.flag.mk h

/-! The operations of Machine/Vcl.lean. -/

theorem receive (h : Canonical s) {x e f} {g : State → State} (hg : ∀ u, Canonical u → Canonical (g u)) :
    Canonical (s.receive x e f g) :=
  .ite h (.ite (by
    split
    · exact hg _ h.advance.modSide.modSide
    · exact h) h.modSide.modSide.count)

theorem serveVset (h : Canonical s) {l seq mv} : Canonical (s.serveVset l seq mv) := h.setTarget.modLoop.flag

theorem sendVack (h : Canonical s) {l v} : Canonical (s.sendVack l v) := h.sendVcl

theorem takeVset (h : Canonical s) {l seq mv} : Canonical (s.takeVset l seq mv) :=
  .ite (.ite h (by
    split
    · exact .ite h.sendVack h.serveVset
    · exact h.serveVset)) (.ite h.modLoop h.sendVcl)

theorem vset (h : Canonical s) {x f} : Canonical (s.vset x f) :=
  .ite h (by
    split
    · exact h
    · exact .ite (.optNot h.stopFf.endPreArm (fun h1 => h1.takeVset)) h.takeVset)

theorem vsetEnded (h : Canonical s) {x f} : Canonical (s.vsetEnded x f) := h.each fun _ _ h' => h'.modTx

theorem vack (h : Canonical s) {x f} : Canonical (s.vack x f) :=
  .ite h (by
    split
    · exact h.vsetEnded
    · exact .ite h (.lowerVoltage (.modClk (.flag (.modTx (.ite h.setVack h))))))

theorem cuffFrame (h : Canonical s) {x causes} : Canonical (s.cuffFrame x causes) := by
  unfold State.cuffFrame
  split
  · exact h
  · exact h.rgcCauses

theorem preArmFrame (h : Canonical s) {x f} : Canonical (s.preArmFrame x f) :=
  .ite h (by
    split
    · exact h
    · exact .ite h.armHints h.unarm)

theorem vnak (h : Canonical s) {x f} : Canonical (s.vnak x f) :=
  .ite h (by
    split
    · exact h.vsetEnded
    · exact .ite h.raiseFails h)

theorem voltageReached (h : Canonical s) {l} : Canonical (s.voltageReached l) := by
  unfold State.voltageReached
  extract_lets
  split
  · exact .ite h.sendVack.modLoop.flag h
  · exact h

theorem vsetRepeat (h : Canonical s) {l} : Canonical (s.vsetRepeat l) := by
  unfold State.vsetRepeat
  extract_lets
  split
  · exact .ite h.advance.modTx.sendVcl h.advance.modTx
  · exact h

theorem idleSend (h : Canonical s) {x e} : Canonical (s.idleSend x e) :=
  .ite h (by
    extract_lets
    split
    · exact h.advance.sendVcl
    · split
      · exact h.advance.sendVcl
      · exact h.advance)

theorem goDown (h : Canonical s) {x e} : Canonical (s.goDown x e) := by
  unfold State.goDown
  refine .ite h ?_
  extract_lets s1 s2 s3
  have h1 : Canonical s1 := h.modSide.modVcl
  split
  · split
    · exact h1.dropHints
    · exact h1
  · have h3 : Canonical s3 := h1.clrMask.count.raise.each fun _ _ h' => h'.endPreArm
    split
    · exact h3.place.modVcl
    · exact h3

theorem vclDown (h : Canonical s) {x e} : Canonical (s.vclDown x e) := .ite h.goDown (.goDown (.ite h.advance h))

theorem vclRetrain (h : Canonical s) {x} : Canonical (s.vclRetrain x) := .ite h h.advance.goDown.goDown.modVcl

theorem askNominal (h : Canonical s) {l} : Canonical (s.askNominal l) := h.newVset

theorem followNominal (h : Canonical s) {x} : Canonical (s.followNominal x) := .ite h (h.each (fun _ _ h' => h'.askNominal))

theorem firstVset (h : Canonical s) {x} : Canonical (s.firstVset x) := by
  unfold State.firstVset
  split
  · exact h.askVoltage
  · exact h.each (fun _ _ h' => h'.askNominal)

theorem retrainEnd (h : Canonical s) {x ok} : Canonical (s.retrainEnd x ok) :=
  .ite h (.ite (.ite h.modVcl.setMask.firstVset (by
    extract_lets
    split
    · exact h.modVcl.setMask.raise.retarget
    · exact h.modVcl.setMask.raise.followNominal)) (.ite h.modVcl (by
    extract_lets
    split
    · exact h.modVcl.setMask.raise.fence
    · exact h.modVcl.setMask.raise)))

theorem deadClear (h : Canonical s) {mask} : Canonical (s.deadClear mask) := (h.each (fun _ _ h' => .ite h'.modVcl h')).clrMask

/-! The operations of Machine/RegWrite.lean. -/

theorem putField (h : Canonical s) {who x f} : Canonical (s.putField who x f) :=
  .ite h (by
    split
    · exact h
    · exact h
    · exact h
    · exact h.writeLimit
    · exact .ite h h.writeLimit
    · exact .ite h.writeCeiling h
    · exact h.clrMask)

theorem putFields (h : Canonical s) {who hit x but} : Canonical (s.putFields who hit x but) := h.each fun _ _ h' => h'.putField

theorem anyDoorbell (h : Canonical s) : Canonical s.anyDoorbell.2 := h.draw.draw.draw

theorem anyWords (h : Canonical s) {n} : Canonical (State.anyWords n s).2 := h.foldl_snd fun _ _ h' => h'.draw

theorem anyCore (h : Canonical s) : Canonical s.anyCore.2 := by
  unfold State.anyCore
  split
  rename_i heq
  split
  rename_i heq'
  split
  rename_i heq''
  exact ((h.anyWords.snd heq).anyWords.snd heq').anyWords.snd heq''

theorem startedNow (h : Canonical s) {p} : Canonical (s.startedNow p) := h.startedWrite

theorem writeFront (h : Canonical s) {who hit x} : OptCanonical (s.writeFront who hit x) :=
  .if_some h.costSwap <|
  .if_some h.fenceReq.lift <|
  .if_some (.ite h.retrainWrite h) <|
  .if_some h.putFields.minVer <|
  .if_some h.putFields.jobRequest <|
  .if_some (((h.putFields.when (fun _ h' => h'.ltAccRead)).when (fun _ h' => h'.ltAccAsk)).when (fun _ h' => h'.ltAccAsk)) <|
  .if_some (h.putFields.when (fun _ h' => h'.clkReturn)) <|
  .if_some (h.putFields.when (fun _ h' => h'.fmcStart)) <|
  .if_some (.ite h.flag.modHold h) <|
  .if_some (h.each (fun _ _ h' => .ite h' h'.gateWrite)) <|
  .if_some h.putFields.droopSync.droopCheck.droopBegin <|
  .if_some h.droopReadmit <|
  .of_none

theorem writeRgc (h : Canonical s) {who hit x} : OptCanonical (s.writeRgc who hit x) :=
  .if_some h.putFields.keepRegs.modLoop <|
  .if_some h.putFields.followNominal <|
  .if_some h.deadClear <|
  .if_some (h.when (fun _ h' => h'.flag)) <|
  .if_some (.optNot h.refNow.putFields (fun h1 => h1.syncOff)) <|
  .if_some (.both h.putFields (fun h1 => h1.seqOn) (fun h1 => h1.when (fun _ h' => h'.seqOff))) <|
  .if_some h.putFields.alertFollows <|
  .if_some (h.putFields.when (fun _ h' => h'.senseRetry)) <|
  .if_some (.optNot (h.putFields.when fun _ h' => h'.latchClear) fun h1 => .ite (.ite h1 h1.park) h1.flag.showHalt.showSeq) <|
  .if_some (h.putFields.when (fun _ h' => h'.calStart)) <|
  .if_some (h.when (fun _ h' => h'.flag)) <|
  .if_some (h.when (fun _ h' => h'.readmit)) <|
  .of_none

theorem writeThmSen (h : Canonical s) {who hit x} : OptCanonical (s.writeThmSen who hit x) :=
  .if_some ((h.putFields.when (fun _ h' => h'.flag)).when (fun _ h' => h'.calAsk)) <|
  .if_some (h.putFields.when (fun _ h' => h'.tripTestStart)) <|
  .if_some h.diodeReadmit <|
  .if_some (.ite h.tripMask h) <|
  .ite (.if_some h.putFields <| .of_some (h.putFields.when (fun _ h' => h'.testReq))) <|
  .if_some h.putFields.verifyNext <|
  .if_some ((h.putFields.when (fun _ h' => h'.retractAck)).when (fun _ h' => h'.abortClear)) <|
  .if_some (h.when (fun _ h' => h'.expelledClear)) <|
  .if_some ((h.when (fun _ h' => h'.clearVstep)).when (fun _ h' => h'.clearClusters)) <|
  .if_some (h.putFields.when (fun _ h' => h'.slotRetire)) <|
  .of_none

theorem writeCas (h : Canonical s) {who hit x} : OptCanonical (s.writeCas who hit x) :=
  .if_some (((h.putFields.when (fun _ h' => h'.requestSched)).when (fun _ h' => h'.requestSched)).when (fun _ h' =>
    h'.requestSched)) <|
  .if_some (.both h.putFields (fun h1 => h1.choose) (fun h1 => h1.joinWritten)) <|
  .if_some (.optNot h.putFields (fun h1 => h1.modCas)) <|
  .if_some h.putFields.syncSteer <|
  .if_some h.objCfg <|
  .if_some h.objWrite <|
  .if_some (h.putFields.when (fun _ h' => h'.barrierArrive)) <|
  .if_some (h.when (fun _ h' => h'.hostCast)) <|
  .of_none

theorem writeHost (h : Canonical s) {who hit x} : OptCanonical (s.writeHost who hit x) :=
  .if_some (.ite h h.putFields) <|
  .if_some (.both h.putFields (fun h1 => .ite h1 h1.anyDoorbell.queueEnable) (fun h1 => .ite h1.queueDisable h1)) <|
  .if_some (.ite h (.ite h.govEnable h.govDisable)) <|
  .if_some ((h.when (fun _ h' => h'.resetGo)).putFields) <|
  .if_some h.maskWrite <|
  .if_some (h.putFields.when (fun _ h' => h'.evtClear)) <|
  .of_none

theorem writeV2 (h : Canonical s) {who hit x} : Canonical (s.writeV2 who hit x) := .ite h h.putFields

theorem writeMgt (h : Canonical s) {who hit x} : OptCanonical (s.writeMgt who hit x) :=
  .if_some (.ite h.putFields h) <|
  .if_some (((((h.when (fun _ h' => h'.mailboxGo)).when (fun _ h' => h'.mailboxDone)).when (fun _ h' => h'.mailboxAbort)).when
    (fun _ h' => h'.mailboxNote)).msgWaiters) <|
  .if_some h.writeV2 <|
  .if_some (.ite h.putFields h) <|
  .if_some ((h.when (fun _ h' => h'.startedNow)).when (fun _ h' => h'.plpReady)) <|
  .if_some ((h.when (fun _ h' => h'.anyCore.restartGo)).putFields) <|
  .if_some (.when (.ite h.putFields h) (fun _ h' => h'.watchdogKick)) <|
  .ite (.if_some h <| .of_some (h.putFields.when (fun _ h' => h'.stampRequest))) <|
  .if_some (.ite h.putFields h) <|
  .of_none

theorem writeRec (h : Canonical s) {who hit x} : OptCanonical (s.writeRec who hit x) :=
  .if_some (h.putFields.when (fun _ h' => h'.flag)) <|
  .ite (.if_some ((h.when (fun _ h' => h'.eraseGo)).putFields) <| .of_some h) <|
  .if_some ((h.putFields.when (fun _ h' => h'.triggerFire)).when (fun _ h' => h'.thawRequest)) <|
  .if_some h.ringSelect <|
  .if_some h.putFields.traceEnable <|
  .if_some (.ite h.putFields h) <|
  .if_some (h.when (fun _ h' => h'.updateConfirm)) <|
  .of_none

theorem writeReg (h : Canonical s) {who hit x} : Canonical (s.writeReg who hit x) :=
  .ite h (.when (OptCanonical.getD (.orElse h.writeFront (.orElse h.writeRgc (.orElse h.writeThmSen (.orElse h.writeCas
    (.orElse h.writeHost (.orElse h.writeMgt h.writeRec)))))) h.putFields) fun _ h' => h'.each fun _ _ h'' => h''.showArm)

theorem busWrite (h : Canonical s) {who off v wide} : Canonical (s.busWrite who off v wide) := by
  unfold State.busWrite
  split
  · exact .ite h.writeReg (.ite (by
        split
        · exact h.writeReg.writeReg
        · exact h.writeReg) h.writeReg)
  · exact .ite (by
        split
        · exact h.writeReg
        · exact h) h

theorem unlatch (h : Canonical s) {who} : Canonical (s.unlatch who) := by
  unfold State.unlatch
  split
  · exact h
  · exact h.modProc
  · exact h.modProc
  · exact h.modProc

theorem freshRead (h : Canonical s) {p off} : Canonical (s.freshRead p off) :=
  .emit (by
    split
    · exact .ite h.modProc h
    · exact h)

theorem latchRead (h : Canonical s) {p off} : Canonical (s.latchRead p off) := by
  unfold State.latchRead
  split
  · exact .ite h.modProc.emit h.modProc.freshRead
  · exact h.freshRead

/-! The operations of Machine/Host.lean. -/

theorem doorbellWatch (h : Canonical s) {q d} : Canonical (s.doorbellWatch q d) := .ite h.doorbell h

theorem doorbellPoll (h : Canonical s) {l} : Canonical (s.doorbellPoll l) :=
  h.advance.mk.each (fun _ _ h' => by
    split
    · exact .ite h' (.doorbell (.ite h'.count.raiseOnce h'))
    · exact h')

theorem descriptorFetch (h : Canonical s) {q d} : Canonical (s.descriptorFetch q d) :=
  .ite h (by
    split
    · exact h.queueError
    · exact .both h.wr.modQueue (fun h1 => h1.startNext) (fun h1 => h1.finish))

theorem asCmd (h : Canonical s) {q opc ok} {g : Desc → State → State} (hg : ∀ a0 u, Canonical u → Canonical (g a0 u)) :
    Canonical (s.asCmd q opc ok g) := by
  unfold State.asCmd
  split
  · exact h
  · exact .ite (hg _ _ h) h.finish

theorem await (h : Canonical s) {q w} : Canonical (s.await q w) := h.modQueue

theorem nopCmd (h : Canonical s) {q} : Canonical (s.nopCmd q) := h.asCmd fun _ _ h' => h'.finish

theorem snapshotCmd (h : Canonical s) {q offs ok} : Canonical (s.snapshotCmd q offs ok) := h.asCmd fun _ _ h' => h'.emit.finish

theorem applyWrites (h : Canonical s) {l} : Canonical (s.applyWrites l).1 := h.foldl_fst fun _ _ h' => h'.busWrite

theorem doWrites (h : Canonical s) {q l} : Canonical (s.doWrites q l) := h.applyWrites.finish

theorem writeSetCmd (h : Canonical s) {q pairs ok} : Canonical (s.writeSetCmd q pairs ok) :=
  h.asCmd fun _ _ h' => .ite h'.await h'.doWrites

theorem ltReadCmd (h : Canonical s) {q ok} : Canonical (s.ltReadCmd q ok) := h.asCmd fun _ _ h' => h'.await

theorem ltWriteCmd (h : Canonical s) {q entries ok} : Canonical (s.ltWriteCmd q entries ok) := h.asCmd fun _ _ h' => h'.await

theorem loadBank (h : Canonical s) {d ws} : Canonical (s.loadBank d ws) := h.each fun _ _ h' => h'.wr.wr.wr.wr

theorem costLoadCmd (h : Canonical s) {q ws ok} : Canonical (s.costLoadCmd q ws ok) :=
  h.asCmd (fun _ _ h' => .both (h'.each (fun _ _ h'' => .ite h''.loadBank h'')) (fun h1 => h1.costSwap.await) (fun h1 =>
    h1.finish))

theorem jobStartCmd (h : Canonical s) {q} : Canonical (s.jobStartCmd q) :=
  h.asCmd (fun _ _ h' => .ite h' (.both h'.wr.jobRequest (fun h1 => h1.finish) (fun h1 => h1.await)))

theorem jobStopCmd (h : Canonical s) {q} : Canonical (s.jobStopCmd q) :=
  h.asCmd (fun _ _ h' => .ite h' (.both h'.jobRequest (fun h1 => h1.await) (fun h1 => h1.finish)))

theorem msgCmd (h : Canonical s) {q ws acc} : Canonical (s.msgCmd q ws acc) := h.asCmd fun _ _ h' => h'.await.msgTake

theorem recReadCmd (h : Canonical s) {q ok} : Canonical (s.recReadCmd q ok) := h.asCmd fun _ _ h' => h'.emit.finish

theorem meterReadCmd (h : Canonical s) {q ok} : Canonical (s.meterReadCmd q ok) := h.asCmd fun _ _ h' => h'.emit.finish

theorem boundaryWrites (h : Canonical s) : Canonical s.boundaryWrites :=
  h.each fun _ _ h' => by
    split
    · exact h'.doWrites
    · exact h'

theorem boundaryTable (h : Canonical s) : Canonical s.boundaryTable :=
  (h.each (fun _ _ h' => by
    split
    · exact (h'.each (fun _ _ h'' => .ite h''.setEntry h'')).finish
    · exact h')).each fun _ _ h' => by
    split
    · exact h'.emit.finish
    · exact h'

theorem boundarySwaps (h : Canonical s) : Canonical s.boundarySwaps :=
  h.each fun _ _ h' => by
    split
    · exact .ite h'.finish h'
    · exact h'

theorem boundaryJobs (h : Canonical s) {started stopped} : Canonical (s.boundaryJobs started stopped) :=
  h.each fun _ _ h' => by
    split
    · exact .ite h'.finish h'
    · exact .ite h'.finish h'
    · exact h'

/-! The operations of Machine/Proc.lean. -/

theorem noteFailure (h : Canonical s) {p addr kind} : Canonical (s.noteFailure p addr kind) := h.modProc.flag

theorem busStore (h : Canonical s) {who off v size} : Canonical (s.busStore who off v size) :=
  .ite h.busWrite (by
    split
    · exact h.writeReg
    · exact h)

theorem storeTo (h : Canonical s) {p e} : Canonical (s.storeTo p e) :=
  .ite h.unlatch.busStore (.ite h.setRam (.ite h.setLong (.ite h.setKey h)))

theorem drainFirst (h : Canonical s) {p} : Canonical (s.drainFirst p) := by
  unfold State.drainFirst
  split
  · exact h
  · extract_lets
    split
    · exact (h.modProc.when (fun _ h' => h'.advance)).noteFailure
    · exact h.modProc.storeTo

theorem drainAll (h : Canonical s) {p} : Canonical (s.drainAll p) := h.each fun _ _ h' => h'.drainFirst

theorem retire (h : Canonical s) {p e} : Canonical (s.retire p e) := .modProc (.ite h.drainFirst h)

theorem storeFailure (h : Canonical s) {p addr kind flash} : Canonical (s.storeFailure p addr kind flash) :=
  .ite h (by
    split
    · exact h
    · extract_lets
      split
      · exact h.each (fun _ _ h' => h'.drainFirst)
      · extract_lets
        split
        · exact ((h.each (fun _ _ h' => h'.drainFirst)).modProc).noteFailure
        · exact ((h.each (fun _ _ h' => h'.drainFirst)).modProc).storeTo)

theorem takeFault (h : Canonical s) {p pc cause addr} : Canonical (s.takeFault p pc cause addr) := h.modProc.drainAll

theorem accessFault (h : Canonical s) {p pc cause addr info} : Canonical (s.accessFault p pc cause addr info) :=
  h.modProc.raise.takeFault

theorem reportStore (h : Canonical s) {p pc} {go : State → State} (hgo : ∀ u, Canonical u → Canonical (go u)) :
    Canonical (s.reportStore p pc go) := by
  unfold State.reportStore
  split
  · exact h.modProc.flag.accessFault
  · exact hgo _ h

theorem atOrder (h : Canonical s) {p pc} {go : State → State} (hgo : ∀ u, Canonical u → Canonical (go u)) :
    Canonical (s.atOrder p pc go) :=
  h.drainAll.reportStore hgo

theorem loadWord (h : Canonical s) {p a} : Canonical (s.loadWord p a).2 := .ite_snd h (.ite_snd h (.ite_snd h h.draw))

theorem load (h : Canonical s) {p pc a size err} : Canonical (s.load p pc a size err) :=
  .ite h.takeFault (by
    split
    · exact h.accessFault
    · exact .ite (.ite h.latchRead h.unlatch.emit) h.loadWord.emit)

theorem amo (h : Canonical s) {p pc a leaves} : Canonical (s.amo p pc a leaves) :=
  .ite h.takeFault (by
    extract_lets
    split
    · exact h.emit.setRam
    · exact h.emit)

theorem store (h : Canonical s) {p pc a v size} : Canonical (s.store p pc a v size) :=
  .ite h.takeFault (.ite h.storeTo h.retire)

theorem orderingPoint (h : Canonical s) {p pc op} : Canonical (s.orderingPoint p pc op) :=
  .ite h (by
    split
    · exact h.atOrder (fun _ h' => h')
    · exact .ite (h.atOrder (fun _ h' => h'.load)) h.load
    · exact .ite (h.atOrder (fun _ h' => h'.amo)) h.takeFault
    · exact h.store
    · exact .ite h h.takeFault
    · exact h.drainAll
    · exact h.pmpWrite)

theorem turn (h : Canonical s) {who} : Canonical (s.turn who) := by
  unfold State.turn
  split
  · exact h.drainAll.unlatch
  · exact h

theorem initWrite (h : Canonical s) {who off v wide} : Canonical (s.initWrite who off v wide) := by
  unfold State.initWrite
  split
  · exact h.busWrite
  · exact .ite h.turn (.ite h.turn.advance.noteFailure h.turn.busWrite)

theorem orderedRead (h : Canonical s) {p off} : Canonical (s.orderedRead p off) :=
  .both h.drainAll (fun h1 => h1.draw.reportStore (fun _ h' => h')) fun h1 => h1.latchRead

theorem drainStore (h : Canonical s) {p e final} : Canonical (s.drainStore p e final) := by
  unfold State.drainStore
  split
  · exact h.storeTo
  · exact h.noteFailure
  · exact h.noteFailure

theorem drainEnd (h : Canonical s) {p states} : Canonical (s.drainEnd p states) := by
  unfold State.drainEnd
  split
  · exact ((((h.each (fun _ _ h' => h'.drainStore)).each (fun _ _ h' => h'.wr)).raiseIf).modProc).wipeSram
  · exact h

theorem drainStopped (h : Canonical s) : Canonical s.drainStopped := h.each (fun _ _ h' => h'.when (fun _ h'' => h''.drainAll))

theorem startedTurn (h : Canonical s) {p c0 c1 c2 c3} : Canonical (s.startedTurn p c0 c1 c2 c3) :=
  h.turn.startedWrite.when fun _ h' => h'.plpFirst

/-! The operations of Machine/Stroke.lean. -/

theorem applySlots (h : Canonical s) {d} : Canonical (s.applySlots d) := .ite h (((h.each (fun _ _ h' => h'.modAdm)).modAdm).wr)

theorem gateStroke (h : Canonical s) {d} : Canonical (s.gateStroke d) :=
  h.each fun _ _ h' => by
    split
    · exact .ite h' h'.setGate
    · exact h'.setGate
    · exact h'.setGate
    · exact h'

theorem cuffRelease (h : Canonical s) {d k} : Canonical (s.cuffRelease d k) :=
  .ite h (.ite h.modAdm (.modAdm (.flag (.optNot (.ite h.modAdm h.modAdm.emit) (fun h1 => h1.each (fun _ _ h' =>
    h'.ringSite))))))

theorem dropDue (h : Canonical s) {d window} : Canonical (s.dropDue d window) := h.modAdm

theorem applyCmd (h : Canonical s) {d pool ratio} : Canonical (s.applyCmd d pool ratio) :=
  .opt h.modAdm.modClk fun h1 => h1.report

theorem applyReductions (h : Canonical s) {d} : Canonical (s.applyReductions d) :=
  (h.dropDue.each (fun _ _ h' => by
    split
    · exact h'.applyCmd.retarget
    · exact h')).applyPool

theorem issueGrants (h : Canonical s) {d} : Canonical (s.issueGrants d) :=
  .modAdm (.countDie (.each (.ite h h.emit) (fun _ _ h' => by
    split
    · exact h'.ringSite.modAdm
    · exact h')))

theorem sampleAndScan (h : Canonical s) {d reqs cap} : Canonical (s.sampleAndScan d reqs cap) :=
  .opt (((((((h.each (fun _ _ h' => h'.raiseOnce.ringSite)).when (fun _ h' => h'.countDie)).wr).wr).wr).flag).modAdm) fun h1 =>
    h1.endActive

theorem price (h : Canonical s) {d} : Canonical (s.price d) := h.modClk.modClk

theorem strokeDie (h : Canonical s) {d reqs k} : Canonical (s.strokeDie d reqs k) := by
  unfold State.strokeDie
  exact h.applySlots.gateStroke.cuffRelease.applyReductions.issueGrants.price.sampleAndScan

theorem paceShort (h : Canonical s) : Canonical s.paceShort :=
  .ite h (by
    split
    · exact h.raiseOnce.count
    · exact h)

theorem mean16 (h : Canonical s) {l m} : Canonical (s.mean16 l m) := .ite h.modLoop.modLoop.wr h.modLoop

theorem meanLoop (h : Canonical s) {l ms} : Canonical (s.meanLoop l ms) :=
  .opt ((h.each (fun _ _ h' => h'.mean16)).modLoop) fun h1 => h1.tel.tel

theorem strokeMeans (h : Canonical s) {means} : Canonical (s.strokeMeans means) := .ite (h.each (fun _ _ h' => h'.meanLoop)) h

theorem lateStrokes (h : Canonical s) {reqs} : Canonical (s.lateStrokes reqs) := h.each fun _ _ h' => .ite h'.strokeDie h'

theorem strokeBoundary (h : Canonical s) {reqs means} : Canonical (s.strokeBoundary reqs means) :=
  .ite (h.mk.strokeMeans.when (fun _ h' => h'.lateStrokes)) (.optNot h.mk.strokeMeans (fun h1 => (h1.each (fun _ _ h' => .ite h'
    h'.strokeDie)).paceShort))

theorem seamSettings (h : Canonical s) {x edge nav window b} : Canonical (s.seamSettings x edge nav window b) := by
  unfold State.seamSettings
  split
  · exact h
  · exact .both (.ite h.cuffOne h) (fun h1 => h1.report) (fun h1 => h1.modAdm)

theorem seamEdge (h : Canonical s) {x edge g} : Canonical (s.seamEdge x edge g) := by
  unfold State.seamEdge
  split
  · exact .ite h.report h.modSeam
  · exact h

theorem seamAct (h : Canonical s) {x c} : Canonical (s.seamAct x c) := by
  unfold State.seamAct
  split
  · exact h.seamSettings
  · exact h.seamSettings
  · exact h.rgcCauses
  · exact h.demandArrive
  · exact h.calStepArrive
  · exact h.modAdm
  · exact h.modAdm
  · exact h.emit
  · exact h.seamEdge
  · exact h.seamEdge
  · exact h

theorem seamWatch (h : Canonical s) {x lat} : Canonical (s.seamWatch x lat) := .ite h.modSeam.seamGoDown h.modSeam

theorem seamCommand (h : Canonical s) {x lat c} : Canonical (s.seamCommand x lat c) := by
  unfold State.seamCommand
  split
  · exact h
  · exact .opt (.optNot h.advance.modSeam (fun h1 => h1.seamAct)) (fun h1 => h1.seamWatch)

theorem paceStart (h : Canonical s) : Canonical s.paceStart := by
  unfold State.paceStart
  split
  · exact h
  · exact h.advance.toStroke.mk.wr.wr.flag

/-! The operations of Machine/Window.lean. -/

theorem telLoop (h : Canonical s) {l} : Canonical (s.telLoop l) := .modLoop (.ite h.tel.tel h.tel.tel.tel.tel.tel)

theorem copyBank (h : Canonical s) {d} : Canonical (s.copyBank d) := h.each fun _ _ h' => h'.wr.wr.wr.wr

theorem swapBanks (h : Canonical s) : Canonical s.swapBanks := ((h.each (fun _ _ h' => .ite h'.copyBank h')).wr).boundarySwaps

theorem checkStep (h : Canonical s) : Canonical s.checkStep :=
  .ite h (by
    split
    · exact h.modGov
    · exact h.flag.flag.wr.wr.modGov.raise
    · exact h.flag.flag.modGov.raise)

theorem endJob (h : Canonical s) : Canonical s.endJob := h.wr.flag.modGov

theorem disableStep (h : Canonical s) : Canonical s.disableStep :=
  .ite h (.raise (.flag (.flag (.opt (h.modGov.each (fun _ _ h' => h'.announceFall.modGovDie.sendSeam)) (fun h1 => h1.flag)))))

theorem railWindow (h : Canonical s) {l} : Canonical (s.railWindow l) := .wr (.modRail (.ite h.raiseOnce.count h))

theorem railEnergy (h : Canonical s) {l} : Canonical (s.railEnergy l) := h.modRail.wr

theorem jobEnergy (h : Canonical s) : Canonical s.jobEnergy :=
  .ite h (by
    extract_lets
    split
    · exact h.modGov.wr.wr)

theorem burstStep (h : Canonical s) : Canonical s.burstStep := h.wr.flag.modGov.raiseIf.raiseIf

theorem windowReports (h : Canonical s) {acts} : Canonical (s.windowReports acts) :=
  h.mk.each (fun _ _ h' => by
    extract_lets
    split
    · exact .modAdm (.modClk (.modGovDie (.ite h'.report h')))
    · exact .ite h'.report h')

theorem windowTable (h : Canonical s) : Canonical s.windowTable :=
  .boundaryTable (.flag (.flag (.flag (.opt (.opt ((h.each (fun _ _ h' => h'.modeBoundary)).each (fun _ _ h' => h'.runBoundary))
    (fun h1 => h1.each (fun _ _ h' => h'.setEntry))) (fun h1 => h1.setEntry)))))

theorem capRise (h : Canonical s) {l} : Canonical (s.capRise l) := by
  unfold State.capRise
  extract_lets
  split
  · exact .ite h.wr (.ite h.wr.withdraw h.wr.modGovDie)
  · exact h.wr

theorem windowReleases (h : Canonical s) : Canonical s.windowReleases :=
  ((h.each (fun _ _ h' => h'.capRise)).each (fun _ _ h' => .ite h'.modVcl.withdraw h')).each (fun _ _ h' => h'.each
    (fun _ _ h'' => h''.withdraw))

theorem windowSettings (h : Canonical s) {d} : Canonical (s.windowSettings d) :=
  (h.dropDue.each (fun _ _ h' => by
    split
    · exact .showArm (.retarget (.opt h'.applyCmd.wr.modAdm (fun h1 => h1.flag)))
    · exact h')).applyPool

theorem windowCuff (h : Canonical s) {d} : Canonical (s.windowCuff d) := h.modAdm

theorem windowDroop (h : Canonical s) {d} : Canonical (s.windowDroop d) := h.raiseIf.modClk

theorem startJob (h : Canonical s) : Canonical s.startJob :=
  ((((h.wr.wr.wr.wr.wr.wr.modGov.each (fun _ _ h' => h'.modSenDie)).modSen).setVerified).wr).flag

theorem windowJob (h : Canonical s) : Canonical s.windowJob :=
  ((((h.when (fun _ h' => h'.startJob)).when (fun _ h' => h'.endJob)).flag).flag).boundaryJobs

theorem traceDie (h : Canonical s) {d} : Canonical (s.traceDie d) := by
  unfold State.traceDie
  split
  · exact h
  · exact h.trace

theorem traceRail (h : Canonical s) {l} : Canonical (s.traceRail l) := h.trace

theorem windowTrace (h : Canonical s) : Canonical s.windowTrace :=
  ((h.traceAlways.each (fun _ _ h' => h'.traceDie)).each (fun _ _ h' => h'.traceRail)).traceWindow

theorem refreshFails (h : Canonical s) : Canonical s.refreshFails :=
  h.each (fun _ _ h' => h'.each (fun _ _ h'' => .ite h''.setFails h''))

theorem windowWork (h : Canonical s) {acts} : Canonical (s.windowWork acts) :=
  ((((((((((((h.count.checkStep.swapBanks.disableStep.each (fun _ _ h' => h'.railWindow)).each (fun _ _ h' =>
    h'.railEnergy)).jobEnergy).burstStep).windowReports).windowTable).windowReleases).each (fun _ _ h' =>
    h'.windowSettings.windowCuff.windowDroop)).each (fun _ _ h' =>
    h'.applyIntOpmax)).windowJob).boundaryWrites).refreshFails).windowTrace

theorem windowBoundary (h : Canonical s) {acts} : Canonical (s.windowBoundary acts) :=
  .ite (h.when (fun _ h' => h'.traceFrozen)) (.opt ((h.mk.each (fun _ _ h' => h'.telLoop)).each (fun _ _ h' => h'.relArm))
    (fun h1 => h1.windowWork))

end Canonical

/-- Every command answers a next state, whose window is in its canonical form where it was before. -/
theorem exec_canonical (c : Instr) (h : Canonical s) : ∃ t, exec c s = .next t ∧ Canonical t := by
  cases c with
  | windowBoundary _ => exact ⟨_, rfl, h.when fun _ h' => h'.windowBoundary⟩
  | windowDecision => exact ⟨_, rfl, h.when fun _ h' => h'.windowDecision⟩
  | strokeBoundary _ _ => exact ⟨_, rfl, h.when fun _ h' => h'.strokeBoundary⟩
  | seamCommandArrival _ _ _ => exact ⟨_, rfl, h.when fun _ h' => h'.seamCommand⟩
  | packageFreezeRequest => exact ⟨_, rfl, h.when fun _ h' => h'.freezeRequest⟩
  | packageFreezeEdge => exact ⟨_, rfl, h.when fun _ h' => h'.pkgFreezeEdge⟩
  | lateDieFreeze _ => exact ⟨_, rfl, h.when fun _ h' => h'.lateFreeze⟩
  | packageThawEdge => exact ⟨_, rfl, h.when fun _ h' => h'.pkgThawEdge.regattaHeld⟩
  | heavyAhead _ _ => exact ⟨_, rfl, h.hintWord⟩
  | opStart _ _ => exact ⟨_, rfl, h.hintWord⟩
  | opEnd _ _ => exact ⟨_, rfl, h.hintWord⟩
  | armTimeout _ => exact ⟨_, rfl, h.when fun _ h' => h'.armTimeout⟩
  | costSwap _ => exact ⟨_, rfl, h.when fun _ h' => h'.costSwap⟩
  | ltAccRead => exact ⟨_, rfl, h.when fun _ h' => h'.ltAccRead⟩
  | ltAccWrite => exact ⟨_, rfl, h.when fun _ h' => h'.ltAccAsk⟩
  | ltAccInvalAll => exact ⟨_, rfl, h.when fun _ h' => h'.ltAccAsk⟩
  | jobStart _ => exact ⟨_, rfl, h.when fun _ h' => h'.jobRequest⟩
  | jobStop _ => exact ⟨_, rfl, h.when fun _ h' => h'.jobRequest⟩
  | paceScheduleStart => exact ⟨_, rfl, h.when fun _ h' => h'.paceStart⟩
  | xtalAmplitudeGood => exact ⟨_, rfl, h.when fun _ h' => h'.modClkGen⟩
  | sourceMonitorGate _ => exact ⟨_, rfl, h.sourceGate⟩
  | pllLock => exact ⟨_, rfl, h.pllLock⟩
  | xtalProofTimeout => exact ⟨_, rfl, h.proofTimeout⟩
  | crystalEdgeLoss => exact ⟨_, rfl, h.edgeLoss⟩
  | pllLockLoss => exact ⟨_, rfl, h.lockLoss⟩
  | pllRelockTimeout => exact ⟨_, rfl, h.relockTimeout⟩
  | clkReturn => exact ⟨_, rfl, h.clkReturn⟩
  | dividerStep _ => exact ⟨_, rfl, h.when fun _ h' => h'.toEdge.divStep⟩
  | vclAckTimeout _ => exact ⟨_, rfl, h.when fun _ h' => h'.ackTimeout⟩
  | heldRelease _ => exact ⟨_, rfl, h.when fun _ h' => h'.flag.modHold⟩
  | clusterGateRequest _ _ _ => exact ⟨_, rfl, h.when fun _ h' => h'.gateWrite⟩
  | clusterClockStop _ _ => exact ⟨_, rfl, h.when fun _ h' => h'.clockStop⟩
  | clusterRestart _ _ => exact ⟨_, rfl, h.when fun _ h' => h'.clusterRestart⟩
  | droopAssert _ _ _ => exact ⟨_, rfl, h.when fun _ h' => h'.droopAssert⟩
  | droopThr2Cross _ _ _ => exact ⟨_, rfl, h.when fun _ h' => h'.droopThr2⟩
  | droopCuffCount _ _ => exact ⟨_, rfl, h.when fun _ h' => h'.droopCount⟩
  | droopClear _ _ _ => exact ⟨_, rfl, h.when fun _ h' => h'.droopClear⟩
  | droopRecovery _ => exact ⟨_, rfl, h.when fun _ h' => h'.droopRecover⟩
  | droopStuckLimit _ _ => exact ⟨_, rfl, h.when fun _ h' => h'.droopStuck⟩
  | droopReadmit _ _ => exact ⟨_, rfl, h.when fun _ h' => h'.droopReadmit⟩
  | fmcStart => exact ⟨_, rfl, h.fmcStart⟩
  | fmcGateEnd _ => exact ⟨_, rfl, h.fmcEnd⟩
  | switchingCycle _ _ => exact ⟨_, rfl, h.when (fun _ h' => h'.cycleEdge.cycleEnd.when (fun _ h'' => h''.cycleStart))⟩
  | firingRotation _ => exact ⟨_, rfl, h.when fun _ h' => h'.rotate⟩
  | syncLock _ => exact ⟨_, rfl, h.when fun _ h' => h'.syncLock⟩
  | syncInLoss => exact ⟨_, rfl, h.when fun _ h' => h'.syncLoss⟩
  | syncReturn _ => exact ⟨_, rfl, h.when fun _ h' => h'.syncReturn⟩
  | undershootCrossing _ _ _ => exact ⟨_, rfl, h.when fun _ h' => h'.undershoot⟩
  | undershootEnd _ _ _ => exact ⟨_, rfl, h.when fun _ h' => h'.undershootEnd⟩
  | overshootCrossing _ _ _ => exact ⟨_, rfl, h.when fun _ h' => h'.overshoot⟩
  | brakeEnd _ _ => exact ⟨_, rfl, h.when fun _ h' => h'.brakeEnd⟩
  | loadStepAnnounce _ _ _ _ => exact ⟨_, rfl, h.when (fun _ h' => h'.onBus (fun _ h'' => h''.announce))⟩
  | prearmReached _ => exact ⟨_, rfl, h.when fun _ h' => h'.preArmReached⟩
  | prearmExpiry _ => exact ⟨_, rfl, h.when fun _ h' => h'.preArmExpiry⟩
  | prearmRelease _ => exact ⟨_, rfl, h.when (fun _ h' => h'.onBus (fun _ h'' => h''.endPreArm))⟩
  | vset _ _ => exact ⟨_, rfl, h.receive fun _ h' => h'.vset⟩
  | ping _ _ => exact ⟨_, rfl, h.receive fun _ h' => h'⟩
  | vack _ _ => exact ⟨_, rfl, h.receive fun _ h' => h'.vack⟩
  | cuff _ _ => exact ⟨_, rfl, h.receive fun _ h' => .ite h'.cuffFrame h'⟩
  | prearm _ _ => exact ⟨_, rfl, h.receive fun _ h' => h'.preArmFrame⟩
  | vnak _ _ => exact ⟨_, rfl, h.receive fun _ h' => h'.vnak⟩
  | voltageReached _ => exact ⟨_, rfl, h.when fun _ h' => h'.voltageReached⟩
  | vsetRepeat _ => exact ⟨_, rfl, h.when fun _ h' => h'.vsetRepeat⟩
  | vclIdleSend _ _ => exact ⟨_, rfl, h.when fun _ h' => h'.idleSend⟩
  | vclDown _ _ => exact ⟨_, rfl, h.when fun _ h' => h'.vclDown⟩
  | vclRetrain _ => exact ⟨_, rfl, h.when fun _ h' => h'.vclRetrain⟩
  | vclRetrainEnd _ _ => exact ⟨_, rfl, h.when fun _ h' => h'.retrainEnd⟩
  | vclDeadClear _ => exact ⟨_, rfl, h.when fun _ h' => h'.deadClear⟩
  | loopApply _ => exact ⟨_, rfl, h.when fun _ h' => h'.flag⟩
  | rgcCuffCause _ _ _ => exact ⟨_, rfl, h.when fun _ h' => h'.cuffCause⟩
  | seqOn _ => exact ⟨_, rfl, h.when fun _ h' => h'.seqOn⟩
  | softStartBegin _ _ => exact ⟨_, rfl, h.when fun _ h' => h'.softStartBegin⟩
  | powerGood _ => exact ⟨_, rfl, h.when fun _ h' => h'.powerGood⟩
  | seqOff _ => exact ⟨_, rfl, h.when fun _ h' => h'.seqOff⟩
  | rampDownBegin _ => exact ⟨_, rfl, h.when fun _ h' => h'.drainStopped.rampDownBegin⟩
  | loopOff _ => exact ⟨_, rfl, h.when fun _ h' => h'.loopOff⟩
  | ssShortDetect _ => exact ⟨_, rfl, h.when fun _ h' => h'.ssShort⟩
  | ssRetry _ _ => exact ⟨_, rfl, h.when fun _ h' => h'.ssRetry⟩
  | shortLatchClear _ => exact ⟨_, rfl, h.when fun _ h' => h'.latchClear⟩
  | faultPark _ => exact ⟨_, rfl, h.when fun _ h' => h'.park⟩
  | phaseShortTrip _ _ => exact ⟨_, rfl, h.when fun _ h' => h'.shortTrip⟩
  | regulationShort _ => exact ⟨_, rfl, h.when fun _ h' => h'.regulationShort⟩
  | ovlFeather _ => exact ⟨_, rfl, h.when fun _ h' => h'.ovlFeather⟩
  | ovlTimerReset _ => exact ⟨_, rfl, h.when fun _ h' => h'.ovlReset⟩
  | ovlShutdown _ => exact ⟨_, rfl, h.when fun _ h' => h'.ovlShutdown⟩
  | ovlShutClear _ => exact ⟨_, rfl, h.when fun _ h' => h'.flag⟩
  | phaseRemoval _ _ => exact ⟨_, rfl, h.when fun _ h' => h'.phaseRemoval⟩
  | capabilityChange _ => exact ⟨_, rfl, h.when fun _ h' => h'.capChange⟩
  | phaseReadmit _ _ => exact ⟨_, rfl, h.when fun _ h' => h'.readmit⟩
  | phaseTrialEnd _ _ => exact ⟨_, rfl, h.when fun _ h' => h'.trialEnd⟩
  | remoteSenseLoss _ => exact ⟨_, rfl, h.when fun _ h' => h'.senseLoss⟩
  | senseRetry _ => exact ⟨_, rfl, h.when fun _ h' => h'.senseRetry⟩
  | senseRetryEnd _ => exact ⟨_, rfl, h.when fun _ h' => h'.senseRetryEnd⟩
  | bothSenseLoss _ => exact ⟨_, rfl, h.when fun _ h' => h'.senseBoth⟩
  | vrAlertAssert _ => exact ⟨_, rfl, h.when fun _ h' => h'.alertAssert⟩
  | vrAlertDeassert _ => exact ⟨_, rfl, h.when fun _ h' => h'.alertDeassert⟩
  | holdClear _ => exact ⟨_, rfl, h.when fun _ h' => h'.flag⟩
  | calStart _ => exact ⟨_, rfl, h.when fun _ h' => h'.calStart⟩
  | calPhaseReady _ => exact ⟨_, rfl, h.when fun _ h' => h'.calReady⟩
  | calDerateConfirmed _ => exact ⟨_, rfl, h.when fun _ h' => h'.calConfirmed⟩
  | calOffsetMeasure _ _ => exact ⟨_, rfl, h.when fun _ h' => h'.calOffset⟩
  | calGainTrim _ => exact ⟨_, rfl, h.when fun _ h' => h'.calGain⟩
  | calPhaseDefer _ => exact ⟨_, rfl, h.when fun _ h' => h'.calDefer⟩
  | thermalDemandTimer => exact ⟨_, rfl, h.when fun _ h' => h'.demandTimer⟩
  | demandNow => exact ⟨_, rfl, h.when fun _ h' => h'.flag⟩
  | demandIssue => exact ⟨_, rfl, h.when fun _ h' => h'.demandIssue⟩
  | thermalDemandArrival _ => exact ⟨_, rfl, h.when fun _ h' => h'.seamCommand⟩
  | conversionComplete _ _ => exact ⟨_, rfl, h.when fun _ h' => h'.convDone⟩
  | thmCalStart => exact ⟨_, rfl, h.when fun _ h' => h'.calAsk⟩
  | thmCalPeriod => exact ⟨_, rfl, h.when fun _ h' => h'.calPeriod⟩
  | thmCalStep => exact ⟨_, rfl, h.when fun _ h' => h'.calStepSend⟩
  | thmCalStepEnd _ => exact ⟨_, rfl, h.when fun _ h' => h'.calStepEnd⟩
  | diodeReadmit _ _ => exact ⟨_, rfl, h.when fun _ h' => h'.diodeReadmit⟩
  | tripComparatorAssert _ _ => exact ⟨_, rfl, h.junction⟩
  | tripLatch => exact ⟨_, rfl, h.tripLatch⟩
  | tripRecord => exact ⟨_, rfl, h.tripRecord⟩
  | tripIoRailsOff => exact ⟨_, rfl, h.tripIoOff⟩
  | tripMaskWrite _ _ => exact ⟨_, rfl, h.when fun _ h' => h'.tripMask⟩
  | tripTestStart => exact ⟨_, rfl, h.when fun _ h' => h'.tripTestStart⟩
  | tripTestEnd _ => exact ⟨_, rfl, h.when fun _ h' => h'.tripTestEnd⟩
  | rowcolFail _ => exact ⟨_, rfl, h.when fun _ h' => h'.rowcolFail⟩
  | cvMismatch _ => exact ⟨_, rfl, h.when fun _ h' => h'.cvMismatch⟩
  | poison _ => exact ⟨_, rfl, h.when fun _ h' => h'.poison⟩
  | weightCv _ => exact ⟨_, rfl, h.when fun _ h' => h'.weightCv⟩
  | stepEnd _ => exact ⟨_, rfl, h.when fun _ h' => h'.stepEnd⟩
  | testSig _ => exact ⟨_, rfl, h.when fun _ h' => h'.testSig⟩
  | senQueueOvf => exact ⟨_, rfl, h.when fun _ h' => h'.queueOvf⟩
  | senRecordSend => exact ⟨_, rfl, h.when fun _ h' => h'.sendRecord⟩
  | mapDone _ _ _ => exact ⟨_, rfl, h.when fun _ h' => h'.mapDone⟩
  | mapReady _ _ _ => exact ⟨_, rfl, h.when fun _ h' => h'.mapReady⟩
  | mapTimeout _ _ _ => exact ⟨_, rfl, h.when fun _ h' => h'.mapTimeout⟩
  | marginClrVstep _ => exact ⟨_, rfl, h.when fun _ h' => h'.clearVstep⟩
  | marginClrCluster _ _ => exact ⟨_, rfl, h.when fun _ h' => h'.clearClusters⟩
  | selfTestPeriod => exact ⟨_, rfl, h.when fun _ h' => h'.testPeriod⟩
  | testReqStart _ _ => exact ⟨_, rfl, h.when fun _ h' => h'.testReq⟩
  | libraryComponent _ _ => exact ⟨_, rfl, h.when fun _ h' => h'.libraryArrives⟩
  | librarySwitch => exact ⟨_, rfl, h.when fun _ h' => h'.librarySwitch⟩
  | digest _ _ => exact ⟨_, rfl, h.when (fun _ h' => h'.onFrame (fun _ h'' => h''.digestFrame))⟩
  | digestWaitExpiry _ _ => exact ⟨_, rfl, h.when fun _ h' => h'.digestWait⟩
  | verdict _ _ => exact ⟨_, rfl, h.when (fun _ h' => h'.onFrame (fun _ h'' => h''.castDown))⟩
  | expelledClear _ => exact ⟨_, rfl, h.when fun _ h' => h'.expelledClear⟩
  | retract _ _ => exact ⟨_, rfl, h.when (fun _ h' => h'.onFrame (fun _ h'' => h''.castDown))⟩
  | retractAck => exact ⟨_, rfl, h.when fun _ h' => h'.retractAck⟩
  | abortClear => exact ⟨_, rfl, h.when fun _ h' => h'.abortClear⟩
  | slotRetire _ _ _ => exact ⟨_, rfl, h.when fun _ h' => h'.slotRetire⟩
  | hello _ _ => exact ⟨_, rfl, h.when (fun _ h' => h'.onFrame (fun _ h'' => h''.hello))⟩
  | ack _ _ => exact ⟨_, rfl, h.when (fun _ h' => h'.onFrame (fun _ h'' => h''.ack))⟩
  | tsyncReq _ _ _ => exact ⟨_, rfl, h.when (fun _ h' => h'.onFrame (fun _ h'' => h''.tsyncReq))⟩
  | tsyncRsp _ _ _ => exact ⟨_, rfl, h.when (fun _ h' => h'.onFrame (fun _ h'' => h''.tsyncRsp))⟩
  | tsyncPeriod => exact ⟨_, rfl, h.when fun _ h' => h'.tsyncPeriod⟩
  | topo _ _ => exact ⟨_, rfl, h.when (fun _ h' => h'.onFrame (fun _ h'' => h''.topo))⟩
  | formed _ _ => exact ⟨_, rfl, h.when (fun _ h' => h'.onFrame (fun _ h'' => h''.formed))⟩
  | formationTimeout => exact ⟨_, rfl, h.when fun _ h' => h'.formTimeout⟩
  | detach _ _ => exact ⟨_, rfl, h.when (fun _ h' => h'.onFrame (fun _ h'' => h''.detach))⟩
  | takeover _ _ => exact ⟨_, rfl, h.when (fun _ h' => h'.onFrame (fun _ h'' => h''.takeover))⟩
  | probe _ _ => exact ⟨_, rfl, h.when (fun _ h' => h'.onFrame (fun _ h'' => h''.probeFrame))⟩
  | coxAlive _ _ => exact ⟨_, rfl, h.when (fun _ h' => h'.onFrame (fun _ h'' => h''.coxAlive))⟩
  | probeTimeout => exact ⟨_, rfl, h.when fun _ h' => h'.probeTimeout⟩
  | mirror _ _ => exact ⟨_, rfl, h.when (fun _ h' => h'.onFrame (fun _ h'' => h''.mirrorItem))⟩
  | coxBeat _ _ => exact ⟨_, rfl, h.when (fun _ h' => h'.onFrame (fun _ h'' => h''.coxBeat))⟩
  | coxBeatTimer => exact ⟨_, rfl, h.when fun _ h' => h'.beatTimer⟩
  | objUp _ _ => exact ⟨_, rfl, h.when (fun _ h' => h'.onFrame (fun _ h'' => h''.objUp))⟩
  | objDown _ _ => exact ⟨_, rfl, h.when (fun _ h' => h'.onFrame (fun _ h'' => h''.objDown))⟩
  | objBulk _ _ => exact ⟨_, rfl, h.when (fun _ h' => h'.onFrame (fun _ h'' => h''.objBulk))⟩
  | objCfgWrite _ _ _ _ => exact ⟨_, rfl, h.when fun _ h' => h'.objCfg⟩
  | barrierArrive _ => exact ⟨_, rfl, h.when fun _ h' => h'.barrierArrive⟩
  | objValWrite _ => exact ⟨_, rfl, h.when fun _ h' => h'.objWrite⟩
  | objUpdateInterval _ => exact ⟨_, rfl, h.when fun _ h' => h'.objInterval⟩
  | bcastUp _ _ => exact ⟨_, rfl, h.when (fun _ h' => h'.onFrame (fun _ h'' => h''.castRequest))⟩
  | hostBroadcast _ _ => exact ⟨_, rfl, h.when (fun _ h' => h'.onFrame (fun _ h'' => h''.castDown))⟩
  | hostBroadcastSend => exact ⟨_, rfl, h.when fun _ h' => h'.hostCast⟩
  | broadcastResend _ => exact ⟨_, rfl, h.when fun _ h' => h'.castResend⟩
  | pkgLost _ _ => exact ⟨_, rfl, h.when (fun _ h' => h'.onFrame (fun _ h'' => h''.castDown))⟩
  | laneDown _ => exact ⟨_, rfl, h.when fun _ h' => h'.laneDown⟩
  | laneRetrain _ => exact ⟨_, rfl, h.when fun _ h' => h'.laneRetrain⟩
  | laneIdleSend _ => exact ⟨_, rfl, h.when fun _ h' => h'.laneIdle⟩
  | schedReq _ _ => exact ⟨_, rfl, h.when (fun _ h' => h'.onFrame (fun _ h'' => h''.schedAtRoot))⟩
  | sched _ _ => exact ⟨_, rfl, h.when (fun _ h' => h'.onFrame (fun _ h'' => h''.schedDown))⟩
  | cascadeFreezeRequest => exact ⟨_, rfl, h.when fun _ h' => h'.requestSched⟩
  | cascadeThawRequest => exact ⟨_, rfl, h.when fun _ h' => h'.requestSched⟩
  | cascadeResetRequest _ => exact ⟨_, rfl, h.when fun _ h' => h'.wr.requestSched⟩
  | cascadeFreezeEdge => exact ⟨_, rfl, h.when fun _ h' => h'.casFreezeEdge⟩
  | cascadeThawEdge _ => exact ⟨_, rfl, h.when fun _ h' => h'.casThawEdge.regattaHeld⟩
  | cascadeResetEdge => exact ⟨_, rfl, h.when fun _ h' => h'.casResetEdge⟩
  | frozenFrameArrival _ _ => exact ⟨_, rfl, h.when (fun _ h' => h'.onFrame (fun _ h'' => h''.deliver))⟩
  | paceUp _ _ => exact ⟨_, rfl, h.when (fun _ h' => h'.onFrame (fun _ h'' => h''.deliver))⟩
  | pace _ _ => exact ⟨_, rfl, h.when (fun _ h' => h'.onFrame (fun _ h'' => h''.paceFrame))⟩
  | pacePeriod => exact ⟨_, rfl, h.when fun _ h' => h'.pacePeriod⟩
  | paceEnd => exact ⟨_, rfl, h.when fun _ h' => h'.paceEnd⟩
  | govEnable => exact ⟨_, rfl, h.when fun _ h' => h'.govEnable⟩
  | govDisable => exact ⟨_, rfl, h.when fun _ h' => h'.govDisable⟩
  | queueEnable _ _ => exact ⟨_, rfl, h.when fun _ h' => h'.queueEnable⟩
  | queueDisable _ => exact ⟨_, rfl, h.when fun _ h' => h'.queueDisable⟩
  | queueDrained _ => exact ⟨_, rfl, h.when fun _ h' => h'.queueDrained⟩
  | doorbellWatch _ _ => exact ⟨_, rfl, h.when fun _ h' => h'.doorbellWatch⟩
  | doorbellPoll _ => exact ⟨_, rfl, h.when fun _ h' => h'.doorbellPoll⟩
  | descriptorFetch _ _ => exact ⟨_, rfl, h.when fun _ h' => h'.descriptorFetch⟩
  | nop _ => exact ⟨_, rfl, h.when fun _ h' => h'.nopCmd⟩
  | snapshot _ _ _ => exact ⟨_, rfl, h.when fun _ h' => h'.snapshotCmd⟩
  | writeSet _ _ _ => exact ⟨_, rfl, h.when fun _ h' => h'.writeSetCmd⟩
  | ltRead _ _ => exact ⟨_, rfl, h.when fun _ h' => h'.ltReadCmd⟩
  | ltWrite _ _ _ => exact ⟨_, rfl, h.when fun _ h' => h'.ltWriteCmd⟩
  | costLoad _ _ _ => exact ⟨_, rfl, h.when fun _ h' => h'.costLoadCmd⟩
  | jobCmdStart _ => exact ⟨_, rfl, h.when fun _ h' => h'.jobStartCmd⟩
  | jobCmdStop _ => exact ⟨_, rfl, h.when fun _ h' => h'.jobStopCmd⟩
  | msg _ _ _ => exact ⟨_, rfl, h.when fun _ h' => h'.msgCmd⟩
  | recRead _ _ => exact ⟨_, rfl, h.when fun _ h' => h'.recReadCmd⟩
  | meterRead _ _ => exact ⟨_, rfl, h.when fun _ h' => h'.meterReadCmd⟩
  | completionWrite _ _ => exact ⟨_, rfl, h.when fun _ h' => h'.completionWrite⟩
  | coalesceTimeout _ => exact ⟨_, rfl, h.when fun _ h' => h'.coalesce⟩
  | vectorUnmask _ => exact ⟨_, rfl, h.when fun _ h' => h'.maskWrite⟩
  | functionEvtClear _ => exact ⟨_, rfl, h.when fun _ h' => h'.evtClear⟩
  | badAccess _ _ _ => exact ⟨_, rfl, h.badAccess⟩
  | registerWrite _ _ _ => exact ⟨_, rfl, h.when (fun _ h' => h'.each (fun _ _ h'' => h''.initWrite))⟩
  | blockResetGo _ => exact ⟨_, rfl, h.when fun _ h' => h'.turn.resetGo⟩
  | blockReset _ => exact ⟨_, rfl, h.when fun _ h' => h'.blockReset⟩
  | blockResetRelease => exact ⟨_, rfl, h.resetRelease⟩
  | trpBoot _ => exact ⟨_, rfl, h.when fun _ h' => h'.trpBoot⟩
  | keyBlockRetry _ => exact ⟨_, rfl, h.when fun _ h' => h'.keyRetry⟩
  | trpImageVerified _ _ => exact ⟨_, rfl, h.when fun _ h' => h'.provision⟩
  | imageRelease _ _ _ => exact ⟨_, rfl, h.when (fun _ h' => h'.releasing (fun _ h'' => h''.imageRelease))⟩
  | startedWrite _ _ _ _ _ => exact ⟨_, rfl, h.when fun _ h' => h'.startedTurn⟩
  | plpReady _ _ => exact ⟨_, rfl, h.when fun _ h' => h'.turn.plpReady⟩
  | mailboxGo _ _ _ => exact ⟨_, rfl, h.when fun _ h' => h'.turn.mailboxGo⟩
  | mailboxDone _ _ _ => exact ⟨_, rfl, h.when fun _ h' => h'.turn.mailboxDone.msgWaiters⟩
  | mailboxAbort _ _ => exact ⟨_, rfl, h.when fun _ h' => h'.turn.mailboxAbort.msgWaiters⟩
  | mailboxNote _ _ => exact ⟨_, rfl, h.when fun _ h' => h'.turn.mailboxNote⟩
  | mailboxTimeout _ => exact ⟨_, rfl, h.when fun _ h' => h'.mailboxTimeout.msgWaiters⟩
  | getVersion _ => exact ⟨_, rfl, h.when fun _ h' => h'.getVersion.msgWaiters⟩
  | echo _ => exact ⟨_, rfl, h.when fun _ h' => h'.echo.msgWaiters⟩
  | getState _ => exact ⟨_, rfl, h.when fun _ h' => h'.getState.msgWaiters⟩
  | lcNonce _ => exact ⟨_, rfl, h.when fun _ h' => h'.lcNonce.msgWaiters⟩
  | lcToken _ _ _ => exact ⟨_, rfl, h.when fun _ h' => h'.lcToken.msgWaiters⟩
  | trustedRestartRequest _ _ => exact ⟨_, rfl, h.when fun _ h' => h'.trustedRestart⟩
  | storeFailure _ _ _ _ => exact ⟨_, rfl, h.when fun _ h' => h'.storeFailure⟩
  | orderingPoint _ _ _ => exact ⟨_, rfl, h.when fun _ h' => h'.orderingPoint⟩
  | watchdogExpiry _ _ => exact ⟨_, rfl, h.when fun _ h' => h'.watchdogExpiry⟩
  | watchdogKick _ => exact ⟨_, rfl, h.when fun _ h' => h'.turn.watchdogKick⟩
  | processorRestartGo _ _ _ => exact ⟨_, rfl, h.when fun _ h' => h'.turn.restartGo⟩
  | storeDrainEnd _ _ => exact ⟨_, rfl, h.when fun _ h' => h'.drainEnd⟩
  | restartRelease _ _ => exact ⟨_, rfl, h.when (fun _ h' => h'.releasing (fun _ h'' => h''.restartRelease))⟩
  | eventStage => exact ⟨_, rfl, h.eventStage⟩
  | recordProgram _ => exact ⟨_, rfl, h.when fun _ h' => h'.recordProgram⟩
  | stageLostRecord => exact ⟨_, rfl, h.when fun _ h' => h'.stageLost⟩
  | opsecAlive => exact ⟨_, rfl, h.when fun _ h' => h'.alive⟩
  | recorderMount _ => exact ⟨_, rfl, h.when fun _ h' => h'.mount⟩
  | recorderErase _ => exact ⟨_, rfl, h.when fun _ h' => h'.turn.eraseGo⟩
  | recorderEraseEnd => exact ⟨_, rfl, h.when fun _ h' => h'.eraseEnd⟩
  | fullAck => exact ⟨_, rfl, h.when fun _ h' => h'.flag⟩
  | ringSelect _ _ => exact ⟨_, rfl, h.when fun _ h' => h'.ringSelect⟩
  | ringCopyDone => exact ⟨_, rfl, h.when fun _ h' => h'.ringDone⟩
  | triggerFire => exact ⟨_, rfl, h.when fun _ h' => h'.triggerFire⟩
  | triggerPostExpiry => exact ⟨_, rfl, h.when fun _ h' => h'.triggerPost⟩
  | triggerThaw => exact ⟨_, rfl, h.when fun _ h' => h'.thawRequest⟩
  | traceLaneUp _ => exact ⟨_, rfl, h.when fun _ h' => h'.trcLaneUp⟩
  | traceLaneDown _ => exact ⟨_, rfl, h.when fun _ h' => h'.trcLaneDown⟩
  | traceAlignment => exact ⟨_, rfl, h.when fun _ h' => h'.traceAlign⟩
  | traceLostPacket => exact ⟨_, rfl, h.when fun _ h' => h'.traceLost⟩
  | queryDeviceIdentifiers => exact ⟨_, rfl, h.when fun _ h' => h'.queryIds⟩
  | getFirmwareParameters => exact ⟨_, rfl, h.when fun _ h' => h'.fwParams⟩
  | requestUpdate => exact ⟨_, rfl, h.when fun _ h' => h'.requestUpdate⟩
  | passComponentTable _ => exact ⟨_, rfl, h.when fun _ h' => h'.passTable⟩
  | updateComponent _ _ => exact ⟨_, rfl, h.when fun _ h' => h'.updateComp⟩
  | requestFirmwareData _ => exact ⟨_, rfl, h.when fun _ h' => h'.fwData⟩
  | transferComplete => exact ⟨_, rfl, h.when fun _ h' => h'.transferEnd⟩
  | verifyComplete _ _ => exact ⟨_, rfl, h.when fun _ h' => h'.verifyDone⟩
  | applyComplete => exact ⟨_, rfl, h.when fun _ h' => h'.applyDone⟩
  | activateFirmware => exact ⟨_, rfl, h.when fun _ h' => h'.activate⟩
  | getStatus => exact ⟨_, rfl, h.when fun _ h' => h'.getStatus⟩
  | cancelUpdateComponent => exact ⟨_, rfl, h.when fun _ h' => h'.cancelComp⟩
  | cancelUpdate => exact ⟨_, rfl, h.when fun _ h' => h'.cancelUpdate⟩
  | setRegatta _ => exact ⟨_, rfl, h.when fun _ h' => h'.setRegatta⟩
  | regattaStep _ => exact ⟨_, rfl, h.when fun _ h' => h'.regattaStep⟩
  | updateConfirm _ => exact ⟨_, rfl, h.when fun _ h' => h'.turn.updateConfirm⟩
  | trialTimeout _ _ => exact ⟨_, rfl, h.when fun _ h' => h'.trialTimeout⟩
  | mirrorCopy => exact ⟨_, rfl, h.mirrorCopy⟩
  | meterPeriodicReading _ => exact ⟨_, rfl, h.periodicReading⟩
  | meterSave => exact ⟨_, rfl, h.meterSave⟩
  | meterPowerFailSave => exact ⟨_, rfl, h.powerFailSave⟩
  | meterPowerUp _ _ => exact ⟨_, rfl, h.meterPowerUp⟩
  | meterConditionChange _ _ => exact ⟨_, rfl, h.conditionChange⟩
  | meterXtalFail => exact ⟨_, rfl, h.xtalFail⟩
  | selftestFail _ => exact ⟨_, rfl, h.selftestFail⟩
  | stampRequest _ _ _ => exact ⟨_, rfl, h.when fun _ h' => h'.turn.stampRequest⟩
  | stampSigned _ => exact ⟨_, rfl, h.stampSigned⟩
  | sealCommand _ _ _ _ => exact ⟨_, rfl, h.sealMeter⟩
  | trainFlit _ _ _ _ _ _ => exact ⟨_, rfl, h.when fun _ h' => h'.trainFlit⟩
  | seamTrainingEnd _ _ => exact ⟨_, rfl, h.when fun _ h' => h'.trainingEnd⟩
  | seamDown _ _ => exact ⟨_, rfl, h.when fun _ h' => h'.seamDownOn⟩
  | seamRetrainTimer _ => exact ⟨_, rfl, h.when fun _ h' => h'.retrainTimer⟩
  | seamIdleSend _ _ => exact ⟨_, rfl, h.when fun _ h' => h'.seamIdle⟩
  | seamNak _ _ => exact ⟨_, rfl, h.when fun _ h' => h'.seamNak⟩
  | seamRetrainWrite _ => exact ⟨_, rfl, h.when fun _ h' => h'.retrainWrite⟩
  | minVerWrite _ => exact ⟨_, rfl, h.when fun _ h' => h'.minVer⟩
  | fenceRequest _ => exact ⟨_, rfl, h.when fun _ h' => h'.fenceReq⟩
  | fenceLift _ => exact ⟨_, rfl, h.when fun _ h' => h'.lift⟩
  | standbyResetRelease => exact ⟨_, rfl, h.standbyRelease⟩
  | startupOnWrite => exact ⟨_, rfl, h.when fun _ h' => h'.startupOn⟩
  | p12vOkLoss => exact ⟨_, rfl, h.when fun _ h' => h'.p12vLoss⟩
  | scanExit _ => exact ⟨_, rfl, h.scanExit⟩
  | alignmentEdge _ => exact ⟨_, rfl, h.when fun _ h' => h'.alignmentEdge⟩
  | tmonSample _ => exact ⟨_, rfl, h.when (fun _ h' => h'.each (fun _ _ h'' => h''.tmonLoop))⟩
  | tripComparatorClear _ _ => exact ⟨_, rfl, h.junction⟩
  | standbyPowerLoss => exact ⟨_, rfl, h.standbyLoss⟩
  | p12vOkReturn => exact ⟨_, rfl, h.when fun _ h' => h'.p12vReturn⟩
  | meterProduct _ _ _ _ => exact ⟨_, rfl, h.meterProduct⟩
  | flitCrcFail _ _ => exact ⟨_, rfl, h.when fun _ h' => h'.flitFail⟩
  | frameDiscard _ _ => exact ⟨_, rfl, h.when fun _ h' => h'.discard⟩
  | entdaa _ _ => exact ⟨_, rfl, h.when fun _ h' => h'.entdaa⟩
  | setEndpointId _ _ => exact ⟨_, rfl, h.when fun _ h' => h'.setEndpoint⟩
  | snapshotLatchRead _ _ => exact ⟨_, rfl, h.when fun _ h' => h'.orderedRead⟩
  | msgTimeout _ => exact ⟨_, rfl, h.when fun _ h' => h'.msgTimeout⟩

end Sys2Proof.Machine
end

section
/-!
PROOF. The block as a whole: the step relation, the state after power-on, the window's invariants and its accesses.
-/
namespace Sys2Proof.Machine
set_option Elab.async false

/-- No command faults and none is refused. -/
theorem exec_next (c : Instr) (s : State) : ∃ t, exec c s = .next t := by
  cases c <;> exact ⟨_, rfl⟩

theorem step_of_nil {s : State} (h : s.pending = []) : step s = .next s := by
  rw [step, h]

theorem step_of_cons {s : State} {c : Instr} {l : List Instr} (h : s.pending = c :: l) :
    step s = exec c { s with pending := l } := by
  rw [step, h]

/-- Settles O45: `step` splits on the queue, and each arm of `exec` answers a next state. -/
theorem stepRunsFrontCommand : Obligations.StepRunsFrontCommand :=
  ⟨fun _ _ _ h => step_of_cons h, fun _ h => step_of_nil h, exec_next⟩

/-- Settles O47, by the front of the queue: an empty queue changes nothing, and a command keeps the form. -/
theorem stepKeepsWindowCanonical : Obligations.StepKeepsWindowCanonical := by
  intro s t h e
  cases hp : s.pending with
  | nil =>
    rw [step_of_nil hp] at e
    exact Host.Outcome.next.inj e ▸ h
  | cons c l =>
    rw [step_of_cons hp] at e
    obtain ⟨u, hu, hc⟩ := exec_canonical c (s := { s with pending := l }) (.mk h)
    exact Host.Outcome.next.inj (hu.symm.trans e) ▸ hc

/-- No field has an entry in the window after power-on, so each reads its reset value. -/
theorem reset_rd (f : Fld) : State.reset.rd f = f.rst % 2 ^ f.w := rfl

theorem reset_limits_within_ceilings : ∀ p ∈ State.ceilings, State.reset.rd p.1 ≤ State.reset.rd p.2 := by
  decide +kernel

/-- Settles O46: the fields by their values, the window by its empty table, each unit by its finite range. -/
theorem resetState : Obligations.ResetState := by
  refine ⟨rfl, rfl, rfl, rfl, reset_rd, ?ratio, ?pool, rfl, rfl, ?mode, ?queue, reset_limits_within_ceilings⟩
  case ratio => decide +kernel
  case pool => decide +kernel
  case mode => decide +kernel
  case queue => decide +kernel

/-- An event waits whose unit lies beyond the processors. Its function's cause register, `0x4800 + 0x10 * 7041`, falls on
LK_BUD_BURST: EVT lies on MAX, COUNT on MAX_CEIL, here at the end of its range. -/
def eventOnBurstLimit : State :=
  { State.reset.wr R.BUD_BURST_MAX_CEIL 0x3FF with
    pending := [.eventStage], raised := [{ code := Ev.MGT_RESTART, unit := 7035 }] }

theorem eventOnBurstLimit_within_ceilings :
    ∀ p ∈ State.ceilings, eventOnBurstLimit.rd p.1 ≤ eventOnBurstLimit.rd p.2 := by
  decide +kernel

/-- Taking the event in sets MAX to 1 and counts MAX_CEIL over to 0. -/
theorem step_eventOnBurstLimit :
    ∃ t, step eventOnBurstLimit = .next t ∧ ¬ t.rd R.BUD_BURST_MAX ≤ t.rd R.BUD_BURST_MAX_CEIL :=
  ⟨_, rfl, by decide +kernel⟩

/-- Refutes O48: no bound holds an event's unit to the functions of the block, so an event may be counted in a register
outside INT_F_CAUSE, here in the one of a limit and its ceiling. -/
theorem not_stepKeepsLimitsUnderCeilings : ¬ Obligations.StepKeepsLimitsUnderCeilings := by
  intro h
  obtain ⟨t, ht, habove⟩ := step_eventOnBurstLimit
  exact habove (h _ t eventOnBurstLimit_within_ceilings ht (R.BUD_BURST_MAX, R.BUD_BURST_MAX_CEIL) (by decide))

/-- The block runs, and so does the trusted processor, which after a restart has not yet set STARTED (R407). -/
def trpNotStarted : State :=
  ({ State.reset with phase := .running }.modProc .trp fun q => { q with paused := true }).wr
    (R.MGT_P_STATE_STATE Proc.trp.idx) 2

/-- Until it sets STARTED the trusted processor's write of a ceiling is dropped: STEP_CEIL keeps its reset value. -/
theorem trpNotStarted_keeps_ceiling :
    ∃ t, exec (.registerWrite [(.trp, 0)] 0x10008 false) trpNotStarted = .next t ∧
      t.rd R.ADM_RAMP_CEIL_STEP_CEIL = 0x1c :=
  ⟨_, rfl, by decide +kernel⟩

/-- Refutes O43: the clause on LK_ADM_RAMP_CEIL asks only that the trusted processor runs, and a ceiling is written only
while it also renders its services (`State.serves`). -/
theorem not_windowAccessCommands : ¬ Obligations.WindowAccessCommands := by
  intro h
  obtain ⟨haccess, -⟩ := h trpNotStarted (by decide +kernel)
  obtain ⟨-, -, -, -, hceiling, -⟩ := haccess .trp _ rfl (by decide +kernel)
  obtain ⟨t, ht, hzero, -⟩ := hceiling 0 rfl
  obtain ⟨u, hu, hkept⟩ := trpNotStarted_keeps_ceiling
  obtain rfl := Host.Outcome.next.inj (ht.symm.trans hu)
  exact absurd (hzero.symm.trans hkept) (by decide)

/-- The block in a block reset. -/
def inBlockReset : State := { State.reset with phase := .blockReset }

/-- In a block reset the host reads all ones, at an unassigned offset too. -/
theorem inBlockReset_word_host : inBlockReset.word .host 0x18 = 2 ^ 32 - 1 := rfl

/-- Refutes O59: its clause on reads holds in every phase, and in a block reset the host reads all ones. -/
theorem not_unassignedOffset : ¬ Obligations.UnassignedOffset := by
  intro h
  obtain ⟨hzero, -⟩ := h inBlockReset 0x18 (by decide +kernel)
  exact absurd ((hzero .host).symm.trans inBlockReset_word_host) (by decide)

end Sys2Proof.Machine
end

section
/-!
PROOF. The cascade: sync objects within the 256 ns of R331, and a request that has waited for a quorum at a cascade reset.
-/
namespace Sys2Proof.Machine
set_option Elab.async false

/-- The Cox of a formed cascade, with a child on lane 8. -/
def coxOfChild : State :=
  let s := ({ State.reset with phase := .running }.wr R.CAS_CTL_LANE_EN 0x1FF).flag (R.CAS_LANE_STS_UP 8) true
  ((s.wr (R.CAS_LANE_STS_ROLE 8) 2).wr R.CAS_STATUS_STATE 2).wr R.CAS_STATUS_ROLE 1

/-- The Cox, a member of object 0, has sent its SUM down at this instant and then made a MAX of it: nothing of the new TYPE
is sent, and its updates wait for the end of the 256 ns (R331). -/
def retypedObject : State := ((coxOfChild.objCfg 4 true false false).objWrite 0 5).objCfg 3 true false false

theorem retypedObject_in_interval :
    (retypedObject.obj 0).sent = none ∧ (retypedObject.obj 0).sentAt = some retypedObject.now := by
  decide +kernel

/-- The value written is greater than any before, and the result stays as it was. -/
theorem objValWrite_retypedObject :
    ∃ t, exec (.objValWrite 9) retypedObject = .next t ∧ (t.obj 0).val = 9 ∧ (t.obj 0).res = 0 :=
  ⟨_, rfl, by decide +kernel⟩

/-- Refutes O29: its clause on a value written to an object of which nothing has been sent leaves out the 256 ns interval,
which a change of TYPE does not end: within it the root's result does not follow the value. -/
theorem not_cascadeObjectCommands : ¬ Obligations.CascadeObjectCommands := by
  intro h
  obtain ⟨-, -, -, -, -, -, hwrite, -⟩ := h retypedObject (by decide +kernel)
  obtain ⟨t, ht, -, -, hresult, -⟩ := hwrite 9 0 rfl (by decide +kernel) (by decide +kernel) (by decide +kernel)
    (by decide +kernel) retypedObject_in_interval.1 (by decide)
  obtain ⟨u, hu, -, hkept⟩ := objValWrite_retypedObject
  obtain rfl := Host.Outcome.next.inj (ht.symm.trans hu)
  exact absurd ((hresult (by decide +kernel)).symm.trans hkept) (by decide)

/-- The child's OBJ_UP for object 0: its aggregate is 9, and it has one member. -/
def childObjUp : CasRx := { frame := CasFrame.make 0x20 1 0 77 0 0 1 0 [0, 9, 1], objType := 3 }

/-- The Cox with the child's frame accepted. -/
def objUpAccepted : State := (retypedObject.accept 8 childObjUp.frame).1

/-- A pair whose flag is set, by its state. -/
theorem eq_fst_true {α : Type} {p : α × Bool} (h : p.2 = true) : p = (p.1, true) :=
  Prod.ext rfl h

theorem accept_childObjUp : retypedObject.accept 8 childObjUp.frame = (objUpAccepted, true) :=
  eq_fst_true (by decide +kernel)

theorem transit_childObjUp :
    objUpAccepted.transit 8 childObjUp = ((objUpAccepted.transit 8 childObjUp).1, true) :=
  eq_fst_true (by decide +kernel)

/-- The child's aggregate is taken in, and the result stays as it was. -/
theorem objUp_retypedObject :
    ∃ t, exec (.objUp 8 childObjUp) retypedObject = .next t ∧ (t.obj 0).res = 0 ∧ t.aggregate 0 = 9 :=
  ⟨_, rfl, by decide +kernel⟩

/-- Refutes O27: as in O29, its clause on an OBJ_UP at a root that has sent nothing of the object leaves out the 256 ns
interval, within which the root's result does not follow the aggregate. -/
theorem not_cascadeObjectFrames : ¬ Obligations.CascadeObjectFrames := by
  intro h
  obtain ⟨-, hframes⟩ := h retypedObject objUpAccepted 8 childObjUp.frame (by decide +kernel) accept_childObjUp
  obtain ⟨-, -, -, -, -, hvalue, -⟩ := hframes childObjUp _ rfl transit_childObjUp (by decide +kernel)
  obtain ⟨t, ht, -, -, hresult⟩ := hvalue (by decide +kernel) (by decide +kernel) (by decide) (by decide)
  obtain ⟨u, hu, hkept, haggregate⟩ := objUp_retypedObject
  obtain rfl := Host.Outcome.next.inj (ht.symm.trans hu)
  have hfollows := hresult (by decide +kernel) (by decide +kernel)
  exact absurd (hkept.symm.trans (hfollows.trans haggregate)) (by decide)

/-- A package that is the only one of its cascade has a reset of scope 1 pending. A broadcast was asked for while EXPECT was 2,
and so waits for a quorum (R325); since then EXPECT is 1 again. -/
def waitingAtReset : State :=
  let s := ({ State.reset with phase := .running }.flag R.CAS_CTL_JOIN true).joinWritten
  ((s.requestSched 2 1).wr R.CAS_CFG_EXPECT 2).hostCast.wr R.CAS_CFG_EXPECT 1

theorem waitingAtReset_pending : waitingAtReset.pendingOp 2 = some ⟨2, 1, 1, 500⟩ ∧ waitingAtReset.cas.bwait ≠ [] := by
  decide +kernel

/-- The cascade forms anew at once, and the broadcast that waited is sent and logged. -/
theorem cascadeResetEdge_waitingAtReset :
    ∃ t, exec .cascadeResetEdge waitingAtReset = .next t ∧ t.cas.blog ≠ [] :=
  ⟨_, rfl, by decide +kernel⟩

/-- Refutes O30: its clause on the reset edge says that the log of broadcasts is empty afterwards, also where a reset of scope
1 lets the tree form anew with a quorum, and a broadcast has waited for one. -/
theorem not_cascadeFreezeCommands : ¬ Obligations.CascadeFreezeCommands := by
  intro h
  obtain ⟨-, -, -, -, -, -, -, -, -, hreset, -⟩ := h waitingAtReset 8 (by decide +kernel)
  obtain ⟨t, ht, -, hempty, -⟩ := hreset _ waitingAtReset_pending.1 (by decide +kernel)
  obtain ⟨u, hu, hlogged⟩ := cascadeResetEdge_waitingAtReset
  obtain rfl := Host.Outcome.next.inj (ht.symm.trans hu)
  exact hlogged hempty

end Sys2Proof.Machine
end
